-- ==== Sys2Proof/Word.lean ====
section
/-! DEFINITION. The words the Q-4800 works in: bytes, byte strings and 32-bit register words (R5, scope "Registers"). -/

namespace Sys2Proof

/-- One byte. -/
abbrev Byte := BitVec 8

/-- A byte string, first byte first. -/
abbrev Bytes := List Byte

/-- A 32-bit register word of the configuration space. -/
abbrev Word := BitVec 32

/-- A byte-addressed memory: addresses strictly rising, no entry equal to the byte an unlisted address reads as. -/
abbrev Mem := List (Nat × BitVec 8)

/-- A byte string as its number, little-endian (R5). -/
def leNat : Bytes → Nat
  | [] => 0
  | b :: bs => b.toNat + 256 * leNat bs

/-- The `n` little-endian bytes of a number (R5). -/
def leBytes : Nat → Nat → Bytes
  | 0, _ => []
  | n + 1, v => BitVec.ofNat 8 v :: leBytes n (v / 256)

/-- A byte string as its number, big-endian (network order, and the integers of RFC 8017, R189). -/
def beNat (bs : Bytes) : Nat := leNat bs.reverse

/-- The `n` big-endian bytes of a number. -/
def beBytes (n v : Nat) : Bytes := (leBytes n v).reverse

/-- `n` zero bytes. -/
def zeros (n : Nat) : Bytes := List.replicate n 0

/-- A byte string cut or zero-padded to exactly `n` bytes. -/
def fixLen (n : Nat) (bs : Bytes) : Bytes := (bs ++ zeros n).take n

/-- The `n` bytes of a string from offset `o`, zero where the string has ended. -/
def sub (o n : Nat) (bs : Bytes) : Bytes := fixLen n (bs.drop o)

/-- The little-endian number of the `n` bytes at offset `o`. -/
def leAt (o n : Nat) (bs : Bytes) : Nat := leNat (sub o n bs)

/-- Whether a byte string holds only zero bytes. -/
def allZero (bs : Bytes) : Bool := bs.all (fun b => b == 0)

end Sys2Proof
end

