-- ==== Sys2Proof/Types.lean ====
section
/-! DEFINITION. The records the spec lays out or names, as plain data: descriptors, completions, queue-pair and context
records, key records and pages, changes that enter a batch, event records, pair messages, card contents.
They stand before the syntax because commands carry some of them. -/

namespace Sys2Proof

/-- R51: a submission descriptor, field by field. `rsv` holds byte 3 and bits [31:22] of the context word. -/
structure Desc where
  opcode : Nat := 0
  flags : BitVec 8 := 0
  rsv3 : BitVec 8 := 0
  ctxWord : BitVec 32 := 0
  tag : Nat := 0
  inAddr : Nat := 0
  inRkey : Nat := 0
  inLen : Nat := 0
  outAddr : Nat := 0
  outRkey : Nat := 0
  outLen : Nat := 0
  param : Bytes := []
  deriving DecidableEq, Repr

/-- What a job ends with, before it becomes a 32 B completion (R52): STATUS, DETAIL, TILE and the output bytes.
`outOff` is the offset in the output extent at which `out` goes (R251, R417); `written` is OUT_WRITTEN. -/
structure Result where
  status : Nat := 0
  detail : Nat := 0
  out : Bytes := []
  outOff : Nat := 0
  written : Nat := 0
  /-- R76: the job has an output, which on a sealed queue is written with its tag even when it holds no byte -/
  writes : Bool := false
  deriving DecidableEq, Repr

/-- A completion queued for writing (R52, R59). `zeroFill` is the count of output bytes written
as the job streamed, which R176 and R177 overwrite where the host gets no DONE. -/
structure Cpl where
  tag : Nat
  idx : Nat
  res : Result
  tile : Nat
  doneTime : Nat
  outAddr : Nat
  outRkey : Nat
  zeroFill : Nat := 0
  chained : Bool := false
  sealBad : Bool := false
  /-- R73: the completion of a QP_SEAL_ESTABLISH, with which the queue is sealed -/
  establish : Bool := false
  /-- R76: on a sealed queue, the device-to-host key and the descriptor sequence that seal the output -/
  outSeal : Option (Bytes × Nat) := none
  /-- R393: the completion of a command a freeze lets through; of the `TAMPER_CLEAR` that ended a freeze -/
  freezeOk : Bool := false
  release : Bool := false
  /-- R49, R71: the partition, and whether the job's state change has passed its commit point -/
  part : Nat := 0
  committed : Bool := false
  deriving DecidableEq, Repr

/-- R67, R68: a declared buffer region of a queue. -/
structure Region where
  num : Nat
  read : Bool
  write : Bool
  rkey : Nat
  base : Nat
  len : Nat
  deriving DecidableEq, Repr

/-- R85: a flow context record. -/
structure CtxRec where
  id : Nat
  part : Nat
  order : Nat
  ops : List Nat
  gen : Nat
  qpFirst : Nat
  qpLast : Nat
  keys : List Nat
  params : Bytes
  deriving DecidableEq, Repr

/-- R127: the identity of a persisted object. -/
structure Obj where
  kind : Nat
  part : Nat
  level : Nat
  num : Nat
  deriving DecidableEq, Repr

/-- R123: a key record: its header fields and the bytes that follow the header (wrapped material, padding, tag). -/
structure KeyRec where
  slot : Nat
  cls : Nat
  revoked : Bool
  depth : Nat
  usage : Nat
  attr : BitVec 8
  alg : Nat
  kekGen : Nat
  gen : Nat
  parent : Nat
  domain : Nat
  len : Nat
  body : Bytes
  deriving DecidableEq, Repr

/-- R131: a declared persistence region. -/
structure PRegion where
  num : Nat
  kind : Nat
  part : Nat
  rkey : Nat
  base : Nat
  first : Nat
  count : Nat
  deriving DecidableEq, Repr

/-- R446: an entry of the actor table. ROLE 0 is an empty entry and is not listed. -/
structure Actor where
  idx : Nat
  role : Nat
  part : Nat
  share : Nat
  digest : Bytes
  deriving DecidableEq, Repr

/-- R433: the pairing held in the retained configuration. -/
structure Pairing where
  pairId : Nat
  member : Nat
  mode : Nat
  witnessQ : Nat
  witnessRkey : Nat
  witnessAddr : Nat
  peerId : Bytes
  peerAddr : Bytes
  peerIface : Nat
  deriving DecidableEq, Repr

/-- R46: the fields of a queue-pair record. -/
structure QpRec where
  queue : Nat
  part : Nat
  iface : Nat
  flags : BitVec 8
  pmtu : Nat
  rdDepth : Nat
  sqLog2 : Nat
  cqLog2 : Nat
  pcp : Nat
  vlan : Nat
  hostQpn : Nat
  hostPsn : Nat
  hostAddr : Bytes
  sqAddr : Nat
  sqRkey : Nat
  cqRkey : Nat
  cqAddr : Nat
  sqWm : Nat
  cqWm : Nat
  refuseWm : Nat
  hostKey : Nat
  deriving DecidableEq, Repr

/-- R265, R266: the campaign record. STATE 0 IDLE, 1 RUNNING, 2 COMPLETE, 3 ABANDONING. -/
structure Campaign where
  state : Nat := 0
  suite : Nat := 0
  fromGen : Nat := 0
  toGen : Nat := 0
  cursor : Nat := 0
  bytes : Nat := 0
  openedAt : Nat := 0
  sharesSeen : List Nat := []
  deriving DecidableEq, Repr

/-- R256: an entry of the stateful-key table. -/
structure Stateful where
  handle : Nat
  hwm : Nat
  limit : Nat
  deriving DecidableEq, Repr

/-- One change that a state-changing command brings to a commit batch (R136, R415). It is data, applied at the commit point. -/
inductive Change where
  | keyPut (part page : Nat) (r : KeyRec) (fresh : Bool)
  | keyRevoke (handle : Nat)
  | keyErase (handle : Nat)
  | statefulNew (e : Stateful)
  | ctxPut (r : CtxRec)
  | ctxUnbind (id gen : Nat)
  | hwm (part course tile value : Nat)
  | leaf (handle tile base len : Nat)
  | reg (addr idx : Nat) (mask value : BitVec 32)
  | qpAdd (r : QpRec) (psn rkey : Nat)
  | qpGone (q : Nat)
  | regionAdd (q : Nat) (r : Region)
  | regionDel (q num : Nat)
  | qcourse (q course : Nat)
  | persistQueue (q : Nat)
  | markAbsent (ch : Nat)
  | actorPut (a : Actor)
  | actorDel (idx : Nat)
  | pairing (p : Option Pairing)
  | table (image : Bytes)
  | generation (gen : Nat) (secret : Bytes)
  | generationErase (gen : Nat)
  | campaign (c : Campaign)
  | rewrap (o : Obj) (gen : Nat)
  | move (o : Obj) (region : Nat)
  /-- R79, R415: session keys of a queue, with the ring index and the completion sequence at which both sequences are 0 -/
  | sealKeys (q : Nat) (toDevice toHost : Bytes) (descBase cplBase : Nat)
  deriving DecidableEq, Repr

/-- R456: an event record without its CHECK, which is computed from the rest. -/
structure Event where
  seq : Nat
  sev : Nat
  time : Nat
  code : Nat
  part : Nat
  island : Nat
  payload : Bytes
  deriving DecidableEq, Repr

/-- R420: what a heartbeat carries. -/
structure Heartbeat where
  member : Nat
  role : Nat
  sync : Nat
  sent : Nat
  applied : Nat
  term : Nat
  svcLink : Bool
  failing : Bool
  deriving DecidableEq, Repr

/-- R418: one transport record of a queue. -/
structure TransportRec where
  queue : Nat
  state : Nat
  sqDoorbell : BitVec 32
  cqDoorbell : BitVec 32
  fetchIndex : BitVec 32
  cqConfirmed : BitVec 32
  sendPsn : BitVec 24
  recvPsn : BitVec 24
  deriving DecidableEq, Repr

/-- R417: a completion-journal entry. -/
structure JEntry where
  queue : Nat
  idx : Nat
  tag : Nat
  cpl : Cpl
  /-- on the active: the completion sequence its completion was written at -/
  posted : Option Nat := none
  deriving DecidableEq, Repr

/-- R415: a mirror batch as the standby receives it. -/
structure MirBatch where
  seq : Nat
  hasEnd : Bool
  tagsOk : Bool
  epoch : Nat
  root : Bytes
  /-- the changed object images -/
  images : List (Obj × Bytes)
  changes : List Change
  journal : List JEntry
  deriving DecidableEq, Repr

/-- R430: what RESYNC frames carry. -/
structure Resync where
  seq : Nat
  epoch : Nat
  root : Bytes
  /-- R142, R430: the level-4 tree page the joining device reads from host memory -/
  page : Bytes
  gens : List (Nat × Bytes)
  campaign : Campaign
  stateful : List Stateful
  hwms : List (Nat × Nat)
  qps : List QpRec
  /-- the retained configuration, regions and session keys, as the changes that make them -/
  changes : List Change
  journal : List JEntry
  deriving DecidableEq, Repr

/-- R478, R480: one copy on a custody card, with whether its CRCs, MAGIC, FORMAT and KIND are valid. -/
structure CardCopy where
  copy : Nat
  good : Bool
  kind : Nat
  seq : Nat
  pairId : Nat
  writtenAt : Nat
  payload : Bytes
  deriving DecidableEq, Repr

/-- What CMD1, CMD2, CMD9, CMD8, CMD13 and CMD21 read from a card (R472, R473), and what its two copies hold. -/
structure CardInfo where
  cid : Bytes
  secCount : Nat
  byteMode : Bool
  locked : Bool
  hasPwd : Bool
  /-- widths (1, 4, 8) and modes (0, 1, 2) whose CMD6 switch the card carries out without error -/
  okWidths : List Nat
  okModes : List Nat
  /-- HS200 sampling taps, 0 to 63, at which CMD21 passed -/
  okTaps : List Nat
  copies : List CardCopy
  deriving DecidableEq, Repr

/-- One access of a running job to its course's scratchpad (R338 to R343): a byte address in the tile's window,
and for a write the 64-bit value; the tile positions that contend for its bank; and what port B addresses in the same bank cycle: a word
of the scratchpad, and for a write the value. -/
structure ScratchAcc where
  addr : Nat
  write : Option (BitVec 64)
  /-- R340: the other tile positions that wait for the same bank in that bank cycle -/
  rivals : List Nat := []
  portB : Option (Nat × Option (BitVec 64)) := none
  deriving DecidableEq, Repr

/-- What the training of one channel found (R276). -/
structure TrainResult where
  ch : Nat
  present : Bool
  allowed : Bool
  dimms : Nat
  capLog2 : Nat
  ranks : Nat
  trained : Bool
  deriving DecidableEq, Repr

/-- A failing scratchpad row found by March C- (R344): course, bank, row; spare rows are 256 to 259. -/
structure RowFail where
  course : Nat
  bank : Nat
  row : Nat
  deriving DecidableEq, Repr

/-- The producers of error tokens of R99, with what each delivers. -/
inductive ErrCause where
  | bufferFault (cause : Nat)
  | sealFail
  | rngFault (cause : Nat)
  | pageUnavailable
  | tamperHalt
  deriving DecidableEq, Repr

/-- R427: the takeover reading of one queue: its completion slots from CQ_CONFIRMED onwards, and the descriptors read back. -/
structure ResumeRead where
  slots : List Bytes
  descs : List Bytes
  deriving DecidableEq, Repr

/-- The answers a card or its bus gives to the running command (R475). -/
inductive CardAnswer where
  | crcError
  | switchError
  | lockFailed
  | phaseDone
  | verifyBad
  deriving DecidableEq, Repr

end Sys2Proof
end

