-- ==== Sys2Proof/Syntax.lean ====
section
/-! DEFINITION. The commands of the Q-4800: one constructor per row of spec/opcode_table.json, in the table's order.
A management row names the queue and ring index of the job that carries it; a tile row names the tile that runs it;
an event from outside carries what the outside supplies. -/

namespace Sys2Proof

/-- The rows of the opcode table. `q i` is a fetched job (queue, ring index), `t` a tile, `p` a partition. -/
inductive Instr where
  /-- R362 COLD_START -/
  | coldStart (fails : List RowFail) (cut : Option Nat)
  /-- R282 SEAL_KEY_DRAW -/
  | sealKeyDraw
  /-- R276 CHANNEL_TRAINING_DONE -/
  | channelTrainingDone (rs : List TrainResult)
  /-- R37 PORT_LINK_UP -/
  | portLinkUp (port iface : Nat)
  /-- R37 PORT_LINK_DOWN -/
  | portLinkDown (port iface : Nat)
  /-- R355 RESET_NOW_EXPIRY -/
  | resetNowExpiry
  /-- R30 POWER_MODE_SET -/
  | powerModeSet (q i : Nat)
  /-- R31 STANDBY_DRAINED -/
  | standbyDrained
  /-- R33 STANDBY_EXIT_DONE -/
  | standbyExitDone (fails : List RowFail) (bad : List (Nat × Nat))
  /-- R84 PORT_CFG_WRITE -/
  | portCfgWrite (q i : Nat)
  /-- R38 ARP_ND_REQUEST_RX -/
  | arpNdRequestRx (port iface : Nat) (target : Bytes) (asker : Bytes)
  /-- R39 PAUSE_FRAME_RX -/
  | pauseFrameRx (port prio time : Nat)
  /-- R39 INBOUND_PACKET_RX -/
  | inboundPacketRx (port prio q len : Nat) (ce : Bool)
  /-- R39 CNP_RX -/
  | cnpRx (q : Nat)
  /-- R39 RATE_RECOVER_TICK -/
  | rateRecoverTick (q : Nat)
  /-- R40 PTP_EVENT_MESSAGE_RX -/
  | ptpEventMessageRx (port iface dom tr : Nat) (offset : Int) (pathDelay : Nat)
  /-- R247 PTP_LOSS_TIMEOUT -/
  | ptpLossTimeout (port : Nat)
  /-- R55 PRODUCER_DOORBELL -/
  | producerDoorbell (q off : Nat) (data : Bytes)
  /-- R56 CONSUMER_DOORBELL -/
  | consumerDoorbell (q off : Nat) (data : Bytes)
  /-- R41 INBOUND_READ_NAK -/
  | inboundReadNak (q addr len : Nat)
  /-- R41 INBOUND_UNSUPPORTED_NAK -/
  | inboundUnsupportedNak (q op : Nat)
  /-- R42 ACK_TIMEOUT -/
  | ackTimeout (q : Nat)
  /-- R71 PSN_SEQUENCE_NAK_RX -/
  | psnSequenceNakRx (q psn : Nat)
  /-- R71 RNR_NAK_RX -/
  | rnrNakRx (q : Nat)
  /-- R465 RNR_RETRY_EXPIRY -/
  | rnrRetryExpiry (q : Nat)
  /-- R71 REMOTE_ERROR_NAK_RX -/
  | remoteErrorNakRx (q syndrome : Nat)
  /-- R418 WRITE_ACK_RX -/
  | writeAckRx (q psn : Nat)
  /-- R61 FETCH_PASS -/
  | fetchPass (p : Nat)
  /-- R66 DESCRIPTOR_ARRIVAL -/
  | descriptorArrival (q : Nat) (data : Bytes)
  /-- R91 CONTEXT_TOKEN_ARRIVAL -/
  | contextTokenArrival (q i : Nat)
  /-- R99 PAYLOAD_TOKEN_ARRIVAL -/
  | payloadTokenArrival (q i : Nat) (data : Bytes)
  /-- R99 KEY_TOKEN_ARRIVAL -/
  | keyTokenArrival (q i slot : Nat)
  /-- R99 ENTROPY_TOKEN_ARRIVAL -/
  | entropyTokenArrival (q i : Nat)
  /-- R102 CHAIN_TOKEN_ARRIVAL -/
  | chainTokenArrival (q i : Nat)
  /-- R100 ERROR_TOKEN_ARRIVAL -/
  | errorTokenArrival (q i : Nat) (cause : ErrCause)
  /-- R107 JOB_PLACE -/
  | jobPlace (course : Nat)
  /-- R112 CONTINUATION_PACKET -/
  | continuationPacket (t : Nat) (data : Bytes) (error : Option Nat)
  /-- R110 JOB_START -/
  | jobStart (t : Nat) (acc : List ScratchAcc)
  /-- R100 JOB_END -/
  | jobEnd (t : Nat)
  /-- R59 COMPLETION_WRITE -/
  | completionWrite (q : Nat)
  /-- R46 QP_CREATE -/
  | qpCreate (q i : Nat)
  /-- R49 QP_DESTROY -/
  | qpDestroy (q i : Nat)
  /-- R49 QP_DESTROY_DRAINED -/
  | qpDestroyDrained (q : Nat)
  /-- R50 QP_QUERY -/
  | qpQuery (q i : Nat)
  /-- R68 REGION_DECLARE -/
  | regionDeclare (q i : Nat)
  /-- R68 REGION_REMOVE -/
  | regionRemove (q i : Nat)
  /-- R73 QP_SEAL_OFFER -/
  | qpSealOffer (t : Nat)
  /-- R73 QP_SEAL_ESTABLISH -/
  | qpSealEstablish (t : Nat)
  /-- R80 QUEUE_ECHO -/
  | queueEcho (t : Nat)
  /-- R88 CTX_BIND -/
  | ctxBind (q i : Nat)
  /-- R89 CTX_REPLACE -/
  | ctxReplace (q i : Nat)
  /-- R92 CTX_UNBIND -/
  | ctxUnbind (q i : Nat)
  /-- R92 CTX_UNBIND_DRAINED -/
  | ctxUnbindDrained (id : Nat)
  /-- R93 CTX_QUERY -/
  | ctxQuery (q i : Nat)
  /-- R96 QCOURSE_WRITE -/
  | qcourseWrite (q i : Nat)
  /-- R96 QCOURSE_DRAINED -/
  | qcourseDrained (q : Nat)
  /-- R149 KEY_GENERATE -/
  | keyGenerate (t : Nat)
  /-- R149 KEY_IMPORT -/
  | keyImport (t : Nat)
  /-- R149 KEY_EXPORT -/
  | keyExport (t : Nat)
  /-- R143 KEY_REPLACE -/
  | keyReplace (t : Nat)
  /-- R146 KEY_REVOKE -/
  | keyRevoke (t : Nat)
  /-- R146 KEY_PIN_RELEASE -/
  | keyPinRelease (handle : Nat)
  /-- R147 KEY_ERASE -/
  | keyErase (t : Nat)
  /-- R149 KEY_QUERY -/
  | keyQuery (t : Nat)
  /-- R189 KEY_PUBLIC -/
  | keyPublic (t : Nat)
  /-- R130 PERSIST_ATTACH -/
  | persistAttach (q i : Nat)
  /-- R131 PERSIST_REGION_DECLARE -/
  | persistRegionDeclare (q i : Nat)
  /-- R132 PERSIST_REGION_REMOVE -/
  | persistRegionRemove (q i : Nat)
  /-- R136 BATCH_OPEN -/
  | batchOpen
  /-- R137 BATCH_PERSISTED -/
  | batchPersisted
  /-- R141 PAGE_LOAD_START -/
  | pageLoadStart (o : Obj)
  /-- R141 PAGE_IMAGE_ARRIVAL -/
  | pageImageArrival (o : Obj) (frame : Nat) (image : Bytes)
  /-- R169 LEASE_REQUEST -/
  | leaseRequest (t p : Nat)
  /-- R257 LEAF_LEASE_REQUEST -/
  | leafLeaseRequest (t handle : Nat)
  /-- R163 SYM_ENCRYPT -/
  | symEncrypt (t : Nat)
  /-- R163 SYM_DECRYPT -/
  | symDecrypt (t : Nat)
  /-- R163 MAC_GENERATE -/
  | macGenerate (t : Nat)
  /-- R163 MAC_VERIFY -/
  | macVerify (t : Nat)
  /-- R175 HASH -/
  | hash (t : Nat)
  /-- R163 SYM_REENCRYPT -/
  | symReencrypt (t : Nat)
  /-- R178 PARITY_ERROR -/
  | parityError (t engine lane : Nat)
  /-- R194 PK_SIGN -/
  | pkSign (t : Nat)
  /-- R194 PK_VERIFY -/
  | pkVerify (t : Nat)
  /-- R194 PK_ENCRYPT -/
  | pkEncrypt (t : Nat)
  /-- R194 PK_DECRYPT -/
  | pkDecrypt (t : Nat)
  /-- R195 KEY_AGREE -/
  | keyAgree (t : Nat)
  /-- R195 KEM_ENCAP -/
  | kemEncap (t : Nat)
  /-- R195 KEM_DECAP -/
  | kemDecap (t : Nat)
  /-- R200 YIELD_POINT -/
  | yieldPoint (t : Nat)
  /-- R201 YIELD_WINDOW_END -/
  | yieldWindowEnd (t : Nat)
  /-- R335 SLOT_BOUNDARY -/
  | slotBoundary (t : Nat)
  /-- R221 PIN_TRANSLATE -/
  | pinTranslate (t : Nat)
  /-- R228 PIN_VERIFY -/
  | pinVerify (t : Nat)
  /-- R228 PIN_VALUE_GENERATE -/
  | pinValueGenerate (t : Nat)
  /-- R229 PAY_MAC_GENERATE -/
  | payMacGenerate (t : Nat)
  /-- R229 PAY_MAC_VERIFY -/
  | payMacVerify (t : Nat)
  /-- R227 VALUE_GENERATE -/
  | valueGenerate (t : Nat)
  /-- R227 VALUE_VERIFY -/
  | valueVerify (t : Nat)
  /-- R230 EMV_ARQC_VERIFY -/
  | emvArqcVerify (t : Nat)
  /-- R226 DUKPT_INIT_EXPORT -/
  | dukptInitExport (t : Nat)
  /-- R238 COMPONENT_BEGIN -/
  | componentBegin (q i : Nat)
  /-- R238 COMPONENT_ADD -/
  | componentAdd (q i : Nat)
  /-- R239 COMPONENT_COMMIT -/
  | componentCommit (q i : Nat)
  /-- R240 COMPONENT_LOAD_EXPIRY -/
  | componentLoadExpiry (load : Nat)
  /-- R251 OBJ_SEAL -/
  | objSeal (t : Nat)
  /-- R253 OBJ_OPEN -/
  | objOpen (t : Nat)
  /-- R254 MANIFEST_BUILD -/
  | manifestBuild (t : Nat)
  /-- R255 MANIFEST_SIGN -/
  | manifestSign (t : Nat)
  /-- R258 CUSTODY_SIGN -/
  | custodySign (t : Nat)
  /-- R259 TIMESTAMP -/
  | timestamp (t : Nat)
  /-- R261 TIME_QUERY -/
  | timeQuery (t : Nat)
  /-- R262 CHAIN_APPEND -/
  | chainAppend (t : Nat)
  /-- R267 REPOINT_OPEN -/
  | repointOpen (q i : Nat)
  /-- R266 REPOINT_QUERY -/
  | repointQuery (q i : Nat)
  /-- R269 REPOINT_COMMIT -/
  | repointCommit (q i : Nat)
  /-- R269 REPOINT_COMMIT_DRAINED -/
  | repointCommitDrained
  /-- R270 REPOINT_ABANDON -/
  | repointAbandon (q i : Nat)
  /-- R268 CAMPAIGN_STEP -/
  | campaignStep
  /-- R285 LINE_READ_RETURN -/
  | lineReadReturn (ch line : Nat) (burst : Bytes)
  /-- R292 PATROL_SCRUB_STEP -/
  | patrolScrubStep (ch : Nat) (bursts : List (Nat × Bytes))
  /-- R281 ECS_PASS -/
  | ecsPass (ch : Nat) (counts : List (Nat × Nat × Nat))
  /-- R293 REFRESH_TICK -/
  | refreshTick (ch : Nat) (rfm : Bool)
  /-- R275 SIDEBAND_POLL -/
  | sidebandPoll (ch : Nat) (temp : Int)
  /-- R296 RETRAIN -/
  | retrain (q i : Nat)
  /-- R296 RETRAIN_DONE -/
  | retrainDone
  /-- R297 EVACUATE -/
  | evacuate (q i : Nat)
  /-- R297 EVACUATE_DONE -/
  | evacuateDone
  /-- R295 POWER_DOWN -/
  | powerDown (q i : Nat)
  /-- R298 RESTORE -/
  | restore (q i : Nat)
  /-- R298 RESTORE_SUPPLY_SETTLED -/
  | restoreSupplySettled (r : TrainResult)
  /-- R298 RESTORE_DONE -/
  | restoreDone
  /-- R295 MARK_ABSENT -/
  | markAbsent (q i : Nat)
  /-- R313 ENTROPY_START -/
  | entropyStart (failed : List Nat) (katOk : Bool)
  /-- R306 ENTROPY_WINDOW -/
  | entropyWindow (src : Nat) (raw : Bytes)
  /-- R314 ENTROPY_REQUEST -/
  | entropyRequest (p n : Nat) (pr : Bool)
  /-- R316 RESTART -/
  | restart (q i : Nat)
  /-- R318 KAT -/
  | kat (q i : Nat) (pass : Bool)
  /-- R318 SOURCE_OUT -/
  | sourceOut (q i : Nat)
  /-- R318 SOURCE_IN -/
  | sourceIn (q i : Nat) (pass : Bool)
  /-- R319 RNG_GENERATE -/
  | rngGenerate (t : Nat)
  /-- R319 RNG_STATUS -/
  | rngStatus (t : Nat)
  /-- R331 PRT_STAGE -/
  | prtStage (q i : Nat)
  /-- R333 PRT_APPLY -/
  | prtApply (q i : Nat)
  /-- R333 LIVE_RESTART_HOD_BOUND -/
  | liveRestartHodBound
  /-- R333 LIVE_RESTART_DONE -/
  | liveRestartDone
  /-- R334 PRT_QUERY -/
  | prtQuery (q i : Nat)
  /-- R347 DRAIN -/
  | drain (q i : Nat)
  /-- R347 TILE_DRAINED -/
  | tileDrained (t : Nat)
  /-- R347 RETURN -/
  | ret (q i : Nat)
  /-- R179 TILE_SELF_TEST_DONE -/
  | tileSelfTestDone (t : Nat) (failed : Option Nat)
  /-- R347 TIL_RESET -/
  | tilReset (q i : Nat)
  /-- R355 LCY_TRANSITION -/
  | lcyTransition (q i : Nat) (cut : Option Nat)
  /-- R356 USER_ERASE -/
  | userErase (q i : Nat)
  /-- R361 LCY_SVN_ADVANCE -/
  | lcySvnAdvance (q i : Nat) (cut : Option Nat)
  /-- R365 DEBUG_CHALLENGE -/
  | debugChallenge (q i : Nat)
  /-- R365 DEBUG_OPEN -/
  | debugOpen (q i : Nat)
  /-- R369 ATTEST -/
  | attest (t : Nat)
  /-- R385 RAIL_GLITCH -/
  | railGlitch (rail : Nat)
  /-- R385 RAIL_EXCURSION -/
  | railExcursion (rail : Nat)
  /-- R386 MESH_SAMPLE -/
  | meshSample (rx : List (BitVec 16))
  /-- R386 ENCLOSURE_SAMPLE -/
  | enclosureSample (opened : BitVec 4)
  /-- R387 CLOCK_WINDOW -/
  | clockWindow (island percent : Nat) (stopped byDesign : Bool)
  /-- R387 DIE_TEMP_SAMPLE -/
  | dieTempSample (temps : List Int)
  /-- R384 CELL_EXCURSION -/
  | cellExcursion (cell mv : Nat)
  /-- R392 PURGE_RECOVERY_PASS -/
  | purgeRecoveryPass (fails : List RowFail)
  /-- R390 EPISODE_END -/
  | episodeEnd
  /-- R393 TAMPER_CLEAR -/
  | tamperClear (q i : Nat)
  /-- R376 VAULT_POLARITY_REFRESH -/
  | vaultPolarityRefresh
  /-- R379 CELL_SUPPLY_SWITCH -/
  | cellSupplySwitch (mvA mvB : Nat)
  /-- R380 CELL_CHARGE_CONTROL -/
  | cellChargeControl (cell mv ma : Nat)
  /-- R381 CELL_PERIODIC_LOAD_TEST -/
  | cellPeriodicLoadTest (cell : Nat)
  /-- R383 REMOVE -/
  | remove (q i : Nat)
  /-- R383 CELL_INSERTED -/
  | cellInserted (cell mv : Nat)
  /-- R381 LOAD_TEST -/
  | loadTest (q i : Nat)
  /-- R382 DEPASSIVATE -/
  | depassivate (q i : Nat)
  /-- R382 DEPASSIVATION_PULSE -/
  | depassivationPulse (cell mv : Nat)
  /-- R383 GAUGE_RESET -/
  | gaugeReset (q i : Nat)
  /-- R398 VAULT_ADOPT -/
  | vaultAdopt (q i : Nat)
  /-- R402 FEED_BELOW_LOW -/
  | feedBelowLow (mv : Nat)
  /-- R402 DEGLITCH_EXPIRY -/
  | deglitchExpiry
  /-- R402 SWITCHOVER_COMPLETE -/
  | switchoverComplete
  /-- R402 TILE_RESUME -/
  | tileResume
  /-- R404 FEED_ABOVE_HIGH -/
  | feedAboveHigh (feed mv : Nat)
  /-- R404 FEED_GOOD -/
  | feedGood (feed mv : Nat)
  /-- R404 AUTO_RETURN_EXPIRY -/
  | autoReturnExpiry
  /-- R404 SELECT_A -/
  | selectA (q i : Nat)
  /-- R404 SELECT_B -/
  | selectB (q i : Nat)
  /-- R405 THERMAL_TICK -/
  | thermalTick (a b : Option Int)
  /-- R406 FAN_STALL -/
  | fanStall (rpm : Nat)
  /-- R420 HEARTBEAT_SEND -/
  | heartbeatSend
  /-- R420 HEARTBEAT_RX -/
  | heartbeatRx (hb : Heartbeat)
  /-- R420 HEARTBEAT_MISS -/
  | heartbeatMiss
  /-- R421 PROBE_RX -/
  | probeRx
  /-- R421 PROBE_ACK_RX -/
  | probeAckRx
  /-- R421 PROBE_TIMEOUT -/
  | probeTimeout
  /-- R421 SVC_LINK_LOSS_EXPIRY -/
  | svcLinkLossExpiry
  /-- R423 WITNESS_CAS_RESULT -/
  | witnessCasResult (value : Nat)
  /-- R423 WITNESS_TIMEOUT -/
  | witnessTimeout
  /-- R425 WITNESS_RETRY -/
  | witnessRetry
  /-- R427 QUEUE_RESUME -/
  | queueResume (q : Nat) (r : ResumeRead)
  /-- R416 MIRROR_BATCH_RX -/
  | mirrorBatchRx (b : MirBatch)
  /-- R416 BATCH_ACK_RX -/
  | batchAckRx (seq : Nat)
  /-- R418 TRANSPORT_SEND -/
  | transportSend
  /-- R418 TRANSPORT_RX -/
  | transportRx (r : TransportRec)
  /-- R419 PAGE_REQ_RX -/
  | pageReqRx (o : Obj)
  /-- R141 PAGE_DATA_RX -/
  | pageDataRx (o : Obj) (image : Bytes)
  /-- R430 RESYNC_RX -/
  | resyncRx (r : Resync)
  /-- R413 MIRROR_LINK_UP -/
  | mirrorLinkUp (nonce : Bytes)
  /-- R421 MIRROR_PATH_RETURN -/
  | mirrorPathReturn
  /-- R433 PAIR_BIND -/
  | pairBind (q i : Nat) (offerOk : Bool) (secret : Bytes) (peer : Nat × Nat)
  /-- R434 PAIR_QUERY -/
  | pairQuery (q i : Nat)
  /-- R434 PAIR_UNBIND -/
  | pairUnbind (q i : Nat)
  /-- R425 PAIR_UNFENCE -/
  | pairUnfence (q i : Nat)
  /-- R432 PAIR_SWITCH -/
  | pairSwitch (q i : Nat)
  /-- R437 CFG_READ -/
  | cfgRead (q i : Nat)
  /-- R438 CFG_WRITE -/
  | cfgWrite (q i : Nat)
  /-- R441 CFG_STAGE -/
  | cfgStage (q i : Nat)
  /-- R442 CFG_APPLY -/
  | cfgApply (q i : Nat)
  /-- R447 SESSION_CHALLENGE -/
  | sessionChallenge (q i : Nat)
  /-- R447 SESSION_OPEN -/
  | sessionOpen (q i : Nat)
  /-- R447 SESSION_CLOSE -/
  | sessionClose (q i : Nat)
  /-- R447 SESSION_IDLE_EXPIRY -/
  | sessionIdleExpiry (q : Nat)
  /-- R449 CEREMONY_BEGIN -/
  | ceremonyBegin (q i : Nat)
  /-- R449 CEREMONY_JOIN -/
  | ceremonyJoin (q i : Nat)
  /-- R449 CEREMONY_END -/
  | ceremonyEnd (q i : Nat)
  /-- R449 CEREMONY_EXPIRY -/
  | ceremonyExpiry
  /-- R450 ACTOR_ENROL -/
  | actorEnrol (q i : Nat)
  /-- R450 ACTOR_REMOVE -/
  | actorRemove (q i : Nat)
  /-- R453 FW_STAGE -/
  | fwStage (q i : Nat)
  /-- R453 FW_WRITE_BANK -/
  | fwWriteBank (q i : Nat)
  /-- R453 FW_ACTIVATE -/
  | fwActivate (q i : Nat)
  /-- R453 FW_RELEASE -/
  | fwRelease (q i : Nat)
  /-- R463 FLOOD_END -/
  | floodEnd (ring code : Nat)
  /-- R465 EVENT_SEND_TIMER -/
  | eventSendTimer (ring : Nat)
  /-- R464 EVQ_ATTACH -/
  | evqAttach (t : Nat)
  /-- R467 EVQ_MARK -/
  | evqMark (t : Nat)
  /-- R468 EVQ_REWIND -/
  | evqRewind (t : Nat)
  /-- R472 CARD_DETECT -/
  | cardDetect (n : Nat)
  /-- R472 CARD_CMD1_POLL -/
  | cardCmd1Poll (n : Nat) (ready : Bool)
  /-- R472 CARD_IDENTIFY -/
  | cardIdentify (n : Nat) (info : CardInfo) (mv : Nat)
  /-- R475 CARD_RESPONSE -/
  | cardResponse (n : Nat) (a : CardAnswer)
  /-- R475 CARD_BUSY_TIMEOUT -/
  | cardBusyTimeout (n : Nat)
  /-- R486 CARD_REMOVE -/
  | cardRemove (n : Nat)
  /-- R483 CARD_QUERY -/
  | cardQuery (q i : Nat)
  /-- R476 CARD_LOCK -/
  | cardLock (q i : Nat)
  /-- R476 CARD_UNLOCK -/
  | cardUnlock (q i : Nat)
  /-- R477 CARD_FORCE_ERASE -/
  | cardForceErase (q i : Nat)
  /-- R479 CARD_WRITE -/
  | cardWrite (q i : Nat)
  /-- R482 CARD_SHARE_OPEN -/
  | cardShareOpen (q i : Nat)
  /-- R482 ESTATE_CREATE -/
  | estateCreate (q i : Nat)
  /-- R485 BOOT_RECORD_WRITE -/
  | bootRecordWrite (q i : Nat)
  /-- R488 PMBUS_POLL -/
  | pmbusPoll (rail : Nat) (status : Option (BitVec 16)) (vout iout temp : Nat)
  /-- R488 PMBUS_ALERT -/
  | pmbusAlert (master addr : Nat) (status : BitVec 16)
  /-- R491 BYPASS -/
  | bypass
  /-- R491 IDCODE -/
  | idcode
  /-- R491 SAMPLE_PRELOAD -/
  | samplePreload
  /-- R491 IDENTITY -/
  | identity
  /-- R491 EXTEST -/
  | extest
  /-- R491 CLAMP -/
  | clamp
  /-- R491 HIGHZ -/
  | highz
  /-- R491 DEBUG_ACCESS -/
  | debugAccess
  /-- R401 FEED_LOST -/
  | feedLost (feed mv : Nat)
  /-- R384 FEED_GLITCH -/
  | feedGlitch
  /-- R420 MIRROR_LINK_DOWN -/
  | mirrorLinkDown
  /-- R381 CELL_LOW -/
  | cellLow (cell mv : Nat)
  /-- R378 VAULT_SUPPLY_BELOW_RETENTION -/
  | vaultSupplyBelowRetention
  /-- R384 TAMPER_SOURCE_INACTIVE -/
  | tamperSourceInactive (src : Nat)
  /-- R40 PTP_GENERAL_MESSAGE_RX -/
  | ptpGeneralMessageRx (port iface dom tr : Nat) (utc : Option Int)
  /-- R38 ARP_ND_REPLY_RX -/
  | arpNdReplyRx (addr mac : Bytes)
  /-- R39 PAUSE_TIME_EXPIRY -/
  | pauseTimeExpiry (port prio : Nat)
  /-- R453 FLASH_WRITE_DONE -/
  | flashWriteDone (verified : Bool)
  /-- R381 LOAD_TEST_DONE -/
  | loadTestDone (cell mv : Nat)
  /-- R383 CELL_REMOVE_HOLD_EXPIRY -/
  | cellRemoveHoldExpiry (cell : Nat)
  deriving DecidableEq, Repr

end Sys2Proof
end

