-- ==== Sys2Proof/WellFormed.lean ====
section
/-! DEFINITION. Which commands are well formed: every operand within the range the spec numbers it in. -/

namespace Sys2Proof

/-- R45: a queue number. -/
def okQueue (q : Nat) : Bool := decide (q < 4096)

/-- R51: a ring index as the 32-bit counters number it. -/
def okIndex (i : Nat) : Bool := decide (i < 2 ^ 32)

/-- R14: a tile number. -/
def okTile (t : Nat) : Bool := decide (t < 48)

/-- R37, R488: a port or a PMBus master, 0 or 1. -/
def okPort (x : Nat) : Bool := decide (x < 2)

/-- R38: an interface of a port. -/
def okIface (x : Nat) : Bool := decide (x < 4)

/-- R39: a priority. -/
def okPrio (x : Nat) : Bool := decide (x < 8)

/-- R324: a partition number. -/
def okPart (p : Nat) : Bool := decide (p < 256)

/-- R14: a course number. -/
def okCourse (c : Nat) : Bool := decide (c < 6)

/-- R274: a memory channel. -/
def okChannel (c : Nat) : Bool := decide (c < 8)

/-- R379: a backup cell. -/
def okCell (c : Nat) : Bool := decide (c < 2)

/-- R401: a feed. -/
def okFeed (f : Nat) : Bool := decide (f < 2)

/-- R471: a card port. -/
def okCardPort (n : Nat) : Bool := decide (n < 4)

/-- R459: an event ring. -/
def okRing (r : Nat) : Bool := decide (r < 258)

/-- R302: an entropy source. -/
def okSource (x : Nat) : Bool := decide (x < 22)

/-- R384: a tamper source. -/
def okTamper (x : Nat) : Bool := decide (x < 12)

/-- R385: a monitored rail, or one of the regulators. -/
def okRail (x : Nat) : Bool := decide (x < 8)

/-- R41: a packet sequence number. -/
def okPsn (x : Nat) : Bool := decide (x < 2 ^ 24)

/-- R99: a key token of a job: KEY0 to KEY3, a target or a wrapping key. -/
def okSlot (x : Nat) : Bool := decide (x < 6)

/-- R85: a context ID. -/
def okCtx (x : Nat) : Bool := decide (x < 2 ^ 22)

/-- R238: the ID of a component load. -/
def okLoad (x : Nat) : Bool := decide (x < 2 ^ 32)

/-- R133: a frame of an object. -/
def okFrame (x : Nat) : Bool := decide (x < 2)

/-- R387: the readings of the die sensors. -/
def okTemps (x : List Int) : Bool := decide (x.length = 10)

/-- R386: the words read back from the eight mesh pairs. -/
def okMesh (x : List (BitVec 16)) : Bool := decide (x.length = 8)

/-- R416: the witness word. -/
def okWord64 (x : Nat) : Bool := decide (x < 2 ^ 64)

/-- R387: a clock island. -/
def okIsland (x : Nat) : Bool := decide (x < 64)

/-- R118: a key handle. -/
def okHandle (h : Nat) : Bool := decide (h < 2 ^ 64)

/-- R388: a reading of 16 bits, mV or rpm. -/
def okMv (v : Nat) : Bool := decide (v < 2 ^ 16)

/-- R127: an object. -/
def okObj (o : Obj) : Bool := decide (1 ≤ o.kind) && decide (o.kind ≤ 3) && decide (o.part < 256) && decide (o.level < 5) && decide (o.num < 2 ^ 32)

/-- A command whose operands are in range. -/
def Instr.wf : Instr → Bool
  | .coldStart _ _ => true
  | .sealKeyDraw => true
  | .channelTrainingDone _ => true
  | .portLinkUp port iface => okPort port && okIface iface
  | .portLinkDown port iface => okPort port && okIface iface
  | .resetNowExpiry => true
  | .powerModeSet q i => okQueue q && okIndex i
  | .standbyDrained => true
  | .standbyExitDone _ _ => true
  | .portCfgWrite q i => okQueue q && okIndex i
  | .arpNdRequestRx port iface _ _ => okPort port && okIface iface
  | .pauseFrameRx port prio _ => okPort port && okPrio prio
  | .inboundPacketRx port prio q _ _ => okPort port && okPrio prio && okQueue q
  | .cnpRx q => okQueue q
  | .rateRecoverTick q => okQueue q
  | .ptpEventMessageRx port iface _ _ _ _ => okPort port && okIface iface
  | .ptpLossTimeout port => okPort port
  | .producerDoorbell q _ _ => okQueue q
  | .consumerDoorbell q _ _ => okQueue q
  | .inboundReadNak q _ _ => okQueue q
  | .inboundUnsupportedNak q _ => okQueue q
  | .ackTimeout q => okQueue q
  | .psnSequenceNakRx q psn => okQueue q && okPsn psn
  | .rnrNakRx q => okQueue q
  | .rnrRetryExpiry q => okQueue q
  | .remoteErrorNakRx q _ => okQueue q
  | .writeAckRx q psn => okQueue q && okPsn psn
  | .fetchPass p => okPart p
  | .descriptorArrival q _ => okQueue q
  | .contextTokenArrival q i => okQueue q && okIndex i
  | .payloadTokenArrival q i _ => okQueue q && okIndex i
  | .keyTokenArrival q i slot => okQueue q && okIndex i && okSlot slot
  | .entropyTokenArrival q i => okQueue q && okIndex i
  | .chainTokenArrival q i => okQueue q && okIndex i
  | .errorTokenArrival q i _ => okQueue q && okIndex i
  | .jobPlace course => okCourse course
  | .continuationPacket t _ _ => okTile t
  | .jobStart t _ => okTile t
  | .jobEnd t => okTile t
  | .completionWrite q => okQueue q
  | .qpCreate q i => okQueue q && okIndex i
  | .qpDestroy q i => okQueue q && okIndex i
  | .qpDestroyDrained q => okQueue q
  | .qpQuery q i => okQueue q && okIndex i
  | .regionDeclare q i => okQueue q && okIndex i
  | .regionRemove q i => okQueue q && okIndex i
  | .qpSealOffer t => okTile t
  | .qpSealEstablish t => okTile t
  | .queueEcho t => okTile t
  | .ctxBind q i => okQueue q && okIndex i
  | .ctxReplace q i => okQueue q && okIndex i
  | .ctxUnbind q i => okQueue q && okIndex i
  | .ctxUnbindDrained id => okCtx id
  | .ctxQuery q i => okQueue q && okIndex i
  | .qcourseWrite q i => okQueue q && okIndex i
  | .qcourseDrained q => okQueue q
  | .keyGenerate t => okTile t
  | .keyImport t => okTile t
  | .keyExport t => okTile t
  | .keyReplace t => okTile t
  | .keyRevoke t => okTile t
  | .keyPinRelease handle => okHandle handle
  | .keyErase t => okTile t
  | .keyQuery t => okTile t
  | .keyPublic t => okTile t
  | .persistAttach q i => okQueue q && okIndex i
  | .persistRegionDeclare q i => okQueue q && okIndex i
  | .persistRegionRemove q i => okQueue q && okIndex i
  | .batchOpen => true
  | .batchPersisted => true
  | .pageLoadStart o => okObj o
  | .pageImageArrival o frame _ => okObj o && okFrame frame
  | .leaseRequest t p => okTile t && okPart p
  | .leafLeaseRequest t handle => okTile t && okHandle handle
  | .symEncrypt t => okTile t
  | .symDecrypt t => okTile t
  | .macGenerate t => okTile t
  | .macVerify t => okTile t
  | .hash t => okTile t
  | .symReencrypt t => okTile t
  | .parityError t _ _ => okTile t
  | .pkSign t => okTile t
  | .pkVerify t => okTile t
  | .pkEncrypt t => okTile t
  | .pkDecrypt t => okTile t
  | .keyAgree t => okTile t
  | .kemEncap t => okTile t
  | .kemDecap t => okTile t
  | .yieldPoint t => okTile t
  | .yieldWindowEnd t => okTile t
  | .slotBoundary t => okTile t
  | .pinTranslate t => okTile t
  | .pinVerify t => okTile t
  | .pinValueGenerate t => okTile t
  | .payMacGenerate t => okTile t
  | .payMacVerify t => okTile t
  | .valueGenerate t => okTile t
  | .valueVerify t => okTile t
  | .emvArqcVerify t => okTile t
  | .dukptInitExport t => okTile t
  | .componentBegin q i => okQueue q && okIndex i
  | .componentAdd q i => okQueue q && okIndex i
  | .componentCommit q i => okQueue q && okIndex i
  | .componentLoadExpiry load => okLoad load
  | .objSeal t => okTile t
  | .objOpen t => okTile t
  | .manifestBuild t => okTile t
  | .manifestSign t => okTile t
  | .custodySign t => okTile t
  | .timestamp t => okTile t
  | .timeQuery t => okTile t
  | .chainAppend t => okTile t
  | .repointOpen q i => okQueue q && okIndex i
  | .repointQuery q i => okQueue q && okIndex i
  | .repointCommit q i => okQueue q && okIndex i
  | .repointCommitDrained => true
  | .repointAbandon q i => okQueue q && okIndex i
  | .campaignStep => true
  | .lineReadReturn ch _ _ => okChannel ch
  | .patrolScrubStep ch _ => okChannel ch
  | .ecsPass ch _ => okChannel ch
  | .refreshTick ch _ => okChannel ch
  | .sidebandPoll ch _ => okChannel ch
  | .retrain q i => okQueue q && okIndex i
  | .retrainDone => true
  | .evacuate q i => okQueue q && okIndex i
  | .evacuateDone => true
  | .powerDown q i => okQueue q && okIndex i
  | .restore q i => okQueue q && okIndex i
  | .restoreSupplySettled _ => true
  | .restoreDone => true
  | .markAbsent q i => okQueue q && okIndex i
  | .entropyStart _ _ => true
  | .entropyWindow src _ => okSource src
  | .entropyRequest p _ _ => okPart p
  | .restart q i => okQueue q && okIndex i
  | .kat q i _ => okQueue q && okIndex i
  | .sourceOut q i => okQueue q && okIndex i
  | .sourceIn q i _ => okQueue q && okIndex i
  | .rngGenerate t => okTile t
  | .rngStatus t => okTile t
  | .prtStage q i => okQueue q && okIndex i
  | .prtApply q i => okQueue q && okIndex i
  | .liveRestartHodBound => true
  | .liveRestartDone => true
  | .prtQuery q i => okQueue q && okIndex i
  | .drain q i => okQueue q && okIndex i
  | .tileDrained t => okTile t
  | .ret q i => okQueue q && okIndex i
  | .tileSelfTestDone t _ => okTile t
  | .tilReset q i => okQueue q && okIndex i
  | .lcyTransition q i _ => okQueue q && okIndex i
  | .userErase q i => okQueue q && okIndex i
  | .lcySvnAdvance q i _ => okQueue q && okIndex i
  | .debugChallenge q i => okQueue q && okIndex i
  | .debugOpen q i => okQueue q && okIndex i
  | .attest t => okTile t
  | .railGlitch rail => okRail rail
  | .railExcursion rail => okRail rail
  | .meshSample rx => okMesh rx
  | .enclosureSample _ => true
  | .clockWindow island _ _ _ => okIsland island
  | .dieTempSample temps => okTemps temps
  | .cellExcursion cell mv => okCell cell && okMv mv
  | .purgeRecoveryPass _ => true
  | .episodeEnd => true
  | .tamperClear q i => okQueue q && okIndex i
  | .vaultPolarityRefresh => true
  | .cellSupplySwitch mvA mvB => okMv mvA && okMv mvB
  | .cellChargeControl cell mv _ => okCell cell && okMv mv
  | .cellPeriodicLoadTest cell => okCell cell
  | .remove q i => okQueue q && okIndex i
  | .cellInserted cell mv => okCell cell && okMv mv
  | .loadTest q i => okQueue q && okIndex i
  | .depassivate q i => okQueue q && okIndex i
  | .depassivationPulse cell mv => okCell cell && okMv mv
  | .gaugeReset q i => okQueue q && okIndex i
  | .vaultAdopt q i => okQueue q && okIndex i
  | .feedBelowLow mv => okMv mv
  | .deglitchExpiry => true
  | .switchoverComplete => true
  | .tileResume => true
  | .feedAboveHigh feed mv => okFeed feed && okMv mv
  | .feedGood feed mv => okFeed feed && okMv mv
  | .autoReturnExpiry => true
  | .selectA q i => okQueue q && okIndex i
  | .selectB q i => okQueue q && okIndex i
  | .thermalTick _ _ => true
  | .fanStall rpm => okMv rpm
  | .heartbeatSend => true
  | .heartbeatRx _ => true
  | .heartbeatMiss => true
  | .probeRx => true
  | .probeAckRx => true
  | .probeTimeout => true
  | .svcLinkLossExpiry => true
  | .witnessCasResult value => okWord64 value
  | .witnessTimeout => true
  | .witnessRetry => true
  | .queueResume q _ => okQueue q
  | .mirrorBatchRx _ => true
  | .batchAckRx _ => true
  | .transportSend => true
  | .transportRx _ => true
  | .pageReqRx o => okObj o
  | .pageDataRx o _ => okObj o
  | .resyncRx _ => true
  | .mirrorLinkUp _ => true
  | .mirrorPathReturn => true
  | .pairBind q i _ _ _ => okQueue q && okIndex i
  | .pairQuery q i => okQueue q && okIndex i
  | .pairUnbind q i => okQueue q && okIndex i
  | .pairUnfence q i => okQueue q && okIndex i
  | .pairSwitch q i => okQueue q && okIndex i
  | .cfgRead q i => okQueue q && okIndex i
  | .cfgWrite q i => okQueue q && okIndex i
  | .cfgStage q i => okQueue q && okIndex i
  | .cfgApply q i => okQueue q && okIndex i
  | .sessionChallenge q i => okQueue q && okIndex i
  | .sessionOpen q i => okQueue q && okIndex i
  | .sessionClose q i => okQueue q && okIndex i
  | .sessionIdleExpiry q => okQueue q
  | .ceremonyBegin q i => okQueue q && okIndex i
  | .ceremonyJoin q i => okQueue q && okIndex i
  | .ceremonyEnd q i => okQueue q && okIndex i
  | .ceremonyExpiry => true
  | .actorEnrol q i => okQueue q && okIndex i
  | .actorRemove q i => okQueue q && okIndex i
  | .fwStage q i => okQueue q && okIndex i
  | .fwWriteBank q i => okQueue q && okIndex i
  | .fwActivate q i => okQueue q && okIndex i
  | .fwRelease q i => okQueue q && okIndex i
  | .floodEnd ring _ => okRing ring
  | .eventSendTimer ring => okRing ring
  | .evqAttach t => okTile t
  | .evqMark t => okTile t
  | .evqRewind t => okTile t
  | .cardDetect n => okCardPort n
  | .cardCmd1Poll n _ => okCardPort n
  | .cardIdentify n _ mv => okCardPort n && okMv mv
  | .cardResponse n _ => okCardPort n
  | .cardBusyTimeout n => okCardPort n
  | .cardRemove n => okCardPort n
  | .cardQuery q i => okQueue q && okIndex i
  | .cardLock q i => okQueue q && okIndex i
  | .cardUnlock q i => okQueue q && okIndex i
  | .cardForceErase q i => okQueue q && okIndex i
  | .cardWrite q i => okQueue q && okIndex i
  | .cardShareOpen q i => okQueue q && okIndex i
  | .estateCreate q i => okQueue q && okIndex i
  | .bootRecordWrite q i => okQueue q && okIndex i
  | .pmbusPoll rail _ _ _ _ => okRail rail
  | .pmbusAlert master _ _ => okPort master
  | .bypass => true
  | .idcode => true
  | .samplePreload => true
  | .identity => true
  | .extest => true
  | .clamp => true
  | .highz => true
  | .debugAccess => true
  | .feedLost feed mv => okFeed feed && okMv mv
  | .feedGlitch => true
  | .mirrorLinkDown => true
  | .cellLow cell mv => okCell cell && okMv mv
  | .vaultSupplyBelowRetention => true
  | .tamperSourceInactive src => okTamper src
  | .ptpGeneralMessageRx port iface _ _ _ => okPort port && okIface iface
  | .arpNdReplyRx _ _ => true
  | .pauseTimeExpiry port prio => okPort port && okPrio prio
  | .flashWriteDone _ => true
  | .loadTestDone cell mv => okCell cell && okMv mv
  | .cellRemoveHoldExpiry cell => okCell cell

end Sys2Proof
end

