-- ==== Sys2Proof/Config.lean ====
section
/-! DEFINITION. What an implementation fixes, the functions of the cited standards, and the free values. Each is opaque: no
proof can see what it computes (notes/assumptions/3.md, 4.md). Lengths are fixed by the callers in Machine/Crypto.lean. -/

namespace Sys2Proof.Config

/-- The free bytes: what the spec leaves random or open. Applied to the plain counter `State.free`. -/
opaque freeByte : Nat → Byte

/-- Free numbers the spec leaves to an implementation (an ID_JTAG code, a silicon revision, a PSN, an rkey). -/
opaque freeNat : Nat → Nat

/-- R491: the manufacturer identity and the silicon revision of the IDCODE. -/
opaque jtagMaker : Nat
opaque siliconRev : Nat
/-- R491: the bytes of the boundary-scan register, whose length IEEE 1149.1 leaves to the device -/
opaque boundaryBytes : Nat

/-- FIPS 180-4 and FIPS 202, by the HASH_ALG code of R160: the value before the first block. -/
opaque hashInit : Nat → Bytes
/-- One block absorbed into the chaining value or Keccak state. -/
opaque hashAbsorb : Nat → Bytes → Bytes → Bytes
/-- The digest: algorithm, state, the partial block, total bits and output bytes. -/
opaque hashFinish : Nat → Bytes → Bytes → Nat → Nat → Bytes

/-- A block cipher of the standards R154 names, by key algorithm: encrypt and decrypt one block. -/
opaque blockEncrypt : Nat → Bytes → Bytes → Bytes
opaque blockDecrypt : Nat → Bytes → Bytes → Bytes

/-- The ChaCha20 keystream block: key, nonce, counter. -/
opaque chachaBlock : Bytes → Bytes → Nat → Bytes

/-- KMAC of SP 800-185: 128 or 256, key, customisation, output length, message. -/
opaque kmac : Nat → Bytes → Bytes → Nat → Bytes → Bytes

/-- R198: the fixed cycle count of a job where no table gives it: opcode, algorithm, key length, input and output lengths. -/
opaque jobCycles : Nat → Nat → Nat → Nat → Nat → Nat

/-- Key generation: algorithm, modulus bits, random seed; the private or secret material. -/
opaque keyGen : Nat → Nat → Bytes → Bytes
/-- Public key of the material of an algorithm, without the header of R189. -/
opaque publicKey : Nat → Bytes → Bytes
/-- R190: the scalar RFC 8032 derives from an Ed25519 seed, modulo the group order. -/
opaque edScalar : Bytes → Nat
/-- Signature: algorithm, scheme parameters, private material, message or digest, random bytes. -/
opaque sign : Nat → Bytes → Bytes → Bytes → Bytes → Bytes
/-- Verification: algorithm, scheme parameters, public material, message or digest, signature. -/
opaque verify : Nat → Bytes → Bytes → Bytes → Bytes → Bool
/-- RSA-OAEP (RFC 8017): parameters, public material, message, random bytes; ciphertext. -/
opaque oaepEncrypt : Bytes → Bytes → Bytes → Bytes → Bytes
/-- RSA-OAEP decryption; none when the padding fails. -/
opaque oaepDecrypt : Bytes → Bytes → Bytes → Option Bytes
/-- ECDH: algorithm, private material, peer's public key, a point of the curve; the x-coordinate. -/
opaque ecdh : Nat → Bytes → Bytes → Bytes
/-- ML-KEM: algorithm, encapsulation key, random bytes; ciphertext and shared secret. -/
opaque kemEncap : Nat → Bytes → Bytes → Bytes × Bytes
/-- ML-KEM decapsulation: algorithm, decapsulation material, ciphertext; the shared secret. -/
opaque kemDecap : Nat → Bytes → Bytes → Bytes

/-- CTR_DRBG of SP 800-90A with AES-256: entropy input, nonce and personalisation string; the internal state. -/
opaque drbgInstantiate : Bytes → Bytes → Bytes → Bytes
/-- Reseed: internal state and entropy input. -/
opaque drbgReseed : Bytes → Bytes → Bytes
/-- Generate: internal state and byte count; the bits and the next state. -/
opaque drbgGenerate : Bytes → Nat → Bytes × Bytes

/-- ANSI X9.143 protection under a key block protection key (its ALG and material): header and optional blocks, padded key field;
ciphertext and MAC. -/
opaque kbSeal : Nat → Bytes → Bytes → Bytes → Bytes × Bytes
/-- The inverse: ALG, key, header, ciphertext, MAC; the padded key field, none when the MAC fails. -/
opaque kbOpen : Nat → Bytes → Bytes → Bytes → Bytes → Option Bytes
/-- The X9.143 key field of asymmetric material of an ALG. -/
opaque kbEncode : Nat → Bytes → Bytes
/-- The longest such field of an ALG and its LEN. -/
opaque kbEncodeLen : Nat → Nat → Nat
/-- R236: the curve the length of an elliptic-curve key field selects: 0 P-256, 1 P-384, 2 P-521; the spec gives no lengths. -/
opaque kbCurve : Nat → Option Nat
/-- The inverse, for an ALG: LEN and material, none when the field does not decode. -/
opaque kbDecode : Nat → Bytes → Option (Nat × Bytes)

/-- DUKPT of X9.24-1 (mode 1) and X9.24-3 (mode 2): mode, ALG of the BDK, BDK and KSN; the initial key. -/
opaque dukptInit : Nat → Nat → Bytes → Bytes → Bytes
/-- DUKPT: mode, ALG of the initial key, the initial key and the KSN; the transaction key. -/
opaque dukptTxn : Nat → Nat → Bytes → Bytes → Bytes
/-- X9.24-3: working-key ALG, key usage indicator, transaction key and KSN; the working key. -/
opaque dukptDerive : Nat → Nat → Bytes → Bytes → Bytes
/-- EMV ICC master key: derivation option, ALG, issuer master key, PAN field, PAN sequence number. -/
opaque emvIcc : Nat → Nat → Bytes → Bytes → Bytes → Bytes
/-- EMV common session key: ALG, ICC master key, ATC. -/
opaque emvSession : Nat → Bytes → Bytes → Bytes
/-- EMV ARPC: method, ALG, session key, ARQC, ARC or CSU, proprietary authentication data. -/
opaque emvArpc : Nat → Nat → Bytes → Bytes → Bytes → Bytes → Bytes

/-- R208: an ML-DSA signature with these inputs reaches 1,024 iterations without success: ALG, parameters, seed, message, random
bytes. -/
opaque signExhausts : Nat → Bytes → Bytes → Bytes → Bytes → Bool
/-- R190: the pairwise consistency test of a private key of an ALG. -/
opaque pairwise : Nat → Bytes → Bool

/-- X.509: the public key of a certificate as an ALG and its material, none when it does not parse. -/
opaque certKey : Bytes → Option (Nat × Bytes)
/-- RFC 5652: the DER IssuerAndSerialNumber of a certificate. -/
opaque certIssuer : Bytes → Bytes
/-- R260: the subject key identifier of a key for which no certificate is supplied: its ALG and public key. -/
opaque signerKeyId : Nat → Bytes → Bytes

/-- R348: the P-384 and ML-DSA-87 public keys of a ROM key set. -/
opaque romEc : Nat → Bytes
opaque romMl : Nat → Bytes
/-- R364: the debug event MEAS4 is extended with, by the scopes opened (0 at a cold start); the spec gives no layout. -/
opaque debugEvent : Nat → Bytes
/-- R386: the step of a mesh pair's 16-bit LFSR, whose taps the spec does not give. -/
opaque lfsrNext : BitVec 16 → BitVec 16
/-- R142, R153: what a persisted image that has not been loaded holds, by its digest (the root hash for the level-4 tree page): key pages
of a partition below a tree page; context pages below it. -/
opaque pagesBelow : Bytes → Nat → Nat
opaque ctxPagesBelow : Bytes → Nat
/-- R88, R115: contexts of a partition in a context page or below a tree page that has not been loaded, by the image's digest. -/
opaque ctxsBelow : Bytes → Nat → Nat
/-- R38: the MAC address and the service addresses, in IPv4-mapped form or IPv6, that the retained configuration holds for an interface
(its port and number); no command of the spec writes them. -/
opaque ifaceMac : Nat → Nat → Bytes
opaque ifaceAddrs : Nat → Nat → List Bytes
/-- R364: the ROM digest. -/
opaque romDigest : Bytes
/-- R358: the offset, length and digest of each component a body's table gives; the layout of its entries is not stated. -/
opaque imageComponents : Nat → Bytes → List (Nat × Nat × Bytes)

/-- R277: the rank a channel's line lies on, among its ranks: raw capacity in units of 2 GiB of the channel, ranks, line. The
widths of the address fields are those of the modules, which the spec does not state. -/
opaque lineRank : Nat → Nat → Nat → Nat

end Sys2Proof.Config
end

