-- ==== Sys2Proof/Machine/Bytes.lean ====
section
/-! DEFINITION. Bit fields, checks and byte-string helpers every chapter uses, and the helpers over association lists. -/

namespace Sys2Proof.Machine

/-- Bits [hi:lo] of a number. -/
def bitsOf (hi lo v : Nat) : Nat := v / 2 ^ lo % 2 ^ (hi - lo + 1)

/-- Bit `n` of a number. -/
def bitOf (n v : Nat) : Bool := v / 2 ^ n % 2 == 1

/-- A Bool as a number. -/
def b2n (b : Bool) : Nat := if b then 1 else 0

/-- `v` with bits [hi:lo] replaced by `x`. -/
def setBits (hi lo x v : Nat) : Nat :=
  v - bitsOf hi lo v * 2 ^ lo + (x % 2 ^ (hi - lo + 1)) * 2 ^ lo

/-- The two's complement number of an `n`-bit field. -/
def signedOf (n v : Nat) : Int := if v < 2 ^ (n - 1) then v else (v : Int) - 2 ^ n

/-- A number in `n` bits of two's complement. -/
def encSigned (n : Nat) (v : Int) : Nat := (v % (2 ^ n : Int)).toNat

/-- The byte at an offset, as a number; zero past the end. -/
def byteAt (o : Nat) (bs : Bytes) : Nat := (bs.getD o 0).toNat

/-- Whether `n` bytes from offset `o` are all zero. -/
def zeroAt (o n : Nat) (bs : Bytes) : Bool := allZero (sub o n bs)

/-- `bs` with the bytes from offset `o` replaced by `xs`. -/
def patch (o : Nat) (xs bs : Bytes) : Bytes := bs.take o ++ xs ++ bs.drop (o + xs.length)

/-- R11: the threshold of a percentage of a capacity, rounded up. -/
def ceilPct (c p : Nat) : Nat := (c * p + 99) / 100

/-- Byte-by-byte exclusive or, as long as the shorter. -/
def xorBytes (a b : Bytes) : Bytes := List.zipWith (· ^^^ ·) a b

/-- The ASCII bytes of a label. -/
def ascii (s : String) : Bytes := s.toList.map (fun c => BitVec.ofNat 8 c.toNat)

/-- One bit of the reflected CRC-32C (Castagnoli polynomial 0x1EDC_6F41; scope, Standards). -/
def crcBit (c : BitVec 32) : BitVec 32 := if c.getLsbD 0 then (c >>> 1) ^^^ 0x82F63B78#32 else c >>> 1

/-- The eight bit steps of one byte. -/
def crcByte (c : BitVec 32) (b : Byte) : BitVec 32 :=
  crcBit (crcBit (crcBit (crcBit (crcBit (crcBit (crcBit (crcBit (c ^^^ b.setWidth 32))))))))

/-- CRC-32C of a byte string. -/
def crc32c (bs : Bytes) : BitVec 32 := ~~~(bs.foldl crcByte 0xFFFFFFFF#32)

/-- The CRC-32C of a byte string as its four little-endian bytes. -/
def crcBytes (bs : Bytes) : Bytes := leBytes 4 (crc32c bs).toNat

/-- The little-endian bytes of a 32-bit word. -/
def wordBytes (w : BitVec 32) : Bytes := leBytes 4 w.toNat

/-- Look a key up in an association list. -/
def alook {β : Type} (k : Nat) : List (Nat × β) → Option β
  | [] => none
  | (a, v) :: l => if a = k then some v else alook k l

/-- Put a key's value into an association list that is ascending by key. -/
def aput {β : Type} (k : Nat) (v : β) : List (Nat × β) → List (Nat × β)
  | [] => [(k, v)]
  | (a, w) :: l => if k < a then (k, v) :: (a, w) :: l else if a = k then (k, v) :: l else (a, w) :: aput k v l

/-- Drop a key from an association list. -/
def adrop {β : Type} (k : Nat) (l : List (Nat × β)) : List (Nat × β) := l.filter (fun e => e.1 ≠ k)

/-- Change the elements of a list that satisfy a predicate. -/
def modWhere {α : Type} (p : α → Bool) (f : α → α) (l : List α) : List α := l.map (fun x => if p x then f x else x)

/-- Insert into a list that is ascending by `key`, replacing an element of the same key. -/
def insertBy {α : Type} (key : α → Nat) (x : α) : List α → List α
  | [] => [x]
  | y :: l => if key x < key y then x :: y :: l else if key x = key y then x :: l else y :: insertBy key x l

/-- Sum of a function over a list. -/
def sumOf {α : Type} (f : α → Nat) (l : List α) : Nat := l.foldl (fun n x => n + f x) 0

/-- The number of elements that satisfy a predicate. -/
def countOf {α : Type} (p : α → Bool) (l : List α) : Nat := (l.filter p).length

/-- The element with the least key, the first of equals. -/
def minBy {α : Type} (key : α → Nat) : List α → Option α
  | [] => none
  | x :: l => match minBy key l with
    | none => some x
    | some y => if key y < key x then some y else some x

/-- Saturating addition at `2 ^ n - 1`. -/
def satAdd (n v d : Nat) : Nat := min (2 ^ n - 1) (v + d)

/-- `n` divided by `d`, rounded up. -/
def ceilDiv (n d : Nat) : Nat := (n + d - 1) / d

/-- Apply a function to the state for each element of a list, in order. -/
def forEach {α σ : Type} (l : List α) (f : α → σ → σ) (s : σ) : σ := l.foldl (fun s x => f x s) s

end Sys2Proof.Machine
end

