-- ==== Sys2Proof/Machine/Crypto.lean ====
section
/-! DEFINITION. The engines' functions over the opaque primitives of Config, with the lengths and the block structure the
spec's chapters 05 and 06 give: hashes in parts, cipher modes, ISO 9797-1 MACs, Shamir sharing over GF(2⁸). -/

namespace Sys2Proof.Machine

/-! ### Hashes (R160, R175) -/

/-- The digest length of a HASH_ALG, the default length for SHAKE (R163). -/
def digestLen : Nat → Nat
  | 0x01 => 28 | 0x02 => 32 | 0x03 => 48 | 0x04 => 64 | 0x05 => 32
  | 0x11 => 28 | 0x12 => 32 | 0x13 => 48 | 0x14 => 64 | 0x21 => 32 | 0x22 => 64
  | _ => 0

/-- The block (rate) of a HASH_ALG in bytes. -/
def hashBlock : Nat → Nat
  | 0x01 => 64 | 0x02 => 64 | 0x03 => 128 | 0x04 => 128 | 0x05 => 128
  | 0x11 => 144 | 0x12 => 136 | 0x13 => 104 | 0x14 => 72 | 0x21 => 168 | 0x22 => 136
  | _ => 64

/-- The bytes of the chaining value or Keccak state (R175). -/
def hashState : Nat → Nat
  | 0x01 => 32 | 0x02 => 32 | 0x03 => 64 | 0x04 => 64 | 0x05 => 64 | _ => 200

/-- A SHAKE function. -/
def isShake (alg : Nat) : Bool := alg == 0x21 || alg == 0x22

/-- Absorb whole blocks; what is left is the partial block. -/
def absorb (alg : Nat) : Nat → Bytes → Bytes → Bytes × Bytes
  | 0, st, m => (st, m)
  | n + 1, st, m =>
    if m.length < hashBlock alg then (st, m)
    else absorb alg n (fixLen (hashState alg) (Config.hashAbsorb alg st (m.take (hashBlock alg)))) (m.drop (hashBlock alg))

/-- Absorb a message into a state and its partial block. -/
def absorbAll (alg : Nat) (st m : Bytes) : Bytes × Bytes := absorb alg (m.length + 1) st m

/-- A digest of `n` bytes. -/
def hashLen (alg n : Nat) (m : Bytes) : Bytes :=
  let (st, buf) := absorbAll alg (fixLen (hashState alg) (Config.hashInit alg)) m
  fixLen n (Config.hashFinish alg st buf (8 * m.length) n)

/-- The digest of a message. -/
def hashOf (alg : Nat) (m : Bytes) : Bytes := hashLen alg (digestLen alg) m

/-- SHA3-256. -/
def sha3_256 (m : Bytes) : Bytes := hashOf 0x12 m
/-- SHA3-512. -/
def sha3_512 (m : Bytes) : Bytes := hashOf 0x14 m
/-- SHAKE256. -/
def shake256 (n : Nat) (m : Bytes) : Bytes := hashLen 0x22 n m

/-- FIPS 198-1 HMAC: a key longer than the hash's block is hashed first. -/
def hmacOf (alg : Nat) (key m : Bytes) : Bytes :=
  let k := fixLen (hashBlock alg) (if hashBlock alg < key.length then hashOf alg key else key)
  hashOf alg (k.map (· ^^^ 0x5C) ++ hashOf alg (k.map (· ^^^ 0x36) ++ m))

/-! ### Block ciphers and modes (R155, R163) -/

/-- The block of a key algorithm: 16 for AES, 8 for TDES; 0xD0 names single DES inside MAC algorithm 3. -/
def blockLen (alg : Nat) : Nat := if alg = 0x03 ∨ alg = 0x04 ∨ alg = 0xD0 then 8 else 16

/-- One block encrypted. -/
def encBlock (alg : Nat) (key b : Bytes) : Bytes := fixLen (blockLen alg) (Config.blockEncrypt alg key b)
/-- One block decrypted. -/
def decBlock (alg : Nat) (key b : Bytes) : Bytes := fixLen (blockLen alg) (Config.blockDecrypt alg key b)

/-- Cut into blocks of `n`; fuelled by the length. -/
def chunks (n : Nat) : Nat → Bytes → List Bytes
  | 0, _ => []
  | f + 1, m => if m = [] ∨ n = 0 then [] else m.take n :: chunks n f (m.drop n)

/-- Blocks of `n` bytes, the last one possibly short. -/
def blocks (n : Nat) (m : Bytes) : List Bytes := chunks n m.length m

/-- CBC encryption of whole blocks. -/
def cbcEnc (alg : Nat) (key : Bytes) : Bytes → List Bytes → Bytes
  | _, [] => []
  | iv, b :: bs => let c := encBlock alg key (xorBytes iv b); c ++ cbcEnc alg key c bs

/-- CBC decryption of whole blocks. -/
def cbcDec (alg : Nat) (key : Bytes) : Bytes → List Bytes → Bytes
  | _, [] => []
  | iv, c :: cs => xorBytes iv (decBlock alg key c) ++ cbcDec alg key c cs

/-- CTR: a 12 B IV and a 32-bit big-endian block counter from zero. -/
def ctrCrypt (alg : Nat) (key iv : Bytes) : Nat → List Bytes → Bytes
  | _, [] => []
  | n, b :: bs => xorBytes b (encBlock alg key (iv ++ beBytes 4 n)) ++ ctrCrypt alg key iv (n + 1) bs

/-- IEEE 1619: multiply a tweak by α in GF(2¹²⁸). -/
def xtsDouble (t : Bytes) : Bytes :=
  let v := leNat t * 2
  leBytes 16 (if v < 2 ^ 128 then v else Nat.xor (v - 2 ^ 128) 0x87)

/-- One XTS block under a tweak. -/
def xtsBlock (enc : Bool) (alg : Nat) (key t b : Bytes) : Bytes :=
  let x := xorBytes b t
  xorBytes (if enc then encBlock alg key x else decBlock alg key x) t

/-- An XTS data unit, its last short block by ciphertext stealing. -/
def xtsUnit (enc : Bool) (alg : Nat) (key : Bytes) : Bytes → List Bytes → Bytes
  | _, [] => []
  | t, [b] => xtsBlock enc alg key t b
  | t, [a, b] =>
    if b.length = 16 then xtsBlock enc alg key t a ++ xtsBlock enc alg key (xtsDouble t) b
    else
      let t2 := xtsDouble t
      let x := xtsBlock enc alg key (if enc then t else t2) a
      let y := xtsBlock enc alg key (if enc then t2 else t) (b ++ x.drop b.length)
      y ++ x.take b.length
  | t, b :: c :: d :: bs => xtsBlock enc alg key t b ++ xtsUnit enc alg key (xtsDouble t) (c :: d :: bs)

/-- XTS over data units of `2 ^ lg` bytes numbered from `dun`: the key is data key ‖ tweak key. -/
def xtsCrypt (enc : Bool) (alg : Nat) (k1 k2 : Bytes) : Nat → List Bytes → Bytes
  | _, [] => []
  | n, u :: us => xtsUnit enc alg k1 (encBlock alg k2 (leBytes 16 n)) (blocks 16 u) ++ xtsCrypt enc alg k1 k2 (n + 1) us

/-- ISO 9797-1 padding 1, 2 and 3; 0 none (R160). -/
def padMsg (pad n : Nat) (m : Bytes) : Bytes :=
  let fill (x : Bytes) : Bytes := x ++ zeros ((n - x.length % n) % n)
  match pad with
  | 1 => if m = [] then zeros n else fill m
  | 2 => fill (m ++ [0x80])
  | 3 => beBytes n (8 * m.length) ++ (if m = [] then zeros n else fill m)
  | _ => m

/-- The last block of a CBC chain from a zero IV: MAC algorithm 1 before truncation. -/
def cbcLast (alg : Nat) (key m : Bytes) : Bytes :=
  let n := blockLen alg
  (blocks n m).foldl (fun iv b => encBlock alg key (xorBytes iv b)) (zeros n)

/-- ISO 9797-1 MAC algorithm 3: single DES under K1, then decrypt K2, encrypt K1. -/
def macAlg3 (key m : Bytes) : Bytes :=
  let k1 := key.take 8
  let k2 := (key.drop 8).take 8
  encBlock 0xD0 k1 (decBlock 0xD0 k2 (cbcLast 0xD0 k1 m))

/-- SP 800-38B: a block doubled in GF(2¹²⁸), or in GF(2⁶⁴) for TDES. -/
def cmacDouble (b : Bytes) : Bytes :=
  let n := b.length
  let v := beNat b * 2
  beBytes n (if v < 2 ^ (8 * n) then v else Nat.xor (v - 2 ^ (8 * n)) (if n = 16 then 0x87 else 0x1B))

/-- SP 800-38B CMAC: the last block is masked with the first subkey when it is whole, else padded and masked with the second. -/
def cmacOf (alg : Nat) (key m : Bytes) : Bytes :=
  let n := blockLen alg
  let k1 := cmacDouble (encBlock alg key (zeros n))
  let whole := m.length ≠ 0 && m.length % n == 0
  let body := if whole then m.take (m.length - n) else m.take (m.length - m.length % n)
  let tail := m.drop body.length
  let last := if whole then xorBytes tail k1 else xorBytes (fixLen n (tail ++ [0x80])) (cmacDouble k1)
  encBlock alg key (xorBytes ((blocks n body).foldl (fun c b => encBlock alg key (xorBytes c b)) (zeros n)) last)

/-! ### AEAD: SP 800-38D, RFC 8452 and RFC 8439, over the block functions -/

/-- The AES key algorithm of a key's length. -/
def aesOf (key : Bytes) : Nat := if key.length ≤ 16 then 0x01 else 0x02

/-- One doubling step of SP 800-38D's field, whose leftmost bit is the lowest power. -/
def gcmShift (v : BitVec 128) : BitVec 128 :=
  if v.getLsbD 0 then (v >>> 1) ^^^ (0xE1000000000000000000000000000000 : BitVec 128) else v >>> 1

/-- The product of SP 800-38D's field. -/
def gcmMul (x y : BitVec 128) : BitVec 128 :=
  ((List.range 128).foldl (fun (acc : BitVec 128 × BitVec 128) i =>
    (if x.getMsbD i then acc.1 ^^^ acc.2 else acc.1, gcmShift acc.2)) (0, y)).1

/-- The chained products over a list of field elements. -/
def gcmHash (h : BitVec 128) (xs : List Nat) : BitVec 128 := xs.foldl (fun y x => gcmMul (y ^^^ BitVec.ofNat 128 x) h) 0

/-- Zero bytes up to a multiple of 16. -/
def fill16 (x : Bytes) : Bytes := x ++ zeros ((16 - x.length % 16) % 16)

/-- `n` bytes of the blocks `f 0`, `f 1`, … in turn. -/
def stream (n : Nat) (f : Nat → Bytes) : Bytes := fixLen n ((List.range (n / 16 + 1)).flatMap f)

/-- The GCM tag of additional data and ciphertext. -/
def gcmTag (key nonce aad ct : Bytes) : Bytes :=
  let e := encBlock (aesOf key) key
  let h := BitVec.ofNat 128 (beNat (e (zeros 16)))
  let s := gcmHash h ((blocks 16 (fill16 aad ++ fill16 ct ++ beBytes 8 (8 * aad.length) ++ beBytes 8 (8 * ct.length))).map beNat)
  xorBytes (beBytes 16 s.toNat) (e (nonce ++ beBytes 4 1))

/-- The GCM-SIV authentication and encryption keys of a nonce. -/
def sivKeys (key nonce : Bytes) : Bytes × Bytes :=
  let half (i : Nat) : Bytes := (encBlock (aesOf key) key (leBytes 4 i ++ nonce)).take 8
  (half 0 ++ half 1, if key.length ≤ 16 then half 2 ++ half 3 else half 2 ++ half 3 ++ half 4 ++ half 5)

/-- The GCM-SIV tag of additional data and plaintext; POLYVAL by the product of SP 800-38D on reversed bytes. -/
def sivTag (key nonce aad pt : Bytes) : Bytes :=
  let (a, e) := sivKeys key nonce
  let s := leBytes 16 (gcmHash (gcmShift (BitVec.ofNat 128 (leNat a)))
    ((blocks 16 (fill16 aad ++ fill16 pt ++ leBytes 8 (8 * aad.length) ++ leBytes 8 (8 * pt.length))).map leNat)).toNat
  encBlock (aesOf key) e (xorBytes (s.take 12) nonce ++ sub 12 3 s ++ [s.getD 15 0 &&& 0x7F])

/-- The GCM-SIV keystream: the counter block starts from the tag, with a 32-bit little-endian counter. -/
def sivStream (key nonce tag : Bytes) (n : Nat) : Bytes :=
  stream n (fun i => encBlock (aesOf key) (sivKeys key nonce).2
    (leBytes 4 ((leAt 0 4 tag + i) % 2 ^ 32) ++ sub 4 11 tag ++ [tag.getD 15 0 ||| 0x80]))

/-- The Poly1305 tag of RFC 8439's AEAD, its one-time key from keystream block 0. -/
def polyTag (key nonce aad ct : Bytes) : Bytes :=
  let otk := fixLen 64 (Config.chachaBlock key nonce 0)
  let r := Nat.land (leAt 0 16 otk) 0x0FFFFFFC0FFFFFFC0FFFFFFC0FFFFFFF
  let a := (blocks 16 (fill16 aad ++ fill16 ct ++ leBytes 8 aad.length ++ leBytes 8 ct.length)).foldl
    (fun a b => (a + leNat (b ++ [1])) * r % (2 ^ 130 - 5)) 0
  leBytes 16 (a + leAt 16 16 otk)

/-- The keystream of GCM and of ChaCha20-Poly1305. Modes by R155: 0x04 GCM, 0x05 GCM-SIV, 0x07 ChaCha20-Poly1305. -/
def aeadStream (mode : Nat) (key nonce : Bytes) (n : Nat) : Bytes :=
  if mode = 0x07 then fixLen n ((List.range (n / 64 + 1)).flatMap (fun i => fixLen 64 (Config.chachaBlock key nonce (1 + i))))
  else stream n (fun i => encBlock (aesOf key) key (nonce ++ beBytes 4 (2 + i)))

/-- The tag of GCM and of ChaCha20-Poly1305. -/
def aeadTag (mode : Nat) (key nonce aad ct : Bytes) : Bytes :=
  if mode = 0x07 then polyTag key nonce aad ct else gcmTag key nonce aad ct

/-- Seal: ciphertext of the plaintext's length, and a 16 B tag. -/
def aeadSeal (mode : Nat) (key nonce aad pt : Bytes) : Bytes × Bytes :=
  if mode = 0x05 then
    let tag := sivTag key nonce aad pt
    (xorBytes pt (sivStream key nonce tag pt.length), tag)
  else
    let ct := xorBytes pt (aeadStream mode key nonce pt.length)
    (ct, aeadTag mode key nonce aad ct)

/-- Open: the plaintext of the ciphertext's length, none when the tag, of 12 to 16 B, is not the ciphertext's. -/
def aeadOpen (mode : Nat) (key nonce aad ct tag : Bytes) : Option Bytes :=
  if mode = 0x05 then
    let pt := xorBytes ct (sivStream key nonce tag ct.length)
    if tag = sivTag key nonce aad pt then some pt else none
  else if tag = (aeadTag mode key nonce aad ct).take tag.length then some (xorBytes ct (aeadStream mode key nonce ct.length))
  else none

/-! ### Shamir sharing over GF(2⁸) (R481) -/

/-- Multiply by x in GF(2⁸) with polynomial 0x11B. -/
def gfDouble (a : Byte) : Byte := if a.getLsbD 7 then (a <<< 1) ^^^ 0x1B else a <<< 1

/-- Product in GF(2⁸), by the bits of the second factor. -/
def gfMul (a b : Byte) : Byte :=
  ((List.range 8).foldl (fun (acc : Byte × Byte) i =>
    (if b.getLsbD i then acc.1 ^^^ acc.2 else acc.1, gfDouble acc.2)) (0, a)).1

/-- Power in GF(2⁸). -/
def gfPow (a : Byte) : Nat → Byte
  | 0 => 1
  | n + 1 => gfMul a (gfPow a n)

/-- Inverse in GF(2⁸). -/
def gfInv (a : Byte) : Byte := gfPow a 254

/-- A polynomial's value at a point: constant term first. -/
def gfEval (x : Byte) : List Byte → Byte
  | [] => 0
  | c :: cs => c ^^^ gfMul x (gfEval x cs)

/-- The Lagrange weight at zero of the point `x` among `xs`. -/
def gfWeight (x : Byte) (xs : List Byte) : Byte :=
  xs.foldl (fun w y => if y = x then w else gfMul w (gfMul y (gfInv (y ^^^ x)))) 1

/-- The secret byte of shares (point, value). -/
def gfJoin (ps : List (Byte × Byte)) : Byte :=
  ps.foldl (fun acc p => acc ^^^ gfMul p.2 (gfWeight p.1 (ps.map Prod.fst))) 0

/-- Share `i` of a secret: byte by byte, `m − 1` random coefficients each taken from `rnd`. -/
def shareOf (m i : Nat) (secret rnd : Bytes) : Bytes :=
  (List.range secret.length).map (fun k =>
    gfEval (BitVec.ofNat 8 i) (secret.getD k 0 :: sub (k * (m - 1)) (m - 1) rnd))

/-- The secret of `n` bytes rebuilt from shares (index, bytes). -/
def joinShares (n : Nat) (shares : List (Nat × Bytes)) : Bytes :=
  (List.range n).map (fun k => gfJoin (shares.map (fun sh => (BitVec.ofNat 8 sh.1, sh.2.getD k 0))))

end Sys2Proof.Machine
end

