-- ==== Sys2Proof/Machine/KeyChecks.lean ====
section
/-! DEFINITION. What the engine can read from the bytes of a key, a point or a signature (R190, R204 to R208): the ranges, the curve
equations and the encodings of the standards the spec names. -/

namespace Sys2Proof.Machine

/-! ### The curves of FIPS 186-5 (R188) -/

/-- The prime, the coefficient b and the order of P-256, P-384 and P-521, whose equation is y² = x³ − 3x + b; and the coordinate's
bytes. -/
structure Curve where
  p : Nat
  b : Nat
  n : Nat
  bytes : Nat
  deriving DecidableEq, Repr

/-- P-256 -/
def p256 : Curve :=
  { p := 2 ^ 256 - 2 ^ 224 + 2 ^ 192 + 2 ^ 96 - 1,
    b := 0x5ac635d8aa3a93e7b3ebbd55769886bc651d06b0cc53b0f63bce3c3e27d2604b,
    n := 0xffffffff00000000ffffffffffffffffbce6faada7179e84f3b9cac2fc632551, bytes := 32 }

/-- P-384 -/
def p384 : Curve :=
  { p := 2 ^ 384 - 2 ^ 128 - 2 ^ 96 + 2 ^ 32 - 1,
    b := 0xb3312fa7e23ee7e4988e056be3f82d19181d9c6efe8141120314088f5013875ac656398d8a2ed19d2a85c8edd3ec2aef,
    n := 0xffffffffffffffffffffffffffffffffffffffffffffffffc7634d81f4372ddf581a0db248b0a77aecec196accc52973, bytes := 48 }

/-- P-521 -/
def p521 : Curve :=
  { p := 2 ^ 521 - 1,
    b := 0x0051953eb9618e1c9a1f929a21a0b68540eea2da725b99b315f3b8b489918ef109e156193951ec7e937b1652c0bd3bb1bf073573df883d2c34f1ef451fd46b503f00,
    n := 0x1fffffffffffffffffffffffffffffffffffffffffffffffffffffffffffffffffa51868783bf2f966b7fcc0148f709a5d03bb5c9b8899c47aebb6fb71e91386409,
    bytes := 66 }

/-- R188: the curve of an elliptic-curve ALG of either side. -/
def curveOf (alg : Nat) : Option Curve :=
  if alg = 0x20 ∨ alg = 0x28 then some p256
  else if alg = 0x21 ∨ alg = 0x29 then some p384
  else if alg = 0x22 ∨ alg = 0x2A then some p521
  else none

/-- R190, R205: an uncompressed point: the prefix 0x04, coordinates below the prime, on the curve. -/
def Curve.holds (c : Curve) (pt : Bytes) : Bool :=
  let x := beNat (sub 1 c.bytes pt)
  let y := beNat (sub (1 + c.bytes) c.bytes pt)
  pt.length == 1 + 2 * c.bytes && pt.getD 0 0 == 0x04 && decide (x < c.p) && decide (y < c.p) &&
    (y * y + 3 * x) % c.p == (x * x * x + c.b) % c.p

/-- R190, R205: a point is good for an elliptic-curve ALG of either side. -/
def pointOk (alg : Nat) (pt : Bytes) : Bool := ((curveOf alg).map (fun c => c.holds pt)).getD false

/-- R205: the shared secret with a peer's point; none for a point that is not on the curve. -/
def ecdhOf (alg : Nat) (d pt : Bytes) : Option Bytes := if pointOk alg pt then some (Config.ecdh alg d pt) else none

/-! ### Ed25519 (R190, R206) -/

/-- RFC 8032: the prime, the group order and the constant d of edwards25519. -/
def edP : Nat := 2 ^ 255 - 19
def edL : Nat := 2 ^ 252 + 27742317777372353535851937790883648493
def edD : Nat := 37095705934669439343138083508754565189542113879843219016388785533085940283555

/-- `b` to the power `e` modulo `m`, for `e` of at most `n` bits. -/
def powMod (m : Nat) : Nat → Nat → Nat → Nat
  | 0, _, _ => 1 % m
  | n + 1, b, e => (if e % 2 = 1 then b * powMod m n (b * b % m) (e / 2) else powMod m n (b * b % m) (e / 2)) % m

/-- R206: 32 bytes encode a point: y is below the prime, x² = (y² − 1) / (d y² + 1) has a root, and a root of zero has sign 0. -/
def edPointOk (b : Bytes) : Bool :=
  let v := leNat b
  let y := v % 2 ^ 255
  let u := (y * y + edP - 1) % edP
  let w := (edD * y * y + 1) % edP
  let x2 := u * powMod edP 255 w (edP - 2) % edP
  decide (y < edP) && (if x2 = 0 then decide (v < 2 ^ 255) else powMod edP 255 x2 ((edP - 1) / 2) == 1)

/-! ### ML-KEM and ML-DSA (R190, R208) -/

/-- R190: the modulus check of FIPS 203: every 12-bit coefficient of three bytes' pairs is below 3,329. -/
def coeffsOk : Nat → Bytes → Bool
  | n + 1, a :: b :: c :: rest =>
    let v := leNat [a, b, c]
    decide (v % 4096 < 3329) && decide (v / 4096 < 3329) && coeffsOk n rest
  | _, _ => true

/-- FIPS 204, by public ALG: bytes of the challenge; polynomials, bits of a coefficient and β of z; ω and polynomials of the hint. -/
def mlDsaShape (alg : Nat) : Nat × (Nat × Nat × Nat) × (Nat × Nat) :=
  if alg = 0x58 then (32, (4, 18, 78), (80, 4)) else if alg = 0x59 then (48, (5, 20, 196), (55, 6)) else (64, (7, 20, 120), (75, 8))

/-- R208: no coefficient γ1 − v of z, with γ1 = 2^(bits − 1), reaches γ1 − β. -/
def zOk (bits beta count : Nat) (z : Bytes) : Bool :=
  let v := leNat z
  (List.range count).all (fun i =>
    let c := v / 2 ^ (bits * i) % 2 ^ bits
    decide (beta < c) && decide (c < 2 ^ bits - beta))

/-- FIPS 204, HintBitUnpack: positions rise within a polynomial. -/
def rises : Bytes → Bool
  | a :: b :: l => decide (a.toNat < b.toNat) && rises (b :: l)
  | _ => true

/-- R208: the hint is well formed: the ends of the polynomials do not fall or pass ω, the positions of each rise, and what is left of
the positions is zero. -/
def hintOk (omega : Nat) (pos : Bytes) : Nat → Bytes → Bool
  | i, e :: l => decide (i ≤ e.toNat) && decide (e.toNat ≤ omega) && rises (sub i (e.toNat - i) pos) && hintOk omega pos e.toNat l
  | i, [] => (pos.drop i).all (fun b => b == 0)

/-- R208: an ML-DSA signature's hint and z are as FIPS 204 requires. -/
def mlDsaSigOk (alg : Nat) (sig : Bytes) : Bool :=
  let (cl, (l, bits, beta), (omega, k)) := mlDsaShape alg
  let zl := l * 32 * bits
  let h := sig.drop (cl + zl)
  zOk bits beta (256 * l) (sub cl zl sig) && hintOk omega (h.take omega) 0 (sub omega k h)

/-! ### Verdicts that need no arithmetic of the engine (R204 to R206, R208) -/

/-- R204 to R206, R208: what must hold of a signature under public material before its equation is tried; where it does not, the
verdict is AUTH_FAIL. -/
def sigOk (alg len : Nat) (mat sig : Bytes) : Bool :=
  if alg = 0x11 then
    let v := beNat sig
    decide (v ≠ 0) && decide (v < beNat (mat.take (len / 8)))
  else match curveOf alg with
    | some c =>
      let r := beNat (sig.take c.bytes)
      let v := beNat (sig.drop c.bytes)
      decide (r ≠ 0) && decide (v ≠ 0) && decide (r < c.n) && decide (v < c.n)
    | none =>
      if alg = 0x38 then edPointOk (sig.take 32) && decide (leNat (sig.drop 32) < edL)
      else if 0x58 ≤ alg ∧ alg ≤ 0x5A then mlDsaSigOk alg sig
      else true

/-! ### Keys (R190) -/

/-- R190: an RSA public key n ‖ e: n odd and exactly LEN bits long, e odd and at least `low`. -/
def rsaPubOk (len low : Nat) (mat : Bytes) : Bool :=
  let k := len / 8
  let n := beNat (mat.take k)
  let e := leNat (sub k 4 mat)
  n % 2 == 1 && decide (2 ^ (len - 1) ≤ n) && decide (n < 2 ^ len) && decide (low ≤ e) && e % 2 == 1

/-- R190: an RSA private key n ‖ e ‖ p ‖ q ‖ dp ‖ dq ‖ qinv: p × q = n and the CRT values fit. -/
def rsaPrivOk (len : Nat) (mat : Bytes) : Bool :=
  let k := len / 8
  let h := k / 2
  let e := leNat (sub k 4 mat)
  let v (i : Nat) : Nat := beNat (sub (k + 4 + h * i) h mat)
  rsaPubOk len 65537 mat && v 0 * v 1 == beNat (mat.take k) && decide (v 2 < v 0) && decide (v 3 < v 1) && decide (v 4 < v 0) &&
    e * v 2 % (v 0 - 1) == 1 && e * v 3 % (v 1 - 1) == 1 && v 4 * v 1 % v 0 == 1

/-- R190: what the engine checks of asymmetric material, the pairwise test apart. The scalar of an Ed25519 seed is RFC 8032's, taken
modulo the group order; the parameter sets of stateful keys are R245's. -/
def keyValid (alg len : Nat) (mat : Bytes) : Bool :=
  if alg = 0x10 then rsaPrivOk len mat
  else if alg = 0x11 then rsaPubOk len 3 mat
  else if alg = 0x20 ∨ alg = 0x21 ∨ alg = 0x22 then
    ((curveOf alg).map (fun c => decide (1 ≤ beNat mat) && decide (beNat mat < c.n))).getD false
  else if alg = 0x28 ∨ alg = 0x29 ∨ alg = 0x2A then pointOk alg mat
  else if alg = 0x30 then decide (1 ≤ Config.edScalar mat)
  else if alg = 0x48 ∨ alg = 0x49 ∨ alg = 0x4A then coeffsOk mat.length (mat.take (mat.length - 32))
  else true

end Sys2Proof.Machine
end

