-- ==== Sys2Proof/Machine/State.lean ====
section
/-! DEFINITION. The state of the Q-4800 as plain data: everything the spec gives the device, the queue of waiting
commands, the reasons a step can stop, and the state right after reset. Each field cites the rule that names it.
A default value after `:=` is the field's value at reset; notes/assumptions/2.md names those the spec does not give. -/

namespace Sys2Proof.Machine

/-- A fetched job: its queue and the ring index of its descriptor. -/
abbrev JobId := Nat × BitVec 32

/-- R29: the power modes. -/
inductive PowerMode where
  | serving | standby | vault | halted
  deriving DecidableEq, Repr

/-- R247: the states of secure time. -/
inductive TimeState where
  | unset | locked | holdover
  deriving DecidableEq, Repr

/-- R246 to R248: secure time and what disciplines it. `mono` counts nanoseconds since the model began and orders timers. -/
structure Clock where
  mono : Nat := 0
  /-- R246: secure time, ns of the PTP timescale -/
  secure : Nat := 0
  state : TimeState := .unset
  /-- R247: the bound at the entry of HOLDOVER, or the source's mean path delay while LOCKED -/
  errBase : Nat := 0
  holdFrom : Nat := 0
  /-- R247: secure time of the last calibration of the vault clock, none when never -/
  calibratedAt : Option Nat := none
  /-- R247: the correction that calibration found and the vault holds: what secure time then lacked of PTP, ns -/
  correction : Int := 0
  /-- R261: 0 none, 1 port A, 2 port B -/
  source : Nat := 0
  /-- R261: the secure time at which LOCKED was last left -/
  lastLock : Nat := 0
  /-- R246: currentUtcOffset last received, s -/
  utcOffset : Int := 0
  /-- R247: consecutive Sync intervals below 1 µs, per port -/
  runA : Nat := 0
  runB : Nat := 0
  /-- R247: mono time of the last PTP message, per port -/
  lastPtpA : Nat := 0
  lastPtpB : Nat := 0
  /-- R248: correction still to be slewed, ns; and the tick within 2,000 at 500 ppm -/
  slew : Int := 0
  slewPhase : Nat := 0
  /-- R248: while UNSET, the offset last measured on each port, ns -/
  provA : Int := 0
  provB : Int := 0
  /-- R247: the mean path delay last measured on each port, ns -/
  delayA : Nat := 0
  delayB : Nat := 0
  deriving DecidableEq, Repr

/-- R402: a feed switchover under way. `bySelect` for a SELECT; `step` 1 deglitch, 2 gate off, 4 load carried. -/
structure Switchover where
  target : Nat
  step : Nat
  bySelect : Bool
  startedAt : Nat
  pausedAt : Nat
  deriving DecidableEq, Repr

/-- R403: the outputs that hold their last value during a switchover. -/
structure Outputs where
  /-- the level driven on each GPIO pin, none where its driver is off -/
  pins : List (Option Bool)
  /-- TAMPER_ALERT, CARD_PWR_EN[3:0], CH_PWR_EN[7:0] -/
  alert : Bool
  cardPower : List Bool
  chPower : List Bool
  deriving DecidableEq, Repr

/-- R29, R362, R401 to R404: power modes, feeds and the cold start. Feed 0 is A, feed 1 is B. -/
structure Power where
  mode : PowerMode := .vault
  /-- R362 step 8: the control cores are released -/
  coresUp : Bool := false
  /-- R362 step 11 -/
  serviceBegun : Bool := false
  /-- R31: the STANDBY request being drained (queue, index) -/
  standbyReq : Option JobId := none
  /-- R33: the SERVING request whose exit runs (queue, index); a takeover exit has no request -/
  standbyExit : Option (Option JobId) := none
  /-- R355: the transition whose completion starts RESET_NOW's 10 ms, and the mono time at which they end -/
  resetBy : Option JobId := none
  resetAt : Option Nat := none
  goodA : Bool := false
  goodB : Bool := false
  mvA : Nat := 0
  mvB : Nat := 0
  /-- R402: the feed has been seen below LOW -/
  lowA : Bool := true
  lowB : Bool := true
  active : Nat := 0
  gateA : Bool := false
  gateB : Bool := false
  /-- R402: tiles paused -/
  paused : Bool := false
  switching : Option Switchover := none
  /-- R403: the outputs held while a switchover runs -/
  heldOut : Option Outputs := none
  /-- R404: mono time since which the preferred feed has been good while the other carries the load -/
  returnSince : Option Nat := none
  /-- R409 PWR_LAST: units of 0.1 µs -/
  lastSwitch : Nat := 0
  lastPause : Nat := 0
  /-- R371 LCY_COLD: step 1 of R362, and the two durations in ms -/
  coldAt : Nat := 0
  serviceMs : Nat := 0
  kilnMs : Nat := 0
  deriving DecidableEq, Repr

/-- R405, R406: the thermal guard. Temperatures in °C; the integrator in °C·s. -/
structure Thermal where
  encA : Int := 0
  encB : Int := 0
  faultA : Bool := false
  faultB : Bool := false
  integ : Int := 0
  htrDuty : Nat := 0
  fanDuty : Nat := 0
  rpm : Nat := 0
  stalled : Bool := false
  /-- R387: the ten die sensors, courses 0 to 5, control, seal, transport, vault -/
  die : List Int := [0, 0, 0, 0, 0, 0, 0, 0, 0, 0]
  /-- R409 BELOW_SETPOINT: seconds T has lain below SETPOINT − 5 °C -/
  belowFor : Nat := 0
  deriving DecidableEq, Repr

/-- R37, R39: one Ethernet port. -/
structure Port where
  linkUp : BitVec 4 := 0
  fecLock : BitVec 4 := 0
  linkDowns : Nat := 0
  retraining : Bool := false
  /-- R39: bytes in the 2 MiB receive buffer -/
  rxLevel : Nat := 0
  /-- R39: priorities paused by the far end, and priorities this port has paused -/
  paused : BitVec 8 := 0
  pauseSent : BitVec 8 := 0
  /-- R451: the header of the image whose port firmware the port runs -/
  fw : Bytes := []
  deriving DecidableEq, Repr

/-- R38, R412: an interface: port, number within it, MAC and service addresses, station addresses. -/
structure Iface where
  port : Nat
  num : Nat
  mac : Bytes := []
  /-- R38: at most 8 IPv4 addresses, in IPv4-mapped form, and 8 IPv6 addresses -/
  service : List Bytes := []
  stationMac : Bytes := []
  station : Bytes := []
  deriving DecidableEq, Repr

/-- R37 to R42: ports, interfaces and resolved host addresses. -/
structure Net where
  portA : Port := {}
  portB : Port := {}
  ifaces : List Iface :=
    [{ port := 0, num := 0 }, { port := 0, num := 1 }, { port := 0, num := 2 }, { port := 0, num := 3 },
     { port := 1, num := 0 }, { port := 1, num := 1 }, { port := 1, num := 2 }, { port := 1, num := 3 }]
  /-- R38: resolved host addresses (address, MAC), ascending by address -/
  arp : List (Bytes × Bytes) := []
  /-- R412, R423: this device carries the service addresses -/
  announces : Bool := true
  deriving DecidableEq, Repr

/-- R41: the requests the device issues. -/
inductive ReqKind where
  | readDesc | readPayload | readPage | write | completion | notice | frame | send | cas
  deriving DecidableEq, Repr

/-- R42, R71: an outstanding request of a queue. `cseq` is the completion sequence a completion WRITE carries, or the
highest event SEQ a SEND carries. -/
structure Req where
  psn : BitVec 24
  kind : ReqKind
  addr : Nat
  rkey : Nat
  len : Nat
  data : Bytes
  cseq : Nat := 0
  retries : Nat := 0
  rnrTries : Nat := 0
  rnrWait : Bool := false
  /-- R173: the ring index of the job whose payload a READ reads -/
  idx : BitVec 32 := 0
  /-- R42: the mono time at which it was last sent, or at which its RNR wait began -/
  at_ : Nat := 0
  deriving DecidableEq, Repr

/-- R61: a fetch READ under way: first ring index and count. -/
structure Fetch where
  first : BitVec 32
  count : Nat
  deriving DecidableEq, Repr

/-- R73: the current sealing offer of a queue: its number, ephemeral private material and payload. -/
structure Offer where
  id : Nat
  payload : Bytes
  kemKey : Bytes
  ecKey : Bytes
  deriving DecidableEq, Repr

/-- R74, R75: session keys and sequences of a sealed queue. -/
structure Session where
  toDevice : Bytes
  toHost : Bytes
  descSeq : Nat
  cplSeq : Nat
  deriving DecidableEq, Repr

/-- R75, R76: on a sealed queue, the keys to the device and to the host, and a descriptor sequence. -/
structure SealRef where
  toDevice : Bytes
  toHost : Bytes
  seq : Nat
  deriving DecidableEq, Repr

/-- R98: an entry held back for its successor: its opened bytes, none when its tag failed. -/
structure Held where
  idx : BitVec 32
  bytes : Option Bytes
  sealing : Option SealRef
  /-- R241, R448, R449: role and partition of the queue's session, ceremony and DUAL release found at its fetch -/
  actor : Nat × Nat := (0, 0)
  ceremonyOk : Bool := false
  dualOk : Bool := false
  deriving DecidableEq, Repr

/-- R45 to R58, R67, R81: a queue pair that is not ABSENT. STATE 1 READY, 2 SEALING, 3 SEALED, 4 ERROR, 5 DRAINING. -/
structure Qp where
  cfg : QpRec
  state : Nat
  devicePsn : BitVec 24
  hostPsn : BitVec 24
  dbRkey : Nat
  sqDoorbell : BitVec 32 := 0
  fetchIndex : BitVec 32 := 0
  cqDoorbell : BitVec 32 := 0
  cqPosted : BitVec 32 := 0
  /-- R418: the completion sequence below which every completion WRITE is acknowledged -/
  cqConfirmed : BitVec 32 := 0
  /-- R50: descriptors fetched whose completions are not yet written -/
  inFlight : Nat := 0
  refusals : BitVec 32 := 0
  cqStalls : BitVec 32 := 0
  sqBacklogMax : Nat := 0
  cqLevelMax : Nat := 0
  sealFails : BitVec 32 := 0
  dbBad : BitVec 32 := 0
  /-- R81, R82: latched notices, and whether each watermark is armed -/
  notices : BitVec 3 := 0
  armed : BitVec 3 := 7
  refusedSinceArm : Nat := 0
  regions : List Region := []
  fetches : List Fetch := []
  reqs : List Req := []
  /-- R42: READs that wait for one outstanding to end -/
  waitReads : List Req := []
  /-- R98: the entry held back for its successor; R96: the course in which its credit is held, none where that is the home course;
  entries fetched behind it that wait with it for credit in a new home course -/
  held : Option Held := none
  heldIn : Option Nat := none
  /-- R102: whether the last created entry can be a predecessor, and its chain length -/
  lastCreated : Option (BitVec 32) := none
  chainLen : Nat := 0
  /-- R103: the outcome of a predecessor (ring index, result) that completed before its successor's entry was created -/
  passed : Option (BitVec 32 × Result) := none
  /-- completions queued for writing, oldest first (R59) -/
  cpls : List Cpl := []
  offer : Option Offer := none
  session : Option Session := none
  /-- R73, R78: the keys that come into force with the completion of QP_SEAL_ESTABLISH -/
  nextSession : Option Session := none
  /-- R73: a QP_SEAL_ESTABLISH is fetched and not yet complete -/
  sealBusy : Bool := false
  homeCourse : Nat := 0
  /-- R96: the course to move to once the fetched jobs have completed -/
  newCourse : Option Nat := none
  /-- R39: send rate in units of 100 Mbit/s; the mono time of the last CNP sent -/
  rate : Nat := 4000
  cnpSentAt : Option Nat := none
  /-- R49: the QP_DESTROY job to complete when drained (queue, index) -/
  destroyBy : Option JobId := none
  /-- R68: removals waiting for jobs: region number, FETCH_INDEX at the removal, job -/
  removing : List (Nat × BitVec 32 × JobId) := []
  /-- R427: ring indices below which nothing is fetched again -/
  resumed : Bool := true
  deriving DecidableEq, Repr

/-- R99: the operand tokens an entry waits for. -/
inductive Tok where
  | context | payload | chain | entropy | key (slot : Nat)
  deriving DecidableEq, Repr

/-- R99, R144: a delivered key token: a key-cache reference of one tile, or a wrapped record (with its ancestors). -/
structure KeyTok where
  slot : Nat
  handle : Nat
  tile : Option Nat
  kr : KeyRec
  chain : List (Nat × KeyRec)
  /-- R263: order of delivery, device-wide -/
  seq : Nat := 0
  /-- R27, R144: the key's version (replacements committed) at delivery -/
  ver : Nat := 0
  /-- R257: the tile that holds, or may take, a lease of a stateful key -/
  lease : Option Nat := none
  deriving DecidableEq, Repr

/-- R136, R137: what one command brings to a batch, with the completion it gets at the commit point. -/
structure Entry where
  changes : List Change
  objs : List Obj
  job : Option JobId
  res : Result
  rewrap : Bool := false
  deriving DecidableEq, Repr

/-- Where a job stands. `committing`: its change waits for a commit point (R137). `blocked`: a management command in
progress waits for what it started. `done`: its completion is queued
and tokens it requested are still to come (R100). -/
inductive Phase where
  | waiting | ready | inHod (tile : Nat) | running (tile : Nat) | control | blocked | committing | done
  deriving DecidableEq, Repr

/-- R98, R99: a matching-store entry and the job it holds. In STANDBY a management job has no entry (R35). -/
structure Job where
  queue : Nat
  idx : BitVec 32
  part : Nat
  course : Nat
  entry : Option Nat
  /-- order of fetching, device-wide -/
  seq : Nat
  desc : Desc
  /-- R91: context ID and generation captured at the dispatch point, and the record captured -/
  ctx : Option CtxRec := none
  want : List Tok := []
  input : Bytes := []
  /-- R112: input bytes still to come as continuation packets -/
  streams : Bool := false
  keys : List KeyTok := []
  entropy : Bytes := []
  /-- operand storage not yet sent to the hod (R112) -/
  rest : Bytes := []
  /-- R103: the predecessor's output, until the chain token arrives -/
  chainIn : Option Bytes := none
  /-- R103: the successor takes the output -/
  chained : Bool := false
  /-- R100: the first error token received -/
  err : Option (Nat × Nat) := none
  phase : Phase := .waiting
  /-- R52: the tile that runs or ran the job, 0xFF for none -/
  tile : Nat := 0xFF
  /-- R75, R76: on a sealed queue, the keys to the device and to the host, and the descriptor sequence -/
  sealing : Option SealRef := none
  /-- order of readiness in the course's ready queue (R107) -/
  readySeq : Nat := 0
  /-- R241, R448, R449: what was found at fetch: the role and partition of the queue's session (0 none, 4 queue 0 of a device
  without an administrator), the ceremony held, and the DUAL partition released -/
  actor : Nat × Nat := (0, 0)
  ceremonyOk : Bool := false
  dualOk : Bool := false
  /-- R173, R176: the job streams or has streamed; output bytes it has written as it streams -/
  streamed : Bool := false
  outWritten : Nat := 0
  /-- R173: bytes of the input extent asked for by READs, and those that have arrived -/
  readTo : Nat := 0
  raw : Bytes := []
  /-- R174: the first pass's input of a job that reads it twice, once the second pass has begun -/
  firstPass : Option Bytes := none
  /-- R168: the value of COUNTER its leased IV holds -/
  counter : Option Nat := none
  /-- R171, R257: the owner (partition, or stateful key) of the lease the job waits for in its tile -/
  awaits : Option Nat := none
  /-- R251: the handle, page and record an OBJ_SEAL has made before it encrypts -/
  made : Option (Nat × Nat × KeyRec) := none
  /-- the result a tile has computed, waiting for JOB_END -/
  result : Option Result := none
  /-- R137: what the job brings to a commit batch when its tile ends it -/
  brings : Option Entry := none
  /-- R251: the slot reserved for an OBJ_SEAL (page, slot, class) -/
  reserved : Option (Nat × Nat × Nat) := none
  deriving DecidableEq, Repr

/-- R110, R111: a packet in a hod. KIND 0 job, 1 continuation, 2 wipe. -/
structure Packet where
  kind : Nat
  queue : Nat
  idx : BitVec 32
  words : Nat
  final : Bool
  error : Option Nat
  data : Bytes
  deriving DecidableEq, Repr

/-- R16, R18: the mortar link into a tile's hod: its data bits and end mark, request and acknowledge; the words the hod has
captured of the packet under way; the requester that holds the grant, with its packet, and those that wait. Requester 0 is
the trowel, 1 the transport or the operand storage, 2 the kiln's wipes. -/
structure Link where
  data : Bytes := []
  endMark : Bool := false
  req : Bool := false
  ack : Bool := false
  words : List (Bytes × Bool) := []
  grant : Option (Nat × Packet) := none
  waiting : List (Nat × Packet) := []
  deriving DecidableEq, Repr

/-- R144, R145: an entry (0 to 63) of a tile's key cache: one key version's unwrapped material; `stale` once a replacement or a
revocation has superseded it while a job pins it. -/
structure KeyCacheEntry where
  handle : Nat
  stale : Bool
  material : Bytes
  /-- R144: the version the material is of; R111: the entry's number -/
  ver : Nat := 0
  entry : Nat := 0
  /-- R146: the handles of its ancestors -/
  up : List Nat := []
  deriving DecidableEq, Repr

/-- R169, R257: a lease held by a tile: the partition, or the stateful key's handle; next value and end. -/
structure Lease where
  owner : Nat
  next : Nat
  stop : Nat
  deriving DecidableEq, Repr

/-- R184, R185: a slot of a plan: class 0 PUBLIC, 1 SECRET, 2 DEST; first word, a multiple of 8; words; whether it is in use. -/
structure PlanSlot where
  cls : Nat
  words : Nat
  live : Bool
  base : Nat := 0
  deriving DecidableEq, Repr

/-- R14, R105, R335: one crypto tile. STATE 0 eligible, 1 streaming, 2 draining, 3 drained, 4 quarantined,
5 in reset or self-test, 6 out of service. -/
structure Tile where
  num : Nat
  state : Nat := 5
  hod : List Packet := []
  link : Link := {}
  hodMax : Nat := 0
  /-- the running job (queue, index) -/
  job : Option JobId := none
  cache : List KeyCacheEntry := []
  leases : List Lease := []
  leaves : List Lease := []
  /-- R171: leases requested and not yet granted: partitions, handles -/
  wantLease : List Nat := []
  wantLeaf : List Nat := []
  plan : List PlanSlot := []
  /-- R184: operand memory, 64 KiB: the bytes other than zero, 8 to a word -/
  opMem : Mem := []
  /-- R184: single-bit operand-memory corrections -/
  corrected : Nat := 0
  /-- R200: yield points passed by the running job; an open window -/
  yields : Nat := 0
  window : Bool := false
  /-- R201: the long-integer job that a short job interrupts in the window -/
  held : Option JobId := none
  /-- R335: slot of the frame now running, and the mono time at which it began; the mono times at which the running job began,
  and the open window (R201) -/
  slotNow : Nat := 0
  slotAt : Nat := 0
  jobAt : Nat := 0
  windowAt : Nat := 0
  /-- R337: partition borrowing the tile -/
  borrower : Option Nat := none
  jobs : BitVec 32 := 0
  wipes : BitVec 32 := 0
  freq : Nat := 1600
  /-- R451: the tile runs microcode older than the running image -/
  oldUcode : Bool := false
  /-- R347: an action runs on the tile -/
  action : Bool := false
  deriving DecidableEq, Repr

/-- R338 to R344: a course: scratchpad memory, its test state, spare rows in use and conflict counts. -/
structure Course where
  num : Nat
  scratch : Mem := []
  /-- R347: 0 testing, 1 good, 2 repaired, 3 FAILED -/
  scrState : Nat := 0
  repaired : Nat := 0
  failBanks : BitVec 8 := 0
  /-- R343: counts of masters 0 to 8 -/
  conflicts : List (BitVec 32) := [0, 0, 0, 0, 0, 0, 0, 0, 0]
  /-- R340: for each bank the tile position port A granted last; the next one has priority -/
  bankLast : List Nat := [7, 7, 7, 7, 7, 7, 7, 7]
  /-- R115: the highest IN_USE and READY since the last read; the watermark's armed state -/
  inUseMax : Nat := 0
  readyMax : Nat := 0
  wmArmed : Bool := true
  /-- R95: first-level context cache: records, tagged by ID and generation, most recent first -/
  ctxCache : List CtxRec := []
  deriving DecidableEq, Repr

/-- R90 to R95: flow contexts. -/
structure Contexts where
  /-- bound records, ascending ID -/
  bound : List CtxRec := []
  /-- IDs unbound, with the last generation each carried, ascending -/
  last : List (Nat × Nat) := []
  /-- R91: superseded generations still held by jobs -/
  old : List CtxRec := []
  /-- R95: second-level cache -/
  cache2 : List CtxRec := []
  /-- R92: unbinds waiting for their jobs: ID, the job -/
  unbinding : List (Nat × JobId) := []
  deriving DecidableEq, Repr

/-- R141: where the loading of an object stands. -/
inductive Load where
  | unloaded | loading (frame : Nat) | fromPeer | loaded | unavailable
  deriving DecidableEq, Repr

/-- R126: a key page held in sealed memory. -/
structure KeyPage where
  part : Nat
  num : Nat
  recs : List KeyRec := []
  /-- R119: generation kept by free slots (slot, GEN), ascending, none at 0 -/
  kept : List (Nat × Nat) := []
  retired : List Nat := []
  /-- R251: slots reserved (first slot, size class) -/
  reserved : List (Nat × Nat) := []
  deriving DecidableEq, Repr

/-- R90, R127, R129: a persisted object that exists, once its parent is loaded: its committed frame (0 or 1), version,
sealing generation, the image digest its parent holds, and its load state. -/
structure ObjState where
  obj : Obj
  version : Nat
  kekGen : Nat
  frame : Nat
  digest : Bytes
  load : Load
  /-- R151, R288: what is known of an unloaded page that has been loaded before: that it has, the record classes that fit it, and the
  contexts it holds of each partition -/
  seen : Bool := false
  room : List Nat := []
  ctxs : List (Nat × Nat) := []
  deriving DecidableEq, Repr

/-- R133, R134: a persist notice written and not yet acknowledged. -/
structure Notice where
  seq : BitVec 32
  epoch : Nat
  obj : Obj
  region : Nat
  frame : Nat
  offset : Nat
  deriving DecidableEq, Repr

/-- R143, R148: a replacement whose commit point has not been reached. -/
structure Pending where
  handle : Nat
  queue : Nat
  idx : BitVec 32
  deriving DecidableEq, Repr

/-- R116 to R153: the key store. -/
structure KeyStore where
  pages : List KeyPage := []
  objs : List ObjState := []
  regions : List PRegion := []
  /-- R130: the persistence queue -/
  persistQ : Option Nat := none
  notices : List Notice := []
  /-- R134: frames waiting for ring space are written when acknowledgements arrive; watermark armed state -/
  wmArmed : Bool := true
  replacing : List Pending := []
  /-- R147: erases refused to new uses and not yet committed: handle, job -/
  erasing : List (Nat × JobId) := []
  /-- R146: revocations whose completion waits: handle, job, commit point passed, epoch -/
  revoking : List (Nat × JobId × Bool × Nat) := []
  /-- R132: region removals waiting: region, job -/
  removing : List (Nat × JobId) := []
  /-- R263: key tokens delivered so far -/
  tokSeq : Nat := 0
  /-- R27, R144: replacements committed (handle, count), none at 0 -/
  versions : List (Nat × Nat) := []
  commitMax : Nat := 0
  noticeMax : Nat := 0
  deriving DecidableEq, Repr

/-- R136, R137: a batch. `step` 1 to 4; `seq` is its mirror sequence (R415). -/
structure Batch where
  epoch : Nat
  step : Nat
  entries : List Entry
  objs : List Obj
  seq : Nat := 0
  root : Bytes := []
  /-- the images of its objects, and those whose frames are still to be written (R134) -/
  images : List (Obj × Bytes) := []
  left : List Obj := []
  deriving DecidableEq, Repr

/-- R136: the commit sequencer. -/
structure Commit where
  waiting : List Entry := []
  batches : List Batch := []
  /-- epoch of the batch opened last; none before the first batch after a cold start or takeover -/
  lastEpoch : Option Nat := none
  deriving DecidableEq, Repr

/-- R373 to R378: the vault SRAM's contents and flags. STATE by `vaultState`. -/
structure Vault where
  /-- R378: the hardware flag that the supply fell below retention, read and cleared by the kiln; and the state LOST, which stands
  until re-adoption or the next cold start -/
  supplyLost : Bool := true
  lost : Bool := true
  initTime : Nat := 0
  /-- 32 B, or all zero -/
  seed : Bytes := List.replicate 32 0
  /-- generation slots: KEK_GEN and the wrapped secret -/
  gens : List (Nat × Bytes) := []
  /-- R374: the two root slots: hash, epoch -/
  root0 : Bytes × Nat := ([], 0)
  root1 : Bytes × Nat := ([], 0)
  suiteArea : Bytes := []
  /-- R169: high-water marks (256 × course + partition, value), ascending, none at 0 -/
  hwms : List (Nat × Nat) := []
  stateful : List Stateful := []
  /-- R400: a custody-card adoption has shut every chain head but those made since, whose handles follow -/
  headsShut : Bool := false
  newHeads : List Nat := []
  campaign : Campaign := {}
  /-- R376: polarity bit of each 1 KiB block; block and word of a refresh under way -/
  polarity : BitVec 128 := 0
  refresh : Option (Nat × Nat) := none
  /-- R394: the pending-evidence latch, classes 0 to 3 -/
  latch : List Nat := [0, 0, 0, 0]
  /-- R390: the open episode: sources fired, actions performed, classes counted -/
  episode : Bool := false
  fired : BitVec 12 := 0
  performed : BitVec 6 := 0
  counted : List Nat := []
  /-- R394: records marked for ALERT delivery at the next power-up -/
  marked : List Event := []
  deriving DecidableEq, Repr

/-- R379 to R383: one backup cell. STATE 0 ABSENT, 1 GOOD, 2 LOW, 3 WEAK, 4 CHARGING, 5 OUT, 6 FAULT. -/
structure Cell where
  mv : Nat := 0
  state : Nat := 0
  rint : Nat := 0
  /-- remaining charge, µAh, as its coulomb counter has it, and the mono time of the counter's last reading while charging (R381) -/
  charge : Nat := 0
  gaugedAt : Option Nat := none
  /-- R383: mono time until which a removal fires no source -/
  holdUntil : Option Nat := none
  /-- R382: depassivation pulses drawn; a load test follows -/
  pulses : Option Nat := none
  testAfter : Bool := false
  testing : Bool := false
  constVolt : Bool := false
  deriving DecidableEq, Repr

/-- R384 to R397: the guard beside the vault's own record. -/
structure Guard where
  freeze : Bool := false
  active : BitVec 12 := 0
  /-- R390: mono time since which every fired source has been inactive -/
  quietSince : Option Nat := none
  counts : List Nat := [0, 0, 0, 0, 0, 0, 0, 0, 0, 0, 0, 0]
  /-- TAMPER_ALERT output -/
  alertPin : Bool := false
  /-- R395: class counts blown at the last cold start -/
  blown : List Nat := [0, 0, 0, 0]
  /-- R386: the mesh LFSRs, pairs mismatching now, switches in tamper position now and at the last sample -/
  lfsr : List (BitVec 16) := [0, 0, 0, 0, 0, 0, 0, 0]
  meshFault : BitVec 8 := 0
  encState : BitVec 4 := 0
  encLast : BitVec 4 := 0
  /-- R392: a purge has completed and the recovery pass has not -/
  recovering : Bool := false
  /-- R282: the entropy a purge asked for; R116, R368: vault key and identity secret held in the seal unit -/
  vaultKey : Bytes := []
  identity : Bytes := []
  /-- R379: the cell that holds, or would hold, the vault -/
  supply : Nat := 0
  cellA : Cell := {}
  cellB : Cell := {}
  /-- R395: ALERT records waiting for a memory channel -/
  queued : List Event := []
  /-- R501: VDD_IO18 has left its window since the last cold start: no fuse bit is blown -/
  io18Out : Bool := false
  /-- R20: islands whose clock the monitor last saw stopped -/
  stopped : List Nat := []
  deriving DecidableEq, Repr

/-- R287: what a frame of sealed memory holds. Frames are counted per channel; CACHE frames name their object. -/
structure CacheFrame where
  ch : Nat
  frame : Nat
  obj : Obj
  deriving DecidableEq, Repr

/-- R287: a WORK frame, held twice. KIND 0 spare frame of an object's new version, 1 directory, 2 superseded context,
3 log ring. -/
structure WorkFrame where
  kind : Nat
  ref : Nat
  chA : Nat
  frameA : Nat
  chB : Nat
  frameB : Nat
  /-- frames of the run, from each of the two; the copies known damaged: bit 0 the first, bit 1 the second (R289) -/
  count : Nat := 1
  bad : Nat := 0
  deriving DecidableEq, Repr

/-- R284: a counter line or tree node: level 0 is a counter line. -/
structure CtrLine where
  level : Nat
  num : Nat
  major : Nat
  minors : List Nat
  deriving DecidableEq, Repr

/-- R294: one memory channel. -/
structure Channel where
  num : Nat
  state : Nat := 6
  degraded : Bool := false
  reason : Nat := 0
  dimms : Nat := 0
  capLog2 : Nat := 0
  ranks : Nat := 0
  temp : Int := 0
  /-- R293: the refresh interval is halved; refresh and refresh-management commands issued -/
  halved : Bool := false
  refreshes : Nat := 0
  rfms : Nat := 0
  /-- R286 -/
  majorHwm : Nat := 0
  /-- R282, R298: MAJOR of every counter line and node not written since they were all written afresh -/
  fresh : Nat := 0
  ctrs : List CtrLine := []
  retired : List Nat := []
  ce : BitVec 32 := 0
  ue : BitVec 32 := 0
  /-- R291: within the patrol pass: corrected lines by (rank × 20 + position), UEs -/
  ceLines : List (Nat × Nat) := []
  uePass : Nat := 0
  failed : List Nat := []
  ecsMax : Nat := 0
  ecsDev : Nat := 0
  ecsRank : Nat := 0
  /-- R281: correctable error counts of the last pass are reported; R292: next block of the scrub -/
  scrubBlock : Nat := 0
  deriving DecidableEq, Repr

/-- R274 to R301: sealed memory. -/
structure Dram where
  channels : List Channel :=
    [{ num := 0 }, { num := 1 }, { num := 2 }, { num := 3 }, { num := 4 }, { num := 5 }, { num := 6 }, { num := 7 }]
  /-- R282: KE ‖ KM, or none before the draw and after a purge -/
  key : Option Bytes := none
  cacheFrames : List CacheFrame := []
  work : List WorkFrame := []
  /-- R288: objects in order of use, most recent first -/
  lru : List Obj := []
  /-- R285, R299: counter cache: (channel, level, number, changed since it was read); MAC cache: (channel, line, its bytes);
  most recent first -/
  ctrCache : List (Nat × Nat × Nat × Bool) := []
  macCache : List (Nat × Nat × Bytes) := []
  /-- R285: the data line the seal unit last used: channel, line, its decrypted bytes -/
  lastLine : Option (Nat × Nat × Bytes) := none
  /-- R295: the running channel action (ACTION, channel) -/
  action : Option (Nat × Nat) := none
  /-- R301: line reads waiting, line writes queued, and the mono time at which that number stood -/
  reads : Nat := 0
  writes : Nat := 0
  writesAt : Nat := 0
  readsMax : Nat := 0
  writesMax : Nat := 0
  wqArmed : Bool := true
  scrubPasses : Nat := 0
  selfRefresh : Bool := false
  deriving DecidableEq, Repr

/-- R302 to R307: an entropy source. STATE 0 OUT, 1 TESTING, 2 IN, 3 FAILED. -/
structure Source where
  num : Nat
  state : Nat := 0
  lastTest : Nat := 0
  intermittent : Nat := 0
  run : Nat := 0
  /-- R304: the trim applied at the source's last start-up test -/
  trim : Nat := 0x20
  /-- R318: a SOURCE_OUT takes effect at the end of the window -/
  leaving : Bool := false
  /-- R318: a passed SOURCE_IN contributes from the next block -/
  joining : Bool := false
  deriving DecidableEq, Repr

/-- R309 to R312: a partition's CTR_DRBG instance. -/
structure Instance where
  part : Nat
  /-- the internal state of SP 800-90A -/
  key : Bytes
  count : Nat := 0
  requests : Nat := 0
  reserve : Option Bytes := none
  stretching : Bool := false
  deriving DecidableEq, Repr

/-- R314: an entropy request that waits: partition, bytes, prediction resistance, the job it serves if any. -/
structure EntReq where
  part : Nat
  len : Nat
  pr : Bool
  job : Option JobId
  deriving DecidableEq, Repr

/-- R302 to R321: the entropy island. STATE 0 OFF, 1 STARTING, 2 RUNNING, 3 FAILED. -/
structure Entropy where
  state : Nat := 0
  failCause : Nat := 0
  compat : Bool := false
  /-- R303: the debiaser selections and budget in force: RO, ML, TN von Neumann; BUDGET in 0.2 Mbit/s -/
  debRo : Bool := false
  debMl : Bool := false
  debTn : Bool := false
  budget : Nat := 40
  sources : List Source := []
  /-- R308: bytes absorbed, and their assessed entropy in units of 0.05 bit -/
  absorbed : Bytes := []
  absorbedBits : Nat := 0
  pool : List Bytes := []
  instances : List Instance := []
  /-- R309: instantiation counts (partition, count) -/
  instCounts : List (Nat × Nat) := []
  /-- R311: next partition of the strict rotation -/
  rotation : Nat := 0
  waiting : List EntReq := []
  /-- R99: bits delivered and not yet taken by their job -/
  delivered : List (JobId × Bytes) := []
  /-- R318: the running action and its source -/
  action : Option (Nat × Nat) := none
  poolMin : Nat := 0
  waitMax : Nat := 0
  deriving DecidableEq, Repr

/-- R328: a partition record in use. -/
structure PartRec where
  num : Nat
  qpFirst : Nat
  qpLast : Nat
  dramSlots : Nat
  fetchSlots : Nat
  credit : List Nat
  quota : Nat
  logFrames : Nat
  scratch : List (Nat × Nat)
  deriving DecidableEq, Repr

/-- R328: a tile record. KIND 0 whole, 1 shared by slots, 2 out of service. -/
structure TileRec where
  owner : Nat := 0
  kind : Nat := 0
  yieldMask : BitVec 16 := 0
  yieldLen : Nat := 0
  slotLen : Nat := 0
  slots : List Nat := []
  deriving DecidableEq, Repr

/-- R328: the partition table. -/
structure Table where
  strict : Bool
  seq : Nat
  parts : List PartRec
  tiles : List TileRec
  deriving DecidableEq, Repr

/-- R333: a live control restart under way: the command's job, whether it recovers from a purge, and its step. -/
structure Restart where
  job : Option JobId
  opcode : Nat
  step : Nat
  /-- R333 step 3: tiles that change owner, kind or slots -/
  changed : List Nat
  startedAt : Nat
  deriving DecidableEq, Repr

/-- R322 to R337, R441, R442: the tables, what is staged, and the live restart. -/
structure Tables where
  /-- R65: the round-robin turn of each partition: the queue served last -/
  turns : List (Nat × Nat) := []
  table : Table
  sealed : Bool := false
  staged : Option Bytes := none
  /-- R441: the staged list: ADDRESS, VALUE, MASK -/
  list : Option (List (BitVec 32 × BitVec 32 × BitVec 32)) := none
  restart : Option Restart := none
  /-- R490: owner of each GPIO pin: feature 0 to 11, 14 general use, 15 none -/
  pins : List Nat := List.replicate 32 15
  deriving DecidableEq, Repr

/-- R348: a life-cycle slot: STATE, TARGET_A, TARGET_B. -/
structure LcSlot where
  state : BitVec 64 := 0
  targetA : BitVec 64 := 0
  targetB : BitVec 64 := 0
  deriving DecidableEq, Repr

/-- R348: the fuse array; every bit is 0 before it is blown. -/
structure Fuses where
  dus : Bytes := List.replicate 64 0
  dusCheck : Bytes := List.replicate 8 0
  serial : Nat := 0
  certDigest : Bytes := List.replicate 32 0
  slot0 : LcSlot := {}
  slot1 : LcSlot := {}
  slot2 : LcSlot := {}
  slot3 : LcSlot := {}
  owner0 : Bytes := List.replicate 32 0
  owner1 : Bytes := List.replicate 32 0
  owner2 : Bytes := List.replicate 32 0
  owner3 : Bytes := List.replicate 32 0
  hyRevoke : BitVec 8 := 0
  minSvn : Nat := 0
  evidence : List Nat := [0, 0, 0, 0]
  trim : Bytes := List.replicate 128 0
  deriving DecidableEq, Repr

/-- R365: the current debug, re-provision or session challenge. -/
structure Challenge where
  purpose : Nat
  slot : Nat
  nonce : Bytes
  body : Bytes
  ephKey : Bytes := []
  deriving DecidableEq, Repr

/-- R351 to R371: life cycle, boot and attestation. -/
structure Life where
  fuses : Fuses := {}
  /-- as decoded at the last cold start: state code, slot, pending target -/
  state : Nat := 0
  slot : Nat := 0
  dusBad : Bool := true
  certOk : Bool := false
  debug : Nat := 0
  scopes : Nat := 0
  erased : Bool := false
  challenge : Option Challenge := none
  meas : List Bytes := List.replicate 6 (List.replicate 64 0)
  bank : Nat := 0
  fallback : Bool := false
  fromCard : Bool := false
  failA : Nat := 0
  failB : Nat := 0
  /-- header of the running image, and its SVN and suites -/
  running : Bytes := []
  runSvn : Nat := 0
  suites : Nat := 2
  deriving DecidableEq, Repr

/-- R410 to R436: the pair. ROLE 0 UNPAIRED, 1 ACTIVE, 2 STANDBY, 3 FENCED; SYNC 0, 1, 2; PEER 0 ALIVE, 1 SUSPECT, 2 LOST. -/
structure Pair where
  role : Nat := 0
  sync : Nat := 0
  peer : Nat := 2
  /-- 0 none, 1 mirror link, 2 Ethernet -/
  path : Nat := 0
  secret : Bytes := []
  linkKey : Bytes := []
  fseq : Nat := 0
  lanes : BitVec 2 := 0
  lanesAt : Option Nat := none
  term : Nat := 0
  /-- the member known to be active -/
  holder : Nat := 0
  /-- R415, R416: last batch sent, acknowledged (active) or applied (standby) -/
  sent : Nat := 0
  acked : Nat := 0
  applied : Nat := 0
  missed : Nat := 0
  lastBeat : Nat := 0
  probing : Bool := false
  /-- R423: a witness CAS is outstanding: compare, swap; for PAIR_SWITCH and PAIR_BIND the job -/
  cas : Option (Nat × Nat × Option JobId) := none
  wasActive : Bool := false
  /-- R421: mono time since which the active reports SVC_LINK 0 -/
  svcLostAt : Option Nat := none
  peerSvc : Bool := false
  peerRole : Nat := 0
  peerSync : Nat := 0
  failing : Bool := false
  journal : List JEntry := []
  /-- R418: queues changed since the last TRANSPORT frames, and the standby's latest records -/
  dirty : List Nat := []
  transport : List TransportRec := []
  /-- R425, R426: last takeover, and the durations of R436 MIR_LAST, µs -/
  tookOverAt : Nat := 0
  toDecision : Nat := 0
  toResume : Nat := 0
  lagMax : Nat := 0
  journalMax : Nat := 0
  journalArmed : Bool := true
  /-- R432: the planned switch being drained -/
  switching : Option JobId := none
  deriving DecidableEq, Repr

/-- R446, R447: an open session, bound to a management queue. -/
structure MgmtSession where
  queue : Nat
  actor : Nat
  /-- the actor's P-384 public key, which SESSION_OPEN checked -/
  ecKey : Bytes
  ctk : Bytes
  lastUse : Nat
  deriving DecidableEq, Repr

/-- R449: the open ceremony. `shares`: SHAREs of the sessions joined, by queue. -/
structure Ceremony where
  num : Nat
  queue : Nat
  dual : Option Nat
  joined : List (Nat × Nat)
  begunAt : Nat
  /-- R482: the estate custody key, shares opened of it, and of generation secrets -/
  estateKey : Option Bytes := none
  shares : List (Nat × Bytes) := []
  genShares : List (Nat × Nat × Bytes) := []
  /-- R482: the generation secrets rebuilt, by KEK_GEN -/
  rebuilt : List (Nat × Bytes) := []
  deriving DecidableEq, Repr

/-- R238: an open component load. `comps`: number, custodian, bytes. -/
structure CompLoad where
  id : Nat
  part : Nat
  alg : Nat
  usage : Nat
  attr : BitVec 8
  domain : Nat
  parent : Nat
  count : Nat
  expect : Bytes
  comps : List (Nat × Nat × Bytes)
  begunAt : Nat
  deriving DecidableEq, Repr

/-- R446 to R453: actors, sessions, ceremonies, component loads and the staging buffer. -/
structure Mgmt where
  actors : List Actor := []
  m : Nat := 2
  n : Nat := 3
  sessionIdle : Nat := 600
  sessions : List MgmtSession := []
  /-- R447: challenge per queue -/
  challenges : List (Nat × Challenge) := []
  ceremony : Option Ceremony := none
  ceremonies : Nat := 0
  loads : List CompLoad := []
  loadCount : Nat := 0
  /-- R452: holder of the staging buffer: 0 none, 1 firmware, 2 card; and the staged image -/
  claim : Nat := 0
  image : Option Bytes := none
  /-- R443: the snapshot: CSEQ of each copy, whether each passes its checks, and what the copy in force holds -/
  cseqA : Nat := 0
  cseqB : Nat := 0
  goodA : Bool := false
  goodB : Bool := false
  fallback : Bool := false
  deriving DecidableEq, Repr

/-- R443: what a copy of the retained configuration holds. -/
structure Snapshot where
  regs : List (Nat × BitVec 32)
  table : Bytes
  boot : Bytes
  qps : List QpRec
  persistQ : Option Nat
  pairing : Option Pairing
  actors : List Actor
  m : Nat
  n : Nat
  sessionIdle : Nat
  deriving DecidableEq, Repr

/-- R459 to R468: an event ring. Rings 0 to 255 are partition regions, 256 the device log, 257 the vault ring. -/
structure Ring where
  num : Nat
  cap : Nat
  /-- records in ascending SEQ -/
  recs : List Event := []
  nextSeq : Nat := 0
  /-- R465: SEQ below which every record is read, and SEQ of the next record to send -/
  reader : Nat := 0
  next : Nat := 0
  /-- mono time at which the oldest waiting record was written -/
  waitSince : Option Nat := none
  queue : Option Nat := none
  mark : Option Nat := none
  markValid : Bool := false
  lost : BitVec 32 := 0
  /-- lost since the last delivery; a GAP to deliver after a rewind -/
  gap : Nat := 0
  rewindGap : Nat := 0
  drops : List (BitVec 32) := [0, 0, 0, 0, 0, 0, 0, 0]
  suppressed : BitVec 32 := 0
  levelMax : Nat := 0
  wmArmed : Bool := true
  evSeq : Nat := 0
  deriving DecidableEq, Repr

/-- R462: a token bucket; tokens in units of 1/10^9 of a token. -/
structure Bucket where
  ring : Nat
  code : Nat
  tokens : Nat
  at_ : Nat
  held : Nat
  last : Event
  deriving DecidableEq, Repr

/-- R456 to R470: the event recorder. -/
structure Recorder where
  rings : List Ring := []
  buckets : List Bucket := []
  deriving DecidableEq, Repr

/-- R471 to R486: a card port. STATE 0 EMPTY, 1 IDENTIFYING, 2 READY, 3 LOCKED, 4 BUSY, 5 FAILED, 6 OFF. -/
structure CardPort where
  num : Nat
  state : Nat := 0
  reason : Nat := 0
  mode : Nat := 0
  width : Nat := 0
  tap : Nat := 0
  power : Bool := false
  card : Option CardInfo := none
  /-- R472: CMD1 polls sent -/
  polls : Nat := 0
  /-- the running command's job, its opcode, phase (1 command, 2 data, 3 busy), copy and what it writes -/
  cmd : Option JobId := none
  cmdOp : Nat := 0
  phase : Nat := 0
  /-- R472, R476, R479: how far the step of the identification or of the running command has come -/
  step : Nat := 0
  copy : Nat := 0
  writing : Option CardCopy := none
  retries : Nat := 0
  /-- R474: clocks driven after the last response -/
  trailing : Nat := 0
  deriving DecidableEq, Repr

/-- R487: boot flash: bank images, certificate chain, the two bootstrap copies; a write under way. -/
structure Flash where
  bankA : Bytes := []
  bankB : Bytes := []
  chain : Bytes := []
  boot0 : Bytes := []
  boot1 : Bytes := []
  /-- the running write: job, 0 or 1 for a bank, 2 for the bootstrap record; the bytes -/
  writing : Option (JobId × Nat × Bytes) := none
  deriving DecidableEq, Repr

/-- R488: one regulator as last read. -/
structure Vrm where
  status : BitVec 16 := 0
  vout : Nat := 0
  iout : Nat := 0
  temp : Nat := 0
  misses : Nat := 0
  deriving DecidableEq, Repr

/-- R491: the JTAG port's instruction in force. -/
inductive JtagInstr where
  | bypass | idcode | samplePreload | identity | extest | clamp | highz | debugAccess
  deriving DecidableEq, Repr

/-- R471 to R494: cards, flash, PMBus, pins and JTAG. -/
structure Local where
  ports : List CardPort := [{ num := 0 }, { num := 1 }, { num := 2 }, { num := 3 }]
  flash : Flash := {}
  vrms : List Vrm := List.replicate 8 {}
  jtag : JtagInstr := .idcode
  /-- the data register the instruction selects, as its bits shift out -/
  jtagData : Bytes := []
  deriving DecidableEq, Repr

/-- What the device has put on a wire other than the RDMA requests of its queues. -/
inductive Frame where
  | arpReply (port iface : Nat) (target asker : Bytes)
  | arpAsk (addr : Bytes)
  | announce (port iface : Nat) (addr : Bytes)
  | cnp (q : Nat)
  | pause (port prio : Nat) (on : Bool)
  | nak (q syndrome : Nat)
  | heartbeat (hb : Heartbeat)
  | mirror (kind seq : Nat)
  | transport (recs : List TransportRec)
  | pageData (o : Obj) (found : Bool)
  | batchAck (seq : Nat)
  | clearFaults (rail : Nat)
  deriving DecidableEq, Repr

/-- The whole state. `regs` holds every stored register field under the key of R443 (`regKey` of Machine/RegFile.lean): settings, notices,
counters and maxima; `sel` the selectors of each management queue (R439). -/
structure State where
  /-- the commands that wait, first in, first out (the model's interface) -/
  pending : List Instr := []
  /-- the model's own counter of free values drawn (log entry 3) -/
  free : Nat := 0
  clock : Clock := {}
  power : Power := {}
  thermal : Thermal := {}
  net : Net := {}
  /-- queues not ABSENT, ascending number (R45) -/
  qps : List Qp := []
  /-- R84: highest QP_ACTIVE and RD_OUT since last read -/
  qpMax : Nat := 0
  rdMax : Nat := 0
  jobs : List Job := []
  jobSeq : Nat := 0
  readySeq : Nat := 0
  tiles : List Tile := []
  courses : List Course := []
  ctxs : Contexts := {}
  keys : KeyStore := {}
  commit : Commit := {}
  vault : Vault := {}
  guard : Guard := {}
  dram : Dram := {}
  ent : Entropy := {}
  tabs : Tables
  life : Life := {}
  pair : Pair := {}
  mgmt : Mgmt := {}
  /-- R443: the two copies of the retained configuration -/
  copyA : Option Snapshot := none
  copyB : Option Snapshot := none
  /-- R48: the bootstrap record in force -/
  boot : Bytes := []
  log : Recorder := {}
  io : Local := {}
  regs : List (Nat × BitVec 32) := []
  sel : List (Nat × BitVec 32) := []
  /-- frames put on wires, oldest first (the model's own trace) -/
  sent : List Frame := []
  deriving DecidableEq, Repr

/-- Why a step can stop with a fault. No command of this model stops: every rule gives its command an effect, so the type
has no constructor. -/
inductive Fault where
  deriving DecidableEq, Repr

/-- Why a step can be refused. -/
inductive Refusal where
  /-- raised by an arm of `exec` whose command has no meaning yet; safe -/
  | notModelled (mnemonic : String)
  deriving DecidableEq, Repr

/-- R330: the default partition table: partition 0 alone in use and all tiles whole. QUOTA is filled at the cold start. -/
def defaultTable : Table :=
  { strict := false, seq := 0,
    parts := [{ num := 0, qpFirst := 0, qpLast := 4095, dramSlots := 255, fetchSlots := 255,
                credit := [2048, 2048, 2048, 2048, 2048, 2048], quota := 0, logFrames := 1024,
                scratch := [(0, 255), (0, 255), (0, 255), (0, 255), (0, 255), (0, 255)] }],
    tiles := List.replicate 48 {} }

/-- The machine right after reset: a device whose fuses are all unblown, held in power-on reset before COLD_START, with no
feed good, an empty vault SRAM and every register at the default its field table gives (R10, R348, R378, R445). -/
def State.reset : State :=
  { tiles := (List.range 48).map (fun n => { num := n }),
    courses := (List.range 6).map (fun n => { num := n }),
    ent := { sources := (List.range 22).map (fun n => { num := n }) },
    tabs := { table := defaultTable } }

end Sys2Proof.Machine
end

