-- ==== Sys2Proof/Machine/Status.lean ====
section
/-! DEFINITION. The status codes (R12 and the codes the chapters add) and the opcodes of the descriptor families. -/

namespace Sys2Proof.Machine

/-- R12 DONE -/
abbrev Status.done : Nat := 0
/-- R12 AUTH_FAIL -/
abbrev Status.authFail : Nat := 0x0101
/-- R12 INVALID_INPUT -/
abbrev Status.invalidInput : Nat := 0x0102
/-- R12 ATTR_DENIED -/
abbrev Status.attrDenied : Nat := 0x0103
/-- R232 PIN_BLOCK_INVALID -/
abbrev Status.pinBlockInvalid : Nat := 0x0104
/-- R12 KEY_ABSENT -/
abbrev Status.keyAbsent : Nat := 0x0201
/-- R12 KEY_REVOKED -/
abbrev Status.keyRevoked : Nat := 0x0202
/-- R12 PARENT_REVOKED -/
abbrev Status.parentRevoked : Nat := 0x0203
/-- R12 HANDLE_RETIRED -/
abbrev Status.handleRetired : Nat := 0x0204
/-- R121 REPLACE_PENDING -/
abbrev Status.replacePending : Nat := 0x0205
/-- R121 VERIFY_FAIL -/
abbrev Status.verifyFail : Nat := 0x0206
/-- R121 PERSIST_FAULT -/
abbrev Status.persistFault : Nat := 0x0207
/-- R121 PAGE_UNAVAILABLE -/
abbrev Status.pageUnavailable : Nat := 0x0208
/-- R12 CONTEXT_ABSENT -/
abbrev Status.contextAbsent : Nat := 0x0301
/-- R12 REFUSED_FULL -/
abbrev Status.refusedFull : Nat := 0x0302
/-- R12 QUOTA_EXCEEDED -/
abbrev Status.quotaExceeded : Nat := 0x0303
/-- R94 GENERATION_STALE -/
abbrev Status.generationStale : Nat := 0x0304
/-- R94 CONTEXT_RETIRED -/
abbrev Status.contextRetired : Nat := 0x0305
/-- R94 CHAIN_BROKEN -/
abbrev Status.chainBroken : Nat := 0x0306
/-- R12 RNG_FAULT -/
abbrev Status.rngFault : Nat := 0x0401
/-- R12 ENGINE_FAULT -/
abbrev Status.engineFault : Nat := 0x0402
/-- R12 ABORTED -/
abbrev Status.aborted : Nat := 0x0403
/-- R12 FENCED -/
abbrev Status.fenced : Nat := 0x0501
/-- R12 LEASE_EXHAUSTED -/
abbrev Status.leaseExhausted : Nat := 0x0502
/-- R12 BUFFER_FAULT -/
abbrev Status.bufferFault : Nat := 0x0601
/-- R12 DESCRIPTOR_MALFORMED -/
abbrev Status.descriptorMalformed : Nat := 0x0602
/-- R12 CARD_REMOVED -/
abbrev Status.cardRemoved : Nat := 0x0603
/-- R12 BUSY -/
abbrev Status.busy : Nat := 0x0604
/-- R12 PIN_CONFLICT -/
abbrev Status.pinConflict : Nat := 0x0605
/-- R12 MARK_LOST -/
abbrev Status.markLost : Nat := 0x0606
/-- R69 OUTPUT_SHORT -/
abbrev Status.outputShort : Nat := 0x0607
/-- R69 SEAL_FAIL -/
abbrev Status.sealFail : Nat := 0x0608
/-- R475 CARD_FAULT -/
abbrev Status.cardFault : Nat := 0x0609
/-- R12 TAMPER_HALT -/
abbrev Status.tamperHalt : Nat := 0x0701

/-- CFG_READ -/
abbrev Op.cfgRead : Nat := 0x0010
/-- CFG_WRITE -/
abbrev Op.cfgWrite : Nat := 0x0011
/-- CFG_STAGE -/
abbrev Op.cfgStage : Nat := 0x0012
/-- CFG_APPLY -/
abbrev Op.cfgApply : Nat := 0x0013
/-- SESSION_CHALLENGE -/
abbrev Op.sessionChallenge : Nat := 0x0020
/-- SESSION_OPEN -/
abbrev Op.sessionOpen : Nat := 0x0021
/-- SESSION_CLOSE -/
abbrev Op.sessionClose : Nat := 0x0022
/-- CEREMONY_BEGIN -/
abbrev Op.ceremonyBegin : Nat := 0x0023
/-- CEREMONY_JOIN -/
abbrev Op.ceremonyJoin : Nat := 0x0024
/-- CEREMONY_END -/
abbrev Op.ceremonyEnd : Nat := 0x0025
/-- ACTOR_ENROL -/
abbrev Op.actorEnrol : Nat := 0x0026
/-- ACTOR_REMOVE -/
abbrev Op.actorRemove : Nat := 0x0027
/-- POWER_MODE_SET -/
abbrev Op.powerModeSet : Nat := 0x0040
/-- QP_CREATE -/
abbrev Op.qpCreate : Nat := 0x0100
/-- QP_DESTROY -/
abbrev Op.qpDestroy : Nat := 0x0101
/-- QP_QUERY -/
abbrev Op.qpQuery : Nat := 0x0102
/-- REGION_DECLARE -/
abbrev Op.regionDeclare : Nat := 0x0103
/-- REGION_REMOVE -/
abbrev Op.regionRemove : Nat := 0x0104
/-- CTX_BIND -/
abbrev Op.ctxBind : Nat := 0x0200
/-- CTX_REPLACE -/
abbrev Op.ctxReplace : Nat := 0x0201
/-- CTX_UNBIND -/
abbrev Op.ctxUnbind : Nat := 0x0202
/-- CTX_QUERY -/
abbrev Op.ctxQuery : Nat := 0x0203
/-- PERSIST_ATTACH -/
abbrev Op.persistAttach : Nat := 0x0300
/-- PERSIST_REGION_DECLARE -/
abbrev Op.persistRegionDeclare : Nat := 0x0301
/-- PERSIST_REGION_REMOVE -/
abbrev Op.persistRegionRemove : Nat := 0x0302
/-- COMPONENT_BEGIN -/
abbrev Op.componentBegin : Nat := 0x0400
/-- COMPONENT_ADD -/
abbrev Op.componentAdd : Nat := 0x0401
/-- COMPONENT_COMMIT -/
abbrev Op.componentCommit : Nat := 0x0402
/-- REPOINT_OPEN -/
abbrev Op.repointOpen : Nat := 0x0500
/-- REPOINT_QUERY -/
abbrev Op.repointQuery : Nat := 0x0501
/-- REPOINT_COMMIT -/
abbrev Op.repointCommit : Nat := 0x0502
/-- REPOINT_ABANDON -/
abbrev Op.repointAbandon : Nat := 0x0503
/-- PRT_STAGE -/
abbrev Op.prtStage : Nat := 0x0600
/-- PRT_APPLY -/
abbrev Op.prtApply : Nat := 0x0601
/-- PRT_QUERY -/
abbrev Op.prtQuery : Nat := 0x0602
/-- LCY_TRANSITION -/
abbrev Op.lcyTransition : Nat := 0x0700
/-- USER_ERASE -/
abbrev Op.userErase : Nat := 0x0701
/-- LCY_SVN_ADVANCE -/
abbrev Op.lcySvnAdvance : Nat := 0x0702
/-- DEBUG_CHALLENGE -/
abbrev Op.debugChallenge : Nat := 0x0703
/-- DEBUG_OPEN -/
abbrev Op.debugOpen : Nat := 0x0704
/-- TAMPER_CLEAR -/
abbrev Op.tamperClear : Nat := 0x0800
/-- VAULT_ADOPT -/
abbrev Op.vaultAdopt : Nat := 0x0801
/-- PAIR_BIND -/
abbrev Op.pairBind : Nat := 0x0900
/-- PAIR_QUERY -/
abbrev Op.pairQuery : Nat := 0x0901
/-- PAIR_UNBIND -/
abbrev Op.pairUnbind : Nat := 0x0902
/-- PAIR_UNFENCE -/
abbrev Op.pairUnfence : Nat := 0x0903
/-- PAIR_SWITCH -/
abbrev Op.pairSwitch : Nat := 0x0904
/-- FW_STAGE -/
abbrev Op.fwStage : Nat := 0x0A00
/-- FW_WRITE_BANK -/
abbrev Op.fwWriteBank : Nat := 0x0A01
/-- FW_ACTIVATE -/
abbrev Op.fwActivate : Nat := 0x0A02
/-- FW_RELEASE -/
abbrev Op.fwRelease : Nat := 0x0A03
/-- CARD_QUERY -/
abbrev Op.cardQuery : Nat := 0x0B00
/-- CARD_LOCK -/
abbrev Op.cardLock : Nat := 0x0B01
/-- CARD_UNLOCK -/
abbrev Op.cardUnlock : Nat := 0x0B02
/-- CARD_FORCE_ERASE -/
abbrev Op.cardForceErase : Nat := 0x0B03
/-- CARD_WRITE -/
abbrev Op.cardWrite : Nat := 0x0B04
/-- CARD_SHARE_OPEN -/
abbrev Op.cardShareOpen : Nat := 0x0B05
/-- ESTATE_CREATE -/
abbrev Op.estateCreate : Nat := 0x0B06
/-- BOOT_RECORD_WRITE -/
abbrev Op.bootRecordWrite : Nat := 0x0B07
/-- SYM_ENCRYPT -/
abbrev Op.symEncrypt : Nat := 0x1001
/-- SYM_DECRYPT -/
abbrev Op.symDecrypt : Nat := 0x1002
/-- MAC_GENERATE -/
abbrev Op.macGenerate : Nat := 0x1003
/-- MAC_VERIFY -/
abbrev Op.macVerify : Nat := 0x1004
/-- HASH -/
abbrev Op.hash : Nat := 0x1005
/-- SYM_REENCRYPT -/
abbrev Op.symReencrypt : Nat := 0x1006
/-- PK_SIGN -/
abbrev Op.pkSign : Nat := 0x2001
/-- PK_VERIFY -/
abbrev Op.pkVerify : Nat := 0x2002
/-- PK_ENCRYPT -/
abbrev Op.pkEncrypt : Nat := 0x2003
/-- PK_DECRYPT -/
abbrev Op.pkDecrypt : Nat := 0x2004
/-- KEY_AGREE -/
abbrev Op.keyAgree : Nat := 0x2005
/-- KEM_ENCAP -/
abbrev Op.kemEncap : Nat := 0x2006
/-- KEM_DECAP -/
abbrev Op.kemDecap : Nat := 0x2007
/-- PIN_TRANSLATE -/
abbrev Op.pinTranslate : Nat := 0x3001
/-- PIN_VERIFY -/
abbrev Op.pinVerify : Nat := 0x3002
/-- PIN_VALUE_GENERATE -/
abbrev Op.pinValueGenerate : Nat := 0x3003
/-- PAY_MAC_GENERATE -/
abbrev Op.payMacGenerate : Nat := 0x3004
/-- PAY_MAC_VERIFY -/
abbrev Op.payMacVerify : Nat := 0x3005
/-- VALUE_GENERATE -/
abbrev Op.valueGenerate : Nat := 0x3006
/-- VALUE_VERIFY -/
abbrev Op.valueVerify : Nat := 0x3007
/-- EMV_ARQC_VERIFY -/
abbrev Op.emvArqcVerify : Nat := 0x3008
/-- DUKPT_INIT_EXPORT -/
abbrev Op.dukptInitExport : Nat := 0x3009
/-- OBJ_SEAL -/
abbrev Op.objSeal : Nat := 0x4001
/-- OBJ_OPEN -/
abbrev Op.objOpen : Nat := 0x4002
/-- MANIFEST_BUILD -/
abbrev Op.manifestBuild : Nat := 0x4003
/-- MANIFEST_SIGN -/
abbrev Op.manifestSign : Nat := 0x4004
/-- CUSTODY_SIGN -/
abbrev Op.custodySign : Nat := 0x4005
/-- TIMESTAMP -/
abbrev Op.timestamp : Nat := 0x4006
/-- TIME_QUERY -/
abbrev Op.timeQuery : Nat := 0x4007
/-- CHAIN_APPEND -/
abbrev Op.chainAppend : Nat := 0x4008
/-- KEY_GENERATE -/
abbrev Op.keyGenerate : Nat := 0x5001
/-- KEY_IMPORT -/
abbrev Op.keyImport : Nat := 0x5002
/-- KEY_EXPORT -/
abbrev Op.keyExport : Nat := 0x5003
/-- KEY_REPLACE -/
abbrev Op.keyReplace : Nat := 0x5004
/-- KEY_REVOKE -/
abbrev Op.keyRevoke : Nat := 0x5005
/-- KEY_ERASE -/
abbrev Op.keyErase : Nat := 0x5006
/-- KEY_QUERY -/
abbrev Op.keyQuery : Nat := 0x5007
/-- KEY_PUBLIC -/
abbrev Op.keyPublic : Nat := 0x5008
/-- RNG_GENERATE -/
abbrev Op.rngGenerate : Nat := 0x6001
/-- RNG_STATUS -/
abbrev Op.rngStatus : Nat := 0x6002
/-- QUEUE_ECHO -/
abbrev Op.queueEcho : Nat := 0x7010
/-- QP_SEAL_OFFER -/
abbrev Op.qpSealOffer : Nat := 0x7011
/-- QP_SEAL_ESTABLISH -/
abbrev Op.qpSealEstablish : Nat := 0x7012
/-- ATTEST -/
abbrev Op.attest : Nat := 0x7013
/-- EVQ_ATTACH -/
abbrev Op.evqAttach : Nat := 0x7014
/-- EVQ_MARK -/
abbrev Op.evqMark : Nat := 0x7015
/-- EVQ_REWIND -/
abbrev Op.evqRewind : Nat := 0x7016

/-- R66 order 4: the opcodes the manual defines, ascending. -/
def definedOps : List Nat :=
  [0x0010, 0x0011, 0x0012, 0x0013, 0x0020, 0x0021, 0x0022, 0x0023, 0x0024, 0x0025,
   0x0026, 0x0027, 0x0040, 0x0100, 0x0101, 0x0102, 0x0103, 0x0104, 0x0200, 0x0201,
   0x0202, 0x0203, 0x0300, 0x0301, 0x0302, 0x0400, 0x0401, 0x0402, 0x0500, 0x0501,
   0x0502, 0x0503, 0x0600, 0x0601, 0x0602, 0x0700, 0x0701, 0x0702, 0x0703, 0x0704,
   0x0800, 0x0801, 0x0900, 0x0901, 0x0902, 0x0903, 0x0904, 0x0A00, 0x0A01, 0x0A02,
   0x0A03, 0x0B00, 0x0B01, 0x0B02, 0x0B03, 0x0B04, 0x0B05, 0x0B06, 0x0B07, 0x1001,
   0x1002, 0x1003, 0x1004, 0x1005, 0x1006, 0x2001, 0x2002, 0x2003, 0x2004, 0x2005,
   0x2006, 0x2007, 0x3001, 0x3002, 0x3003, 0x3004, 0x3005, 0x3006, 0x3007, 0x3008,
   0x3009, 0x4001, 0x4002, 0x4003, 0x4004, 0x4005, 0x4006, 0x4007, 0x4008, 0x5001,
   0x5002, 0x5003, 0x5004, 0x5005, 0x5006, 0x5007, 0x5008, 0x6001, 0x6002, 0x7010,
   0x7011, 0x7012, 0x7013, 0x7014, 0x7015, 0x7016]

end Sys2Proof.Machine
end

