-- ==== Sys2Proof/Machine/RegTable.lean ====
section
/-! DEFINITION. The registers of the configuration space (R84, R115, R153, R301, R321, R346, R371, R372, R408, R409, R436,
R455, R470, R493, R494): address, selector and fields, as the field tables give them (R8, R10). -/

namespace Sys2Proof.Machine

/-- R8: the access types. -/
inductive Acc where
  | rw | ro | w1c | w1s | rwl | kw
  deriving DecidableEq, Repr

/-- R10: the value after a reset. `retained d` takes the snapshot, else the default `d`. -/
inductive Restore where
  | retained (d : Nat) | fixed (v : Nat) | live
  deriving DecidableEq, Repr

/-- The values a field accepts (R438): any, a range, or a range of two's complement numbers. -/
inductive FieldRange where
  | any | within (lo hi : Nat) | signed (lo hi : Int)
  deriving DecidableEq, Repr

/-- A field of a register. -/
structure RegField where
  name : String
  hi : Nat
  lo : Nat
  acc : Acc
  rest : Restore
  range : FieldRange
  deriving DecidableEq, Repr

/-- A register: its address and, when it is shown through a selector, that selector's address. -/
structure RegDef where
  name : String
  addr : Nat
  sel : Option Nat
  fields : List RegField
  deriving DecidableEq, Repr

/-- The address of ID_PART. -/
abbrev Reg.idPart : Nat := 0x00000
/-- The address of ID_JTAG. -/
abbrev Reg.idJtag : Nat := 0x00004
/-- The address of ID_SERIAL_LO. -/
abbrev Reg.idSerialLo : Nat := 0x00008
/-- The address of ID_SERIAL_HI. -/
abbrev Reg.idSerialHi : Nat := 0x0000C
/-- The address of HQI_ID. -/
abbrev Reg.hqiId : Nat := 0x10000
/-- The address of HQI_CTRL. -/
abbrev Reg.hqiCtrl : Nat := 0x10004
/-- The address of HQI_PORTA_CFG. -/
abbrev Reg.hqiPortaCfg : Nat := 0x10010
/-- The address of HQI_PORTB_CFG. -/
abbrev Reg.hqiPortbCfg : Nat := 0x10014
/-- The address of HQI_PORTA_STAT. -/
abbrev Reg.hqiPortaStat : Nat := 0x10018
/-- The address of HQI_PORTB_STAT. -/
abbrev Reg.hqiPortbStat : Nat := 0x1001C
/-- The address of HQI_QOS. -/
abbrev Reg.hqiQos : Nat := 0x10020
/-- The address of HQI_CC. -/
abbrev Reg.hqiCc : Nat := 0x10024
/-- The address of HQI_TRANSPORT. -/
abbrev Reg.hqiTransport : Nat := 0x10028
/-- The address of HQI_FETCH. -/
abbrev Reg.hqiFetch : Nat := 0x1002C
/-- The address of HQI_PTP. -/
abbrev Reg.hqiPtp : Nat := 0x10030
/-- The address of HQI_WM_DEFAULT. -/
abbrev Reg.hqiWmDefault : Nat := 0x10034
/-- The address of HQI_NOTICE. -/
abbrev Reg.hqiNotice : Nat := 0x10040
/-- The address of HQI_LEVEL. -/
abbrev Reg.hqiLevel : Nat := 0x10044
/-- The address of HQI_LEVEL_MAX. -/
abbrev Reg.hqiLevelMax : Nat := 0x10048
/-- The address of HQI_REFUSALS. -/
abbrev Reg.hqiRefusals : Nat := 0x10050
/-- The address of HQI_SEAL_FAILS. -/
abbrev Reg.hqiSealFails : Nat := 0x10054
/-- The address of HQI_DB_BAD. -/
abbrev Reg.hqiDbBad : Nat := 0x10058
/-- The address of HQI_QP_ERRORS. -/
abbrev Reg.hqiQpErrors : Nat := 0x1005C
/-- The address of DSP_ID. -/
abbrev Reg.dspId : Nat := 0x20000
/-- The address of DSP_CTRL. -/
abbrev Reg.dspCtrl : Nat := 0x20004
/-- The address of DSP_CSEL. -/
abbrev Reg.dspCsel : Nat := 0x20008
/-- The address of DSP_MS_LEVEL. -/
abbrev Reg.dspMsLevel : Nat := 0x2000C
/-- The address of DSP_MS_LEVEL_MAX. -/
abbrev Reg.dspMsLevelMax : Nat := 0x20010
/-- The address of DSP_FLOWS. -/
abbrev Reg.dspFlows : Nat := 0x20014
/-- The address of DSP_CTX_HITS. -/
abbrev Reg.dspCtxHits : Nat := 0x20018
/-- The address of DSP_CTX_MISSES. -/
abbrev Reg.dspCtxMisses : Nat := 0x2001C
/-- The address of DSP_CTX_BOUND. -/
abbrev Reg.dspCtxBound : Nat := 0x20020
/-- The address of DSP_ERR_TOKENS. -/
abbrev Reg.dspErrTokens : Nat := 0x20024
/-- The address of DSP_NOTICE. -/
abbrev Reg.dspNotice : Nat := 0x20028
/-- The address of DSP_QSEL. -/
abbrev Reg.dspQsel : Nat := 0x20030
/-- The address of DSP_QCOURSE. -/
abbrev Reg.dspQcourse : Nat := 0x20034
/-- The address of DSP_PSEL. -/
abbrev Reg.dspPsel : Nat := 0x20038
/-- The address of DSP_CREDIT. -/
abbrev Reg.dspCredit : Nat := 0x2003C
/-- The address of DSP_TSEL. -/
abbrev Reg.dspTsel : Nat := 0x20040
/-- The address of DSP_HOD_STAT. -/
abbrev Reg.dspHodStat : Nat := 0x20044
/-- The address of KST_ID. -/
abbrev Reg.kstId : Nat := 0x30000
/-- The address of KST_CTRL. -/
abbrev Reg.kstCtrl : Nat := 0x30004
/-- The address of KST_STATUS. -/
abbrev Reg.kstStatus : Nat := 0x30008
/-- The address of KST_EPOCH_LO. -/
abbrev Reg.kstEpochLo : Nat := 0x3000C
/-- The address of KST_EPOCH_HI. -/
abbrev Reg.kstEpochHi : Nat := 0x30010
/-- The address of KST_PAGES. -/
abbrev Reg.kstPages : Nat := 0x30014
/-- The address of KST_UNLOADED. -/
abbrev Reg.kstUnloaded : Nat := 0x30018
/-- The address of KST_PSEL. -/
abbrev Reg.kstPsel : Nat := 0x3001C
/-- The address of KST_PART_PAGES. -/
abbrev Reg.kstPartPages : Nat := 0x30020
/-- The address of KST_COMMIT. -/
abbrev Reg.kstCommit : Nat := 0x30024
/-- The address of KST_COMMIT_MAX. -/
abbrev Reg.kstCommitMax : Nat := 0x30028
/-- The address of KST_NOTICE. -/
abbrev Reg.kstNotice : Nat := 0x30030
/-- The address of KST_CACHE_HITS. -/
abbrev Reg.kstCacheHits : Nat := 0x30034
/-- The address of KST_CACHE_MISSES. -/
abbrev Reg.kstCacheMisses : Nat := 0x30038
/-- The address of KST_BATCHES. -/
abbrev Reg.kstBatches : Nat := 0x3003C
/-- The address of TIL_ID. -/
abbrev Reg.tilId : Nat := 0x40000
/-- The address of TIL_TSEL. -/
abbrev Reg.tilTsel : Nat := 0x40004
/-- The address of TIL_STAT. -/
abbrev Reg.tilStat : Nat := 0x40008
/-- The address of TIL_CMD. -/
abbrev Reg.tilCmd : Nat := 0x4000C
/-- The address of TIL_JOBS. -/
abbrev Reg.tilJobs : Nat := 0x40010
/-- The address of TIL_WIPES. -/
abbrev Reg.tilWipes : Nat := 0x40014
/-- The address of TIL_CSEL. -/
abbrev Reg.tilCsel : Nat := 0x40020
/-- The address of TIL_SCR_STAT. -/
abbrev Reg.tilScrStat : Nat := 0x40024
/-- The address of TIL_SCR_CONF. -/
abbrev Reg.tilScrConf : Nat := 0x40028
/-- The address of TIL_NOTICE. -/
abbrev Reg.tilNotice : Nat := 0x4002C
/-- The address of SEM_ID. -/
abbrev Reg.semId : Nat := 0x50000
/-- The address of SEM_CTRL. -/
abbrev Reg.semCtrl : Nat := 0x50004
/-- The address of SEM_STATUS. -/
abbrev Reg.semStatus : Nat := 0x50008
/-- The address of SEM_CH_CMD. -/
abbrev Reg.semChCmd : Nat := 0x5000C
/-- The address of SEM_CSEL. -/
abbrev Reg.semCsel : Nat := 0x50010
/-- The address of SEM_CH_STATE. -/
abbrev Reg.semChState : Nat := 0x50014
/-- The address of SEM_CH_FRAMES. -/
abbrev Reg.semChFrames : Nat := 0x50018
/-- The address of SEM_CH_FREE. -/
abbrev Reg.semChFree : Nat := 0x5001C
/-- The address of SEM_CH_CE. -/
abbrev Reg.semChCe : Nat := 0x50020
/-- The address of SEM_CH_UE. -/
abbrev Reg.semChUe : Nat := 0x50024
/-- The address of SEM_CH_DEVFAIL. -/
abbrev Reg.semChDevfail : Nat := 0x50028
/-- The address of SEM_CH_ECS. -/
abbrev Reg.semChEcs : Nat := 0x5002C
/-- The address of SEM_SCRUB. -/
abbrev Reg.semScrub : Nat := 0x50030
/-- The address of SEM_REENC. -/
abbrev Reg.semReenc : Nat := 0x50034
/-- The address of SEM_MAC_FAILS. -/
abbrev Reg.semMacFails : Nat := 0x50038
/-- The address of SEM_NOTICE. -/
abbrev Reg.semNotice : Nat := 0x5003C
/-- The address of SEM_CACHE_HITS. -/
abbrev Reg.semCacheHits : Nat := 0x50040
/-- The address of SEM_CACHE_MISSES. -/
abbrev Reg.semCacheMisses : Nat := 0x50044
/-- The address of SEM_LEVEL. -/
abbrev Reg.semLevel : Nat := 0x50048
/-- The address of SEM_LEVEL_MAX. -/
abbrev Reg.semLevelMax : Nat := 0x5004C
/-- The address of ENT_ID. -/
abbrev Reg.entId : Nat := 0x60000
/-- The address of ENT_CTRL. -/
abbrev Reg.entCtrl : Nat := 0x60004
/-- The address of ENT_CMD. -/
abbrev Reg.entCmd : Nat := 0x60008
/-- The address of ENT_STATUS. -/
abbrev Reg.entStatus : Nat := 0x6000C
/-- The address of ENT_SRC_EN. -/
abbrev Reg.entSrcEn : Nat := 0x60010
/-- The address of ENT_SRC_HEALTHY. -/
abbrev Reg.entSrcHealthy : Nat := 0x60014
/-- The address of ENT_SSEL. -/
abbrev Reg.entSsel : Nat := 0x60018
/-- The address of ENT_SRC_STAT. -/
abbrev Reg.entSrcStat : Nat := 0x6001C
/-- The address of ENT_SRC_TRIM. -/
abbrev Reg.entSrcTrim : Nat := 0x60020
/-- The address of ENT_NOTICE. -/
abbrev Reg.entNotice : Nat := 0x60024
/-- The address of ENT_LEVEL. -/
abbrev Reg.entLevel : Nat := 0x60028
/-- The address of ENT_LEVEL_MAX. -/
abbrev Reg.entLevelMax : Nat := 0x6002C
/-- The address of ENT_INTERMITTENT. -/
abbrev Reg.entIntermittent : Nat := 0x60030
/-- The address of ENT_RESEEDS. -/
abbrev Reg.entReseeds : Nat := 0x60034
/-- The address of ENT_STRETCHED. -/
abbrev Reg.entStretched : Nat := 0x60038
/-- The address of PRT_ID. -/
abbrev Reg.prtId : Nat := 0x70000
/-- The address of PRT_CTRL. -/
abbrev Reg.prtCtrl : Nat := 0x70004
/-- The address of PRT_SEQ. -/
abbrev Reg.prtSeq : Nat := 0x70008
/-- The address of PRT_IN_USE0. -/
abbrev Reg.prtInUse0 : Nat := 0x70010
/-- The address of PRT_IN_USE1. -/
abbrev Reg.prtInUse1 : Nat := 0x70014
/-- The address of PRT_IN_USE2. -/
abbrev Reg.prtInUse2 : Nat := 0x70018
/-- The address of PRT_IN_USE3. -/
abbrev Reg.prtInUse3 : Nat := 0x7001C
/-- The address of PRT_IN_USE4. -/
abbrev Reg.prtInUse4 : Nat := 0x70020
/-- The address of PRT_IN_USE5. -/
abbrev Reg.prtInUse5 : Nat := 0x70024
/-- The address of PRT_IN_USE6. -/
abbrev Reg.prtInUse6 : Nat := 0x70028
/-- The address of PRT_IN_USE7. -/
abbrev Reg.prtInUse7 : Nat := 0x7002C
/-- The address of PRT_DIGEST0. -/
abbrev Reg.prtDigest0 : Nat := 0x70030
/-- The address of PRT_DIGEST1. -/
abbrev Reg.prtDigest1 : Nat := 0x70034
/-- The address of PRT_DIGEST2. -/
abbrev Reg.prtDigest2 : Nat := 0x70038
/-- The address of PRT_DIGEST3. -/
abbrev Reg.prtDigest3 : Nat := 0x7003C
/-- The address of PRT_DIGEST4. -/
abbrev Reg.prtDigest4 : Nat := 0x70040
/-- The address of PRT_DIGEST5. -/
abbrev Reg.prtDigest5 : Nat := 0x70044
/-- The address of PRT_DIGEST6. -/
abbrev Reg.prtDigest6 : Nat := 0x70048
/-- The address of PRT_DIGEST7. -/
abbrev Reg.prtDigest7 : Nat := 0x7004C
/-- The address of LCY_ID. -/
abbrev Reg.lcyId : Nat := 0x80000
/-- The address of LCY_STATE. -/
abbrev Reg.lcyState : Nat := 0x80004
/-- The address of LCY_BOOT. -/
abbrev Reg.lcyBoot : Nat := 0x80008
/-- The address of LCY_BANK. -/
abbrev Reg.lcyBank : Nat := 0x8000C
/-- The address of LCY_SVN. -/
abbrev Reg.lcySvn : Nat := 0x80010
/-- The address of LCY_COLD. -/
abbrev Reg.lcyCold : Nat := 0x80014
/-- The address of LCY_MSEL. -/
abbrev Reg.lcyMsel : Nat := 0x80018
/-- The address of LCY_MEAS. -/
abbrev Reg.lcyMeas : Nat := 0x8001C
/-- The address of LCY_NOTICE. -/
abbrev Reg.lcyNotice : Nat := 0x80020
/-- The address of VLT_ID. -/
abbrev Reg.vltId : Nat := 0x90000
/-- The address of VLT_STATUS. -/
abbrev Reg.vltStatus : Nat := 0x90004
/-- The address of VLT_SSEL. -/
abbrev Reg.vltSsel : Nat := 0x90008
/-- The address of VLT_SRC_CFG. -/
abbrev Reg.vltSrcCfg : Nat := 0x9000C
/-- The address of VLT_SRC_STAT. -/
abbrev Reg.vltSrcStat : Nat := 0x90010
/-- The address of VLT_ACTIVE. -/
abbrev Reg.vltActive : Nat := 0x90014
/-- The address of VLT_FIRED. -/
abbrev Reg.vltFired : Nat := 0x90018
/-- The address of VLT_RSEL. -/
abbrev Reg.vltRsel : Nat := 0x9001C
/-- The address of VLT_RAIL. -/
abbrev Reg.vltRail : Nat := 0x90020
/-- The address of VLT_TEMP. -/
abbrev Reg.vltTemp : Nat := 0x90024
/-- The address of VLT_PHYS. -/
abbrev Reg.vltPhys : Nat := 0x90028
/-- The address of VLT_CSEL. -/
abbrev Reg.vltCsel : Nat := 0x90030
/-- The address of VLT_CELL_CFG. -/
abbrev Reg.vltCellCfg : Nat := 0x90034
/-- The address of VLT_CELL_STAT. -/
abbrev Reg.vltCellStat : Nat := 0x90038
/-- The address of VLT_CELL_CHARGE. -/
abbrev Reg.vltCellCharge : Nat := 0x9003C
/-- The address of VLT_CELL_CMD. -/
abbrev Reg.vltCellCmd : Nat := 0x90040
/-- The address of VLT_LATCH. -/
abbrev Reg.vltLatch : Nat := 0x90044
/-- The address of VLT_EVIDENCE. -/
abbrev Reg.vltEvidence : Nat := 0x90048
/-- The address of VLT_NOTICE. -/
abbrev Reg.vltNotice : Nat := 0x9004C
/-- The address of PWR_ID. -/
abbrev Reg.pwrId : Nat := 0xA0000
/-- The address of PWR_CTRL. -/
abbrev Reg.pwrCtrl : Nat := 0xA0004
/-- The address of PWR_FEED_TH. -/
abbrev Reg.pwrFeedTh : Nat := 0xA0008
/-- The address of PWR_STATUS. -/
abbrev Reg.pwrStatus : Nat := 0xA000C
/-- The address of PWR_FEED_MV. -/
abbrev Reg.pwrFeedMv : Nat := 0xA0010
/-- The address of PWR_CMD. -/
abbrev Reg.pwrCmd : Nat := 0xA0014
/-- The address of PWR_SWITCHES. -/
abbrev Reg.pwrSwitches : Nat := 0xA0018
/-- The address of PWR_LAST. -/
abbrev Reg.pwrLast : Nat := 0xA001C
/-- The address of PWR_NOTICE. -/
abbrev Reg.pwrNotice : Nat := 0xA0020
/-- The address of THG_CTRL. -/
abbrev Reg.thgCtrl : Nat := 0xA0800
/-- The address of THG_PI. -/
abbrev Reg.thgPi : Nat := 0xA0804
/-- The address of THG_FAN. -/
abbrev Reg.thgFan : Nat := 0xA0808
/-- The address of THG_STATUS. -/
abbrev Reg.thgStatus : Nat := 0xA080C
/-- The address of THG_TACH. -/
abbrev Reg.thgTach : Nat := 0xA0810
/-- The address of THG_NOTICE. -/
abbrev Reg.thgNotice : Nat := 0xA0814
/-- The address of MIR_ID. -/
abbrev Reg.mirId : Nat := 0xB0000
/-- The address of MIR_CTRL. -/
abbrev Reg.mirCtrl : Nat := 0xB0004
/-- The address of MIR_STATUS. -/
abbrev Reg.mirStatus : Nat := 0xB0008
/-- The address of MIR_SEQ_LO. -/
abbrev Reg.mirSeqLo : Nat := 0xB000C
/-- The address of MIR_SEQ_HI. -/
abbrev Reg.mirSeqHi : Nat := 0xB0010
/-- The address of MIR_TERM. -/
abbrev Reg.mirTerm : Nat := 0xB0014
/-- The address of MIR_LAG. -/
abbrev Reg.mirLag : Nat := 0xB0018
/-- The address of MIR_LAG_MAX. -/
abbrev Reg.mirLagMax : Nat := 0xB001C
/-- The address of MIR_HB_MISSES. -/
abbrev Reg.mirHbMisses : Nat := 0xB0020
/-- The address of MIR_TAKEOVERS. -/
abbrev Reg.mirTakeovers : Nat := 0xB0024
/-- The address of MIR_LAST. -/
abbrev Reg.mirLast : Nat := 0xB0028
/-- The address of MIR_NOTICE. -/
abbrev Reg.mirNotice : Nat := 0xB002C
/-- The address of EVR_ID. -/
abbrev Reg.evrId : Nat := 0xC0000
/-- The address of EVR_CTRL. -/
abbrev Reg.evrCtrl : Nat := 0xC0004
/-- The address of EVR_FLOOD. -/
abbrev Reg.evrFlood : Nat := 0xC0008
/-- The address of EVR_RSEL. -/
abbrev Reg.evrRsel : Nat := 0xC000C
/-- The address of EVR_RING_STAT. -/
abbrev Reg.evrRingStat : Nat := 0xC0010
/-- The address of EVR_LEVEL. -/
abbrev Reg.evrLevel : Nat := 0xC0014
/-- The address of EVR_LEVEL_MAX. -/
abbrev Reg.evrLevelMax : Nat := 0xC0018
/-- The address of EVR_SEQ_LO. -/
abbrev Reg.evrSeqLo : Nat := 0xC001C
/-- The address of EVR_SEQ_HI. -/
abbrev Reg.evrSeqHi : Nat := 0xC0020
/-- The address of EVR_VSEL. -/
abbrev Reg.evrVsel : Nat := 0xC0024
/-- The address of EVR_DROPS. -/
abbrev Reg.evrDrops : Nat := 0xC0028
/-- The address of EVR_LOST. -/
abbrev Reg.evrLost : Nat := 0xC002C
/-- The address of EVR_SUPPRESSED. -/
abbrev Reg.evrSuppressed : Nat := 0xC0030
/-- The address of EVR_NOTICE. -/
abbrev Reg.evrNotice : Nat := 0xC0034
/-- The address of CRD_ID. -/
abbrev Reg.crdId : Nat := 0xD0000
/-- The address of CRD_PORT0_CFG. -/
abbrev Reg.crdPort0Cfg : Nat := 0xD0004
/-- The address of CRD_PORT1_CFG. -/
abbrev Reg.crdPort1Cfg : Nat := 0xD0008
/-- The address of CRD_PORT2_CFG. -/
abbrev Reg.crdPort2Cfg : Nat := 0xD000C
/-- The address of CRD_PORT3_CFG. -/
abbrev Reg.crdPort3Cfg : Nat := 0xD0010
/-- The address of CRD_PSEL. -/
abbrev Reg.crdPsel : Nat := 0xD0014
/-- The address of CRD_PORT_STAT. -/
abbrev Reg.crdPortStat : Nat := 0xD0018
/-- The address of CRD_NOTICE. -/
abbrev Reg.crdNotice : Nat := 0xD001C
/-- The address of LIO_ID. -/
abbrev Reg.lioId : Nat := 0xE0000
/-- The address of LIO_GPIO_EN. -/
abbrev Reg.lioGpioEn : Nat := 0xE0004
/-- The address of LIO_GPIO_DIR. -/
abbrev Reg.lioGpioDir : Nat := 0xE0008
/-- The address of LIO_GPIO_OUT. -/
abbrev Reg.lioGpioOut : Nat := 0xE000C
/-- The address of LIO_GPIO_IN. -/
abbrev Reg.lioGpioIn : Nat := 0xE0010
/-- The address of LIO_ROUTE0. -/
abbrev Reg.lioRoute0 : Nat := 0xE0020
/-- The address of LIO_ROUTE1. -/
abbrev Reg.lioRoute1 : Nat := 0xE0024
/-- The address of LIO_ROUTE2. -/
abbrev Reg.lioRoute2 : Nat := 0xE0028
/-- The address of LIO_ROUTE3. -/
abbrev Reg.lioRoute3 : Nat := 0xE002C
/-- The address of LIO_ROUTE4. -/
abbrev Reg.lioRoute4 : Nat := 0xE0030
/-- The address of LIO_ROUTE5. -/
abbrev Reg.lioRoute5 : Nat := 0xE0034
/-- The address of LIO_ROUTE6. -/
abbrev Reg.lioRoute6 : Nat := 0xE0038
/-- The address of LIO_ROUTE7. -/
abbrev Reg.lioRoute7 : Nat := 0xE003C
/-- The address of LIO_ROUTE8. -/
abbrev Reg.lioRoute8 : Nat := 0xE0040
/-- The address of LIO_ROUTE9. -/
abbrev Reg.lioRoute9 : Nat := 0xE0044
/-- The address of LIO_ROUTE10. -/
abbrev Reg.lioRoute10 : Nat := 0xE0048
/-- The address of LIO_ROUTE11. -/
abbrev Reg.lioRoute11 : Nat := 0xE004C
/-- The address of LIO_PSEL. -/
abbrev Reg.lioPsel : Nat := 0xE0050
/-- The address of LIO_PIN_STAT. -/
abbrev Reg.lioPinStat : Nat := 0xE0054
/-- The address of LIO_PMB. -/
abbrev Reg.lioPmb : Nat := 0xE0058
/-- The address of LIO_VRM_LO. -/
abbrev Reg.lioVrmLo : Nat := 0xE005C
/-- The address of LIO_VRM_HI. -/
abbrev Reg.lioVrmHi : Nat := 0xE0060
/-- The address of LIO_NOTICE. -/
abbrev Reg.lioNotice : Nat := 0xE0064
/-- The address of CFG_ID. -/
abbrev Reg.cfgId : Nat := 0xF0000
/-- The address of CFG_STATUS. -/
abbrev Reg.cfgStatus : Nat := 0xF0004
/-- The address of CFG_CSEQ_LO. -/
abbrev Reg.cfgCseqLo : Nat := 0xF0008
/-- The address of CFG_CSEQ_HI. -/
abbrev Reg.cfgCseqHi : Nat := 0xF000C
/-- The address of CFG_TILES_OLD_LO. -/
abbrev Reg.cfgTilesOldLo : Nat := 0xF0010
/-- The address of CFG_TILES_OLD_HI. -/
abbrev Reg.cfgTilesOldHi : Nat := 0xF0014
/-- The address of CFG_NOTICE. -/
abbrev Reg.cfgNotice : Nat := 0xF0018

/-- The ID_ registers. -/
def regsId : List RegDef := [
  ⟨"ID_PART", 0x00000, none, [
    ⟨"PART", 15, 0, .ro, .fixed 0x4800, .any⟩,
    ⟨"VARIANT", 23, 16, .ro, .fixed 0x41, .any⟩,
    ⟨"SILICON", 27, 24, .ro, .live, .any⟩]⟩,
  ⟨"ID_JTAG", 0x00004, none, [
    ⟨"IDCODE", 31, 0, .ro, .live, .any⟩]⟩,
  ⟨"ID_SERIAL_LO", 0x00008, none, [
    ⟨"SERIAL", 31, 0, .ro, .live, .any⟩]⟩,
  ⟨"ID_SERIAL_HI", 0x0000C, none, [
    ⟨"SERIAL", 31, 0, .ro, .live, .any⟩]⟩]

/-- The HQI_ registers. -/
def regsHqi : List RegDef := [
  ⟨"HQI_ID", 0x10000, none, [
    ⟨"VERSION", 15, 0, .ro, .fixed 0x100, .any⟩,
    ⟨"QP_MAX", 31, 16, .ro, .fixed 0x1000, .any⟩]⟩,
  ⟨"HQI_CTRL", 0x10004, none, [
    ⟨"FETCH_EN", 0, 0, .rw, .retained 0x1, .any⟩,
    ⟨"SEALED_ONLY", 1, 1, .rwl, .retained 0x0, .any⟩]⟩,
  ⟨"HQI_PORTA_CFG", 0x10010, none, [
    ⟨"MODE", 2, 0, .rw, .retained 0x1, .within 0 4⟩,
    ⟨"FEC", 4, 3, .rw, .retained 0x0, .any⟩,
    ⟨"AN_EN", 5, 5, .rw, .retained 0x1, .any⟩,
    ⟨"LT_EN", 6, 6, .rw, .retained 0x1, .any⟩,
    ⟨"FRAME_MAX", 21, 8, .rw, .retained 0x2400, .within 1518 9216⟩]⟩,
  ⟨"HQI_PORTB_CFG", 0x10014, none, [
    ⟨"MODE", 2, 0, .rw, .retained 0x1, .within 0 4⟩,
    ⟨"FEC", 4, 3, .rw, .retained 0x0, .any⟩,
    ⟨"AN_EN", 5, 5, .rw, .retained 0x1, .any⟩,
    ⟨"LT_EN", 6, 6, .rw, .retained 0x1, .any⟩,
    ⟨"FRAME_MAX", 21, 8, .rw, .retained 0x2400, .within 1518 9216⟩]⟩,
  ⟨"HQI_PORTA_STAT", 0x10018, none, [
    ⟨"LINK_UP", 3, 0, .ro, .live, .any⟩,
    ⟨"FEC_LOCK", 7, 4, .ro, .live, .any⟩,
    ⟨"LINK_DOWNS", 15, 8, .ro, .live, .any⟩]⟩,
  ⟨"HQI_PORTB_STAT", 0x1001C, none, [
    ⟨"LINK_UP", 3, 0, .ro, .live, .any⟩,
    ⟨"FEC_LOCK", 7, 4, .ro, .live, .any⟩,
    ⟨"LINK_DOWNS", 15, 8, .ro, .live, .any⟩]⟩,
  ⟨"HQI_QOS", 0x10020, none, [
    ⟨"PFC_EN", 7, 0, .rw, .retained 0x8, .any⟩,
    ⟨"ROCE_PRIO", 10, 8, .rw, .retained 0x3, .any⟩,
    ⟨"CNP_PRIO", 13, 11, .rw, .retained 0x6, .any⟩,
    ⟨"ECN_EN", 14, 14, .rw, .retained 0x1, .any⟩,
    ⟨"ROCE_DSCP", 21, 16, .rw, .retained 0x1A, .any⟩,
    ⟨"CNP_DSCP", 27, 22, .rw, .retained 0x30, .any⟩]⟩,
  ⟨"HQI_CC", 0x10024, none, [
    ⟨"CNP_GAP", 11, 0, .rw, .retained 0x4, .any⟩,
    ⟨"RECOVER", 23, 12, .rw, .retained 0x37, .any⟩,
    ⟨"RATE_MIN", 31, 24, .rw, .retained 0xA, .any⟩]⟩,
  ⟨"HQI_TRANSPORT", 0x10028, none, [
    ⟨"ACK_TIMEOUT", 4, 0, .rw, .retained 0xC, .any⟩,
    ⟨"RETRY_CNT", 7, 5, .rw, .retained 0x7, .any⟩,
    ⟨"RNR_RETRY", 10, 8, .rw, .retained 0x7, .any⟩,
    ⟨"RNR_TIMER", 15, 11, .rw, .retained 0xE, .any⟩,
    ⟨"RD_DEPTH_MAX", 22, 16, .rw, .retained 0x10, .within 1 64⟩]⟩,
  ⟨"HQI_FETCH", 0x1002C, none, [
    ⟨"BATCH_MAX", 6, 0, .rw, .retained 0x10, .within 1 64⟩,
    ⟨"RD_DEVICE", 31, 16, .ro, .fixed 0x8000, .any⟩]⟩,
  ⟨"HQI_PTP", 0x10030, none, [
    ⟨"EN_A", 0, 0, .rw, .retained 0x0, .any⟩,
    ⟨"EN_B", 1, 1, .rw, .retained 0x0, .any⟩,
    ⟨"TRANSPORT", 3, 2, .rw, .retained 0x1, .within 0 2⟩,
    ⟨"DOMAIN", 11, 4, .rw, .retained 0x0, .any⟩,
    ⟨"IFACE", 13, 12, .rw, .retained 0x0, .any⟩]⟩,
  ⟨"HQI_WM_DEFAULT", 0x10034, none, [
    ⟨"SQ_PCT", 6, 0, .rw, .retained 0x4B, .within 1 100⟩,
    ⟨"CQ_PCT", 14, 8, .rw, .retained 0x4B, .within 1 100⟩,
    ⟨"REFUSE_STEP", 31, 16, .rw, .retained 0x400, .any⟩]⟩,
  ⟨"HQI_NOTICE", 0x10040, none, [
    ⟨"SQ_WM", 0, 0, .w1c, .live, .any⟩,
    ⟨"CQ_WM", 1, 1, .w1c, .live, .any⟩,
    ⟨"REFUSE_WM", 2, 2, .w1c, .live, .any⟩,
    ⟨"QP_ERROR", 3, 3, .w1c, .live, .any⟩,
    ⟨"SEAL_FAIL", 4, 4, .w1c, .live, .any⟩,
    ⟨"DB_BAD", 5, 5, .w1c, .live, .any⟩,
    ⟨"ORPHAN", 6, 6, .w1c, .live, .any⟩]⟩,
  ⟨"HQI_LEVEL", 0x10044, none, [
    ⟨"QP_ACTIVE", 12, 0, .ro, .live, .any⟩,
    ⟨"RD_OUT", 31, 16, .ro, .live, .any⟩]⟩,
  ⟨"HQI_LEVEL_MAX", 0x10048, none, [
    ⟨"QP_ACTIVE", 12, 0, .ro, .live, .any⟩,
    ⟨"RD_OUT", 31, 16, .ro, .live, .any⟩]⟩,
  ⟨"HQI_REFUSALS", 0x10050, none, [
    ⟨"COUNT", 31, 0, .ro, .live, .any⟩]⟩,
  ⟨"HQI_SEAL_FAILS", 0x10054, none, [
    ⟨"COUNT", 31, 0, .ro, .live, .any⟩]⟩,
  ⟨"HQI_DB_BAD", 0x10058, none, [
    ⟨"COUNT", 31, 0, .ro, .live, .any⟩]⟩,
  ⟨"HQI_QP_ERRORS", 0x1005C, none, [
    ⟨"COUNT", 31, 0, .ro, .live, .any⟩]⟩]

/-- The DSP_ registers. -/
def regsDsp : List RegDef := [
  ⟨"DSP_ID", 0x20000, none, [
    ⟨"COURSES", 7, 0, .ro, .fixed 0x6, .any⟩,
    ⟨"TILES", 15, 8, .ro, .fixed 0x8, .any⟩,
    ⟨"ENTRIES", 27, 16, .ro, .fixed 0x800, .any⟩]⟩,
  ⟨"DSP_CTRL", 0x20004, none, [
    ⟨"CHAIN_MAX", 4, 0, .rw, .retained 0x10, .within 2 16⟩,
    ⟨"MS_WM_PCT", 14, 8, .rw, .retained 0x5A, .within 1 100⟩]⟩,
  ⟨"DSP_CSEL", 0x20008, none, [
    ⟨"COURSE", 2, 0, .rw, .fixed 0x0, .within 0 5⟩]⟩,
  ⟨"DSP_MS_LEVEL", 0x2000C, some 0x20008, [
    ⟨"IN_USE", 11, 0, .ro, .live, .any⟩,
    ⟨"READY", 27, 16, .ro, .live, .any⟩]⟩,
  ⟨"DSP_MS_LEVEL_MAX", 0x20010, some 0x20008, [
    ⟨"IN_USE", 11, 0, .ro, .live, .any⟩,
    ⟨"READY", 27, 16, .ro, .live, .any⟩]⟩,
  ⟨"DSP_FLOWS", 0x20014, some 0x20008, [
    ⟨"ACTIVE", 11, 0, .ro, .live, .any⟩]⟩,
  ⟨"DSP_CTX_HITS", 0x20018, none, [
    ⟨"COUNT", 31, 0, .ro, .live, .any⟩]⟩,
  ⟨"DSP_CTX_MISSES", 0x2001C, none, [
    ⟨"COUNT", 31, 0, .ro, .live, .any⟩]⟩,
  ⟨"DSP_CTX_BOUND", 0x20020, none, [
    ⟨"BOUND", 22, 0, .ro, .live, .any⟩]⟩,
  ⟨"DSP_ERR_TOKENS", 0x20024, none, [
    ⟨"COUNT", 31, 0, .ro, .live, .any⟩]⟩,
  ⟨"DSP_NOTICE", 0x20028, none, [
    ⟨"MS_WM", 0, 0, .w1c, .live, .any⟩,
    ⟨"CTX_RETIRED", 1, 1, .w1c, .live, .any⟩,
    ⟨"HOD_DISCARD", 2, 2, .w1c, .live, .any⟩,
    ⟨"CHAIN_BROKEN", 3, 3, .w1c, .live, .any⟩]⟩,
  ⟨"DSP_QSEL", 0x20030, none, [
    ⟨"QUEUE", 11, 0, .rw, .fixed 0x0, .any⟩]⟩,
  ⟨"DSP_QCOURSE", 0x20034, some 0x20030, [
    ⟨"COURSE", 2, 0, .rw, .retained 0x0, .within 0 5⟩,
    ⟨"PENDING", 3, 3, .ro, .live, .any⟩]⟩,
  ⟨"DSP_PSEL", 0x20038, none, [
    ⟨"PARTITION", 7, 0, .rw, .fixed 0x0, .any⟩]⟩,
  ⟨"DSP_CREDIT", 0x2003C, some 0x20038, [
    ⟨"CREDIT", 11, 0, .ro, .live, .any⟩,
    ⟨"IN_USE", 27, 16, .ro, .live, .any⟩]⟩,
  ⟨"DSP_TSEL", 0x20040, none, [
    ⟨"TILE", 5, 0, .rw, .fixed 0x0, .within 0 47⟩]⟩,
  ⟨"DSP_HOD_STAT", 0x20044, some 0x20040, [
    ⟨"LEVEL", 5, 0, .ro, .live, .any⟩,
    ⟨"PACKETS", 11, 6, .ro, .live, .any⟩,
    ⟨"LEVEL_MAX", 17, 12, .ro, .live, .any⟩,
    ⟨"STATE", 19, 18, .ro, .live, .any⟩]⟩]

/-- The KST_ registers. -/
def regsKst : List RegDef := [
  ⟨"KST_ID", 0x30000, none, [
    ⟨"DEPTH_MAX", 7, 0, .ro, .fixed 0x6, .any⟩,
    ⟨"CACHE_ENTRIES", 15, 8, .ro, .fixed 0x40, .any⟩,
    ⟨"FORMAT", 31, 16, .ro, .fixed 0x1, .any⟩]⟩,
  ⟨"KST_CTRL", 0x30004, none, [
    ⟨"BATCH_PAGES", 7, 0, .rw, .retained 0x40, .within 1 255⟩,
    ⟨"PERSIST_WM_PCT", 14, 8, .rw, .retained 0x4B, .within 1 100⟩]⟩,
  ⟨"KST_STATUS", 0x30008, none, [
    ⟨"ATTACHED", 0, 0, .ro, .live, .any⟩,
    ⟨"PERSIST_QUEUE", 12, 1, .ro, .live, .any⟩,
    ⟨"LOADING", 13, 13, .ro, .live, .any⟩,
    ⟨"MIRRORED", 14, 14, .ro, .live, .any⟩]⟩,
  ⟨"KST_EPOCH_LO", 0x3000C, none, [
    ⟨"EPOCH", 31, 0, .ro, .live, .any⟩]⟩,
  ⟨"KST_EPOCH_HI", 0x30010, none, [
    ⟨"EPOCH", 31, 0, .ro, .live, .any⟩]⟩,
  ⟨"KST_PAGES", 0x30014, none, [
    ⟨"PAGES", 26, 0, .ro, .live, .any⟩]⟩,
  ⟨"KST_UNLOADED", 0x30018, none, [
    ⟨"PAGES", 26, 0, .ro, .live, .any⟩]⟩,
  ⟨"KST_PSEL", 0x3001C, none, [
    ⟨"PARTITION", 7, 0, .rw, .fixed 0x0, .any⟩]⟩,
  ⟨"KST_PART_PAGES", 0x30020, some 0x3001C, [
    ⟨"PAGES", 26, 0, .ro, .live, .any⟩]⟩,
  ⟨"KST_COMMIT", 0x30024, none, [
    ⟨"WAITING", 15, 0, .ro, .live, .any⟩,
    ⟨"NOTICES", 31, 16, .ro, .live, .any⟩]⟩,
  ⟨"KST_COMMIT_MAX", 0x30028, none, [
    ⟨"WAITING", 15, 0, .ro, .live, .any⟩,
    ⟨"NOTICES", 31, 16, .ro, .live, .any⟩]⟩,
  ⟨"KST_NOTICE", 0x30030, none, [
    ⟨"PERSIST_FAULT", 0, 0, .w1c, .live, .any⟩,
    ⟨"PAGE_RECOVERED", 1, 1, .w1c, .live, .any⟩,
    ⟨"PAGE_UNAVAILABLE", 2, 2, .w1c, .live, .any⟩,
    ⟨"RETIRED", 3, 3, .w1c, .live, .any⟩,
    ⟨"PERSIST_WM", 4, 4, .w1c, .live, .any⟩,
    ⟨"QUOTA", 5, 5, .w1c, .live, .any⟩]⟩,
  ⟨"KST_CACHE_HITS", 0x30034, none, [
    ⟨"COUNT", 31, 0, .ro, .live, .any⟩]⟩,
  ⟨"KST_CACHE_MISSES", 0x30038, none, [
    ⟨"COUNT", 31, 0, .ro, .live, .any⟩]⟩,
  ⟨"KST_BATCHES", 0x3003C, none, [
    ⟨"COUNT", 31, 0, .ro, .live, .any⟩]⟩]

/-- The TIL_ registers. -/
def regsTil : List RegDef := [
  ⟨"TIL_ID", 0x40000, none, [
    ⟨"TILES", 7, 0, .ro, .fixed 0x30, .any⟩,
    ⟨"SPARE_ROWS", 15, 8, .ro, .fixed 0x4, .any⟩]⟩,
  ⟨"TIL_TSEL", 0x40004, none, [
    ⟨"TILE", 5, 0, .rw, .fixed 0x0, .within 0 47⟩]⟩,
  ⟨"TIL_STAT", 0x40008, some 0x40004, [
    ⟨"OWNER", 7, 0, .ro, .live, .any⟩,
    ⟨"KIND", 9, 8, .ro, .live, .any⟩,
    ⟨"STATE", 12, 10, .ro, .live, .any⟩,
    ⟨"FREQ", 26, 16, .ro, .live, .any⟩]⟩,
  ⟨"TIL_CMD", 0x4000C, some 0x40004, [
    ⟨"ACTION", 1, 0, .rw, .fixed 0x0, .any⟩]⟩,
  ⟨"TIL_JOBS", 0x40010, some 0x40004, [
    ⟨"COUNT", 31, 0, .ro, .live, .any⟩]⟩,
  ⟨"TIL_WIPES", 0x40014, some 0x40004, [
    ⟨"COUNT", 31, 0, .ro, .live, .any⟩]⟩,
  ⟨"TIL_CSEL", 0x40020, none, [
    ⟨"COURSE", 2, 0, .rw, .fixed 0x0, .within 0 5⟩,
    ⟨"MASTER", 7, 4, .rw, .fixed 0x0, .within 0 8⟩]⟩,
  ⟨"TIL_SCR_STAT", 0x40024, some 0x40020, [
    ⟨"STATE", 1, 0, .ro, .live, .any⟩,
    ⟨"REPAIRED", 7, 2, .ro, .live, .any⟩,
    ⟨"FAIL_BANKS", 15, 8, .ro, .live, .any⟩]⟩,
  ⟨"TIL_SCR_CONF", 0x40028, some 0x40020, [
    ⟨"COUNT", 31, 0, .ro, .live, .any⟩]⟩,
  ⟨"TIL_NOTICE", 0x4002C, none, [
    ⟨"QUARANTINE", 0, 0, .w1c, .live, .any⟩,
    ⟨"ACTION_DONE", 1, 1, .w1c, .live, .any⟩,
    ⟨"SCR_REPAIRED", 2, 2, .w1c, .live, .any⟩,
    ⟨"SCR_FAILED", 3, 3, .w1c, .live, .any⟩,
    ⟨"REGION_FAULT", 4, 4, .w1c, .live, .any⟩]⟩]

/-- The SEM_ registers. -/
def regsSem : List RegDef := [
  ⟨"SEM_ID", 0x50000, none, [
    ⟨"CHANNELS", 3, 0, .ro, .fixed 0x8, .any⟩,
    ⟨"FORMAT", 31, 16, .ro, .fixed 0x1, .any⟩]⟩,
  ⟨"SEM_CTRL", 0x50004, none, [
    ⟨"SCRUB_HOURS", 4, 0, .rw, .retained 0x18, .within 1 24⟩,
    ⟨"AUTO_EVAC", 5, 5, .rw, .retained 0x0, .any⟩,
    ⟨"UE_LIMIT", 23, 16, .rw, .retained 0x8, .within 1 255⟩,
    ⟨"POPULATED", 31, 24, .rwl, .retained 0xFF, .any⟩]⟩,
  ⟨"SEM_STATUS", 0x50008, none, [
    ⟨"SERVING", 7, 0, .ro, .live, .any⟩,
    ⟨"RATE", 8, 8, .ro, .live, .any⟩,
    ⟨"DPC2", 9, 9, .ro, .live, .any⟩,
    ⟨"KEY_READY", 10, 10, .ro, .live, .any⟩,
    ⟨"ACTION_BUSY", 11, 11, .ro, .live, .any⟩]⟩,
  ⟨"SEM_CH_CMD", 0x5000C, none, [
    ⟨"CHANNEL", 2, 0, .rw, .fixed 0x0, .any⟩,
    ⟨"ACTION", 6, 4, .rw, .fixed 0x0, .within 0 5⟩]⟩,
  ⟨"SEM_CSEL", 0x50010, none, [
    ⟨"CHANNEL", 2, 0, .rw, .fixed 0x0, .any⟩]⟩,
  ⟨"SEM_CH_STATE", 0x50014, some 0x50010, [
    ⟨"STATE", 2, 0, .ro, .live, .any⟩,
    ⟨"DEGRADED", 3, 3, .ro, .live, .any⟩,
    ⟨"REASON", 7, 4, .ro, .live, .any⟩,
    ⟨"DIMMS", 9, 8, .ro, .live, .any⟩,
    ⟨"CAP_LOG2", 15, 12, .ro, .live, .any⟩,
    ⟨"TEMP", 23, 16, .ro, .live, .any⟩]⟩,
  ⟨"SEM_CH_FRAMES", 0x50018, some 0x50010, [
    ⟨"FRAMES", 22, 0, .ro, .live, .any⟩]⟩,
  ⟨"SEM_CH_FREE", 0x5001C, some 0x50010, [
    ⟨"FRAMES", 22, 0, .ro, .live, .any⟩]⟩,
  ⟨"SEM_CH_CE", 0x50020, some 0x50010, [
    ⟨"COUNT", 31, 0, .ro, .live, .any⟩]⟩,
  ⟨"SEM_CH_UE", 0x50024, some 0x50010, [
    ⟨"COUNT", 31, 0, .ro, .live, .any⟩]⟩,
  ⟨"SEM_CH_DEVFAIL", 0x50028, some 0x50010, [
    ⟨"RANK0", 19, 0, .ro, .live, .any⟩,
    ⟨"RANKS", 27, 24, .ro, .live, .any⟩]⟩,
  ⟨"SEM_CH_ECS", 0x5002C, some 0x50010, [
    ⟨"ECS_MAX", 15, 0, .ro, .live, .any⟩,
    ⟨"DEVICE", 20, 16, .ro, .live, .any⟩,
    ⟨"RANK", 23, 21, .ro, .live, .any⟩]⟩,
  ⟨"SEM_SCRUB", 0x50030, none, [
    ⟨"PROGRESS", 6, 0, .ro, .live, .any⟩,
    ⟨"PASSES", 31, 8, .ro, .live, .any⟩]⟩,
  ⟨"SEM_REENC", 0x50034, none, [
    ⟨"COUNT", 31, 0, .ro, .live, .any⟩]⟩,
  ⟨"SEM_MAC_FAILS", 0x50038, none, [
    ⟨"COUNT", 31, 0, .ro, .live, .any⟩]⟩,
  ⟨"SEM_NOTICE", 0x5003C, none, [
    ⟨"CH_DONE", 0, 0, .w1c, .live, .any⟩,
    ⟨"DEGRADED", 1, 1, .w1c, .live, .any⟩,
    ⟨"UE", 2, 2, .w1c, .live, .any⟩,
    ⟨"MAC_FAIL", 3, 3, .w1c, .live, .any⟩,
    ⟨"CH_FAILED", 4, 4, .w1c, .live, .any⟩,
    ⟨"RETIRED", 5, 5, .w1c, .live, .any⟩,
    ⟨"WQ_WM", 6, 6, .w1c, .live, .any⟩]⟩,
  ⟨"SEM_CACHE_HITS", 0x50040, none, [
    ⟨"COUNT", 31, 0, .ro, .live, .any⟩]⟩,
  ⟨"SEM_CACHE_MISSES", 0x50044, none, [
    ⟨"COUNT", 31, 0, .ro, .live, .any⟩]⟩,
  ⟨"SEM_LEVEL", 0x50048, none, [
    ⟨"READS", 12, 0, .ro, .live, .any⟩,
    ⟨"WRITES", 28, 16, .ro, .live, .any⟩]⟩,
  ⟨"SEM_LEVEL_MAX", 0x5004C, none, [
    ⟨"READS", 12, 0, .ro, .live, .any⟩,
    ⟨"WRITES", 28, 16, .ro, .live, .any⟩]⟩]

/-- The ENT_ registers. -/
def regsEnt : List RegDef := [
  ⟨"ENT_ID", 0x60000, none, [
    ⟨"SOURCES", 7, 0, .ro, .fixed 0x16, .any⟩,
    ⟨"INSTANCES", 16, 8, .ro, .fixed 0x100, .any⟩]⟩,
  ⟨"ENT_CTRL", 0x60004, none, [
    ⟨"COMPAT", 0, 0, .rwl, .retained 0x0, .any⟩,
    ⟨"DEB_RO", 1, 1, .rw, .retained 0x0, .any⟩,
    ⟨"DEB_ML", 2, 2, .rw, .retained 0x0, .any⟩,
    ⟨"DEB_TN", 3, 3, .rw, .retained 0x0, .any⟩,
    ⟨"BUDGET", 12, 8, .rwl, .retained 0x8, .within 1 31⟩,
    ⟨"RESEED_MAX_LOG2", 20, 16, .rw, .retained 0x14, .within 16 24⟩,
    ⟨"FAIL_RUN", 23, 21, .rw, .retained 0x2, .within 2 7⟩]⟩,
  ⟨"ENT_CMD", 0x60008, none, [
    ⟨"ACTION", 2, 0, .rw, .fixed 0x0, .within 0 4⟩,
    ⟨"SOURCE", 12, 8, .rw, .fixed 0x0, .within 0 21⟩]⟩,
  ⟨"ENT_STATUS", 0x6000C, none, [
    ⟨"STATE", 2, 0, .ro, .live, .any⟩,
    ⟨"COMPAT_ACTIVE", 3, 3, .ro, .live, .any⟩,
    ⟨"STRETCHING", 4, 4, .ro, .live, .any⟩,
    ⟨"ACTION_BUSY", 5, 5, .ro, .live, .any⟩,
    ⟨"RATE", 15, 8, .ro, .live, .any⟩]⟩,
  ⟨"ENT_SRC_EN", 0x60010, none, [
    ⟨"SOURCES", 21, 0, .rw, .retained 0x3FFFFF, .any⟩]⟩,
  ⟨"ENT_SRC_HEALTHY", 0x60014, none, [
    ⟨"SOURCES", 21, 0, .ro, .live, .any⟩]⟩,
  ⟨"ENT_SSEL", 0x60018, none, [
    ⟨"SOURCE", 4, 0, .rw, .fixed 0x0, .within 0 21⟩]⟩,
  ⟨"ENT_SRC_STAT", 0x6001C, some 0x60018, [
    ⟨"STATE", 1, 0, .ro, .live, .any⟩,
    ⟨"LAST_TEST", 2, 2, .ro, .live, .any⟩,
    ⟨"INTERMITTENT", 31, 16, .ro, .live, .any⟩]⟩,
  ⟨"ENT_SRC_TRIM", 0x60020, some 0x60018, [
    ⟨"TRIM", 5, 0, .rw, .retained 0x20, .any⟩]⟩,
  ⟨"ENT_NOTICE", 0x60024, none, [
    ⟨"SRC_DROPPED", 0, 0, .w1c, .live, .any⟩,
    ⟨"UNINSTANTIATED", 1, 1, .w1c, .live, .any⟩,
    ⟨"STRETCH", 2, 2, .w1c, .live, .any⟩,
    ⟨"KAT_FAIL", 3, 3, .w1c, .live, .any⟩,
    ⟨"INTERMITTENT", 4, 4, .w1c, .live, .any⟩,
    ⟨"ACTION_DONE", 5, 5, .w1c, .live, .any⟩]⟩,
  ⟨"ENT_LEVEL", 0x60028, none, [
    ⟨"POOL", 6, 0, .ro, .live, .any⟩,
    ⟨"WAITING", 29, 16, .ro, .live, .any⟩]⟩,
  ⟨"ENT_LEVEL_MAX", 0x6002C, none, [
    ⟨"POOL", 6, 0, .ro, .live, .any⟩,
    ⟨"WAITING", 29, 16, .ro, .live, .any⟩]⟩,
  ⟨"ENT_INTERMITTENT", 0x60030, none, [
    ⟨"COUNT", 31, 0, .ro, .live, .any⟩]⟩,
  ⟨"ENT_RESEEDS", 0x60034, none, [
    ⟨"COUNT", 31, 0, .ro, .live, .any⟩]⟩,
  ⟨"ENT_STRETCHED", 0x60038, none, [
    ⟨"COUNT", 31, 0, .ro, .live, .any⟩]⟩]

/-- The PRT_ registers. -/
def regsPrt : List RegDef := [
  ⟨"PRT_ID", 0x70000, none, [
    ⟨"FORMAT", 7, 0, .ro, .fixed 0x1, .any⟩,
    ⟨"PARTITIONS", 16, 8, .ro, .fixed 0x100, .any⟩]⟩,
  ⟨"PRT_CTRL", 0x70004, none, [
    ⟨"MODE", 0, 0, .kw, .retained 0x0, .any⟩,
    ⟨"SEALED", 1, 1, .ro, .live, .any⟩,
    ⟨"STAGED", 2, 2, .ro, .live, .any⟩]⟩,
  ⟨"PRT_SEQ", 0x70008, none, [
    ⟨"SEQ", 31, 0, .kw, .retained 0x0, .any⟩]⟩,
  ⟨"PRT_IN_USE0", 0x70010, none, [
    ⟨"IN_USE", 31, 0, .kw, .retained 0x0, .any⟩]⟩,
  ⟨"PRT_IN_USE1", 0x70014, none, [
    ⟨"IN_USE", 31, 0, .kw, .retained 0x0, .any⟩]⟩,
  ⟨"PRT_IN_USE2", 0x70018, none, [
    ⟨"IN_USE", 31, 0, .kw, .retained 0x0, .any⟩]⟩,
  ⟨"PRT_IN_USE3", 0x7001C, none, [
    ⟨"IN_USE", 31, 0, .kw, .retained 0x0, .any⟩]⟩,
  ⟨"PRT_IN_USE4", 0x70020, none, [
    ⟨"IN_USE", 31, 0, .kw, .retained 0x0, .any⟩]⟩,
  ⟨"PRT_IN_USE5", 0x70024, none, [
    ⟨"IN_USE", 31, 0, .kw, .retained 0x0, .any⟩]⟩,
  ⟨"PRT_IN_USE6", 0x70028, none, [
    ⟨"IN_USE", 31, 0, .kw, .retained 0x0, .any⟩]⟩,
  ⟨"PRT_IN_USE7", 0x7002C, none, [
    ⟨"IN_USE", 31, 0, .kw, .retained 0x0, .any⟩]⟩,
  ⟨"PRT_DIGEST0", 0x70030, none, [
    ⟨"DIGEST", 31, 0, .kw, .retained 0x0, .any⟩]⟩,
  ⟨"PRT_DIGEST1", 0x70034, none, [
    ⟨"DIGEST", 31, 0, .kw, .retained 0x0, .any⟩]⟩,
  ⟨"PRT_DIGEST2", 0x70038, none, [
    ⟨"DIGEST", 31, 0, .kw, .retained 0x0, .any⟩]⟩,
  ⟨"PRT_DIGEST3", 0x7003C, none, [
    ⟨"DIGEST", 31, 0, .kw, .retained 0x0, .any⟩]⟩,
  ⟨"PRT_DIGEST4", 0x70040, none, [
    ⟨"DIGEST", 31, 0, .kw, .retained 0x0, .any⟩]⟩,
  ⟨"PRT_DIGEST5", 0x70044, none, [
    ⟨"DIGEST", 31, 0, .kw, .retained 0x0, .any⟩]⟩,
  ⟨"PRT_DIGEST6", 0x70048, none, [
    ⟨"DIGEST", 31, 0, .kw, .retained 0x0, .any⟩]⟩,
  ⟨"PRT_DIGEST7", 0x7004C, none, [
    ⟨"DIGEST", 31, 0, .kw, .retained 0x0, .any⟩]⟩]

/-- The LCY_ registers. -/
def regsLcy : List RegDef := [
  ⟨"LCY_ID", 0x80000, none, [
    ⟨"FUSE_FORMAT", 7, 0, .ro, .fixed 0x1, .any⟩,
    ⟨"ROM_VERSION", 15, 8, .ro, .fixed 0x1, .any⟩]⟩,
  ⟨"LCY_STATE", 0x80004, none, [
    ⟨"STATE", 2, 0, .ro, .live, .any⟩,
    ⟨"SLOT", 4, 3, .ro, .live, .any⟩,
    ⟨"RETURNED_LEFT", 6, 5, .ro, .live, .any⟩,
    ⟨"DUS_BAD", 7, 7, .ro, .live, .any⟩,
    ⟨"TARGET", 10, 8, .ro, .live, .any⟩,
    ⟨"OWNER_SET", 11, 11, .ro, .live, .any⟩,
    ⟨"DEBUG", 13, 12, .ro, .live, .any⟩,
    ⟨"ERASED", 14, 14, .ro, .live, .any⟩,
    ⟨"EOL", 15, 15, .ro, .live, .any⟩]⟩,
  ⟨"LCY_BOOT", 0x80008, none, [
    ⟨"BANK", 0, 0, .ro, .live, .any⟩,
    ⟨"FALLBACK", 1, 1, .ro, .live, .any⟩,
    ⟨"FROM_CARD", 2, 2, .ro, .live, .any⟩,
    ⟨"FAIL_A", 15, 8, .ro, .live, .any⟩,
    ⟨"FAIL_B", 23, 16, .ro, .live, .any⟩]⟩,
  ⟨"LCY_BANK", 0x8000C, none, [
    ⟨"PREFERRED", 0, 0, .rw, .retained 0x0, .any⟩]⟩,
  ⟨"LCY_SVN", 0x80010, none, [
    ⟨"RUNNING", 7, 0, .ro, .live, .any⟩,
    ⟨"MINIMUM", 15, 8, .ro, .live, .any⟩,
    ⟨"EXHAUSTED", 16, 16, .ro, .live, .any⟩]⟩,
  ⟨"LCY_COLD", 0x80014, none, [
    ⟨"SERVICE_MS", 15, 0, .ro, .live, .any⟩,
    ⟨"KILN_MS", 25, 16, .ro, .live, .any⟩]⟩,
  ⟨"LCY_MSEL", 0x80018, none, [
    ⟨"MEAS", 2, 0, .rw, .fixed 0x0, .within 0 5⟩,
    ⟨"WORD", 6, 3, .rw, .fixed 0x0, .any⟩]⟩,
  ⟨"LCY_MEAS", 0x8001C, some 0x80018, [
    ⟨"VALUE", 31, 0, .ro, .live, .any⟩]⟩,
  ⟨"LCY_NOTICE", 0x80020, none, [
    ⟨"TARGET_SET", 0, 0, .w1c, .live, .any⟩,
    ⟨"TRANSITION_DONE", 1, 1, .w1c, .live, .any⟩,
    ⟨"FALLBACK_BOOT", 2, 2, .w1c, .live, .any⟩,
    ⟨"SVN_ADVANCED", 3, 3, .w1c, .live, .any⟩,
    ⟨"DEBUG_OPENED", 4, 4, .w1c, .live, .any⟩,
    ⟨"INVALID_STATE", 5, 5, .w1c, .live, .any⟩]⟩]

/-- The VLT_ registers. -/
def regsVlt : List RegDef := [
  ⟨"VLT_ID", 0x90000, none, [
    ⟨"SOURCES", 7, 0, .ro, .fixed 0xC, .any⟩,
    ⟨"RAILS", 15, 8, .ro, .fixed 0x8, .any⟩,
    ⟨"MESH_PAIRS", 23, 16, .ro, .fixed 0x8, .any⟩]⟩,
  ⟨"VLT_STATUS", 0x90004, none, [
    ⟨"VAULT", 1, 0, .ro, .live, .any⟩,
    ⟨"SUPPLY", 2, 2, .ro, .live, .any⟩,
    ⟨"FROZEN", 3, 3, .ro, .live, .any⟩,
    ⟨"EPISODE", 4, 4, .ro, .live, .any⟩,
    ⟨"REFRESHING", 5, 5, .ro, .live, .any⟩,
    ⟨"BLOCK", 12, 6, .ro, .live, .any⟩,
    ⟨"EOL", 13, 13, .ro, .live, .any⟩]⟩,
  ⟨"VLT_SSEL", 0x90008, none, [
    ⟨"INDEX", 3, 0, .rw, .fixed 0x0, .within 0 11⟩]⟩,
  ⟨"VLT_SRC_CFG", 0x9000C, some 0x90008, [
    ⟨"ACTIONS", 5, 0, .rwl, .retained 0x0, .any⟩,
    ⟨"EVIDENCE", 7, 6, .rwl, .retained 0x0, .any⟩,
    ⟨"CLR_CEREMONY", 8, 8, .rwl, .retained 0x0, .any⟩,
    ⟨"ENABLE", 9, 9, .rwl, .retained 0x1, .any⟩]⟩,
  ⟨"VLT_SRC_STAT", 0x90010, some 0x90008, [
    ⟨"ACTIVE", 0, 0, .ro, .live, .any⟩,
    ⟨"CELLS", 1, 1, .ro, .live, .any⟩,
    ⟨"COUNT", 31, 16, .ro, .live, .any⟩]⟩,
  ⟨"VLT_ACTIVE", 0x90014, none, [
    ⟨"SOURCES", 11, 0, .ro, .live, .any⟩]⟩,
  ⟨"VLT_FIRED", 0x90018, none, [
    ⟨"SOURCES", 11, 0, .w1c, .live, .any⟩]⟩,
  ⟨"VLT_RSEL", 0x9001C, none, [
    ⟨"INDEX", 3, 0, .rw, .fixed 0x0, .within 0 7⟩]⟩,
  ⟨"VLT_RAIL", 0x90020, some 0x9001C, [
    ⟨"LOW", 5, 0, .rwl, .retained 0xC, .within 2 40⟩,
    ⟨"HIGH", 13, 8, .rwl, .retained 0xC, .within 2 40⟩,
    ⟨"GLITCH", 21, 16, .rwl, .retained 0x18, .within 2 40⟩]⟩,
  ⟨"VLT_TEMP", 0x90024, none, [
    ⟨"LOW", 7, 0, .rwl, .retained 0xE2, .signed (-40) 0⟩,
    ⟨"HIGH", 15, 8, .rwl, .retained 0x73, .within 100 125⟩,
    ⟨"DIE_MIN", 23, 16, .ro, .live, .any⟩,
    ⟨"DIE_MAX", 31, 24, .ro, .live, .any⟩]⟩,
  ⟨"VLT_PHYS", 0x90028, none, [
    ⟨"MESH_EN", 7, 0, .rwl, .retained 0xFF, .any⟩,
    ⟨"ENC_EN", 11, 8, .rwl, .retained 0xF, .any⟩,
    ⟨"ENC_POL", 15, 12, .rwl, .retained 0x0, .any⟩,
    ⟨"MESH_FAULT", 23, 16, .ro, .live, .any⟩,
    ⟨"ENC_STATE", 27, 24, .ro, .live, .any⟩]⟩,
  ⟨"VLT_CSEL", 0x90030, none, [
    ⟨"INDEX", 3, 0, .rw, .fixed 0x0, .within 0 1⟩]⟩,
  ⟨"VLT_CELL_CFG", 0x90034, some 0x90030, [
    ⟨"TYPE", 0, 0, .rw, .retained 0x0, .any⟩,
    ⟨"CHG_EN", 1, 1, .rw, .retained 0x0, .any⟩,
    ⟨"CC_MA", 6, 2, .rw, .retained 0xA, .within 1 25⟩,
    ⟨"CV", 13, 7, .rw, .retained 0x6E, .within 60 120⟩,
    ⟨"TERM_MA", 17, 14, .rw, .retained 0x2, .within 1 10⟩,
    ⟨"CAP", 31, 18, .rw, .retained 0xF0, .any⟩]⟩,
  ⟨"VLT_CELL_STAT", 0x90038, some 0x90030, [
    ⟨"MV", 12, 0, .ro, .live, .any⟩,
    ⟨"STATE", 15, 13, .ro, .live, .any⟩,
    ⟨"SUPPLY", 16, 16, .ro, .live, .any⟩,
    ⟨"RINT", 27, 18, .ro, .live, .any⟩]⟩,
  ⟨"VLT_CELL_CHARGE", 0x9003C, some 0x90030, [
    ⟨"CHARGE", 23, 0, .ro, .live, .any⟩,
    ⟨"PCT", 31, 24, .ro, .live, .any⟩]⟩,
  ⟨"VLT_CELL_CMD", 0x90040, none, [
    ⟨"ACTION", 2, 0, .rw, .fixed 0x0, .within 0 4⟩,
    ⟨"CELL", 3, 3, .rw, .fixed 0x0, .any⟩]⟩,
  ⟨"VLT_LATCH", 0x90044, none, [
    ⟨"BLOWN", 15, 0, .ro, .live, .any⟩]⟩,
  ⟨"VLT_EVIDENCE", 0x90048, none, [
    ⟨"COUNTS", 31, 0, .ro, .live, .any⟩]⟩,
  ⟨"VLT_NOTICE", 0x9004C, none, [
    ⟨"ALERT", 0, 0, .w1c, .live, .any⟩,
    ⟨"FREEZE", 1, 1, .w1c, .live, .any⟩,
    ⟨"PURGE", 2, 2, .w1c, .live, .any⟩,
    ⟨"ZEROIZE", 3, 3, .w1c, .live, .any⟩,
    ⟨"CELLS_ALERT", 4, 4, .w1c, .live, .any⟩,
    ⟨"CELL_LOW", 5, 5, .w1c, .live, .any⟩,
    ⟨"CELL_WEAK", 6, 6, .w1c, .live, .any⟩,
    ⟨"VAULT_LOST", 7, 7, .w1c, .live, .any⟩,
    ⟨"EVIDENCE", 8, 8, .w1c, .live, .any⟩,
    ⟨"EOL", 9, 9, .w1c, .live, .any⟩]⟩]

/-- The PWR_ registers. -/
def regsPwr : List RegDef := [
  ⟨"PWR_ID", 0xA0000, none, [
    ⟨"FEEDS", 7, 0, .ro, .fixed 0x2, .any⟩,
    ⟨"FORMAT", 15, 8, .ro, .fixed 0x1, .any⟩]⟩,
  ⟨"PWR_CTRL", 0xA0004, none, [
    ⟨"PREF", 0, 0, .rw, .retained 0x0, .any⟩,
    ⟨"AUTO_RETURN", 1, 1, .rw, .retained 0x0, .any⟩,
    ⟨"DEGLITCH", 6, 2, .rw, .retained 0x5, .within 1 20⟩]⟩,
  ⟨"PWR_FEED_TH", 0xA0008, none, [
    ⟨"LOW", 9, 0, .rw, .retained 0x21C, .any⟩,
    ⟨"HIGH", 19, 10, .rwl, .retained 0x2B2, .any⟩]⟩,
  ⟨"PWR_STATUS", 0xA000C, none, [
    ⟨"A_GOOD", 0, 0, .ro, .live, .any⟩,
    ⟨"B_GOOD", 1, 1, .ro, .live, .any⟩,
    ⟨"ACTIVE", 2, 2, .ro, .live, .any⟩,
    ⟨"GATE_A", 3, 3, .ro, .live, .any⟩,
    ⟨"GATE_B", 4, 4, .ro, .live, .any⟩,
    ⟨"PAUSED", 5, 5, .ro, .live, .any⟩,
    ⟨"MODE", 7, 6, .ro, .live, .any⟩]⟩,
  ⟨"PWR_FEED_MV", 0xA0010, none, [
    ⟨"FEED_A", 15, 0, .ro, .live, .any⟩,
    ⟨"FEED_B", 31, 16, .ro, .live, .any⟩]⟩,
  ⟨"PWR_CMD", 0xA0014, none, [
    ⟨"ACTION", 1, 0, .rw, .fixed 0x0, .within 0 2⟩]⟩,
  ⟨"PWR_SWITCHES", 0xA0018, none, [
    ⟨"COUNT", 31, 0, .ro, .live, .any⟩]⟩,
  ⟨"PWR_LAST", 0xA001C, none, [
    ⟨"SWITCH", 15, 0, .ro, .live, .any⟩,
    ⟨"PAUSE", 31, 16, .ro, .live, .any⟩]⟩,
  ⟨"PWR_NOTICE", 0xA0020, none, [
    ⟨"SWITCHOVER", 0, 0, .w1c, .live, .any⟩,
    ⟨"FEED_LOST", 1, 1, .w1c, .live, .any⟩,
    ⟨"FEED_RETURNED", 2, 2, .w1c, .live, .any⟩,
    ⟨"FEED_HIGH", 3, 3, .w1c, .live, .any⟩,
    ⟨"SELECT_DONE", 4, 4, .w1c, .live, .any⟩]⟩]

/-- The THG_ registers. -/
def regsThg : List RegDef := [
  ⟨"THG_CTRL", 0xA0800, none, [
    ⟨"HTR_EN", 0, 0, .rw, .retained 0x1, .any⟩,
    ⟨"FAN_EN", 1, 1, .rw, .retained 0x1, .any⟩,
    ⟨"SENSORS", 3, 2, .rw, .retained 0x3, .any⟩,
    ⟨"SETPOINT", 11, 4, .rwl, .retained 0xA, .signed (-20) 40⟩,
    ⟨"HTR_FAIL_DUTY", 18, 12, .rw, .retained 0x1E, .within 0 100⟩]⟩,
  ⟨"THG_PI", 0xA0804, none, [
    ⟨"KP", 15, 0, .rw, .retained 0x3E8, .any⟩,
    ⟨"KI", 31, 16, .rw, .retained 0x1F4, .any⟩]⟩,
  ⟨"THG_FAN", 0xA0808, none, [
    ⟨"T_LOW", 7, 0, .rw, .retained 0x3C, .any⟩,
    ⟨"T_HIGH", 15, 8, .rw, .retained 0x5F, .any⟩,
    ⟨"MIN_DUTY", 22, 16, .rw, .retained 0x14, .within 0 100⟩,
    ⟨"RPM_MIN", 31, 23, .rw, .retained 0x8, .any⟩]⟩,
  ⟨"THG_STATUS", 0xA080C, none, [
    ⟨"ENC_A", 7, 0, .ro, .live, .any⟩,
    ⟨"ENC_B", 15, 8, .ro, .live, .any⟩,
    ⟨"HTR_DUTY", 22, 16, .ro, .live, .any⟩,
    ⟨"FAN_DUTY", 29, 23, .ro, .live, .any⟩,
    ⟨"SENSOR_FAULT", 31, 30, .ro, .live, .any⟩]⟩,
  ⟨"THG_TACH", 0xA0810, none, [
    ⟨"RPM", 15, 0, .ro, .live, .any⟩]⟩,
  ⟨"THG_NOTICE", 0xA0814, none, [
    ⟨"SENSOR_FAULT", 0, 0, .w1c, .live, .any⟩,
    ⟨"FAN_STALL", 1, 1, .w1c, .live, .any⟩,
    ⟨"BELOW_SETPOINT", 2, 2, .w1c, .live, .any⟩,
    ⟨"CHARGE_PAUSED", 3, 3, .w1c, .live, .any⟩]⟩]

/-- The MIR_ registers. -/
def regsMir : List RegDef := [
  ⟨"MIR_ID", 0xB0000, none, [
    ⟨"LANES", 7, 0, .ro, .fixed 0x2, .any⟩,
    ⟨"FORMAT", 15, 8, .ro, .fixed 0x1, .any⟩]⟩,
  ⟨"MIR_CTRL", 0xB0004, none, [
    ⟨"LINK_EN", 0, 0, .rw, .retained 0x1, .any⟩,
    ⟨"ETH_EN", 1, 1, .rw, .retained 0x1, .any⟩,
    ⟨"PURGE_HANDOVER", 2, 2, .rwl, .retained 0x1, .any⟩,
    ⟨"ETH_IFACE", 6, 4, .rw, .retained 0x0, .any⟩,
    ⟨"ETH_PORT", 31, 16, .rw, .retained 0xB7FC, .any⟩]⟩,
  ⟨"MIR_STATUS", 0xB0008, none, [
    ⟨"ROLE", 1, 0, .ro, .live, .any⟩,
    ⟨"SYNC", 3, 2, .ro, .live, .any⟩,
    ⟨"PEER", 5, 4, .ro, .live, .any⟩,
    ⟨"PATH", 7, 6, .ro, .live, .any⟩,
    ⟨"MEMBER", 8, 8, .ro, .live, .any⟩,
    ⟨"LANES_UP", 10, 9, .ro, .live, .any⟩,
    ⟨"IN_SERVICE", 11, 11, .ro, .live, .any⟩]⟩,
  ⟨"MIR_SEQ_LO", 0xB000C, none, [
    ⟨"SEQ", 31, 0, .ro, .live, .any⟩]⟩,
  ⟨"MIR_SEQ_HI", 0xB0010, none, [
    ⟨"SEQ", 31, 0, .ro, .live, .any⟩]⟩,
  ⟨"MIR_TERM", 0xB0014, none, [
    ⟨"TERM", 31, 0, .ro, .live, .any⟩]⟩,
  ⟨"MIR_LAG", 0xB0018, none, [
    ⟨"BATCHES", 6, 0, .ro, .live, .any⟩,
    ⟨"JOURNAL", 30, 16, .ro, .live, .any⟩]⟩,
  ⟨"MIR_LAG_MAX", 0xB001C, none, [
    ⟨"BATCHES", 6, 0, .ro, .live, .any⟩,
    ⟨"JOURNAL", 30, 16, .ro, .live, .any⟩]⟩,
  ⟨"MIR_HB_MISSES", 0xB0020, none, [
    ⟨"COUNT", 31, 0, .ro, .live, .any⟩]⟩,
  ⟨"MIR_TAKEOVERS", 0xB0024, none, [
    ⟨"COUNT", 31, 0, .ro, .live, .any⟩]⟩,
  ⟨"MIR_LAST", 0xB0028, none, [
    ⟨"TO_DECISION", 15, 0, .ro, .live, .any⟩,
    ⟨"TO_RESUME", 31, 16, .ro, .live, .any⟩]⟩,
  ⟨"MIR_NOTICE", 0xB002C, none, [
    ⟨"SUSPECT", 0, 0, .w1c, .live, .any⟩,
    ⟨"PATH_ETH", 1, 1, .w1c, .live, .any⟩,
    ⟨"TAKEOVER", 2, 2, .w1c, .live, .any⟩,
    ⟨"FENCED", 3, 3, .w1c, .live, .any⟩,
    ⟨"UNFENCED", 4, 4, .w1c, .live, .any⟩,
    ⟨"PEER_LOST", 5, 5, .w1c, .live, .any⟩,
    ⟨"SYNC_DONE", 6, 6, .w1c, .live, .any⟩,
    ⟨"JOURNAL_WM", 7, 7, .w1c, .live, .any⟩,
    ⟨"TAG_FAIL", 8, 8, .w1c, .live, .any⟩]⟩]

/-- The EVR_ registers. -/
def regsEvr : List RegDef := [
  ⟨"EVR_ID", 0xC0000, none, [
    ⟨"RECORD", 7, 0, .ro, .fixed 0x20, .any⟩,
    ⟨"VAULT_RECORDS", 15, 8, .ro, .fixed 0x40, .any⟩]⟩,
  ⟨"EVR_CTRL", 0xC0004, none, [
    ⟨"MIN_SEV", 2, 0, .rw, .retained 0x1, .any⟩,
    ⟨"WM_PCT", 14, 8, .rw, .retained 0x4B, .within 1 100⟩]⟩,
  ⟨"EVR_FLOOD", 0xC0008, none, [
    ⟨"RATE", 15, 0, .rw, .retained 0x64, .within 1 65535⟩,
    ⟨"BURST", 31, 16, .rw, .retained 0x3E8, .within 1 65535⟩]⟩,
  ⟨"EVR_RSEL", 0xC000C, none, [
    ⟨"RING", 8, 0, .rw, .fixed 0x0, .within 0 257⟩]⟩,
  ⟨"EVR_RING_STAT", 0xC0010, none, [
    ⟨"SIZE", 21, 0, .ro, .live, .any⟩,
    ⟨"ATTACHED", 22, 22, .ro, .live, .any⟩,
    ⟨"MARK", 23, 23, .ro, .live, .any⟩]⟩,
  ⟨"EVR_LEVEL", 0xC0014, none, [
    ⟨"UNREAD", 21, 0, .ro, .live, .any⟩]⟩,
  ⟨"EVR_LEVEL_MAX", 0xC0018, none, [
    ⟨"UNREAD", 21, 0, .ro, .live, .any⟩]⟩,
  ⟨"EVR_SEQ_LO", 0xC001C, none, [
    ⟨"SEQ", 31, 0, .ro, .live, .any⟩]⟩,
  ⟨"EVR_SEQ_HI", 0xC0020, none, [
    ⟨"SEQ", 31, 0, .ro, .live, .any⟩]⟩,
  ⟨"EVR_VSEL", 0xC0024, none, [
    ⟨"SEVERITY", 2, 0, .rw, .fixed 0x0, .any⟩]⟩,
  ⟨"EVR_DROPS", 0xC0028, none, [
    ⟨"COUNT", 31, 0, .ro, .live, .any⟩]⟩,
  ⟨"EVR_LOST", 0xC002C, none, [
    ⟨"COUNT", 31, 0, .ro, .live, .any⟩]⟩,
  ⟨"EVR_SUPPRESSED", 0xC0030, none, [
    ⟨"COUNT", 31, 0, .ro, .live, .any⟩]⟩,
  ⟨"EVR_NOTICE", 0xC0034, none, [
    ⟨"WM", 0, 0, .w1c, .live, .any⟩,
    ⟨"DROP", 1, 1, .w1c, .live, .any⟩,
    ⟨"FLOOD", 2, 2, .w1c, .live, .any⟩,
    ⟨"MARK_LOST", 3, 3, .w1c, .live, .any⟩,
    ⟨"CHECK_FAIL", 4, 4, .w1c, .live, .any⟩]⟩]

/-- The CRD_ registers. -/
def regsCrd : List RegDef := [
  ⟨"CRD_ID", 0xD0000, none, [
    ⟨"PORTS", 3, 0, .ro, .fixed 0x4, .any⟩,
    ⟨"HS200_PORTS", 7, 4, .ro, .fixed 0x3, .any⟩,
    ⟨"FORMAT", 31, 16, .ro, .fixed 0x1, .any⟩]⟩,
  ⟨"CRD_PORT0_CFG", 0xD0004, none, [
    ⟨"EN", 0, 0, .rw, .retained 0x1, .any⟩,
    ⟨"MAX_MODE", 2, 1, .rw, .retained 0x1, .within 0 2⟩,
    ⟨"MAX_WIDTH", 4, 3, .rw, .retained 0x2, .within 0 2⟩,
    ⟨"V18", 5, 5, .rw, .retained 0x0, .any⟩]⟩,
  ⟨"CRD_PORT1_CFG", 0xD0008, none, [
    ⟨"EN", 0, 0, .rw, .retained 0x0, .any⟩,
    ⟨"MAX_MODE", 2, 1, .rw, .retained 0x1, .within 0 2⟩,
    ⟨"MAX_WIDTH", 4, 3, .rw, .retained 0x2, .within 0 2⟩,
    ⟨"V18", 5, 5, .rw, .retained 0x0, .any⟩]⟩,
  ⟨"CRD_PORT2_CFG", 0xD000C, none, [
    ⟨"EN", 0, 0, .rw, .retained 0x0, .any⟩,
    ⟨"MAX_MODE", 2, 1, .rw, .retained 0x1, .within 0 2⟩,
    ⟨"MAX_WIDTH", 4, 3, .rw, .retained 0x2, .within 0 2⟩,
    ⟨"V18", 5, 5, .rw, .retained 0x0, .any⟩]⟩,
  ⟨"CRD_PORT3_CFG", 0xD0010, none, [
    ⟨"EN", 0, 0, .rw, .retained 0x0, .any⟩,
    ⟨"MAX_MODE", 2, 1, .rw, .retained 0x1, .within 0 2⟩,
    ⟨"MAX_WIDTH", 4, 3, .rw, .retained 0x2, .within 0 2⟩,
    ⟨"V18", 5, 5, .rw, .retained 0x0, .any⟩]⟩,
  ⟨"CRD_PSEL", 0xD0014, none, [
    ⟨"PORT", 1, 0, .rw, .fixed 0x0, .any⟩]⟩,
  ⟨"CRD_PORT_STAT", 0xD0018, none, [
    ⟨"STATE", 2, 0, .ro, .live, .any⟩,
    ⟨"REASON", 5, 3, .ro, .live, .any⟩,
    ⟨"MODE", 7, 6, .ro, .live, .any⟩,
    ⟨"WIDTH", 9, 8, .ro, .live, .any⟩,
    ⟨"TAP", 15, 10, .ro, .live, .any⟩]⟩,
  ⟨"CRD_NOTICE", 0xD001C, none, [
    ⟨"INSERTED", 0, 0, .w1c, .live, .any⟩,
    ⟨"REMOVED", 1, 1, .w1c, .live, .any⟩,
    ⟨"REMOVED_IN_WRITE", 2, 2, .w1c, .live, .any⟩,
    ⟨"FAILED", 3, 3, .w1c, .live, .any⟩,
    ⟨"SWITCH_FALLBACK", 4, 4, .w1c, .live, .any⟩,
    ⟨"CARD_FAULT", 5, 5, .w1c, .live, .any⟩]⟩]

/-- The LIO_ registers. -/
def regsLio : List RegDef := [
  ⟨"LIO_ID", 0xE0000, none, [
    ⟨"GPIOS", 7, 0, .ro, .fixed 0x20, .any⟩,
    ⟨"ROUTES", 15, 8, .ro, .fixed 0xC, .any⟩]⟩,
  ⟨"LIO_GPIO_EN", 0xE0004, none, [
    ⟨"PINS", 31, 0, .rw, .retained 0x0, .any⟩]⟩,
  ⟨"LIO_GPIO_DIR", 0xE0008, none, [
    ⟨"PINS", 31, 0, .rw, .retained 0x0, .any⟩]⟩,
  ⟨"LIO_GPIO_OUT", 0xE000C, none, [
    ⟨"PINS", 31, 0, .rw, .retained 0x0, .any⟩]⟩,
  ⟨"LIO_GPIO_IN", 0xE0010, none, [
    ⟨"PINS", 31, 0, .ro, .live, .any⟩]⟩,
  ⟨"LIO_ROUTE0", 0xE0020, none, [
    ⟨"PIN", 4, 0, .rwl, .retained 0x0, .any⟩,
    ⟨"EN", 5, 5, .rw, .retained 0x0, .any⟩]⟩,
  ⟨"LIO_ROUTE1", 0xE0024, none, [
    ⟨"PIN", 4, 0, .rwl, .retained 0x1, .any⟩,
    ⟨"EN", 5, 5, .rw, .retained 0x0, .any⟩]⟩,
  ⟨"LIO_ROUTE2", 0xE0028, none, [
    ⟨"PIN", 4, 0, .rwl, .retained 0x2, .any⟩,
    ⟨"EN", 5, 5, .rw, .retained 0x0, .any⟩]⟩,
  ⟨"LIO_ROUTE3", 0xE002C, none, [
    ⟨"PIN", 4, 0, .rwl, .retained 0x3, .any⟩,
    ⟨"EN", 5, 5, .rw, .retained 0x0, .any⟩]⟩,
  ⟨"LIO_ROUTE4", 0xE0030, none, [
    ⟨"PIN", 4, 0, .rwl, .retained 0x4, .any⟩,
    ⟨"EN", 5, 5, .rw, .retained 0x0, .any⟩]⟩,
  ⟨"LIO_ROUTE5", 0xE0034, none, [
    ⟨"PIN", 4, 0, .rwl, .retained 0x5, .any⟩,
    ⟨"EN", 5, 5, .rw, .retained 0x0, .any⟩]⟩,
  ⟨"LIO_ROUTE6", 0xE0038, none, [
    ⟨"PIN", 4, 0, .rwl, .retained 0x6, .any⟩,
    ⟨"EN", 5, 5, .rw, .retained 0x0, .any⟩]⟩,
  ⟨"LIO_ROUTE7", 0xE003C, none, [
    ⟨"PIN", 4, 0, .rwl, .retained 0x7, .any⟩,
    ⟨"EN", 5, 5, .rw, .retained 0x0, .any⟩]⟩,
  ⟨"LIO_ROUTE8", 0xE0040, none, [
    ⟨"PIN", 4, 0, .rwl, .retained 0x8, .any⟩,
    ⟨"EN", 5, 5, .rw, .retained 0x0, .any⟩]⟩,
  ⟨"LIO_ROUTE9", 0xE0044, none, [
    ⟨"PIN", 4, 0, .rwl, .retained 0x9, .any⟩,
    ⟨"EN", 5, 5, .rw, .retained 0x0, .any⟩]⟩,
  ⟨"LIO_ROUTE10", 0xE0048, none, [
    ⟨"PIN", 4, 0, .rwl, .retained 0xA, .any⟩,
    ⟨"EN", 5, 5, .rw, .retained 0x0, .any⟩]⟩,
  ⟨"LIO_ROUTE11", 0xE004C, none, [
    ⟨"PIN", 4, 0, .rwl, .retained 0xB, .any⟩,
    ⟨"EN", 5, 5, .rw, .retained 0x0, .any⟩]⟩,
  ⟨"LIO_PSEL", 0xE0050, none, [
    ⟨"PIN", 4, 0, .rw, .fixed 0x0, .any⟩]⟩,
  ⟨"LIO_PIN_STAT", 0xE0054, none, [
    ⟨"OWNER", 3, 0, .kw, .live, .any⟩,
    ⟨"CLASS", 6, 4, .kw, .live, .any⟩]⟩,
  ⟨"LIO_PMB", 0xE0058, none, [
    ⟨"SPEED0", 1, 0, .rw, .retained 0x1, .within 0 2⟩,
    ⟨"SPEED1", 3, 2, .rw, .retained 0x1, .within 0 2⟩]⟩,
  ⟨"LIO_VRM_LO", 0xE005C, none, [
    ⟨"MAP", 31, 0, .rw, .retained 0x0, .any⟩]⟩,
  ⟨"LIO_VRM_HI", 0xE0060, none, [
    ⟨"MAP", 31, 0, .rw, .retained 0x0, .any⟩]⟩,
  ⟨"LIO_NOTICE", 0xE0064, none, [
    ⟨"VRM_FAULT", 0, 0, .w1c, .live, .any⟩,
    ⟨"PIN_CONFLICT", 1, 1, .w1c, .live, .any⟩,
    ⟨"FLASH_WRITTEN", 2, 2, .w1c, .live, .any⟩]⟩]

/-- The CFG_ registers. -/
def regsCfg : List RegDef := [
  ⟨"CFG_ID", 0xF0000, none, [
    ⟨"FORMAT", 15, 0, .ro, .fixed 0x1, .any⟩,
    ⟨"ACTORS", 23, 16, .ro, .fixed 0x20, .any⟩]⟩,
  ⟨"CFG_STATUS", 0xF0004, none, [
    ⟨"SOURCE", 0, 0, .ro, .live, .any⟩,
    ⟨"LIST_STAGED", 1, 1, .ro, .live, .any⟩,
    ⟨"FW_STAGED", 2, 2, .ro, .live, .any⟩,
    ⟨"CLAIM", 4, 3, .ro, .live, .any⟩,
    ⟨"CEREMONY", 5, 5, .ro, .live, .any⟩,
    ⟨"SESSIONS", 10, 6, .ro, .live, .any⟩]⟩,
  ⟨"CFG_CSEQ_LO", 0xF0008, none, [
    ⟨"CSEQ", 31, 0, .ro, .live, .any⟩]⟩,
  ⟨"CFG_CSEQ_HI", 0xF000C, none, [
    ⟨"CSEQ", 31, 0, .ro, .live, .any⟩]⟩,
  ⟨"CFG_TILES_OLD_LO", 0xF0010, none, [
    ⟨"TILES", 31, 0, .ro, .live, .any⟩]⟩,
  ⟨"CFG_TILES_OLD_HI", 0xF0014, none, [
    ⟨"TILES", 31, 0, .ro, .live, .any⟩]⟩,
  ⟨"CFG_NOTICE", 0xF0018, none, [
    ⟨"FALLBACK", 0, 0, .w1c, .live, .any⟩,
    ⟨"APPLIED", 1, 1, .w1c, .live, .any⟩,
    ⟨"ENTRY_IGNORED", 2, 2, .w1c, .live, .any⟩,
    ⟨"PIN_CONFLICT", 3, 3, .w1c, .live, .any⟩,
    ⟨"SESSION_EXPIRED", 4, 4, .w1c, .live, .any⟩]⟩]

/-- Every register of the configuration space. -/
def regTable : List RegDef :=
  regsId ++ regsHqi ++ regsDsp ++ regsKst ++ regsTil ++ regsSem ++ regsEnt ++ regsPrt ++ regsLcy ++ regsVlt ++ regsPwr ++ regsThg ++ regsMir ++ regsEvr ++ regsCrd ++ regsLio ++ regsCfg

end Sys2Proof.Machine
end

