-- ==== Sys2Proof/Machine/RegFile.lean ====
section
/-! DEFINITION. The stored side of the configuration space: settings, notices, counters and maxima, each under the key of
R443 (address in bits [19:0], selector index above), and the selectors of each management queue (R439). -/

namespace Sys2Proof.Machine

/-- R384: ACTIONS, evidence class and CLR_CEREMONY defaults of the twelve tamper sources. -/
def sourceDefaults : List (Nat × Nat × Nat) :=
  [(0x0F, 0, 0), (0x07, 0, 0), (0x03, 0, 0), (0x03, 0, 0), (0x1B, 1, 1), (0x1B, 1, 1), (0x0B, 0, 1), (0x1B, 2, 1),
   (0x07, 2, 1), (0x03, 3, 0), (0x03, 3, 0), (0x03, 3, 0)]

/-- R443: the key of a register and selector index. -/
def regKey (addr idx : Nat) : Nat := idx * 2 ^ 20 + addr

/-- The table's row of an address. -/
def findReg (addr : Nat) : Option RegDef := regTable.find? (fun r => r.addr == addr)

/-- The value a field takes when nothing is stored for it. -/
def fieldDefault (f : RegField) : Nat :=
  match f.rest with
  | .retained d => d
  | .fixed v => v
  | .live => 0

/-- The value of a whole register when nothing is stored for it: its bracketed defaults and fixed values (R10, R445). -/
def regDefault (addr idx : Nat) : Nat :=
  if addr = Reg.vltSrcCfg then
    let d := sourceDefaults.getD idx (0, 0, 0)
    d.1 + d.2.1 * 2 ^ 6 + d.2.2 * 2 ^ 8 + 2 ^ 9
  else
    match findReg addr with
    | none => 0
    | some r => sumOf (fun f => fieldDefault f * 2 ^ f.lo) r.fields

/-- The stored value of a register at a selector index. -/
def State.reg (s : State) (addr : Nat) (idx : Nat := 0) : Nat :=
  match alook (regKey addr idx) s.regs with
  | some w => w.toNat
  | none => regDefault addr idx

/-- Store a register's value. -/
def State.setReg (s : State) (addr idx v : Nat) : State :=
  { s with regs := aput (regKey addr idx) (BitVec.ofNat 32 v) s.regs }

/-- Bits [hi:lo] of a stored register shown without a selector. -/
def State.fld (s : State) (addr hi lo : Nat) : Nat := bitsOf hi lo (s.reg addr)

/-- A selector of a management queue (R439). -/
def State.selOf (s : State) (q addr : Nat) : Nat :=
  match alook (regKey addr q) s.sel with
  | some w => w.toNat
  | none => 0

/-- Set a selector of a management queue. -/
def State.setSel (s : State) (q addr v : Nat) : State :=
  { s with sel := aput (regKey addr q) (BitVec.ofNat 32 v) s.sel }

/-- R439, R470, R493, R494: the selectors held separately for each management queue. -/
def queueSelectors : List Nat :=
  [Reg.dspCsel, Reg.dspQsel, Reg.dspPsel, Reg.dspTsel, Reg.kstPsel, Reg.semCsel, Reg.entSsel, Reg.tilTsel, Reg.tilCsel,
   Reg.lcyMsel, Reg.vltSsel, Reg.vltRsel, Reg.vltCsel, Reg.evrRsel, Reg.evrVsel, Reg.crdPsel, Reg.lioPsel]

/-- R443: whether a register holds a Retained field. -/
def RegDef.isRetained (r : RegDef) : Bool := r.fields.any (fun f => match f.rest with | .retained _ => true | _ => false)

/-- R443: whether a key names a stored Retained value: its register holds one. -/
def keyRetained (k : Nat) : Bool :=
  match findReg (k % 2 ^ 20) with
  | some r => r.isRetained
  | none => false

end Sys2Proof.Machine
end

