-- ==== Sys2Proof/Machine/Flags.lean ====
section
/-! DEFINITION. The notice bits and event counters of the register blocks (R9, R11): a notice bit is set by its event and stays until
it is written with 1 (W1C); a counter rises and wraps at 2^32. -/

namespace Sys2Proof.Machine

/-- Set a W1C notice bit. -/
def State.notice (s : State) (addr bit : Nat) : State :=
  s.setReg addr 0 (setBits bit bit 1 (s.reg addr))

/-- Raise a wrapping counter. -/
def State.bump (s : State) (addr : Nat) (n : Nat := 1) : State := s.setReg addr 0 (s.reg addr + n)

end Sys2Proof.Machine
end

