-- ==== Sys2Proof/Machine/Events.lean ====
section
/-! DEFINITION. The event recorder's shared operations (R456 to R466): writing a record into its ring, overwriting by
severity, flood control, and the ring's watermark. -/

namespace Sys2Proof.Machine

/-- R456: the 32 bytes of a record. -/
def eventBytes (e : Event) : Bytes :=
  let b := leBytes 8 e.seq ++ leBytes 8 (e.time / 16 % 2 ^ 60 + e.sev * 2 ^ 60) ++ leBytes 2 e.code ++ leBytes 1 e.part ++
    leBytes 1 e.island ++ fixLen 8 e.payload
  b ++ crcBytes b

/-- The ring of a number: 0 to 255 a partition's region, 256 the device log, 257 the vault ring. -/
def State.ring? (s : State) (n : Nat) : Option Ring := s.log.rings.find? (fun r => r.num == n)

/-- Change one ring. -/
def State.modRing (s : State) (n : Nat) (f : Ring → Ring) : State :=
  { s with log := { s.log with rings := modWhere (fun r => r.num == n) f s.log.rings } }

/-- R463, R466: the unread records of a ring. -/
def Ring.unread (r : Ring) : Nat := countOf (fun e => decide (r.reader ≤ e.seq)) r.recs

/-- R466: the watermark's threshold of a ring. -/
def State.ringMark (s : State) (r : Ring) : Nat := ceilPct r.cap (s.fld Reg.evrCtrl 14 8)

/-- R461: the oldest record that a record of severity `sev` may overwrite. -/
def Ring.victim (r : Ring) (sev : Nat) : Option Event := r.recs.find? (fun e => decide (e.sev ≤ sev))

/-- R463: count one record lost without being read. -/
def Ring.lose (r : Ring) : Ring := { r with lost := r.lost + 1, gap := r.gap + 1 }

/-- R461: drop the victim: it is lost when it was not yet delivered, and a mark that named it becomes invalid (R467). -/
def Ring.evict (r : Ring) (v : Event) : Ring :=
  let r := { r with recs := r.recs.filter (fun e => e.seq ≠ v.seq) }
  let r := if r.mark = some v.seq then { r with markValid := false } else r
  if max r.reader r.next ≤ v.seq then r.lose else r

/-- R461: a record enters a ring, overwriting by severity or being dropped. The Bool is whether it was written. -/
def Ring.push (r : Ring) (now : Nat) (e : Event) : Ring × Bool :=
  let put (r : Ring) : Ring :=
    { r with recs := r.recs ++ [{ e with seq := r.nextSeq }], nextSeq := r.nextSeq + 1,
             waitSince := if r.waitSince.isNone then some now else r.waitSince }
  if r.recs.length < r.cap then (put r, true)
  else match r.victim e.sev with
    | some v => (put (r.evict v), true)
    | none => ({ r.lose with drops := r.drops.modify e.sev (· + 1) }, false)

/-- R462: the tokens of a bucket now, in units of 10⁻⁹ token. -/
def Bucket.level (b : Bucket) (rate burst now : Nat) : Nat :=
  min (burst * 10 ^ 9) (b.tokens + rate * (now - b.at_))

/-- R462: take a token for a code in a ring. Answers whether one was there. -/
def State.takeToken (s : State) (ring : Nat) (e : Event) : State × Bool :=
  let rate := s.fld Reg.evrFlood 15 0
  let burst := s.fld Reg.evrFlood 31 16
  let isB (b : Bucket) := b.ring == ring && b.code == e.code
  let s := if s.log.buckets.any isB then s else
    { s with log := { s.log with buckets := s.log.buckets ++
      [{ ring := ring, code := e.code, tokens := burst * 10 ^ 9, at_ := s.clock.mono, held := 0, last := e }] } }
  match s.log.buckets.find? isB with
  | none => (s, true)
  | some b =>
    let t := b.level rate burst s.clock.mono
    let upd (f : Bucket → Bucket) : State :=
      { s with log := { s.log with buckets := modWhere isB f s.log.buckets } }
    if 10 ^ 9 ≤ t then (upd (fun b => { b with tokens := t - 10 ^ 9, at_ := s.clock.mono }), true)
    else
      let s' := upd (fun b => { b with tokens := t, at_ := s.clock.mono, held := min (2 ^ 32 - 1) (b.held + 1), last := e })
      let s' := if b.held = 0 then s'.notice Reg.evrNotice 2 else s'
      (s'.modRing ring (fun r => { r with suppressed := r.suppressed + 1 }), false)

/-- R457, R461, R462: a record of a ring is written, with its flood control and overwriting, unless its severity is below MIN_SEV. -/
def State.putRec (s : State) (ring : Nat) (e : Event) : State :=
  if e.sev < s.fld Reg.evrCtrl 2 0 then s
  else
    let free := e.sev == 7 || e.code == 0x0C01 || e.code == 0x0C02
    let (s, ok) := if free then (s, true) else s.takeToken ring e
    if !ok then s
    else match s.ring? ring with
      | none => s
      | some r =>
        let (r', wrote) := r.push s.clock.mono e
        let s := s.modRing ring (fun _ => r')
        if wrote then s else s.notice Reg.evrNotice 1

/-- R463: the PARTITION of the recorder's own records in a ring. -/
def ringPart (n : Nat) : Nat := if n < 256 then n else 0

/-- R11, R466: note the level and whether the watermark is crossed now. -/
def State.ringLevel (s : State) (n : Nat) : State :=
  match s.ring? n with
  | none => s
  | some r =>
    let lvl := r.unread
    let s := s.modRing n (fun r => { r with levelMax := max r.levelMax lvl })
    if lvl < s.ringMark r then s.modRing n (fun r => { r with wmArmed := true })
    else if r.wmArmed then
      let e : Event := { seq := 0, sev := 4, time := s.clock.secure, code := 0x0C03, part := ringPart n, island := 48,
                         payload := leBytes 4 lvl ++ zeros 4 }
      let s := s.modRing n (fun r => { r with wmArmed := false })
      (s.putRec n e).notice Reg.evrNotice 0
    else s

/-- R456, R466: one record for one ring, then the ring's watermark. -/
def State.writeRec (s : State) (ring sev code part island : Nat) (payload : Bytes) : State :=
  match s.ring? ring with
  | none => s
  | some _ =>
    let e : Event := { seq := 0, sev := sev, time := s.clock.secure, code := code, part := part, island := island,
                       payload := fixLen 8 payload }
    (s.putRec ring e).ringLevel ring

/-- R460: a record of the device log. -/
def State.devEvent (s : State) (sev code island : Nat) (payload : Bytes) (part : Nat := 0) : State :=
  s.writeRec 256 sev code part island payload

/-- R460: a record of a partition's log region. -/
def State.partEvent (s : State) (part sev code island : Nat) (payload : Bytes) : State :=
  s.writeRec part sev code part island payload

end Sys2Proof.Machine
end

