-- ==== Sys2Proof/Machine/Mortar.lean ====
section
/-! DEFINITION. The mortar links into the hods (R16 to R18, R20, R110): the four phases of a word, whole packets under one grant,
the requesters that wait at a merge, and what an island that does not run holds back. -/

namespace Sys2Proof.Machine

/-! ### The four phases of a word (R16) -/

/-- R17: the words of a packet with their end marks: the last carries 1, every other 0. -/
def Packet.lines (p : Packet) : List (Bytes × Bool) :=
  (List.range p.words).map (fun k => (fixLen 32 (p.data.drop (32 * k)), k + 1 == p.words))

/-- R16 phase 1: the sender sets data and end mark, then raises request. -/
def Link.raise (l : Link) (w : Bytes × Bool) : Link := { l with data := w.1, endMark := w.2, req := true }

/-- R16 phase 2: the receiver captures the word that stands on the lines, then raises acknowledge. -/
def Link.capture (l : Link) : Link := if l.req ∧ !l.ack then { l with words := l.words ++ [(l.data, l.endMark)], ack := true } else l

/-- R16 phase 3: the sender lowers request. -/
def Link.lower (l : Link) : Link := if l.ack then { l with req := false } else l

/-- R16 phase 4: the receiver lowers acknowledge. -/
def Link.release (l : Link) : Link := if l.req then l else { l with ack := false }

/-- R16: one word crosses a link: the four phases in order. -/
def Link.word (l : Link) (w : Bytes × Bool) : Link := (((l.raise w).capture).lower).release

/-! ### Packets and grants (R17, R18) -/

/-- R18: a requester asks for the link. An idle link is granted at once, and its first word stands on the lines. -/
def Link.ask (l : Link) (req : Nat) (p : Packet) : Link :=
  if l.grant.isNone then (match p.lines with | w :: _ => { l with grant := some (req, p) }.raise w | [] => { l with grant := some (req, p) })
  else { l with waiting := l.waiting ++ [(req, p)] }

/-- R18: when an end-marked word has passed, the grant goes to another requester if one is waiting, else to the same one. -/
def Link.passOn (l : Link) (last : Nat) : Link :=
  let next := (l.waiting.find? (fun e => e.1 ≠ last)).or l.waiting.head?
  match next with
  | none => { l with grant := none, words := [] }
  | some e => ({ l with grant := none, words := [], waiting := l.waiting.erase e }).ask e.1 e.2

/-- The packets that are still on their way into a hod. -/
def Tile.coming (t : Tile) : List Packet := (t.link.grant.toList ++ t.link.waiting).map Prod.snd

/-- R110: words in a hod. -/
def Tile.level (t : Tile) : Nat := sumOf (fun p => p.words) t.hod

/-- R110: words in a hod and on their way into it. -/
def Tile.taken (t : Tile) : Nat := t.level + sumOf (fun p => p.words) t.coming

/-- R110, R112: a packet whose end-marked word has entered the hod. A job packet without FINAL makes the tile stream until the packet
with FINAL has entered. -/
def Tile.accept (t : Tile) (p : Packet) : Tile :=
  let h := t.hod ++ [p]
  { t with hod := h, hodMax := max t.hodMax (sumOf (fun p => p.words) h),
           state := if p.kind = 0 ∧ !p.final ∧ t.state = 0 then 1 else if p.kind ≠ 2 ∧ p.final ∧ t.state = 1 then 0 else t.state }

/-- R16, R17: the granted packet crosses whole, word by word, if the hod has room for it; then the grant passes on. -/
def Tile.pass (t : Tile) : Tile :=
  match t.link.grant with
  | none => t
  | some (r, p) =>
    if 32 < t.level + p.words then t
    else
      let l := p.lines.foldl Link.word t.link
      { t.accept p with link := l.passOn r }

/-- R16 to R18: packets cross until none waits or the hod is full; at most as many as the number given. -/
def Tile.flow : Nat → Tile → Tile
  | 0, t => t
  | n + 1, t => Tile.flow n t.pass

/-- R18: a requester's packet comes to a tile's link. -/
def Tile.offer (t : Tile) (req : Nat) (p : Packet) : Tile := { t with link := t.link.ask req p }

/-- R20, R402: the island of a tile takes part in handshakes: the tiles are not paused and its clock runs. -/
def State.tileRuns (s : State) (t : Tile) : Bool := !s.power.paused && !s.guard.stopped.contains t.num

end Sys2Proof.Machine
end

