-- ==== Sys2Proof/Machine/Ops.lean ====
section
/-! DEFINITION. The named operations over the state's parts: queues, jobs, tiles, courses, partitions and credit; how a job
completes, when an entry becomes ready, error tokens, tile resets and wipes. -/

namespace Sys2Proof

/-- Bit 0 CHAIN_WAIT, 1 FENCE, 2 INLINE, 3 SEALED (R51). -/
def Desc.chainWait (d : Desc) : Bool := d.flags.getLsbD 0
/-- R51 FENCE. -/
def Desc.fence (d : Desc) : Bool := d.flags.getLsbD 1
/-- R51 INLINE. -/
def Desc.inline (d : Desc) : Bool := d.flags.getLsbD 2

/-- R51: CONTEXT_ID. -/
def Desc.ctxId (d : Desc) : Nat := d.ctxWord.toNat % 2 ^ 22

/-- R51: a management opcode. -/
def Desc.isMgmt (d : Desc) : Bool := d.opcode < 0x1000

/-- A PARAM byte by its descriptor offset, 48 to 63. -/
def Desc.p8 (d : Desc) (o : Nat) : Nat := Machine.byteAt (o - 48) d.param

/-- A little-endian PARAM number of `n` bytes by its descriptor offset. -/
def Desc.pLe (d : Desc) (o n : Nat) : Nat := leAt (o - 48) n d.param

/-- Whether `n` PARAM bytes from a descriptor offset are zero (R6). -/
def Desc.pZero (d : Desc) (o n : Nat) : Bool := Machine.zeroAt (o - 48) n d.param

/-- R12: OUT_WRITTEN is zero on every status other than DONE, and nothing is written. -/
def Result.clean (r : Result) : Result := if r.status = 0 then r else { r with out := [], written := 0, outOff := 0 }

end Sys2Proof

namespace Sys2Proof.Machine

/-! ### Access to the parts -/

/-- R45: a queue that is not ABSENT. -/
def State.qp? (s : State) (q : Nat) : Option Qp := s.qps.find? (fun x => x.cfg.queue == q)

/-- Change one queue. -/
def State.modQp (s : State) (q : Nat) (f : Qp → Qp) : State :=
  { s with qps := modWhere (fun x => x.cfg.queue == q) f s.qps }

/-- The id of a job. -/
def Job.id (j : Job) : JobId := (j.queue, j.idx)

/-- A job of the fetched jobs. -/
def State.job? (s : State) (id : JobId) : Option Job := s.jobs.find? (fun j => j.id == id)

/-- Change one job. -/
def State.modJob (s : State) (id : JobId) (f : Job → Job) : State :=
  { s with jobs := modWhere (fun j => j.id == id) f s.jobs }

/-- One tile. -/
def State.tile? (s : State) (t : Nat) : Option Tile := s.tiles.find? (fun x => x.num == t)

/-- Change one tile. -/
def State.modTile (s : State) (t : Nat) (f : Tile → Tile) : State :=
  { s with tiles := modWhere (fun x => x.num == t) f s.tiles }

/-- One course. -/
def State.course? (s : State) (c : Nat) : Option Course := s.courses.find? (fun x => x.num == c)

/-- Change one course. -/
def State.modCourse (s : State) (c : Nat) (f : Course → Course) : State :=
  { s with courses := modWhere (fun x => x.num == c) f s.courses }

/-- R83: an interface takes a further service address while fewer than 8 of its kind are in use; beyond that it is refused. -/
def Iface.addService (f : Iface) (a : Bytes) : Iface :=
  let v4 (b : Bytes) : Bool := b.take 12 == zeros 10 ++ [0xFF, 0xFF]
  if f.service.contains a ∨ 8 ≤ countOf (fun b => v4 b == v4 a) f.service then f else { f with service := f.service ++ [a] }

/-- R328: a partition in use. -/
def State.part? (s : State) (p : Nat) : Option PartRec := s.tabs.table.parts.find? (fun r => r.num == p)

/-- R328: a tile's record in the partition table. -/
def State.tileRec (s : State) (t : Nat) : TileRec := s.tabs.table.tiles.getD t {}

/-- R14: the course of a tile. -/
def courseOf (t : Nat) : Nat := t / 8

/-- R246: secure time in ns, as 64 bits. -/
def State.now (s : State) : Nat := s.clock.secure % 2 ^ 64

/-- R248: `d` nanoseconds pass. Secure time is slewed at 500 parts per million: one nanosecond more or less in 2,000. -/
def Clock.pass (c : Clock) (d : Nat) : Clock :=
  let n := min c.slew.natAbs ((c.slewPhase + d) / 2000)
  let left := c.slew - (if 0 < c.slew then (n : Int) else -(n : Int))
  if c.slew = 0 ∨ c.state = .unset then { c with mono := c.mono + d, secure := c.secure + d, slewPhase := 0 }
  else { c with mono := c.mono + d, secure := if 0 < c.slew then c.secure + d + n else c.secure + (d - n), slew := left,
                slewPhase := if left = 0 then 0 else (c.slewPhase + d) % 2000 }

/-- Advance both clocks to a later moment of the elapsed time. -/
def State.advanceTo (s : State) (mono : Nat) : State :=
  { s with clock := s.clock.pass (mono - s.clock.mono) }

/-- Draw free bytes (notes/assumptions/3.md). -/
def State.draw (s : State) (n : Nat) : Bytes × State :=
  ((List.range n).map (fun i => Config.freeByte (s.free + i)), { s with free := s.free + n })

/-- R413: a frame of the mirror link, which carries the sender's FSEQ. -/
def Frame.mirrored (f : Frame) : Bool :=
  match f with
  | .heartbeat _ | .mirror _ _ | .transport _ | .pageData _ _ | .batchAck _ => true
  | _ => false

/-- R413: record a frame the device puts on a wire; one of the mirror link takes the next FSEQ. -/
def State.send (s : State) (f : Frame) : State :=
  { s with sent := s.sent ++ [f], pair := { s.pair with fseq := s.pair.fseq + b2n f.mirrored } }

/-! ### Partitions, home courses and credit -/

/-- R326: whether a tile or a slot of a tile belongs to a partition. -/
def TileRec.holds (r : TileRec) (p : Nat) : Bool :=
  (r.kind == 0 && r.owner == p) || (r.kind == 1 && r.slots.contains p)

/-- R96, R326: whether a partition holds a tile or slot in a course. -/
def State.holdsIn (s : State) (p c : Nat) : Bool :=
  (List.range 8).any (fun k => (s.tileRec (8 * c + k)).holds p)

/-- R96, R326: the home courses of a partition, ascending; all six for partition 0 when it holds none. -/
def State.homeCourses (s : State) (p : Nat) : List Nat :=
  let l := (List.range 6).filter (s.holdsIn p)
  if p = 0 ∧ l = [] then List.range 6 else l

/-- R96: the course a new queue takes. -/
def State.homeCourseOf (s : State) (p q : Nat) : Nat :=
  let l := s.homeCourses p
  l.getD (q % l.length) 0

/-- R97: the credit the table gives a partition in a course. -/
def State.creditOf (s : State) (p c : Nat) : Nat :=
  match s.part? p with
  | some r => r.credit.getD c 0
  | none => 0

/-- R97: credit in use: entries held, READs issued and entries held back (R98). -/
def State.creditUsed (s : State) (p c : Nat) : Nat :=
  countOf (fun j => j.entry.isSome && j.part == p && j.course == c) s.jobs +
  sumOf (fun q => if q.cfg.part == p then
      (if q.homeCourse == c then sumOf (fun f => f.count) q.fetches else 0) + b2n (q.held.isSome && q.heldIn.getD q.homeCourse == c)
    else 0) s.qps

/-- R97: the credit left. -/
def State.creditLeft (s : State) (p c : Nat) : Nat := s.creditOf p c - s.creditUsed p c

/-- Entries in use in a trowel, and the lowest free entry number (R111, 0 to 2,047). -/
def State.entriesIn (s : State) (c : Nat) : List Nat :=
  (s.jobs.filter (fun j => j.course == c)).filterMap (fun j => j.entry)

/-- DESIGN CHOICE (notes/assumptions/61.md): a new entry takes the lowest number of its trowel not in use; the spec states no order. -/
def State.freeEntry (s : State) (c : Nat) : Nat :=
  let used := s.entriesIn c
  ((List.range 2048).find? (fun n => !used.contains n)).getD 0

/-- R11, R115: the matching-store levels of a course. -/
def State.inUse (s : State) (c : Nat) : Nat := (s.entriesIn c).length

/-- Jobs of a course in the ready queue. -/
def State.readyIn (s : State) (c : Nat) : Nat := countOf (fun j => j.course == c && j.phase == .ready) s.jobs

/-- R11, R115: compare the matching-store watermark of a course after a change of its level. -/
def State.msWatermark (s : State) (c : Nat) : State :=
  let lvl := s.inUse c
  let s := s.modCourse c (fun x => { x with inUseMax := max x.inUseMax lvl, readyMax := max x.readyMax (s.readyIn c) })
  let th := ceilPct 2048 (s.fld Reg.dspCtrl 14 8)
  match s.course? c with
  | none => s
  | some x =>
    if lvl < th then s.modCourse c (fun x => { x with wmArmed := true })
    else if x.wmArmed then
      let s := s.modCourse c (fun x => { x with wmArmed := false })
      let s := s.notice Reg.dspNotice 0
      s.devEvent 2 0x0201 63 (leBytes 1 c ++ [0] ++ leBytes 2 lvl)
    else s

/-! ### Queue watermarks (R81, R82) -/

/-- Entries of a ring of 2^log2. -/
def ringSize (log2 : Nat) : Nat := 2 ^ log2

/-- R55: the submission backlog. -/
def Qp.backlog (q : Qp) : Nat := (q.sqDoorbell - q.fetchIndex).toNat

/-- R81: the completion occupancy. -/
def Qp.cqLevel (q : Qp) : Nat := (q.cqPosted - q.cqDoorbell).toNat

/-- R46, R81: a queue's watermark, or the default when it gives 0. -/
def State.wmOf (s : State) (q : Qp) : Nat → Nat
  | 0 => ceilPct (ringSize q.cfg.sqLog2) (if q.cfg.sqWm = 0 then s.fld Reg.hqiWmDefault 6 0 else q.cfg.sqWm)
  | 1 => ceilPct (ringSize q.cfg.cqLog2) (if q.cfg.cqWm = 0 then s.fld Reg.hqiWmDefault 14 8 else q.cfg.cqWm)
  | _ => if q.cfg.refuseWm = 0 then s.fld Reg.hqiWmDefault 31 16 else q.cfg.refuseWm

/-- R81: the level of a queue's watermark `k`: 0 SQ, 1 CQ, 2 refusals since arming. -/
def Qp.wmLevel (q : Qp) : Nat → Nat
  | 0 => q.backlog
  | 1 => q.cqLevel
  | _ => q.refusedSinceArm

/-- R81, R82: compare one watermark of a queue after a change of its level. -/
def State.queueWatermark (s : State) (n k : Nat) : State :=
  match s.qp? n with
  | none => s
  | some q =>
    let lvl := q.wmLevel k
    let s := s.modQp n (fun q => { q with sqBacklogMax := max q.sqBacklogMax q.backlog,
                                          cqLevelMax := max q.cqLevelMax q.cqLevel })
    if q.armed.getLsbD k then
      if s.wmOf q k ≤ lvl then
        let bit : BitVec 3 := BitVec.ofNat 3 (2 ^ k)
        let s := s.modQp n (fun q => { q with armed := q.armed &&& ~~~bit, notices := q.notices ||| bit })
        let s := s.notice Reg.hqiNotice k
        s.partEvent q.cfg.part 2 0x0103 51 (leBytes 2 n ++ leBytes 1 (2 ^ k) ++ [0] ++ leBytes 4 lvl)
      else s
    else if k < 2 ∧ !q.notices.getLsbD k ∧ lvl < s.wmOf q k then
      s.modQp n (fun q => { q with armed := q.armed ||| BitVec.ofNat 3 (2 ^ k) })
    else s

/-- A READ among the requests. -/
def ReqKind.isRead (k : ReqKind) : Bool := k == .readDesc || k == .readPayload || k == .readPage

/-- READs outstanding on a queue. -/
def Qp.readsOut (q : Qp) : Nat := countOf (fun r => r.kind.isRead) q.reqs

/-- READs outstanding on the device. -/
def State.readsOut (s : State) : Nat := sumOf (fun q => q.readsOut) s.qps

/-- R41: a request leaves with the queue's next PSN; it takes one PSN for each packet of the path MTU. -/
def Qp.post (x : Qp) (r : Req) : Qp :=
  { x with reqs := x.reqs ++ [{ r with psn := x.devicePsn }],
           devicePsn := x.devicePsn + BitVec.ofNat 24 (max 1 (ceilDiv r.len (2 ^ (x.cfg.pmtu + 7)))) }

/-- Drop the first request of a kind, when its response has arrived. -/
def Qp.dropReq (q : Qp) (p : Req → Bool) : Qp :=
  match q.reqs.find? p with
  | none => q
  | some r => { q with reqs := q.reqs.erase r }

/-- R84: note the queue and READ maxima. -/
def State.noteHqi (s : State) : State :=
  let active := countOf (fun q => q.cfg.queue < 4096) s.qps
  let rd := s.readsOut
  { s with qpMax := max s.qpMax active, rdMax := max s.rdMax rd }

/-! ### RDMA requests -/

/-- R41, R42: issue a request on a queue; it takes the next PSN. A READ response takes one PSN for each packet of the path MTU. -/
def State.issue (s : State) (q : Nat) (kind : ReqKind) (addr rkey len : Nat) (data : Bytes) (cseq : Nat := 0)
    (idx : BitVec 32 := 0) : State :=
  let r : Req := { psn := 0, kind := kind, addr := addr, rkey := rkey, len := len, data := data, cseq := cseq, at_ := s.clock.mono,
                   idx := idx }
  (s.modQp q (fun x =>
    if kind.isRead ∧ (x.cfg.rdDepth ≤ x.readsOut ∨ 32768 ≤ s.readsOut ∨ x.waitReads ≠ []) then { x with waitReads := x.waitReads ++ [r] }
    else x.post r)).noteHqi

/-- R42: a queue that may issue a READ that waits: fewer than RD_DEPTH of its READs are outstanding, and it is not stopped. -/
def Qp.mayRead (q : Qp) : Bool := !q.waitReads.isEmpty && decide (q.readsOut < q.cfg.rdDepth) && q.state ≠ 4 && q.state ≠ 5

/-- R42: the READ of a queue that has waited longest is issued. -/
def Qp.postWaiting (mono : Nat) (q : Qp) : Qp :=
  match q.waitReads with
  | [] => q
  | r :: rest => { q with waitReads := rest }.post { r with at_ := mono }

/-- R42: one READ that waits takes a free place under both limits. DESIGN CHOICE (notes/assumptions/62.md): the queue whose READ
ended comes first, then the lowest-numbered queue. -/
def State.postOne (s : State) (n : Nat) : State :=
  if 32768 ≤ s.readsOut then s
  else
    let next := (s.qps.find? (fun q => q.cfg.queue == n && q.mayRead)).or (s.qps.find? Qp.mayRead)
    match next with
    | none => s
    | some q => s.modQp q.cfg.queue (Qp.postWaiting s.clock.mono)

/-- R42: after `k` READs have ended at once, as many that wait may go on. -/
def State.postMany (s : State) (n : Nat) : Nat → State
  | 0 => s
  | k + 1 => (s.postOne n).postMany n k

/-- R42: an outstanding request of a queue ends. Where it is a READ, one that waits takes its place. -/
def State.readDone (s : State) (q : Nat) (p : Req → Bool) : State :=
  let ended := ((s.qp? q).map (fun x => x.reqs.any (fun r => p r && r.kind.isRead))).getD false
  let s := s.modQp q (fun x => x.dropReq p)
  (if ended then s.postOne q else s).noteHqi

/-! ### Jobs: readiness and completion -/

/-- R101: the fence of an entry is open. -/
def State.fenceOpen (s : State) (j : Job) : Bool :=
  !j.desc.fence || s.jobs.all (fun k => !(k.queue == j.queue && decide (k.seq < j.seq)) || k.phase == .done)

/-- R108: the flow of an entry lets it go: it is not ATOMIC, or every earlier job of the flow has completed. -/
def State.flowOpen (s : State) (j : Job) : Bool :=
  match j.ctx with
  | none => true
  | some c => c.order ≠ 1 ||
    s.jobs.all (fun k => !(k.queue == j.queue && decide (k.seq < j.seq) && k.desc.ctxId == c.id) || k.phase == .done)

/-- R393: the commands the control cluster executes, and completes, during a freeze. -/
def freezeOps : List Nat :=
  [Op.tamperClear, Op.cfgRead, Op.sessionChallenge, Op.sessionOpen, Op.sessionClose, Op.ceremonyBegin, Op.ceremonyJoin,
   Op.ceremonyEnd]

/-- R91: drop superseded generations that no job holds. -/
def State.releaseGens (s : State) : State :=
  { s with ctxs := { s.ctxs with old := s.ctxs.old.filter (fun c =>
      s.jobs.any (fun j => j.phase ≠ .done && (match j.ctx with | some d => d.id == c.id && d.gen == c.gen | none => false))) } }

/-- R100: free the entries of completed jobs that wait for no token. R11: each course's level is compared with its watermark. -/
def State.freeDone (s : State) : State :=
  let s : State := { s with jobs := s.jobs.filter (fun j => !(j.phase == .done && j.want.isEmpty)) }
  forEach (List.range 6) (fun c s => s.msWatermark c) s

/-- R49, R71, R458: the orphan-completion events of a committed job: partition, queue, JOB_TAG, ring index and STATUS. -/
def State.orphan (s : State) (part queue tag idx status : Nat) : State :=
  let s := s.notice Reg.hqiNotice 6
  let s := s.partEvent part 3 0x0101 51 (leBytes 8 tag)
  s.partEvent part 3 0x0102 51 (leBytes 2 queue ++ leBytes 2 status ++ leBytes 4 idx)

/-- R94, R103: a chain token or chain error token reaches the successor's entry. -/
def Job.fromPredecessor (k : Job) (idx : BitVec 32) (r : Result) : Job :=
  if r.status = Status.done then { k with chainIn := some r.out }
  else { k with err := some (k.err.getD (Status.chainBroken, r.status + 2 ^ 16 * idx.toNat)), want := k.want.filter (fun t => t ≠ .chain) }

/-- R115: an error token is counted when a predecessor's outcome is one. -/
def State.countChain (s : State) (r : Result) : State := if r.status = Status.done then s else s.bump Reg.dspErrTokens

/-- R103: what a chain predecessor hands to its successor: its output, or a chain error token. -/
def State.toSuccessor (s : State) (j : Job) (r : Result) : State :=
  if !j.chained then s
  else if (s.job? (j.queue, j.idx + 1)).isNone then s.modQp j.queue (fun q => { q with passed := some (j.idx, r) })
  else (s.countChain r).modJob (j.queue, j.idx + 1) (fun k => k.fromPredecessor j.idx r)

/-- R59, R100: a job completes: its completion is queued for writing, its successor is told, its fences, flows and pins
are released. `committed` says that the job's state change has passed its commit point (R49). -/
def State.finishCore (s : State) (j : Job) (r : Result) (tile : Nat) (committed : Bool := false) : State :=
  let r := r.clean
  let s := if r.status = Status.chainBroken then s.notice Reg.dspNotice 3 else s
  let s := match s.qp? j.queue with
    | none => s
    | some q =>
      if q.state = 4 ∨ q.state = 5 then
        let s := s.modQp j.queue (fun q => { q with inFlight := q.inFlight - 1 })
        let s := if q.state = 5 ∧ 0 < j.outWritten then
          s.issue j.queue .write j.desc.outAddr j.desc.outRkey j.outWritten (zeros j.outWritten) else s
        if committed then s.orphan j.part j.queue j.desc.tag j.idx.toNat r.status else s
      else
        let c : Cpl :=
          { tag := j.desc.tag, idx := j.idx.toNat, res := r, tile := tile, doneTime := s.now, outAddr := j.desc.outAddr,
            outRkey := j.desc.outRkey, zeroFill := j.outWritten, chained := j.chained,
            establish := j.desc.opcode == Op.qpSealEstablish && r.status == 0, outSeal := j.sealing.map (fun (k : SealRef) => (k.toHost, k.seq)),
            freezeOk := freezeOps.contains j.desc.opcode, release := j.desc.opcode == Op.tamperClear && r.status == 0,
            part := j.part, committed := committed }
        s.modQp j.queue (fun q => { q with cpls := q.cpls ++ [c] })
  let s := s.toSuccessor j r
  let s := if j.desc.opcode = Op.qpSealEstablish ∧ r.status ≠ 0 then s.modQp j.queue (fun q => { q with sealBusy := false }) else s
  let s := s.modJob j.id (fun k => { k with phase := .done, keys := [], brings := none })
  s.releaseGens

/-- R68: whether a job's extents lie in a region. -/
def Job.uses (j : Job) (r : Region) : Bool :=
  let inside (a l k : Nat) : Bool := decide (0 < l) && k == r.rkey && decide (r.base ≤ a) && decide (a + l ≤ r.base + r.len)
  inside j.desc.inAddr j.desc.inLen j.desc.inRkey || inside j.desc.outAddr j.desc.outLen j.desc.outRkey

/-- R35: a command fetched in STANDBY passes to the control cluster after every command fetched before it. -/
def State.inFetchOrder (s : State) (j : Job) : Bool :=
  j.entry.isSome || !s.jobs.any (fun k => k.entry.isNone && k.phase == .waiting && decide (k.seq < j.seq))

/-- A job that settling can move on: its tokens are complete or it has an error token, and its flow and fence let it go. -/
def State.movable (s : State) (j : Job) : Bool :=
  j.phase == .waiting && s.flowOpen j && (j.err.isSome || (j.want.isEmpty && s.fenceOpen j && s.inFetchOrder j))

/-- R68: a ring index fetched before FETCH_INDEX stood at `m`. -/
def fetchedBefore (i m : BitVec 32) : Bool := decide (2 ^ 31 ≤ (i - m).toNat)

/-- R68: a descriptor fetched before FETCH_INDEX stood at `m` whose extents are not yet known. -/
def Qp.unseen (q : Qp) (m : BitVec 32) : Bool :=
  q.fetches.any (fun f => fetchedBefore f.first m) || (match q.held with | some e => fetchedBefore e.idx m | none => false)

/-- R68: a region removal whose region no fetched job uses any more. -/
def State.removalDone (s : State) : Option (Nat × Nat × JobId) :=
  s.qps.findSome? (fun q => q.removing.findSome? (fun (n, m, id) =>
    match q.regions.find? (fun r => r.num == n) with
    | none => some (q.cfg.queue, n, id)
    | some r => if q.unseen m || s.jobs.any (fun j => j.queue == q.cfg.queue && j.phase ≠ .done && j.id ≠ id && j.uses r) then none
                else some (q.cfg.queue, n, id)))

/-- One settling move: the oldest entry that can move becomes ready, passes to the control cluster, or completes from the
trowel with its error (R100); else a finished region removal completes (R68). -/
def State.settleOnce (s : State) : State :=
  match s.jobs.find? s.movable with
  | some j =>
    match j.err with
    | some (st, dt) => (s.finishCore j { status := st, detail := dt } 0xFF).freeDone
    | none =>
      if j.desc.isMgmt then s.modJob j.id (fun k => { k with phase := .control })
      else
        let s := { s with readySeq := s.readySeq + 1 }
        (s.modJob j.id (fun k => { k with phase := .ready, readySeq := s.readySeq })).msWatermark j.course
  | none =>
    match s.removalDone with
    | none => s.freeDone
    | some (q, n, id) =>
      let s := s.modQp q (fun x => { x with regions := x.regions.filter (fun r => r.num ≠ n),
                                            removing := x.removing.filter (fun e => e.1 ≠ n) })
      match s.job? id with
      | none => s
      | some j => (s.finishCore j { status := Status.done } 0xFF true).freeDone

/-- Settle until nothing moves: every move takes an entry out of its waiting phase or a removal off its list. -/
def State.settleN : Nat → State → State
  | 0, s => s
  | n + 1, s => State.settleN n s.settleOnce

/-- R100, R101, R103, R108: let every entry that can move go on. -/
def State.settle (s : State) : State :=
  (State.settleN (2 * s.jobs.length + sumOf (fun q => q.removing.length) s.qps + 1) s).freeDone

/-- A job completes, and what it held back goes on. -/
def State.finish (s : State) (id : JobId) (r : Result) (tile : Nat := 0xFF) (committed : Bool := false) : State :=
  match s.job? id with
  | none => s
  | some j => if j.phase = .done then s else (s.finishCore j r tile committed).settle

/-- R100: an entry receives an error token while it waits; the first one counts, and a token that was asked for is no longer
awaited. -/
def State.errToken (s : State) (id : JobId) (st dt : Nat) (tok : Option Tok := none) : State :=
  ((s.bump Reg.dspErrTokens).modJob id (fun j =>
    let j := { j with want := match tok with | some t => j.want.filter (fun x => x ≠ t) | none => j.want }
    if j.phase = .waiting ∨ j.phase = .ready ∨ j.phase = .control then
      { j with phase := .waiting, err := some (j.err.getD (st, dt)) }
    else j))

/-- R49, R71, R104: an error token for every entry of the jobs that satisfy a predicate; every token they asked for counts as
answered by it. -/
def State.errAll (s : State) (p : Job → Bool) (st dt : Nat) : State :=
  let sel (j : Job) : Bool := p j && (j.phase == .waiting || j.phase == .ready || j.phase == .control)
  let hit (j : Job) : Job := { j with phase := .waiting, want := [], err := some (j.err.getD (st, dt)) }
  (({ s with jobs := modWhere sel hit s.jobs } : State).bump Reg.dspErrTokens (countOf sel s.jobs)).settle

/-- Deliver an operand token that an entry waits for. -/
def State.deliver (s : State) (id : JobId) (t : Tok) (f : Job → Job) : State :=
  (s.modJob id (fun j =>
    let j := { j with want := j.want.filter (fun x => x ≠ t) }
    if j.phase = .done then j else f j)).settle

/-! ### Tiles -/

/-- R186, R210: at a job's end SECRET and DEST slots are zeroed; PUBLIC ones keep their values. -/
def PlanSlot.ended (p : PlanSlot) : PlanSlot := if p.cls = 0 then p else { p with live := false }

/-- Bytes laid out from an address on: the cells other than zero. -/
def cellsFrom : Nat → Bytes → Mem
  | _, [] => []
  | a, b :: l => if b = 0 then cellsFrom (a + 1) l else (a, b) :: cellsFrom (a + 1) l

/-- R185: what a slot of a plan holds becomes `b`, cut to the slot, and zero behind it. -/
def PlanSlot.put (p : PlanSlot) (b : Bytes) (m : Mem) : Mem :=
  m.filter (fun e => decide (e.1 < 8 * p.base)) ++ cellsFrom (8 * p.base) (b.take (8 * p.words)) ++
    m.filter (fun e => decide (8 * (p.base + p.words) ≤ e.1))

/-- R186, R210: at the end of a long-integer job every SECRET and DEST slot of its plan is zeroed. -/
def Tile.planEnds (x : Tile) : Tile :=
  { x with opMem := x.plan.foldl (fun m p => if p.cls = 0 then m else p.put [] m) x.opMem, plan := x.plan.map PlanSlot.ended }

/-- R211: a wipe of a tile: operand memory and key cache are zeroed. -/
def Tile.wipe (x : Tile) : Tile := { x with cache := [], plan := [], opMem := [], wipes := x.wipes + 1 }

/-- R211: a tile is wiped without a packet: at a reset, a quarantine and a PURGE. -/
def State.wipeTile (s : State) (t : Nat) : State := s.modTile t Tile.wipe

/-- R211: the sequencer takes the wipe packets at the bottom of its hod once no job runs. -/
def Tile.takeWipes : Nat → Tile → Tile
  | 0, x => x
  | n + 1, x =>
    match x.hod with
    | p :: rest => if p.kind = 2 ∧ x.job.isNone ∧ x.held.isNone then Tile.takeWipes n { x.wipe with hod := rest } else x
    | [] => x

/-- R16, R20: what waits at a tile's link goes on as far as the tile lets it. -/
def State.flowTile (s : State) (t : Nat) : State :=
  s.modTile t (fun x => if s.tileRuns x then let y := x.flow (x.coming.length + 1); y.takeWipes (y.hod.length + 1) else x)

/-- R16 to R18: a packet is sent along the mortar into a tile's hod. -/
def State.sendPacket (s : State) (t req : Nat) (p : Packet) : State := (s.modTile t (fun x => x.offer req p)).flowTile t

/-- R111: a wipe packet: a header word of KIND 2 for a partition. -/
def wipePacket (p : Nat) : Packet :=
  { kind := 2, queue := 0, idx := 0, words := 1, final := true, error := none, data := leBytes 2 (2 + 4) ++ leBytes 1 p ++ zeros 29 }

/-- R211: a tile is wiped before it serves another owner, on the wipe packet. -/
def State.wipeFor (s : State) (t p : Nat) : State := s.sendPacket t 2 (wipePacket p)

/-- R170: a tile drops its leases. -/
def State.dropLeases (s : State) (t : Nat) : State :=
  s.modTile t (fun x => { x with leases := [], leaves := [], wantLease := [], wantLeaf := [] })

/-- R170: at a failover every tile drops its leases. -/
def State.dropAllLeases (s : State) : State := forEach (List.range 48) (fun t s => s.dropLeases t) s

/-- The jobs whose packets lie in a tile's hod. -/
def State.hodJobs (s : State) (t : Nat) : List Job := s.jobs.filter (fun j => j.phase == .inHod t)

/-- R113: a reset discards the packets of jobs not yet started; each of them completes with ABORTED and the given DETAIL. -/
def State.discardHod (s : State) (t : Nat) : State :=
  let js := s.hodJobs t
  let s := s.modTile t (fun x => { x with hod := [], link := {} })
  let s := if js.isEmpty then s else s.notice Reg.dspNotice 2
  forEach js (fun j s => s.finish j.id { status := Status.aborted, detail := 0x01 }) s

/-- R210: the jobs a tile runs end without a result of their own. -/
def State.abortRunning (s : State) (t : Nat) (r : Result) : State :=
  let ids := ((s.tile? t).map (fun x => x.job.toList ++ x.held.toList)).getD []
  let s := s.modTile t (fun x => { x.planEnds with job := none, held := none, window := false, yields := 0 })
  forEach ids (fun id s => s.finish id r t) s

/-- R178: a tile is quarantined: key cache and operand memory are wiped, its hod is discarded and its leases are dropped. -/
def State.quarantine (s : State) (t : Nat) : State :=
  let s := s.modTile t (fun x => { x with state := 4, action := false, borrower := none })
  let s := s.notice Reg.tilNotice 0
  (s.wipeTile t).dropLeases t |>.discardHod t

/-- R106: references to a tile that is no longer eligible are discarded; wrapped records take their place. -/
def State.dropRefs (s : State) (t : Nat) : State :=
  let unref (k : KeyTok) : KeyTok := if k.tile = some t then { k with tile := none } else k
  let hit (j : Job) : Job := { j with keys := j.keys.map unref }
  { s with jobs := modWhere (fun j => j.phase == .waiting || j.phase == .ready) hit s.jobs }

end Sys2Proof.Machine
end

