-- ==== Sys2Proof/Machine/KeyOps.lean ====
section
/-! DEFINITION. The key store's shared operations: the ladder (R116), handles and records (R118 to R125), the lookup of
R120, allocation (R119, R151), objects and the version tree (R126 to R129), check values (R143) and public keys (R189). -/

namespace Sys2Proof.Machine

/-! ### Size classes and material (R122, R154, R188, R244) -/

/-- R122: slots of a size class. -/
def classSlots (c : Nat) : Nat := 4 ^ c

/-- R122: material capacity of a size class. -/
def classCap (c : Nat) : Nat := 64 * classSlots c - 32

/-- R122: the smallest class whose capacity holds `n` bytes. -/
def classFor (n : Nat) : Option Nat := [0, 1, 2, 3].find? (fun c => decide (n ≤ classCap c))

/-- R188: material bytes for an ALG and its LEN field. -/
def matLen (alg len : Nat) : Nat :=
  if alg = 0x10 then 7 * (len / 8) / 2 + 4 else if alg = 0x11 then len / 8 + 4 else len

/-- R154, R188, R244: material lengths by ALG. -/
def genLens : List (Nat × Nat) :=
  [(0x01, 16), (0x02, 32), (0x03, 16), (0x04, 24), (0x05, 32), (0x06, 64), (0x07, 32), (0x08, 32),
   (0x20, 32), (0x21, 48), (0x22, 66), (0x28, 65), (0x29, 97), (0x2A, 133), (0x30, 32), (0x38, 32),
   (0x40, 64), (0x41, 64), (0x42, 64), (0x48, 800), (0x49, 1184), (0x4A, 1568),
   (0x50, 32), (0x51, 32), (0x52, 32), (0x58, 1312), (0x59, 1952), (0x5A, 2592),
   (0x60, 64), (0x61, 64), (0x62, 96), (0x63, 96), (0x64, 128), (0x65, 128), (0x66, 105), (0x67, 132), (0x68, 72)]

/-- R154, R188, R244: LEN of a generated key of an ALG (for RSA the BITS given), and none for an undefined ALG. -/
def genLen (alg bits : Nat) : Option Nat :=
  if alg = 0x10 ∨ alg = 0x11 then some bits else alook alg genLens

/-- R154, R188, R244: the usage classes an ALG takes. -/
def algUsages (alg : Nat) : List Nat :=
  if 0x01 ≤ alg ∧ alg ≤ 0x04 then [1, 2, 3, 4, 7, 8]
  else if 0x05 ≤ alg ∧ alg ≤ 0x07 then [1, 2]
  else if alg = 0x08 then [7]
  else if alg = 0x10 then [5, 2]
  else if alg = 0x11 then [6, 1]
  else if 0x20 ≤ alg ∧ alg ≤ 0x22 then [5, 4]
  else if 0x28 ≤ alg ∧ alg ≤ 0x2A then [6, 4]
  else if alg = 0x30 then [5]
  else if alg = 0x38 then [6]
  else if (0x40 ≤ alg ∧ alg ≤ 0x42) ∨ (0x48 ≤ alg ∧ alg ≤ 0x4A) then [4]
  else if 0x50 ≤ alg ∧ alg ≤ 0x52 then [5]
  else if 0x58 ≤ alg ∧ alg ≤ 0x5A then [6]
  else if 0x60 ≤ alg ∧ alg ≤ 0x68 then [5]
  else []

/-- R189, R245: the public ALG of a key, itself for a public one; none for a symmetric key and a chain head. -/
def pubAlg (alg : Nat) : Option Nat :=
  if alg = 0x10 ∨ alg = 0x11 then some 0x11
  else if 0x20 ≤ alg ∧ alg ≤ 0x22 then some (alg + 8)
  else if alg = 0x30 then some 0x38
  else if 0x40 ≤ alg ∧ alg ≤ 0x42 then some (alg + 8)
  else if 0x50 ≤ alg ∧ alg ≤ 0x52 then some (alg + 8)
  else if [0x28, 0x29, 0x2A, 0x38, 0x48, 0x49, 0x4A, 0x58, 0x59, 0x5A].contains alg then some alg
  else if 0x60 ≤ alg ∧ alg ≤ 0x67 then some alg
  else none

/-- R245: the node bytes of a set of 0x66 or 0x67 material: 24 for the LMS types from 10 and the XMSS OIDs from 13. -/
def nodeBytes (alg : Nat) (mat : Bytes) : Nat :=
  if alg = 0x66 then (if 10 ≤ beNat (sub 1 4 mat) then 24 else 32) else if 13 ≤ beNat (sub 0 4 mat) then 24 else 32

/-- R189, R245: the most bytes of a public key of an ALG: half of SK for SLH-DSA, the HSS public key, OID ‖ root ‖ PUB_SEED. -/
def pubLen (alg len : Nat) : Nat :=
  if alg = 0x10 ∨ alg = 0x11 then len / 8 + 4
  else if 0x60 ≤ alg ∧ alg ≤ 0x65 then len / 2
  else if alg = 0x66 then 60
  else if alg = 0x67 then 68
  else (genLen ((pubAlg alg).getD alg) len).getD 0

/-- R189: the public key of material, without its header. -/
def publicOf (alg len : Nat) (mat : Bytes) : Bytes :=
  if alg = 0x10 then mat.take (len / 8 + 4)
  else if pubAlg alg = some alg ∧ alg < 0x60 then mat
  else if 0x60 ≤ alg ∧ alg ≤ 0x65 then mat.drop (len / 2)
  else if alg = 0x66 then [0, 0, 0, mat.getD 0 0] ++ sub 1 8 mat ++ sub 57 16 mat ++ sub 73 (nodeBytes alg mat) mat
  else if alg = 0x67 then sub 0 4 mat ++ sub 100 (nodeBytes alg mat) mat ++ sub 68 (nodeBytes alg mat) mat
  else fixLen (pubLen alg len) (Config.publicKey alg mat)

/-- R189: what `KEY_PUBLIC` returns: the 8 B header, then the public key. LEN has the meaning R188 gives it. -/
def publicOut (alg len : Nat) (mat : Bytes) : Bytes :=
  let pk := publicOf alg len mat
  let l := if alg = 0x10 ∨ alg = 0x11 then len else pk.length
  leBytes 1 ((pubAlg alg).getD 0) ++ zeros 3 ++ leBytes 2 l ++ zeros 2 ++ pk

/-- R143: the key check value of an ALG and material. -/
def checkValue (alg len : Nat) (mat : Bytes) : Bytes :=
  let aes (n : Nat) : Nat := if n = 16 then 0x01 else 0x02
  (if alg = 0x01 ∨ alg = 0x02 then cmacOf alg mat (zeros 16)
   else if alg = 0x03 ∨ alg = 0x04 then encBlock alg mat (zeros 8)
   else if alg = 0x05 ∨ alg = 0x06 then
     let h := mat.length / 2
     xorBytes (cmacOf (aes h) (mat.take h) (zeros 16)) (cmacOf (aes h) (mat.drop h) (zeros 16))
   else if alg = 0x07 then fixLen 64 (Config.chachaBlock mat (zeros 12) 0)
   else if alg = 0x08 then hmacOf 0x02 mat []
   else if alg = 0x68 then sha3_256 mat
   else sha3_256 (publicOf alg len mat)).take 4

/-! ### Handles and record headers (R118, R123) -/

/-- R118: a handle from its partition, INDEX and GENERATION. -/
def mkHandle (p index gen : Nat) : Nat := p % 256 * 2 ^ 56 + index % 2 ^ 40 * 2 ^ 16 + gen % 2 ^ 16

/-- R118: PARTITION of a handle. -/
def hPart (h : Nat) : Nat := bitsOf 63 56 h
/-- R118: INDEX of a handle. -/
def hIndex (h : Nat) : Nat := bitsOf 55 16 h
/-- R118: page number of a handle. -/
def hPage (h : Nat) : Nat := bitsOf 55 26 h
/-- R118: first slot of a handle. -/
def hSlot (h : Nat) : Nat := bitsOf 25 16 h
/-- R118: GENERATION of a handle. -/
def hGen (h : Nat) : Nat := bitsOf 15 0 h

/-- R123: the 16 B header of a record. STATE 1 ACTIVE, 2 REVOKED. -/
def recHeader (r : KeyRec) : Bytes :=
  leBytes 1 (r.cls + 4 * (if r.revoked then 2 else 1) + 16 * r.depth) ++ leBytes 1 r.usage ++ [r.attr] ++ leBytes 1 r.alg ++
    leBytes 2 r.kekGen ++ leBytes 2 r.gen ++ leBytes 5 r.parent ++ leBytes 1 r.domain ++ leBytes 2 r.len

/-- R123: a record read back from its slots; the class gives its size. -/
def parseRec (slot : Nat) (b : Bytes) : KeyRec :=
  let b0 := byteAt 0 b
  { slot := slot, cls := bitsOf 1 0 b0, revoked := bitsOf 3 2 b0 == 2, depth := bitsOf 6 4 b0, usage := byteAt 1 b,
    attr := b.getD 2 0, alg := byteAt 3 b, kekGen := leAt 4 2 b, gen := leAt 6 2 b, parent := leAt 8 5 b,
    domain := byteAt 13 b, len := leAt 14 2 b, body := sub 16 (64 * classSlots (bitsOf 1 0 b0) - 16) b }

/-- R118: the handle of a record of a partition's page. -/
def recHandle (p page : Nat) (r : KeyRec) : Nat := mkHandle p (page * 1024 + r.slot) r.gen

/-- R123: the GCM-SIV nonce of a record: the handle's 8 B, KEK_GEN, two zero bytes. -/
def recNonce (handle kekGen : Nat) : Bytes := leBytes 8 handle ++ leBytes 2 kekGen ++ zeros 2

/-- R123: a record with its material wrapped under a key. -/
def wrapRec (key : Bytes) (handle : Nat) (r : KeyRec) (mat : Bytes) : KeyRec :=
  let (ct, tag) := aeadSeal 0x05 key (recNonce handle r.kekGen) (recHeader r) mat
  { r with body := fixLen (64 * classSlots r.cls - 32) ct ++ tag }

/-- R123: the material of a record unwrapped under a key; none when its tag fails (R159). -/
def openRec (key : Bytes) (handle : Nat) (r : KeyRec) : Option Bytes :=
  aeadOpen 0x05 key (recNonce handle r.kekGen) (recHeader r) (r.body.take (matLen r.alg r.len))
    (r.body.drop (64 * classSlots r.cls - 32))

/-! ### The ladder (R116, R117, R378) -/

/-- R378: the state of the vault: 0 VALID, 1 EMPTY, 2 LOST. -/
def vaultState (v : Vault) : Nat := if v.lost then 2 else if allZero v.seed then 1 else 0

/-- R397: the device is at end of life. -/
def State.eol (s : State) : Bool := s.life.fuses.evidence.any (fun n => decide (255 ≤ n))

/-- R116: the vault key from the device unique secret and the vault seed. -/
def vaultKeyOf (dus seed : Bytes) : Bytes := (sha3_512 (dus ++ seed ++ ascii "VAULT-KEY")).take 32

/-- R373: the nonce under which a generation secret is wrapped: its KEK_GEN, then zero (the spec states none; log entry 9). -/
def genNonce (g : Nat) : Bytes := leBytes 2 g ++ zeros 10

/-- R117, R373: a generation secret wrapped under the vault key, 48 B. -/
def wrapGen (vaultKey : Bytes) (g : Nat) (secret : Bytes) : Bytes :=
  let (ct, tag) := aeadSeal 0x05 vaultKey (genNonce g) [] (fixLen 32 secret)
  ct ++ tag

/-- R117: a generation secret, opened under the vault key held in the seal unit. -/
def State.genSecret (s : State) (g : Nat) : Option Bytes :=
  match alook g s.vault.gens with
  | none => none
  | some w => if s.guard.vaultKey = [] then none else aeadOpen 0x05 s.guard.vaultKey (genNonce g) [] (w.take 32) (w.drop 32)

/-- R116: the partition root of a generation. -/
def partRoot (secret : Bytes) (p : Nat) : Bytes := sha3_256 (secret ++ leBytes 1 p ++ ascii "PART-ROOT")

/-- R116: a domain key. -/
def domainKey (secret : Bytes) (p d : Nat) : Bytes := sha3_256 (partRoot secret p ++ leBytes 1 d ++ ascii "DOMAIN")

/-- R265, R268, R270: the generation under which new objects and records are sealed. -/
def State.kekNow (s : State) : Nat :=
  if s.vault.campaign.state = 1 ∨ s.vault.campaign.state = 2 then s.vault.campaign.toGen
  else if s.vault.campaign.state = 3 then s.vault.campaign.fromGen
  else (s.vault.gens.map Prod.fst).foldl max 0

/-! ### Objects and the version tree (R127 to R129, R141, R142) -/

/-- R127: the object of a key page. -/
def keyPageObj (p n : Nat) : Obj := { kind := 1, part := p, level := 0, num := n }
/-- R127: the object of the context page of an ID. -/
def ctxPageObj (id : Nat) : Obj := { kind := 2, part := 0, level := 0, num := id / 512 }
/-- R127: a tree page. -/
def treeObj (level n : Nat) : Obj := { kind := 3, part := 0, level := level, num := n }

/-- R127: the 8 B identifier. -/
def objBytes (o : Obj) : Bytes := leBytes 1 o.kind ++ leBytes 1 o.part ++ leBytes 1 o.level ++ [0] ++ leBytes 4 o.num

/-- R129: the leaf position of a key or context page. -/
def leafPos (o : Obj) : Nat := o.kind % 4 * 2 ^ 38 + o.part * 2 ^ 30 + o.num % 2 ^ 30

/-- R129: the tree pages on an object's path, nearest first. -/
def treePath (o : Obj) : List Obj :=
  if o.kind = 3 then (List.range (4 - o.level)).map (fun k => treeObj (o.level + 1 + k) (o.num / 2048 ^ (k + 1)))
  else (List.range 4).map (fun k => treeObj (k + 1) (leafPos o / 2048 ^ (k + 1)))

/-- The stored state of an object. -/
def State.obj? (s : State) (o : Obj) : Option ObjState := s.keys.objs.find? (fun e => e.obj == o)

/-- Where an object stands: it does not exist, it is loaded, it is unavailable, or an object of its path must load first. -/
inductive ObjStand where
  | absent | loaded | unavailable | load (o : Obj)
  deriving DecidableEq, Repr

/-- R141: an object's standing, found down from the root: `path` runs from the top to the object. -/
def State.standOn (s : State) : List Obj → ObjStand
  | [] => .loaded
  | o :: rest =>
    match s.obj? o with
    | none => .absent
    | some e => match e.load with
      | .loaded => s.standOn rest
      | .unavailable => .unavailable
      | _ => .load o

/-- R276: no channel of sealed memory serves or will serve. -/
def State.noMemory (s : State) : Bool := s.dram.channels.all (fun c => c.state == 0 || decide (5 ≤ c.state))

/-- R120 orders 2 and 3, R276, R378: an object's standing; every page is unavailable while the vault is not VALID or no channel of
sealed memory trains. -/
def State.stand (s : State) (o : Obj) : ObjStand :=
  if vaultState s.vault ≠ 0 ∨ s.noMemory then .unavailable
  else if (s.obj? o).any (fun e => e.load == .loaded) then .loaded
  else s.standOn ((treePath o).reverse ++ [o])

/-- The key page's contents. -/
def State.page? (s : State) (p n : Nat) : Option KeyPage := s.keys.pages.find? (fun g => g.part == p && g.num == n)

/-- Change one key page. -/
def State.modPage (s : State) (p n : Nat) (f : KeyPage → KeyPage) : State :=
  { s with keys := { s.keys with pages := modWhere (fun g => g.part == p && g.num == n) f s.keys.pages } }

/-! ### The lookup of R120 -/

/-- What a lookup answers: a record, a status, or an object that must load first. -/
inductive Found where
  | rec_ (page : Nat) (r : KeyRec)
  | status (st : Nat)
  | wait (o : Obj)
  deriving DecidableEq, Repr

/-- R120 orders 1 to 4: the record a handle names in a partition. -/
def State.findKey (s : State) (p h : Nat) : Found :=
  if hPart h ≠ p then .status Status.keyAbsent
  else match s.stand (keyPageObj p (hPage h)) with
    | .absent => .status Status.keyAbsent
    | .unavailable => .status Status.pageUnavailable
    | .load o => .wait o
    | .loaded => match s.page? p (hPage h) with
      | none => .status Status.keyAbsent
      | some g =>
        if g.retired.contains (hSlot h) then .status Status.handleRetired
        else match g.recs.find? (fun r => r.slot == hSlot h && r.gen == hGen h) with
          | none => .status Status.keyAbsent
          | some r => .rec_ (hPage h) r

/-- R147: an erase of the record is pending. -/
def State.erasePending (s : State) (h : Nat) : Bool := s.keys.erasing.any (fun e => e.1 == h)

/-- The record whose first slot is an INDEX of a partition, ACTIVE or not, with its handle. -/
def State.recAt (s : State) (p index : Nat) : Option KeyRec :=
  (s.page? p (index / 1024)).bind (fun g => g.recs.find? (fun r => r.slot == index % 1024))

/-- R120 order 6: the ancestors of a record from its parent up, at most two (DEPTH 4 to 6). -/
def State.ancestors (s : State) (p : Nat) (r : KeyRec) : List (Option (Nat × KeyRec)) :=
  let up (x : KeyRec) : Option (Nat × KeyRec) := (s.recAt p x.parent).map (fun y => (recHandle p (x.parent / 1024) y, y))
  if r.depth ≤ 4 then []
  else match up r with
    | none => [none]
    | some (h, y) => some (h, y) :: (if y.depth ≤ 4 then [] else [up y])

/-- R120 order 6: the object of an ancestor's page that must load first. -/
def State.ancestorLoad (s : State) (p : Nat) (r : KeyRec) : Option ObjStand :=
  if r.depth ≤ 4 then none
  else match s.stand (keyPageObj p (r.parent / 1024)) with
    | .load o => some (.load o)
    | .unavailable => some .unavailable
    | _ => match s.recAt p r.parent with
      | none => none
      | some y => if y.depth ≤ 4 then none else
        match s.stand (keyPageObj p (y.parent / 1024)) with
        | .load o => some (.load o)
        | .unavailable => some .unavailable
        | _ => none

/-- R120: a whole lookup; `usage` is the class order 7 asks for, none when the opcode asks for none. -/
def State.lookup (s : State) (p h : Nat) (usage : List Nat) : Found :=
  match s.findKey p h with
  | .rec_ n r =>
    if s.erasePending h then .status Status.keyAbsent
    else if r.revoked then .status Status.keyRevoked
    else match s.ancestorLoad p r with
      | some (.load o) => .wait o
      | some .unavailable => .status Status.pageUnavailable
      | _ =>
        if (s.ancestors p r).any (fun a => match a with | none => true | some (hh, y) => y.revoked || s.erasePending hh) then
          .status Status.parentRevoked
        else if usage ≠ [] ∧ !usage.contains r.usage then .status Status.attrDenied
        else .rec_ n r
  | x => x

/-- R157: the keys from the domain key down that open a record: the domain key of its top ancestor, then each ancestor's
material; none when a tag fails. `chain` runs from the nearest ancestor up. -/
def openChain (secretOf : Nat → Option Bytes) (p : Nat) : List (Nat × KeyRec) → Nat → KeyRec → Option Bytes
  | [], h, r => (secretOf r.kekGen).bind (fun g => openRec (domainKey g p r.domain) h r)
  | (ph, pr) :: up, h, r => (openChain secretOf p up ph pr).bind (fun k => openRec k h r)

/-- The material of a record with its ancestors in force. -/
def State.material (s : State) (p h : Nat) (r : KeyRec) : Option Bytes :=
  openChain s.genSecret p ((s.ancestors p r).filterMap id) h r

/-- The wrapping key for a new record of a partition under a parent INDEX (zero for the domain). -/
def State.wrapKey (s : State) (p parent domain : Nat) : Option Bytes :=
  if parent = 0 then (s.genSecret s.kekNow).map (fun g => domainKey g p domain)
  else match s.recAt p parent with
    | none => none
    | some y => s.material p (recHandle p (parent / 1024) y) y

/-! ### Allocation (R119, R151) -/

/-- The slots a record or reservation covers. -/
def span (slot cls : Nat) : List Nat := (List.range (classSlots cls)).map (· + slot)

/-- Slots of a page whose map bit is 1 (R126). -/
def KeyPage.used (g : KeyPage) : List Nat :=
  [0, 1, 2, 3] ++ g.retired ++ g.recs.flatMap (fun r => span r.slot r.cls) ++ g.reserved.flatMap (fun e => span e.1 e.2)

/-- R122, R151: the first free aligned run of a class, slots 4 to 1,023. -/
def KeyPage.freeRun (g : KeyPage) (cls : Nat) : Option Nat :=
  let u := g.used
  let n := classSlots cls
  ((List.range (1024 / n)).map (· * n)).find? (fun x => decide (4 ≤ x) && (span x cls).all (fun y => !u.contains y))

/-- R119: the generation a new record over slots takes. -/
def KeyPage.nextGen (g : KeyPage) (slot cls : Nat) : Nat :=
  1 + ((span slot cls).map (fun x => (alook x g.kept).getD 0)).foldl max 0

/-- R129, R142: a tree page whose children are not known, since it has not been loaded yet. -/
def State.unknownTree (s : State) (e : ObjState) : Bool :=
  e.obj.kind == 3 && e.load ≠ .loaded && !s.keys.objs.any (fun x => (treePath x.obj).head? == some e.obj)

/-- R142: what lies below the tree pages not yet loaded, by a count of one of them. -/
def State.below (s : State) (f : Bytes → Nat) : Nat := sumOf (fun e => if s.unknownTree e then f e.digest else 0) s.keys.objs

/-- R153: key pages of a partition, loaded or not. -/
def State.pagesOf (s : State) (p : Nat) : Nat :=
  countOf (fun g => g.part == p) s.keys.pages +
  countOf (fun e => e.obj.kind == 1 && e.obj.part == p && (s.page? p e.obj.num).isNone) s.keys.objs + s.below (fun d => Config.pagesBelow d p)

/-- R88, R115: contexts of a partition in a context page that is not loaded. -/
def ObjState.ctxsOf (e : ObjState) (p : Nat) : Nat := if e.seen then (alook p e.ctxs).getD 0 else Config.ctxsBelow e.digest p

/-- R88, R115: bound contexts of a partition, on loaded pages or not. -/
def State.ctxsOf (s : State) (p : Nat) : Nat :=
  countOf (fun c => c.part == p) s.ctxs.bound +
  sumOf (fun e => if e.obj.kind = 2 ∧ e.load ≠ .loaded then e.ctxsOf p else 0) s.keys.objs + s.below (fun d => Config.ctxsBelow d p)

/-- R88: bindings of a partition on their way to a commit point. -/
def State.ctxsComing (s : State) (p : Nat) : Nat :=
  countOf (fun c => match c with | .ctxPut r => r.part == p && !s.ctxs.bound.any (fun x => x.id == r.id) | _ => false)
    ((s.commit.waiting ++ s.commit.batches.flatMap (fun b => b.entries)).flatMap (fun e => e.changes))

/-- R88, R150: sealed-memory bytes a partition uses: its key pages and its contexts. -/
def State.quotaUsed (s : State) (p : Nat) : Nat := 65536 * s.pagesOf p + 128 * (s.ctxsOf p + s.ctxsComing p)

/-- R326: a partition's sealed-memory quota in bytes. -/
def State.quotaOf (s : State) (p : Nat) : Nat := 65536 * ((s.part? p).map (fun r => r.quota)).getD 0

/-- R129: the leaf positions below a tree page. -/
def treeSpan (o : Obj) : Nat × Nat := (o.num * 2048 ^ o.level, (o.num + 1) * 2048 ^ o.level)

/-- The lowest page number a partition does not use (R151). DESIGN CHOICE (notes/assumptions/69.md): none below a tree page that is
unavailable. -/
def State.newPageNum (s : State) (p : Nat) : Nat :=
  let used := (s.keys.pages.filter (fun g => g.part == p)).map (fun g => g.num) ++
    (s.keys.objs.filter (fun e => e.obj.kind == 1 && e.obj.part == p)).map (fun e => e.obj.num)
  let lost := (s.keys.objs.filter (fun e => e.obj.kind == 3 && e.load == .unavailable)).map (fun e => treeSpan e.obj)
  let starts := 0 :: lost.map (fun r => r.2 - leafPos (keyPageObj p 0))
  let free (n : Nat) : Bool := !used.contains n && lost.all (fun r => !(decide (r.1 ≤ leafPos (keyPageObj p n)) && decide (leafPos (keyPageObj p n) < r.2)))
  (minBy (fun n => n) ((starts.flatMap (fun b => (List.range (used.length + 1)).map (· + b))).filter free)).getD 0

/-- R151: a page of a partition that may have a free run of a class is still to be loaded, or to be found. -/
def State.pagesPending (s : State) (p cls : Nat) : Bool :=
  let lo := leafPos (keyPageObj p 0)
  s.keys.objs.any (fun e => e.load ≠ .loaded && e.load ≠ .unavailable &&
    ((e.obj.kind == 1 && e.obj.part == p && (!e.seen || e.room.contains cls)) ||
     (s.unknownTree e && decide ((treeSpan e.obj).1 < lo + 2 ^ 30) && decide (lo < (treeSpan e.obj).2))))

/-- R151: key pages already changed by what waits for the sequencer. -/
def State.changedPages (s : State) : List Obj := s.commit.waiting.flatMap (fun e => e.objs)

/-- The loaded pages of a partition. -/
def State.pagesHeld (s : State) (p : Nat) : List KeyPage :=
  s.keys.pages.filter (fun g => g.part == p && (s.stand (keyPageObj p g.num) == .loaded || (s.obj? (keyPageObj p g.num)).isNone))

/-- R151: no loaded page has a free run, and one that may have it must load first. -/
def State.reserveWaits (s : State) (p cls : Nat) : Bool :=
  (s.pagesHeld p).all (fun g => (g.freeRun cls).isNone) && s.pagesPending p cls

/-- R119, R151, R251: reserve a run for a record: page, slot and generation. A new page counts against the quota. -/
def State.reserve (s : State) (p cls : Nat) : Option (Nat × Nat × Nat × State) :=
  let mine := s.pagesHeld p
  let changed := s.changedPages
  let pref := mine.filter (fun g => changed.contains (keyPageObj p g.num)) ++ mine
  match pref.findSome? (fun g => (g.freeRun cls).map (fun x => (g.num, x, g.nextGen x cls))) with
  | some (n, x, gen) => some (n, x, gen, s.modPage p n (fun g => { g with reserved := g.reserved ++ [(x, cls)] }))
  | none =>
    if s.quotaOf p < s.quotaUsed p + 65536 then none
    else
      let n := s.newPageNum p
      let g : KeyPage := { part := p, num := n }
      match g.freeRun cls with
      | none => none
      | some x =>
        some (n, x, 1, { s with keys := { s.keys with pages := s.keys.pages ++ [{ g with reserved := [(x, cls)] }] } })

/-- R251: free a reservation; the slot keeps its previous generation. -/
def State.unreserve (s : State) (p page slot : Nat) : State :=
  s.modPage p page (fun g => { g with reserved := g.reserved.filter (fun e => e.1 ≠ slot) })

/-- R119, R147: an erased record's slots: free or RETIRED, each with the record's GEN kept. -/
def KeyPage.erase (g : KeyPage) (r : KeyRec) : KeyPage :=
  let cover := span r.slot r.cls
  let gone := if r.gen = 0xFFFF then cover else if r.usage = 3 then [r.slot] else []
  { g with recs := g.recs.filter (fun x => x.slot ≠ r.slot), retired := g.retired ++ gone,
           kept := cover.foldl (fun l x => aput x r.gen l) g.kept }

/-! ### Pins and key caches (R144 to R146) -/

/-- R144, R149: the jobs that pin a record. -/
def State.pins (s : State) (h : Nat) : Nat := countOf (fun j => j.keys.any (fun k => k.handle == h)) s.jobs

/-- R146: jobs that pin a record or a descendant of it. -/
def State.pinsUnder (s : State) (h : Nat) : Nat :=
  countOf (fun j => j.keys.any (fun k => k.handle == h || k.chain.any (fun e => e.1 == h))) s.jobs

/-- R27, R144: the version of a key in force. -/
def State.keyVer (s : State) (h : Nat) : Nat := (alook h s.keys.versions).getD 0

/-- R144: a key-cache entry of a tile is pinned by a job: its token refers to it, or the job runs there with that version. -/
def State.cachePinned (s : State) (t : Nat) (e : KeyCacheEntry) : Bool :=
  s.jobs.any (fun j => j.keys.any (fun k => k.handle == e.handle && k.ver == e.ver && (k.tile == some t || j.phase == .running t)))

/-- R145, R146: invalidate cache entries: unpinned ones are wiped, pinned ones become stale. -/
def State.dropEntries (s : State) (hit : KeyCacheEntry → Bool) : State :=
  { s with tiles := s.tiles.map (fun t =>
      { t with cache := (t.cache.filter (fun e => !hit e || s.cachePinned t.num e)).map (fun e => if hit e then { e with stale := true } else e) }) }

/-- R145: the cache entries of handles are invalidated. -/
def State.dropCached (s : State) (hs : List Nat) : State := s.dropEntries (fun e => hs.contains e.handle)

/-- R146: the cache entries of a record and of its descendants are invalidated. -/
def State.dropFamily (s : State) (h : Nat) : State := s.dropEntries (fun e => e.handle == h || e.up.contains h)

/-- R145, R146: wipe stale entries whose last pin has ended. -/
def State.sweepCaches (s : State) : State :=
  { s with tiles := s.tiles.map (fun t =>
      { t with cache := t.cache.filter (fun e => !e.stale || s.cachePinned t.num e) }) }

/-- R144, R146: a key version that later key tokens may still be given: no replacement has superseded it, and neither it nor an
ancestor is revoked or erased. -/
def State.verFresh (s : State) (p h ver : Nat) : Bool :=
  ver == s.keyVer h &&
  (match s.lookup p h [] with
   | .status st => st == Status.pageUnavailable
   | _ => true)

/-- R111: the lowest number no entry of a key cache has (DESIGN CHOICE, notes/assumptions/61.md). -/
def freeSlot (c : List KeyCacheEntry) : Nat := ((List.range 64).find? (fun n => !c.any (fun e => e.entry == n))).getD 0

/-- R144 to R146, R158: install one version's material in a tile's key cache: the least recently used unpinned entry gives way; none
fits when all 64 are pinned. A superseded or revoked version enters as stale. The list runs from the least to the most
recently used. -/
def State.cacheKey (s : State) (t p h ver : Nat) (mat : Bytes) (up : List Nat := []) : State :=
  let stale := !s.verFresh p h ver
  s.modTile t (fun x =>
    match x.cache.find? (fun k => k.handle == h && k.ver == ver) with
    | some k => { x with cache := x.cache.erase k ++ [k] }
    | none =>
      let put (c : List KeyCacheEntry) : Tile :=
        { x with cache := c ++ [{ handle := h, stale := stale, material := mat, ver := ver, entry := freeSlot c, up := up }] }
      if x.cache.length < 64 then put x.cache
      else match x.cache.find? (fun k => !s.cachePinned t k) with
        | none => x
        | some v => put (x.cache.erase v))

/-- R106, R144: the tile of a course that holds a handle's material and serves the partition. -/
def State.cachedOn (s : State) (c p h : Nat) : Option Nat :=
  (s.tiles.find? (fun t => courseOf t.num == c && (s.tileRec t.num).holds p && t.state == 0 &&
    t.cache.any (fun e => e.handle == h && !e.stale))).map (fun t => t.num)

/-- R27, R144: the material of a running job's key token on its tile: the cached entry of the token's version, else the record
opened (R157). -/
def State.keyMat (s : State) (t : Nat) (j : Job) (slot : Nat) : Option Bytes :=
  match j.keys.find? (fun k => k.slot == slot) with
  | none => none
  | some k =>
    match ((s.tile? t).map (fun x => x.cache)).getD [] |>.find? (fun e => e.handle == k.handle && e.ver == k.ver) with
    | some e => some e.material
    | none => openChain s.genSecret j.part k.chain k.handle k.kr

end Sys2Proof.Machine
end

