-- ==== Sys2Proof/Machine/CommitOps.lean ====
section
/-! DEFINITION. The commit sequencer's shared operations (R135 to R140, R440, R443): page plaintexts and images (R85, R126,
R128, R129), the root hash, what each change does at its commit point, the retained configuration's copies, and how a
command brings changes to a batch. -/

namespace Sys2Proof.Machine

/-! ### Records and pages as bytes -/

/-- R85: a context record's 128 B. -/
def ctxBytes (r : CtxRec) : Bytes :=
  leBytes 4 r.id ++ leBytes 1 r.part ++ leBytes 1 r.order ++ leBytes 1 r.ops.length ++ [0] ++ leBytes 4 r.gen ++
    leBytes 2 r.qpFirst ++ leBytes 2 r.qpLast ++ fixLen 24 (r.ops.flatMap (leBytes 2)) ++
    fixLen 32 (r.keys.flatMap (leBytes 8)) ++ fixLen 56 r.params

/-- R85: a context record from its bytes. -/
def parseCtx (b : Bytes) : CtxRec :=
  let n := byteAt 6 b
  { id := leAt 0 4 b % 2 ^ 22, part := byteAt 4 b, order := byteAt 5 b, gen := leAt 8 4 b, qpFirst := leAt 12 2 b,
    qpLast := leAt 14 2 b, ops := (List.range n).map (fun k => leAt (16 + 2 * k) 2 b),
    keys := (List.range 4).map (fun k => leAt (40 + 8 * k) 8 b), params := sub 72 56 b }

/-- R90: the record of an ID once unbound: its ID and last generation. -/
def unboundBytes (id gen : Nat) : Bytes := leBytes 4 id ++ zeros 4 ++ leBytes 4 gen ++ zeros 116

/-- R126: the allocation map of a page, one bit for each slot. -/
def mapBytes (used : List Nat) : Bytes :=
  (List.range 128).map (fun k => BitVec.ofNat 8 (sumOf (fun i => if used.contains (8 * k + i) then 2 ^ i else 0) (List.range 8)))

/-- R119, R123: what a slot that starts no record holds. -/
def slotBytes (g : KeyPage) (x : Nat) : Bytes :=
  (if g.retired.contains x then [0x0C] else [0]) ++ zeros 5 ++ leBytes 2 ((alook x g.kept).getD 0) ++ zeros 56

/-- R126: a key page's 64 KiB, sealed under a generation at a version. -/
def keyPageBytes (g : KeyPage) (version kek : Nat) : Bytes :=
  let u := g.used
  let head := objBytes (keyPageObj g.part g.num) ++ leBytes 8 version ++ leBytes 2 kek ++ leBytes 2 u.length ++ zeros 44
  let at_ (x : Nat) : Bytes :=
    match g.recs.find? (fun r => r.slot == x) with
    | some r => recHeader r ++ r.body
    | none => if g.recs.any (fun r => (span r.slot r.cls).contains x) then [] else slotBytes g x
  head ++ mapBytes u ++ zeros 64 ++ ((List.range 1020).map (· + 4)).flatMap at_

/-- R90: a context page's 64 KiB. -/
def ctxPageBytes (s : State) (n : Nat) : Bytes :=
  (List.range 512).flatMap (fun k =>
    let id := 512 * n + k
    match s.ctxs.bound.find? (fun c => c.id == id) with
    | some c => ctxBytes c
    | none => match alook id s.ctxs.last with
      | some g => unboundBytes id g
      | none => zeros 128)

/-- R129: the child of a tree page at an entry. -/
def treeChild (level n i : Nat) : Obj :=
  if level = 1 then
    let pos := 2048 * n + i
    { kind := pos / 2 ^ 38 % 4, part := pos / 2 ^ 30 % 256, level := 0, num := pos % 2 ^ 30 }
  else treeObj (level - 1) (2048 * n + i)

/-- R129: a tree page's 64 KiB: the digests of its children, zero for an absent one. -/
def treePageBytes (s : State) (o : Obj) : Bytes :=
  (List.range 2048).flatMap (fun i =>
    match s.obj? (treeChild o.level o.num i) with
    | some e => fixLen 32 e.digest
    | none => zeros 32)

/-- The plaintext of an object. -/
def plainOf (s : State) (o : Obj) (version kek : Nat) : Bytes :=
  if o.kind = 1 then match s.page? o.part o.num with
    | some g => keyPageBytes { g with reserved := [] } version kek
    | none => zeros 65536
  else if o.kind = 2 then ctxPageBytes s o.num
  else treePageBytes s o

/-- R128: the sealing key of an object's kind and level under a generation. -/
def pageKey (secret : Bytes) (o : Obj) : Bytes :=
  sha3_256 (partRoot secret (if o.kind = 1 then o.part else 0) ++ ascii "PAGE-SEAL" ++ leBytes 1 o.kind ++ leBytes 1 o.level)

/-- R128: the header in clear of an image. -/
def imageHead (o : Obj) (version kek : Nat) : Bytes :=
  objBytes o ++ leBytes 8 version ++ leBytes 2 kek ++ leBytes 2 1 ++ zeros 44

/-- R128: the nonce of an image. -/
def imageNonce (o : Obj) (version : Nat) : Bytes := leBytes 8 version ++ leBytes 4 o.num

/-- R128: an object's 65,664 B image. -/
def imageOf (secret : Bytes) (o : Obj) (version kek : Nat) (plain : Bytes) : Bytes :=
  let h := imageHead o version kek
  let (ct, tag) := aeadSeal 0x04 (pageKey secret o) (imageNonce o version) h plain
  h ++ ct ++ tag ++ zeros 48

/-- R128: the digest of an image. -/
def imageDigest (img : Bytes) : Bytes := sha3_256 (img.take 65616)

/-- R141: the plaintext of an image whose tag verifies under the generation it carries. -/
def openImage (s : State) (o : Obj) (img : Bytes) : Option Bytes :=
  (s.genSecret (leAt 16 2 img)).bind (fun g =>
    aeadOpen 0x04 (pageKey g o) (imageNonce o (leAt 8 8 img)) (img.take 64) (sub 64 65536 img) (sub 65600 16 img))

/-- R126: a key page read back from its plaintext. -/
def parsePage (p n : Nat) (b : Bytes) : KeyPage :=
  let slotB (x : Nat) : Bytes := b.drop (64 * x)
  let state (x : Nat) : Nat := bitsOf 3 2 (byteAt 0 (slotB x))
  let firsts := (List.range 1020).map (· + 4) |>.foldl (fun (acc : List Nat × Nat) x =>
    if x < acc.2 then acc
    else if state x = 1 ∨ state x = 2 then (acc.1 ++ [x], x + classSlots (bitsOf 1 0 (byteAt 0 (slotB x)))) else acc) ([], 4)
  let recs := firsts.1.map (fun x => parseRec x (slotB x))
  let cover := recs.flatMap (fun r => span r.slot r.cls)
  let rest := ((List.range 1020).map (· + 4)).filter (fun x => !cover.contains x)
  { part := p, num := n, recs := recs, retired := rest.filter (fun x => state x == 3),
    kept := (rest.filter (fun x => (state x == 0 || state x == 3) && leAt 6 2 (slotB x) ≠ 0)).map (fun x => (x, leAt 6 2 (slotB x))) }

/-- R129: the root hash over entries 0 to 127 of the level-4 page and the epoch. -/
def rootHash (level4 : Bytes) (epoch : Nat) : Bytes := sha3_256 (level4.take 4096 ++ leBytes 8 epoch)

/-- R142: the empty root. -/
def emptyRoot : Bytes := rootHash (zeros 4096) 0

/-- R374: the root in force: the slot with the higher epoch among those that hold one. -/
def Vault.root (v : Vault) : Option (Bytes × Nat) :=
  match v.root0.1, v.root1.1 with
  | [], [] => none
  | _, [] => some v.root0
  | [], _ => some v.root1
  | _, _ => if v.root0.2 ≤ v.root1.2 then some v.root1 else some v.root0

/-- R374: a root write goes to the slot that holds the lower epoch. -/
def Vault.putRoot (v : Vault) (h : Bytes) (e : Nat) : Vault :=
  if v.root0.1 = [] then { v with root0 := (h, e) }
  else if v.root1.1 = [] ∨ v.root1.2 < v.root0.2 then { v with root1 := (h, e) } else { v with root0 := (h, e) }

/-- R136: the vault root's epoch, zero before any. -/
def Vault.epoch (v : Vault) : Nat := (v.root.map Prod.snd).getD 0

/-- R374: a generation secret goes to a slot not holding the generation in force; at most two are held. -/
def Vault.putGen (v : Vault) (g : Nat) (w : Bytes) : Vault := { v with gens := aput g w v.gens }

/-! ### What a change does at its commit point -/

/-- R440: a change of the retained configuration only, which writes no object image. -/
def Change.isConfig : Change → Bool
  | .reg .. | .qpAdd .. | .qpGone .. | .regionAdd .. | .regionDel .. | .qcourse .. | .persistQueue .. | .markAbsent ..
  | .actorPut .. | .actorDel .. | .pairing .. | .table .. => true
  | _ => false

/-- R440: an entry whose changes are all of the retained configuration. -/
def Entry.configOnly (e : Entry) : Bool := e.changes.all Change.isConfig && e.objs.isEmpty

/-- R96: the home course of a queue record being created. -/
def State.newQp (s : State) (r : QpRec) (psn rkey : Nat) : Qp :=
  { cfg := r, state := if r.flags.getLsbD 1 then 2 else 1, devicePsn := BitVec.ofNat 24 psn, hostPsn := BitVec.ofNat 24 r.hostPsn,
    dbRkey := rkey, homeCourse := s.homeCourseOf r.part r.queue }

/-- R38: an interface with the addresses the retained configuration holds for it. -/
def Iface.configured (f : Iface) : Iface :=
  ((Config.ifaceAddrs f.port f.num).map (fixLen 16)).foldl Iface.addService { f with mac := fixLen 6 (Config.ifaceMac f.port f.num), service := [] }

/-- R38: a host address not yet resolved is asked for by ARP or Neighbour Discovery. -/
def State.askHost (s : State) (r : QpRec) : State :=
  if s.net.arp.any (fun e => e.1 == r.hostAddr) then s else s.send (.arpAsk r.hostAddr)

/-- At most `n` records of one partition, the first of them; every other stays. -/
def keepPart (p : Nat) : Nat → List CtxRec → List CtxRec
  | _, [] => []
  | n, c :: l =>
    if c.part ≠ p then c :: keepPart p n l
    else match n with
      | 0 => keepPart p 0 l
      | k + 1 => c :: keepPart p k l

/-- R325: a partition's share of a level of the context cache in STRICT mode: in proportion to its credit in the level's courses. -/
def State.ctxShare (s : State) (p cap : Nat) (courses : List Nat) : Nat :=
  let credit (r : PartRec) : Nat := sumOf (fun c => r.credit.getD c 0) courses
  cap * ((s.part? p).map credit).getD 0 / max 1 (sumOf credit s.tabs.table.parts)

/-- R95, R325: a level of the context cache after a record of a partition was put first: it drops the least recently used, in STRICT mode
of that partition alone. -/
def State.ctxLevel (s : State) (p cap : Nat) (courses : List Nat) (l : List CtxRec) : List CtxRec :=
  if s.tabs.table.strict then keepPart p (s.ctxShare p cap courses) l else l.take cap

/-- R333 step 5: the levels of the context cache are divided again among the partitions in use. -/
def State.divideCtxCache (s : State) : State :=
  if !s.tabs.table.strict then s
  else
    let ps := s.tabs.table.parts.map (fun p => p.num)
    let fit (cap : Nat) (cs : List Nat) (l : List CtxRec) : List CtxRec := ps.foldl (fun l p => s.ctxLevel p cap cs l) l
    { s with courses := s.courses.map (fun c => { c with ctxCache := fit 8192 [c.num] c.ctxCache }),
             ctxs := { s.ctxs with cache2 := fit 16384 (List.range 6) s.ctxs.cache2 } }

/-- R95: drop a context ID from both cache levels. -/
def State.dropCtxCache (s : State) (id : Nat) : State :=
  { s with courses := s.courses.map (fun c => { c with ctxCache := c.ctxCache.filter (fun e => e.id ≠ id) }),
           ctxs := { s.ctxs with cache2 := s.ctxs.cache2.filter (fun e => e.id ≠ id) } }

/-- R91: keep a superseded record while a job holds its generation. -/
def State.supersede (s : State) (id : Nat) : State :=
  match s.ctxs.bound.find? (fun c => c.id == id) with
  | none => s
  | some c => { s with ctxs := { s.ctxs with bound := s.ctxs.bound.filter (fun x => x.id ≠ id), old := s.ctxs.old ++ [c] } }

/-- R123: the key a stored record is wrapped under: the domain key of its generation, or its parent's material. -/
def State.ownKey (s : State) (p : Nat) (r : KeyRec) : Option Bytes :=
  if r.depth ≤ 4 then (s.genSecret r.kekGen).map (fun g => domainKey g p r.domain)
  else (s.recAt p r.parent).bind (fun y => s.material p (recHandle p (r.parent / 1024) y) y)

/-- R123, R146: a record is marked REVOKED, or ACTIVE again: its header is additional data, so its material is wrapped afresh under it. -/
def State.setRevoked (s : State) (h : Nat) (b : Bool) : State :=
  let p := hPart h
  match (s.page? p (hPage h)).bind (fun g => g.recs.find? (fun r => r.slot == hSlot h && r.gen == hGen h)) with
  | none => s
  | some r =>
    if r.revoked = b then s
    else
      let n := { r with revoked := b }
      let n := match s.ownKey p r with
        | none => n
        | some k => match openRec k h r with
          | none => n
          | some m => wrapRec k h n m
      s.modPage p (hPage h) (fun g => { g with recs := modWhere (fun x => x.slot == r.slot) (fun _ => n) g.recs })

/-- R268: an object re-wrapped: every REPOINTABLE record under the generation `g`. Records at DEPTH 5 and 6 keep their parent's
material and take the new KEK_GEN in header and nonce. -/
def State.rewrapPage (s : State) (p n g : Nat) : State :=
  match s.page? p n, s.genSecret g with
  | some _, some sec =>
    let one (r : KeyRec) : KeyRec :=
      if r.kekGen = g ∨ !r.attr.getLsbD 2 then r
      else
        let h := recHandle p n r
        match s.material p h r with
        | none => r
        | some m =>
          let key := if r.depth ≤ 4 then some (domainKey sec p r.domain)
            else (s.recAt p r.parent).bind (fun y => s.material p (recHandle p (r.parent / 1024) y) y)
          match key with
          | none => r
          | some k => wrapRec k h { r with kekGen := g } m
    s.modPage p n (fun pg => { pg with recs := pg.recs.map one })
  | _, _ => s

/-- R148: a change to a page that a running campaign has already re-wrapped takes the page's generation. -/
def State.levelPage (s : State) (p n : Nat) : State :=
  let c := s.vault.campaign
  let g := if c.state = 3 then c.fromGen else c.toGen
  if (c.state = 1 ∨ c.state = 3) ∧ (s.obj? (keyPageObj p n)).map (fun e => e.kekGen) = some g then s.rewrapPage p n g else s

/-- A port of R37: 0 port A, 1 port B. -/
def State.modPort (s : State) (n : Nat) (f : Port → Port) : State :=
  if n = 0 then { s with net := { s.net with portA := f s.net.portA } } else { s with net := { s.net with portB := f s.net.portB } }

/-- R84: a port retrains: its links go down, each counted. -/
def Port.retrain (p : Port) : Port :=
  { p with linkUp := 0, fecLock := 0, retraining := true, linkDowns := min 255 (p.linkDowns + countOf (fun k => p.linkUp.getLsbD k) (List.range 4)) }

/-- R84: a write that changes MODE, FEC, AN_EN or LT_EN retrains the port in its own island. -/
def State.portChange (s : State) (addr old new : Nat) : State :=
  if bitsOf 6 0 old = bitsOf 6 0 new then s
  else if addr = Reg.hqiPortaCfg then s.modPort 0 Port.retrain
  else if addr = Reg.hqiPortbCfg then s.modPort 1 Port.retrain
  else s

/-- R493: EN of a card port. A port that is disabled is OFF once no command runs on it; one that is enabled starts EMPTY. -/
def State.cardEnable (s : State) (addr new : Nat) : State :=
  let one (p : CardPort) : CardPort :=
    if addr ≠ Reg.crdPort0Cfg + 4 * p.num ∨ p.cmd.isSome then p
    else if new % 2 = 0 then { num := p.num, state := 6, card := p.card }
    else if p.state = 6 then { p with state := 0 } else p
  { s with io := { s.io with ports := s.io.ports.map one } }

/-- One change takes effect (R137 step 4). Objects' frames and digests are the batch's business. -/
def State.applyChange (s : State) (c : Change) : State :=
  match c with
  | .keyPut p n r fresh =>
    let s := if (s.page? p n).isNone then { s with keys := { s.keys with pages := s.keys.pages ++ [{ part := p, num := n }] } } else s
    let cover := span r.slot r.cls
    let s := s.modPage p n (fun g => { g with recs := insertBy (fun x => x.slot) r g.recs,
                                              reserved := g.reserved.filter (fun e => e.1 ≠ r.slot),
                                              kept := g.kept.filter (fun e => !cover.contains e.1) })
    let h := recHandle p n r
    let s := s.levelPage p n
    if !fresh then ({ s with keys := { s.keys with versions := aput h (s.keyVer h + 1) s.keys.versions } } : State).dropCached [h]
    else if r.alg = 0x68 ∧ s.vault.headsShut then { s with vault := { s.vault with newHeads := s.vault.newHeads ++ [h] } }
    else s
  | .keyRevoke h => s.setRevoked h true
  | .keyErase h =>
    let retires := ((s.page? (hPart h) (hPage h)).map (fun g => g.recs.any (fun r =>
      r.slot == hSlot h && r.gen == hGen h && (r.gen == 0xFFFF || r.usage == 3)))).getD false
    let s := if retires then s.notice Reg.kstNotice 3 else s
    let s := s.modPage (hPart h) (hPage h) (fun g =>
      match g.recs.find? (fun r => r.slot == hSlot h && r.gen == hGen h) with
      | some r => g.erase r
      | none => g)
    let s := { s with keys := { s.keys with erasing := s.keys.erasing.filter (fun e => e.1 ≠ h) },
                      vault := { s.vault with stateful := s.vault.stateful.filter (fun e => e.handle ≠ h) } }
    s.dropCached [h]
  | .statefulNew e => { s with vault := { s.vault with stateful := s.vault.stateful ++ [e] } }
  | .ctxPut r =>
    let s := s.supersede r.id
    ({ s with ctxs := { s.ctxs with bound := insertBy (fun x => x.id) r s.ctxs.bound, last := adrop r.id s.ctxs.last } }
      ).dropCtxCache r.id
  | .ctxUnbind id gen =>
    let s := s.supersede id
    ({ s with ctxs := { s.ctxs with last := aput id gen s.ctxs.last } } : State).dropCtxCache id
  | .hwm p course tile v =>
    let s := { s with vault := { s.vault with hwms := aput (256 * course + p) v s.vault.hwms } }
    s.modTile tile (fun t => if t.wantLease.contains p then
      { t with wantLease := t.wantLease.filter (· ≠ p), leases := t.leases ++ [{ owner := p, next := v - 2 ^ 24, stop := v }] } else t)
  | .leaf h tile base len =>
    let s := { s with vault := { s.vault with
      stateful := modWhere (fun e => e.handle == h) (fun e => { e with hwm := base + len }) s.vault.stateful } }
    s.modTile tile (fun t => if t.wantLeaf.contains h then
      { t with wantLeaf := t.wantLeaf.filter (· ≠ h), leaves := t.leaves ++ [{ owner := h, next := base, stop := base + len }] } else t)
  | .reg a i m v =>
    let old := BitVec.ofNat 32 (s.reg a i)
    let new := ((old &&& ~~~m) ||| (v &&& m)).toNat
    ((s.setReg a i new).portChange a old.toNat new).cardEnable a new
  | .qpAdd r psn rkey => ({ s with qps := insertBy (fun q => q.cfg.queue) (s.newQp r psn rkey) s.qps } : State).noteHqi.askHost r
  | .qpGone q =>
    { s with qps := s.qps.filter (fun x => x.cfg.queue ≠ q), regs := adrop (regKey Reg.dspQcourse q) s.regs,
             sel := s.sel.filter (fun e => e.1 / 2 ^ 20 ≠ q) }
  | .regionAdd q r => s.modQp q (fun x => { x with regions := insertBy (fun y => y.num) r x.regions })
  | .regionDel _ _ => s
  | .qcourse q c =>
    let s := if ((s.qp? q).map (fun x => x.cfg.part == 0)).getD false then s.setReg Reg.dspQcourse q c else s
    s.modQp q (fun x => if x.homeCourse = c then { x with newCourse := none } else { x with newCourse := some c })
  | .persistQueue q => { s with keys := { s.keys with persistQ := some q } }
  | .markAbsent ch =>
    let s := s.setReg Reg.semCtrl 0 (setBits (24 + ch) (24 + ch) 0 (s.reg Reg.semCtrl))
    { s with dram := { s.dram with channels := modWhere (fun x => x.num == ch) (fun x => { x with state := 0 }) s.dram.channels } }
  | .actorPut a => { s with mgmt := { s.mgmt with actors := insertBy (fun x => x.idx) a s.mgmt.actors } }
  | .actorDel i => { s with mgmt := { s.mgmt with actors := s.mgmt.actors.filter (fun x => x.idx ≠ i) } }
  | .pairing _ => s
  | .table _ => s
  | .generation g secret =>
    { s with vault := s.vault.putGen g (wrapGen s.guard.vaultKey g secret) }
  | .generationErase g => { s with vault := { s.vault with gens := adrop g s.vault.gens } }
  | .campaign c => { s with vault := { s.vault with campaign := c } }
  | .rewrap o g =>
    let s := if o.kind = 1 then s.rewrapPage o.part o.num g else s
    let c := s.vault.campaign
    let target := if c.state = 3 then c.fromGen else c.toGen
    if (c.state = 1 ∨ c.state = 3) ∧ g = target then
      let c' := { c with cursor := if o.kind = 3 then c.cursor else max c.cursor (leafPos o + 1), bytes := c.bytes + 65664 }
      { s with vault := { s.vault with campaign := c' } }
    else s
  | .move _ _ => s
  | .sealKeys q d h i c =>
    if s.pair.role = 2 then s.modQp q (fun x => { x with state := 3, session := some { toDevice := d, toHost := h, descSeq := i, cplSeq := c } })
    else s

/-- R148: a re-wrap of a page. -/
def isRewrap : Change → Bool | .rewrap .. => true | _ => false

/-- All changes of a batch take effect, the re-wraps of its pages last (R148). -/
def State.applyAll (s : State) (b : Batch) : State :=
  let cs := b.entries.flatMap (fun e => e.changes)
  forEach (cs.filter (fun c => !isRewrap c) ++ cs.filter isRewrap) (fun c s => s.applyChange c) s

/-! ### The retained configuration (R443) -/

/-- R443: what the retained configuration would hold now. -/
def State.snapshot (s : State) : Snapshot :=
  { regs := (s.regs.filter (fun e => keyRetained e.1)), table := [], boot := s.boot,
    qps := ((s.qps.filter (fun q => q.cfg.part == 0 && q.cfg.queue ≠ 0)).map (fun q => q.cfg)).take 16,
    persistQ := s.keys.persistQ, pairing := none, actors := s.mgmt.actors, m := s.mgmt.m, n := s.mgmt.n,
    sessionIdle := s.mgmt.sessionIdle }

/-- R443: the copy in force: the one with the higher CSEQ whose checks pass. -/
def State.inForce (s : State) : Option Snapshot :=
  match s.mgmt.goodA && s.copyA.isSome, s.mgmt.goodB && s.copyB.isSome with
  | true, true => if s.mgmt.cseqB ≤ s.mgmt.cseqA then s.copyA else s.copyB
  | true, false => s.copyA
  | false, true => s.copyB
  | false, false => none

/-- R443, R445: write a snapshot into the copy with the lower CSEQ, or into both when the fall-back is in force. -/
def State.writeSnapshot (s : State) (x : Snapshot) : State :=
  let top := max s.mgmt.cseqA s.mgmt.cseqB
  if s.mgmt.fallback ∨ s.inForce.isNone then
    { s with copyA := some x, copyB := some x,
             mgmt := { s.mgmt with cseqA := top + 1, cseqB := top + 2, goodA := true, goodB := true, fallback := false } }
  else if s.mgmt.cseqA ≤ s.mgmt.cseqB then
    { s with copyA := some x, mgmt := { s.mgmt with cseqA := top + 1, goodA := true } }
  else { s with copyB := some x, mgmt := { s.mgmt with cseqB := top + 1, goodB := true } }

/-- R415, R443: what a batch's retained-configuration changes make of a snapshot, beyond what the state shows. -/
def Snapshot.note (x : Snapshot) (c : Change) : Snapshot :=
  match c with
  | .pairing p => { x with pairing := p }
  | .table img => { x with table := img }
  | _ => x

/-- Keep of a copy what the live state does not hold: the table image and the pairing. -/
def State.snapshotBase (s : State) : Snapshot :=
  match s.inForce with
  | some y => { s.snapshot with table := y.table, pairing := y.pairing }
  | none => s.snapshot

/-! ### Bringing changes to the sequencer -/

/-- R410: the pair is in service: this device is ACTIVE, and its peer is IN_SYNC and ALIVE. -/
def State.inService (s : State) : Bool := s.pair.role == 1 && s.pair.sync == 2 && s.pair.peer == 0

/-- R139, R421, R424: which device serves is not decided: this one is FENCED, or is ACTIVE and has not yet found its IN_SYNC peer alive
or won the witness against it. Batches wait at step 3 meanwhile. -/
def State.deciding (s : State) : Bool := s.pair.role == 3 || (s.pair.role == 1 && s.pair.sync == 2 && s.pair.peer ≠ 0)

/-- R153: commands in open or running batches. -/
def State.commitLoad (s : State) : Nat :=
  countOf (fun e => e.job.isSome) (s.commit.waiting ++ s.commit.batches.flatMap (fun b => b.entries))

/-- R138: no persistence queue is attached, or it is in ERROR. -/
def State.noPersist (s : State) : Bool :=
  match s.keys.persistQ with
  | none => true
  | some q => match s.qp? q with
    | none => true
    | some x => x.state == 4

/-- R137: the entry of a job waits for the sequencer. -/
def State.enqueue (s : State) (e : Entry) : State :=
  let s := { s with commit := { s.commit with waiting := s.commit.waiting ++ [e] } }
  { s with keys := { s.keys with commitMax := max s.keys.commitMax s.commitLoad } }

/-- Undo what an entry that will not commit had reserved or begun: reservations, pending replacements and erases, lease
requests. -/
def State.undo (s : State) (e : Entry) : State :=
  forEach e.changes (fun c s => match c with
    | .keyPut p n r fresh => if fresh then s.unreserve p n r.slot else s
    | .keyErase h => { s with keys := { s.keys with erasing := s.keys.erasing.filter (fun x => x.1 ≠ h) } }
    | .keyRevoke h => s.setRevoked h false
    | .hwm p _ t _ => s.modTile t (fun x => { x with wantLease := x.wantLease.filter (· ≠ p) })
    | .leaf h t _ _ => s.modTile t (fun x => { x with wantLeaf := x.wantLeaf.filter (· ≠ h) })
    | .move _ n => { s with keys := { s.keys with removing := s.keys.removing.filter (fun x => x.1 ≠ n) } }
    | _ => s) s

/-- The job of an entry is no longer waiting on a replacement, erase or revocation. -/
def State.forget (s : State) (id : JobId) : State :=
  { s with keys := { s.keys with replacing := s.keys.replacing.filter (fun r => (r.queue, r.idx) ≠ id),
                                 revoking := s.keys.revoking.filter (fun r => r.2.1 ≠ id) } }

/-- R137, R251: a job that ends without DONE gives back what it had reserved, and what it was to bring is undone. -/
def State.release (s : State) (j : Job) : State :=
  let s := match j.brings with
    | some e => if j.phase = .committing then s else (s.undo e).forget j.id
    | none => s
  match j.reserved with
  | some (n, x, _) => s.unreserve j.part n x
  | none => s

/-- R210: the jobs a tile runs end without a result of their own. -/
def State.endRunning (s : State) (t : Nat) (r : Result) : State :=
  let ids := ((s.tile? t).map (fun x => x.job.toList ++ x.held.toList)).getD []
  (forEach (ids.filterMap s.job?) (fun j s => s.release j) s).abortRunning t r

/-- R171: jobs that wait in a tile for a lease end with a status. -/
def State.failAwaiting (s : State) (t owner st dt : Nat) : State :=
  let hit (j : Job) : Bool := j.phase == .running t && j.awaits == some owner && j.result.isNone
  { s with jobs := modWhere hit (fun j => { j with awaits := none, result := some { status := st, detail := dt } }) s.jobs }

/-- R171: an entry fails: its job completes with a status and nothing of it changes; jobs that wait for a lease it asked for
complete with it. -/
def State.failEntry (s : State) (e : Entry) (st dt : Nat) : State :=
  let s := s.undo e
  let s := match e.job with
    | some id => (s.forget id).finish id { status := st, detail := dt } (((s.job? id).map (fun j => j.tile)).getD 0xFF)
    | none => s
  forEach e.changes (fun c s =>
    match c with
    | .hwm p _ t _ => s.failAwaiting t p st dt
    | .leaf h t _ _ => s.failAwaiting t h st dt
    | _ => s) s

/-- R138, R424: a command brings changes: refused on a FENCED device, or with PERSIST_FAULT when it needs an object and no
persistence queue serves; otherwise it waits for its batch. -/
def State.bring (s : State) (e : Entry) : State :=
  if s.pair.role = 3 then s.failEntry e Status.fenced 0
  else if !e.configOnly ∧ s.noPersist then (s.notice Reg.kstNotice 0).failEntry e Status.persistFault 0
  else
    let s := match e.job with
      | some id => s.modJob id (fun j => { j with phase := .committing })
      | none => s
    s.enqueue e

/-- R440: a management command brings changes of its own. -/
def State.bringCtl (s : State) (j : Job) (changes : List Change) (objs : List Obj) (res : Result := {}) : State :=
  s.bring { changes := changes, objs := objs, job := some j.id, res := res }

/-! ### Replacements that a revocation or an erase meets (R148) -/

/-- R148: a replacement that a revocation or an erase meets before its commit point completes with a status, and its pending record
is wiped. -/
def State.cancelReplace (s : State) (h st : Nat) : State :=
  forEach (s.keys.replacing.filter (fun p => p.handle == h)) (fun (p : Pending) (s : State) =>
    let id : JobId := (p.queue, p.idx)
    let mine (e : Entry) : Bool := e.job == some id
    let drop (e : Entry) : Entry := if mine e then { e with changes := [], job := none } else e
    let s : State := { s with
      keys := { s.keys with replacing := s.keys.replacing.filter (fun x => x ≠ p) },
      commit := { s.commit with waiting := s.commit.waiting.filter (fun e => !mine e),
                                batches := s.commit.batches.map (fun b => { b with entries := b.entries.map drop }) } }
    match s.job? id with
    | none => s
    | some k =>
      if k.phase = .committing then s.finish id { status := st } k.tile
      else s.modJob id (fun k => { k with result := some { status := st }, brings := none })) s

end Sys2Proof.Machine
end

