-- ==== Sys2Proof/Machine/Exec.lean ====
section
/-! DEFINITION. How a management command runs in the control cluster and how an opcode runs on a tile: the shared wrappers,
what they wait for, and the common results. -/

namespace Sys2Proof.Machine

/-- A result that is only a status. -/
def fail (st : Nat) (dt : Nat := 0) : Result := { status := st, detail := dt }

/-- DONE with output bytes and a DETAIL. -/
def okOut (out : Bytes) (dt : Nat := 0) : Result := { out := out, written := out.length, detail := dt, writes := true }

/-- R442: the commands a live control restart refuses with BUSY. -/
def lockedOps : List Nat := [Op.prtStage, Op.cfgStage, Op.fwStage, Op.fwRelease, Op.prtApply, Op.cfgApply, Op.fwActivate]

/-- The control cluster is released, and the device is SERVING or STANDBY. -/
def State.coresReleased (s : State) : Bool := s.power.coresUp && (s.power.mode == .serving || s.power.mode == .standby)

/-- R20: whether the control cluster executes commands now: it is released and its clock runs. -/
def State.coresRun (s : State) : Bool := s.coresReleased && !s.guard.stopped.contains 48

/-- R25, R333, R392: the control plane restarts live: for what is staged, or in the recovery pass after a purge. -/
def State.restarting (s : State) : Bool := s.tabs.restart.isSome || s.guard.recovering

/-- R35: a command fetched in STANDBY runs after every one fetched before it has begun. -/
def State.turnOf (s : State) (j : Job) : Bool :=
  j.entry.isSome || !s.jobs.any (fun k => k.entry.isNone && k.phase == .control && decide (k.seq < j.seq))

/-- R25, R393, R442: run a management command whose job the trowel has delivered. During a freeze only the commands R393 names
run; during a live control restart the cores are halted, and the commands R442 names complete with BUSY. -/
def State.ctl (s : State) (q i op : Nat) (f : State → Job → State) : State :=
  match s.job? (q, BitVec.ofNat 32 i) with
  | none => s
  | some j =>
    if j.phase ≠ .control ∨ j.desc.opcode ≠ op ∨ !s.coresRun ∨ !s.turnOf j then s
    else if s.guard.freeze ∧ !freezeOps.contains op then s
    else if s.restarting then (if lockedOps.contains op then s.finish j.id (fail Status.busy) else s)
    else f s j

/-- A management command completes. -/
def State.done (s : State) (j : Job) (r : Result := {}) : State := s.finish j.id r

/-- A management command completes with a status other than DONE. -/
def State.deny (s : State) (j : Job) (st : Nat) (dt : Nat := 0) : State := s.finish j.id (fail st dt)

/-- A management command has begun and waits for what it started. -/
def State.block (s : State) (j : Job) : State := s.modJob j.id (fun k => { k with phase := .blocked })

/-- R449: the sessions of the custodians joined to the open ceremony, with distinct SHARE values. -/
def Ceremony.shareCount (c : Ceremony) : Nat := (c.joined.map Prod.snd).dedup.length

/-- R354, R449: whether the open ceremony begun on a queue holds its M custodians; with none enrolled, the device
administrator alone holds it. -/
def State.ceremonyHolds (s : State) (q : Nat) : Bool :=
  match s.mgmt.ceremony with
  | none => false
  | some c => c.queue == q &&
    (decide (s.mgmt.m ≤ c.shareCount) || !s.mgmt.actors.any (fun a => a.role == 3))

/-- R447, R449: the session of a queue ends with its keys; a ceremony it began ends, one it had joined loses it. -/
def State.sessionEnds (s : State) (q : Nat) : State :=
  let left (c : Ceremony) : Option Ceremony :=
    if c.queue = q then none
    else some { c with joined := c.joined.filter (fun e => e.1 ≠ q) }
  let here := s.mgmt.sessions.any (fun x => x.queue == q)
  let c := if here then s.mgmt.ceremony.bind left else s.mgmt.ceremony
  { s with mgmt := { s.mgmt with sessions := s.mgmt.sessions.filter (fun x => x.queue ≠ q), ceremony := c } }

/-- Run an opcode on the tile that runs a job of it, once its whole input is there and it has no result yet. -/
def State.onTile (s : State) (t op : Nat) (f : State → Job → State) : State :=
  match (s.tile? t).bind (fun x => x.job) with
  | none => s
  | some id => match s.job? id with
    | none => s
    | some j =>
      if j.desc.opcode ≠ op ∨ j.result.isSome ∨ j.streams ∨ ((s.tile? t).map s.tileRuns) ≠ some true ∨ j.phase ≠ .running t then s else f s j

/-- The tile has computed the job's result; JOB_END queues its completion. -/
def State.answer (s : State) (j : Job) (r : Result) : State := s.modJob j.id (fun k => { k with result := some r })

/-- R137: the tile has computed a state-changing job's result, which completes at the commit point of what it brings. -/
def State.answerBring (s : State) (j : Job) (changes : List Change) (objs : List Obj) (r : Result) : State :=
  s.modJob j.id (fun k => { k with result := some r, brings := some { changes := changes, objs := objs, job := some j.id, res := r } })

/-- A little-endian context parameter: `n` bytes at an offset of PARAMS. -/
def Job.par (j : Job) (o n : Nat) : Nat := leAt o n ((j.ctx.map (fun c => c.params)).getD [])

/-- Bytes of PARAMS. -/
def Job.parBytes (j : Job) (o n : Nat) : Bytes := sub o n ((j.ctx.map (fun c => c.params)).getD [])

/-- KEY0 to KEY3 of the job's context. -/
def Job.key (j : Job) (k : Nat) : Nat := ((j.ctx.map (fun c => c.keys)).getD []).getD k 0

/-- The record a job's key token delivered. -/
def Job.rec? (j : Job) (slot : Nat) : Option KeyRec := (j.keys.find? (fun k => k.slot == slot)).map (fun k => k.kr)

/-- The handle a job's key token names. -/
def Job.handle (j : Job) (slot : Nat) : Nat := ((j.keys.find? (fun k => k.slot == slot)).map (fun k => k.handle)).getD 0

/-- The version a job's key token delivered (R144). -/
def Job.ver (j : Job) (slot : Nat) : Nat := ((j.keys.find? (fun k => k.slot == slot)).map (fun k => k.ver)).getD 0

/-- R146: the handles of the ancestors of the key a token delivered. -/
def Job.upOf (j : Job) (slot : Nat) : List Nat := ((j.keys.find? (fun k => k.slot == slot)).map (fun k => k.chain.map Prod.fst)).getD []

/-- R159: a record's tag fails in the unwrap path: the event is logged with the handle. Its code is PRESUMED
(notes/assumptions/41.md). -/
def State.tagFault (s : State) (t p h : Nat) : State := s.devEvent 5 0x0303 t (leBytes 8 h) p

/-- R158, R159: run with the material of a key token, installed in the tile's cache: a failed unwrap completes with
ENGINE_FAULT, DETAIL 0x04, and is logged. -/
def State.withKey (s : State) (t : Nat) (j : Job) (slot : Nat) (f : State → KeyRec → Bytes → State) : State :=
  match j.rec? slot with
  | none => s.answer j (fail Status.keyAbsent)
  | some r => match s.keyMat t j slot with
    | none => (s.tagFault t j.part (j.handle slot)).answer j (fail Status.engineFault 0x04)
    | some m => f (s.cacheKey t j.part (j.handle slot) (j.ver slot) m (j.upOf slot)) r m

end Sys2Proof.Machine
end

