-- ==== Sys2Proof/Machine/Plans.lean ====
section
/-! DEFINITION. The slot plans of the long-integer engine in a tile's operand memory (R184 to R187, R201, R214). -/

namespace Sys2Proof.Machine

/-- R201: the opcodes that need the long-integer engine or operand memory. -/
def longOps : List Nat :=
  [Op.pkSign, Op.pkVerify, Op.pkEncrypt, Op.pkDecrypt, Op.keyAgree, Op.kemEncap, Op.kemDecap, Op.custodySign, Op.manifestSign,
   Op.timestamp, Op.chainAppend, Op.keyGenerate, Op.keyImport, Op.keyReplace, Op.keyPublic, Op.qpSealOffer, Op.qpSealEstablish, Op.attest]

/-- R187: the plan of an RSA CRT private operation on a modulus of `w` words. -/
def rsaPlan (w : Nat) : List (Nat × Nat) :=
  [(0, w), (0, 1), (0, w), (1, w / 2), (1, w / 2), (1, w / 2), (1, w / 2), (1, w / 2), (1, w / 2), (1, w / 2), (1, w), (1, 16 * w),
   (1, w / 2), (1, w / 2), (2, w)]

/-- `w` words of SECRET class shared out over `n` slots. -/
def secretSlots (n w : Nat) : List (Nat × Nat) :=
  (List.range n).map (fun k => (1, if k + 1 < n then w / n else w - (n - 1) * (w / n)))

/-- R187: the words of the largest plan of an ALG's family. -/
def familyWords (alg : Nat) : Nat :=
  if alg = 0x10 ∨ alg = 0x11 then 3137
  else if (0x20 ≤ alg ∧ alg ≤ 0x22) ∨ (0x28 ≤ alg ∧ alg ≤ 0x2A) then 414
  else if alg = 0x30 ∨ alg = 0x38 then 352
  else if 0x40 ≤ alg ∧ alg ≤ 0x4A then 1236
  else 6195

/-- R187: the plan of an operation: class and words of each slot. How a plan's words lie in its slots where the spec gives only their
number and the totals, and the plan of every other operation below the largest of its family, are the model's
(notes/assumptions/75.md). -/
def planOf (op alg len free : Nat) : List (Nat × Nat) :=
  let signs := op = Op.pkSign ∨ op = Op.custodySign ∨ op = Op.manifestSign ∨ op = Op.timestamp ∨ op = Op.chainAppend
  if alg = 0x10 ∧ (signs ∨ op = Op.pkDecrypt) then rsaPlan (len / 64)
  else if signs ∧ alg = 0x21 then [(0, 42)] ++ secretSlots 10 360 ++ [(2, 12)]
  else if signs ∧ alg = 0x30 then [(0, 24)] ++ secretSlots 9 320 ++ [(2, 8)]
  else if op = Op.kemDecap ∧ alg = 0x41 then [(0, 452)] ++ secretSlots 14 780 ++ [(2, 4)]
  else if signs ∧ alg = 0x52 then [(0, 20)] ++ secretSlots 20 5260 ++ [(2, 915)]
  else
    let third := familyWords alg / 3 - 1
    [(0, 1 + Config.freeNat free % third), (1, 1 + Config.freeNat (free + 1) % third), (2, 1 + Config.freeNat (free + 2) % third)]

/-- R184: the slots of a plan one after the other, each base aligned to 8 words. -/
def slotsFrom : Nat → List (Nat × Nat) → List PlanSlot
  | _, [] => []
  | b, (c, w) :: l => { cls := c, words := w, live := true, base := b } :: slotsFrom ((b + w + 7) / 8 * 8) l

/-- R184: ALG and LEN a job's plan is laid out from: its first key's, or those of the key it generates. -/
def Job.planKey (j : Job) : Nat × Nat :=
  if j.desc.opcode = Op.keyGenerate then (j.desc.p8 48, j.desc.pLe 58 2)
  else ((j.keys.head?).map (fun k => (k.kr.alg, k.kr.len))).getD (0, 0)

/-- R184: the sequencer lays out the plan of a long-integer job it starts. -/
def State.layPlan (s : State) (t : Nat) (j : Job) : State :=
  if longOps.contains j.desc.opcode then
    let k := j.planKey
    let p := slotsFrom 0 (planOf j.desc.opcode k.1 k.2 s.free)
    ({ s with free := s.free + 3 } : State).modTile t (fun x => { x with plan := p })
  else s

/-- Put byte strings into the first slots of a class, one to each. -/
def fillSlots (cls : Nat) : List PlanSlot → List Bytes → Mem → Mem
  | p :: ps, b :: bs, m => if p.cls = cls then fillSlots cls ps bs (p.put b m) else fillSlots cls ps (b :: bs) m
  | _, _, m => m

/-- R185, R187: the public source operands and the private ones of a record's material: n and e apart from the CRT values for RSA,
all of it on one side for the others. -/
def operandsOf (alg len : Nat) (mat : Bytes) : List Bytes × List Bytes :=
  let k := len / 8
  if alg = 0x10 then
    ([mat.take k, sub k 4 mat], (List.range 5).map (fun i => sub (k + 4 + k / 2 * i) (k / 2) mat))
  else if pubAlg alg = some alg ∧ alg < 0x60 then ([mat], [])
  else ([], [mat])

/-- R157, R185: the unwrap path places the material of an asymmetric key in the slots of the plan its tile holds: what is private in
SECRET slots alone. The input follows the key in the PUBLIC slots. -/
def State.placeKey (s : State) (t : Nat) (r : KeyRec) (mat input : Bytes) : State :=
  let o := operandsOf r.alg r.len mat
  s.modTile t (fun x => { x with opMem := fillSlots 1 x.plan o.2 (fillSlots 0 x.plan (o.1 ++ [input]) x.opMem) })

/-- R185: the result lies in the plan's DEST slot until the transport has taken it. -/
def State.answerDest (s : State) (t : Nat) (j : Job) (r : Result) : State :=
  (s.modTile t (fun x => { x with opMem := fillSlots 2 x.plan [r.out] x.opMem })).answer j r

end Sys2Proof.Machine
end

