-- ==== Sys2Proof/Machine/Scratch.lean ====
section
/-! DEFINITION. The scratchpads' memory (R338 to R342): canonical lists of nonzero bytes, their word accesses and their
bit-set and bit-clear aliases. -/

namespace Sys2Proof.Machine

/-- R344: a scratchpad byte nothing has written since the last March C- test reads zero. -/
def scratchDefault : BitVec 8 := 0

/-- One byte of a scratchpad. -/
def memRead (a : Nat) : Mem → BitVec 8
  | [] => scratchDefault
  | (b, v) :: l => if b = a then v else memRead a l

/-- Write one byte; writing what an unlisted address reads as removes the entry. -/
def memWrite (a : Nat) (v : BitVec 8) : Mem → Mem
  | [] => if v = scratchDefault then [] else [(a, v)]
  | (b, w) :: l =>
    if a < b then (if v = scratchDefault then (b, w) :: l else (a, v) :: (b, w) :: l)
    else if a = b then (if v = scratchDefault then l else (a, v) :: l)
    else (b, w) :: memWrite a v l

/-- The canonical form: addresses strictly rising from a bound, and no entry equal to what an unlisted address reads as. -/
def memWfFrom : Nat → Mem → Bool
  | _, [] => true
  | n, (a, v) :: l => decide (n ≤ a) && v != scratchDefault && memWfFrom (a + 1) l

/-- The canonical form of a scratchpad. -/
abbrev Memory.wf (m : Mem) : Bool := memWfFrom 0 m

/-- The bytes of a word, lowest address first. -/
def wordAt (w : Nat) (m : Mem) : BitVec 64 :=
  BitVec.ofNat 64 (leNat ((List.range 8).map (fun k => memRead (8 * w + k) m)))

/-- Write a byte string from an address on. -/
def memWriteBytes (a : Nat) : Bytes → Mem → Mem
  | [], m => m
  | b :: bs, m => memWriteBytes (a + 1) bs (memWrite a b m)

/-- Write a word. -/
def putWord (w : Nat) (v : BitVec 64) (m : Mem) : Mem := memWriteBytes (8 * w) (leBytes 8 v.toNat) m

/-- R342: what a write of `v` through a window leaves in a word: 0 the plain window, 1 bit-set, 2 bit-clear. -/
def aliased (window : Nat) (old v : BitVec 64) : BitVec 64 :=
  if window = 1 then old ||| v else if window = 2 then old &&& ~~~v else v

/-- R328, R339: whether a word of a course lies in a partition's region. -/
def State.inRegion (s : State) (p c w : Nat) : Bool :=
  match s.part? p with
  | none => false
  | some r =>
    let (first, last) := r.scratch.getD c (1, 0)
    decide (512 * first ≤ w) && decide (w < 512 * (last + 1))

/-- R338, R342: the window and word a tile address names; none above the aliases. -/
def scratchWord (addr : Nat) : Option (Nat × Nat) :=
  if addr < 0x300000 then some (addr / 0x100000, addr % 0x100000 / 8) else none

/-- R339, R342: one access: the memory after it, and whether it fell outside the region. -/
def State.scratchAccess (s : State) (p c : Nat) (m : Mem) (a : ScratchAcc) : Mem × Bool :=
  match scratchWord a.addr with
  | none => (m, true)
  | some (win, w) =>
    if !s.inRegion p c w then (m, true)
    else match a.write with
      | none => (m, false)
      | some v => (putWord w (aliased win (wordAt w m) v) m, false)

/-- R338: what port B writes in an access's bank cycle, or in the next one: it reaches only partition 0's region. -/
def State.portBAccess (s : State) (c : Nat) (m : Mem) (a : ScratchAcc) : Mem :=
  match a.portB with
  | some (w, some v) => if s.inRegion 0 c w then putWord w v m else m
  | _ => m

/-- R341: port B receives BUSY, and repeats its access in the next bank cycle: port A addresses the same word, and one of them
writes. -/
def State.portBBusy (s : State) (p c : Nat) (a : ScratchAcc) : Bool :=
  match a.portB, scratchWord a.addr with
  | some (w, v), some (_, x) => w == x && s.inRegion p c x && s.inRegion 0 c w && (a.write.isSome || v.isSome)
  | _, _ => false

/-- A job's accesses in order, each with what port B does behind it; whether any fell outside the region. -/
def State.scratchRun (s : State) (p c : Nat) : List ScratchAcc → Mem × Bool → Mem × Bool
  | [], r => r
  | a :: as, (m, bad) =>
    let (m', b) := s.scratchAccess p c m a
    s.scratchRun p c as (s.portBAccess c m' a, bad || b)

/-- R340: how far a tile position stands behind the one granted last: rotating priority begins with the next position. -/
def turnOf (last k : Nat) : Nat := (k + 15 - last) % 8

/-- R340: the bank cycles a tile position waits in EFFICIENT mode: one for each waiting position whose turn comes first. -/
def bankWait (last k : Nat) (rivals : List Nat) : Nat := countOf (fun r => decide (turnOf last r < turnOf last k)) rivals

/-- R340: the bank cycles tile position `k` waits in STRICT mode for a bank from bank cycle `t` on: position k has bank (k + t) mod 8. -/
def strictWait (k t bank : Nat) : Nat := (bank + 8 - (k + t) % 8) % 8

/-- R340, R343: the bank cycles a job's accesses waited while another master held the bank, and the positions granted last after them. -/
def bankWaits (k : Nat) : List ScratchAcc → List Nat → Nat × List Nat
  | [], last => (0, last)
  | a :: as, last =>
    match scratchWord a.addr with
    | none => bankWaits k as last
    | some (_, w) =>
      let (n, l) := bankWaits k as (last.set (w % 8) k)
      (bankWait (last.getD (w % 8) 7) k a.rivals + n, l)

/-- R340, R343: the conflict counts of a course after a job's accesses: bank cycles its tile waited for other masters, none in STRICT mode,
and BUSY responses to port B. -/
def State.countConflicts (s : State) (t p : Nat) (acc : List ScratchAcc) : State :=
  let c := courseOf t
  let strict := s.tabs.table.strict
  let busy := countOf (s.portBBusy p c) acc
  s.modCourse c (fun x =>
    let (waits, last) := if strict then (0, x.bankLast) else bankWaits (t % 8) acc x.bankLast
    { x with bankLast := last, conflicts := (List.range 9).map (fun k =>
      x.conflicts.getD k 0 + BitVec.ofNat 32 (if k = t % 8 then waits else if k = 8 then busy else 0)) })

/-- R344: March C- over a course's scratchpad finds failing rows, maps each to a spare row of its bank, and leaves it zeroed. -/
def Course.march (c : Course) (fails : List RowFail) : Course :=
  let mine := fails.filter (fun f => f.course == c.num && decide (f.bank < 8) && decide (f.row < 260))
  let perBank (b : Nat) : Nat := ((mine.filter (fun f => f.bank == b)).map (fun f => f.row)).dedup.length
  let bad := (List.range 8).filter (fun b => decide (4 < perBank b))
  let used := sumOf perBank (List.range 8)
  { c with scratch := [],
           scrState := if !bad.isEmpty then 3 else if 0 < used then 2 else 1,
           repaired := min 32 used,
           failBanks := BitVec.ofNat 8 (sumOf (fun b => 2 ^ b) bad) }

/-- R344: the test of every course, with its notices. -/
def State.marchAll (s : State) (fails : List RowFail) : State :=
  let s := { s with courses := s.courses.map (fun (c : Course) => c.march fails) }
  let s := if s.courses.any (fun c => c.scrState == 2) then s.notice Reg.tilNotice 2 else s
  if s.courses.any (fun c => c.scrState == 3) then s.notice Reg.tilNotice 3 else s

end Sys2Proof.Machine
end

