-- ==== Sys2Proof/Machine/SealedOps.lean ====
section
/-! DEFINITION. Sealed memory's shared operations (R277 to R288): how a channel is laid out, the outer code, the counters and
MACs of lines, and how frames are taken and given up. -/

namespace Sys2Proof

/-! ### The layout of a channel (R277, R278) -/

/-- R274: raw lines of a channel: one or two modules of 2^CAP_LOG2 GiB. -/
def Machine.Channel.rawLines (c : Machine.Channel) : Nat := c.dimms * 2 ^ (c.capLog2 + 24)

/-- R277: data lines, 7/8 of the raw lines. -/
def Machine.Channel.dataLines (c : Machine.Channel) : Nat := c.rawLines / 8 * 7

/-- R277: data frames. -/
def Machine.Channel.frames (c : Machine.Channel) : Nat := c.dataLines / 1024

/-- R277: data blocks, one counter line each. -/
def Machine.Channel.blocks (c : Machine.Channel) : Nat := c.dataLines / 64

end Sys2Proof

namespace Sys2Proof.Machine

/-- R278: nodes of a tree level; level 0 is the counter lines. -/
def Channel.nodes (c : Channel) : Nat → Nat
  | 0 => c.blocks
  | k + 1 => ceilDiv (c.nodes k) 64

/-- R278: the channel's top: the first level of 64 nodes or fewer. -/
def Channel.top (c : Channel) : Nat := ((List.range 8).find? (fun k => decide (c.nodes k ≤ 64))).getD 8

/-- What a line of a channel holds: a data line; a MAC line of data lines, of counter lines or of stored nodes, with its number
in that kind; a counter line (level 0) or a stored tree node; or nothing. -/
inductive LineKind where
  | data | mac (of_ n : Nat) | node (level n : Nat) | unused
  deriving DecidableEq, Repr

/-- The stored node at a place in the tree region's node area, from a level up. -/
def Channel.nodeAt (c : Channel) : Nat → Nat → Nat → Option (Nat × Nat)
  | 0, _, _ => none
  | fuel + 1, k, x =>
    if c.top ≤ k then none
    else if x < c.nodes k then some (k, x) else c.nodeAt fuel (k + 1) (x - c.nodes k)

/-- The stored nodes of the levels below one, counted from level 1: the place of its node 0. -/
def Channel.nodeBase (c : Channel) (k : Nat) : Nat := sumOf (fun i => if 1 ≤ i ∧ i < k then c.nodes i else 0) (List.range 8)

/-- R277: what a line holds. -/
def Channel.lineKind (c : Channel) (line : Nat) : LineKind :=
  let d := c.dataLines
  let m := d + d / 8
  let t := m + c.blocks
  let cm := t + ceilDiv c.blocks 8
  let stored := c.nodeBase c.top
  if line < d then .data
  else if line < m then .mac 0 (line - d)
  else if line < t then .node 0 (line - m)
  else if line < cm then .mac 1 (line - t)
  else if line < cm + stored then
    (match c.nodeAt 8 1 (line - cm) with | some (k, n) => .node k n | none => .unused)
  else if line < cm + stored + ceilDiv stored 8 then .mac 2 (line - cm - stored)
  else .unused

/-- R277: the line of the counter line or stored node. -/
def Channel.nodeLine (c : Channel) (level n : Nat) : Nat :=
  let m := c.dataLines + c.dataLines / 8
  if level = 0 then m + n else m + c.blocks + ceilDiv c.blocks 8 + c.nodeBase level + n

/-- R277: the line that holds a line's MAC, and the MAC's place in it. -/
def Channel.macLine (c : Channel) (line : Nat) : Nat × Nat :=
  let m := c.dataLines + c.dataLines / 8
  let cm := m + c.blocks + ceilDiv c.blocks 8
  match c.lineKind line with
  | .data => (c.dataLines + line / 8, line % 8)
  | .node 0 n => (m + c.blocks + n / 8, n % 8)
  | .node k n => let x := c.nodeBase k + n; (cm + c.nodeBase c.top + x / 8, x % 8)
  | _ => (0, 0)

/-! ### The outer code (R279, R280) -/

/-- Multiply by α in GF(2^16) with the polynomial 0x1_100B. -/
def gf16Double (a : BitVec 16) : BitVec 16 := if a.getLsbD 15 then (a <<< 1) ^^^ 0x100B else a <<< 1

/-- Multiplication in GF(2^16), over the low `n` bits of the second factor. -/
def gf16MulN : Nat → BitVec 16 → BitVec 16 → BitVec 16
  | 0, _, _ => 0
  | n + 1, a, b => (if b.getLsbD 0 then a else 0) ^^^ gf16MulN n (gf16Double a) (b >>> 1)

/-- Multiplication in GF(2^16). -/
def gf16Mul (a b : BitVec 16) : BitVec 16 := gf16MulN 16 a b

/-- The powers of α. -/
def gf16Alpha : Nat → BitVec 16
  | 0 => 1
  | n + 1 => gf16Double (gf16Alpha n)

/-- The product of a² , a⁴ … : with 15 factors the inverse a^(2^16 − 2). -/
def gf16InvN : Nat → BitVec 16 → BitVec 16
  | 0, _ => 1
  | n + 1, a => let q := gf16Mul a a; gf16Mul q (gf16InvN n q)

/-- The inverse in GF(2^16). -/
def gf16Inv (a : BitVec 16) : BitVec 16 := gf16InvN 15 a

/-- R279: the four bits device `d` drives in beat `t` of a burst: 64 line bytes, then the check byte of each beat. -/
def beatNibble (b : Bytes) (d t : Nat) : Nat :=
  let byte := if d < 8 then byteAt (4 * t + d / 2) b else byteAt (64 + t) b
  byte / 16 ^ (d % 2) % 16

/-- R279: symbol s(d, q). -/
def symbolOf (b : Bytes) (d q : Nat) : BitVec 16 := BitVec.ofNat 16 (sumOf (fun k => beatNibble b d (4 * q + k) * 16 ^ k) (List.range 4))

/-- R279: the codeword: position 4d + q. -/
def codeword (b : Bytes) : List (BitVec 16) := (List.range 40).map (fun p => symbolOf b (p / 4) (p % 4))

/-- A polynomial's value by Horner's rule, lowest coefficient first. -/
def gf16Eval (x : BitVec 16) : List (BitVec 16) → BitVec 16
  | [] => 0
  | c :: cs => c ^^^ gf16Mul x (gf16Eval x cs)

/-- R279: the eight syndromes of a codeword at α^0 to α^7. -/
def syndromes (w : List (BitVec 16)) : List (BitVec 16) := (List.range 8).map (fun j => gf16Eval (gf16Alpha j) w)

/-- The product of (x + X) over the given X, lowest coefficient first. -/
def gf16Locator : List (BitVec 16) → List (BitVec 16)
  | [] => [1]
  | x :: xs =>
    let p := gf16Locator xs
    List.zipWith (· ^^^ ·) (p.map (gf16Mul x) ++ [0]) (0 :: p)

/-- The sum of products of two lists. -/
def gf16Dot (a b : List (BitVec 16)) : BitVec 16 := (List.zipWith gf16Mul a b).foldl (· ^^^ ·) 0

/-- R280: a device erased explains the syndromes: the residual syndromes, with its four positions taken out, are zero. -/
def explains (syn : List (BitVec 16)) (d : Nat) : Bool :=
  let l := gf16Locator ((List.range 4).map (fun q => gf16Alpha (4 * d + q)))
  (List.range 4).all (fun j => gf16Dot l (syn.drop j) == 0)

/-- The error values at erased positions, from the syndromes. -/
def valuesAt (syn : List (BitVec 16)) (ps : List Nat) : List (BitVec 16) :=
  let xs := ps.map gf16Alpha
  (List.range ps.length).map (fun q =>
    let x := xs.getD q 0
    let l := gf16Locator (xs.eraseIdx q)
    gf16Mul (gf16Dot l syn) (gf16Inv (gf16Eval x l)))

/-- R280: the error values at an erased device's four positions. -/
def erasureValues (syn : List (BitVec 16)) (d : Nat) : List (BitVec 16) := valuesAt syn ((List.range 4).map (fun q => 4 * d + q))

/-- R279: the burst of a line: its 64 bytes and the check byte of each beat, which devices 8 and 9 carry. The check symbols are those that
make every syndrome zero. -/
def burstOf (b : Bytes) : Bytes :=
  let line := fixLen 64 b
  let vals := valuesAt (syndromes (codeword (line ++ zeros 16))) ((List.range 8).map (fun k => 32 + k))
  let nibble (d t : Nat) : Nat := (vals.getD (4 * d + t / 4) 0).toNat / 16 ^ (t % 4) % 16
  line ++ (List.range 16).map (fun t => BitVec.ofNat 8 (nibble 0 t + 16 * nibble 1 t))

/-- Put error values into a burst's line bytes: each of the four symbols of a data device. -/
def correctLine (b : Bytes) (d : Nat) (vals : List (BitVec 16)) : Bytes :=
  if 8 ≤ d then b.take 64
  else (List.range 64).map (fun o =>
    let t := o / 4
    if o % 4 ≠ d / 2 then b.getD o 0
    else b.getD o 0 ^^^ BitVec.ofNat 8 ((vals.getD (t / 4) 0).toNat / 16 ^ (t % 4) % 16 * 16 ^ (d % 2)))

/-- What decoding a burst answers (R280). -/
inductive Decoded where
  | clean (line : Bytes) | corrected (line : Bytes) (device : Nat) | lost
  deriving DecidableEq, Repr

/-- R280, R291: decode a burst of a subchannel and rank on which the devices `failed` are marked: an error at one of those is decoded as
an erasure; any other is corrected when exactly one device explains it. -/
def decodeBurst (failed : List Nat) (b : Bytes) : Decoded :=
  let syn := syndromes (codeword b)
  let fix (d : Nat) : Decoded := .corrected (correctLine b d (erasureValues syn d)) d
  if syn.all (fun x => x == 0) then .clean (sub 0 64 b)
  else match failed.find? (explains syn), (List.range 10).filter (explains syn) with
    | some d, _ => fix d
    | none, [d] => fix d
    | none, _ => .lost

/-! ### MACs of lines (R283) -/

/-- One step of GHASH's multiplication (SP 800-38D): the accumulated product and the shifted factor. -/
def ghashStep (x : BitVec 128) (acc : BitVec 128 × BitVec 128) (i : Nat) : BitVec 128 × BitVec 128 :=
  let z := if x.getLsbD (127 - i) then acc.1 ^^^ acc.2 else acc.1
  (z, if acc.2.getLsbD 0 then (acc.2 >>> 1) ^^^ (0xE1#128 <<< 120) else acc.2 >>> 1)

/-- Multiplication in GHASH's field. -/
def ghashMul (x y : BitVec 128) : BitVec 128 := ((List.range 128).foldl (ghashStep x) (0, y)).1

/-- A 16 B block as a number, first byte most significant. -/
def blockNum (b : Bytes) : BitVec 128 := BitVec.ofNat 128 (beNat b)

/-- GHASH under H over whole blocks. -/
def ghash (h : BitVec 128) (bs : List Bytes) : BitVec 128 := bs.foldl (fun y b => ghashMul (y ^^^ blockNum b) h) 0

/-- R283: the counter block of a line. -/
def counterBlock (major minor chunk kind ch line : Nat) : Bytes :=
  leBytes 8 major ++ leBytes 1 (minor % 128) ++ leBytes 1 (chunk % 4 + 4 * (kind % 4)) ++ leBytes 1 ch ++ leBytes 5 line

/-- R283: the MAC of a line. -/
def lineMac (km : Bytes) (cb line : Bytes) : Bytes :=
  let h := blockNum (encBlock 0x02 km (zeros 16))
  (xorBytes (beBytes 16 (ghash h (blocks 16 line)).toNat) (encBlock 0x02 km cb)).take 8

/-- R283: a data line under KE: chunk j is XORed with AES-256 of the counter block with CHUNK j. The same encrypts and decrypts. -/
def cryptLine (ke : Bytes) (major minor ch line : Nat) (b : Bytes) : Bytes :=
  (List.range 4).flatMap (fun j => xorBytes (sub (16 * j) 16 b) (encBlock 0x02 ke (counterBlock major minor j 0 ch line)))

/-- R2, R279, R283: what a write of a data line leaves in the modules under the key KE ‖ KM: the burst of the encrypted line, and its
MAC. -/
def sealLine (key : Bytes) (major minor ch line : Nat) (b : Bytes) : Bytes × Bytes :=
  let c := cryptLine (key.take 32) major minor ch line b
  (burstOf c, lineMac (key.drop 32) (counterBlock major minor 0 0 ch line) c)

/-- R283: KIND of a counter block: 0 data, 2 counter line, 3 tree node. -/
def LineKind.code : LineKind → Nat
  | .data => 0
  | .node 0 _ => 2
  | .node _ _ => 3
  | _ => 0

/-! ### Counters (R284, R286) -/

/-- One channel. -/
def State.chan? (s : State) (n : Nat) : Option Channel := s.dram.channels.find? (fun c => c.num == n)

/-- Change one channel. -/
def State.modChan (s : State) (n : Nat) (f : Channel → Channel) : State :=
  { s with dram := { s.dram with channels := modWhere (fun c => c.num == n) f s.dram.channels } }

/-- The counters a counter line or node holds; one not written since all were written afresh holds FRESH and zeros. -/
def Channel.ctr (c : Channel) (level n : Nat) : CtrLine :=
  (c.ctrs.find? (fun x => x.level == level && x.num == n)).getD { level := level, num := n, major := c.fresh, minors := List.replicate 64 0 }

/-- Store a counter line or node. -/
def Channel.putCtr (c : Channel) (x : CtrLine) : Channel :=
  { c with ctrs := c.ctrs.filter (fun y => !(y.level == x.level && y.num == x.num)) ++ [x] }

/-- R284: the counter line or node that governs a line, and the minor's place in it. -/
def Channel.governor (c : Channel) (line : Nat) : Option (Nat × Nat × Nat) :=
  match c.lineKind line with
  | .data => some (0, line / 64, line % 64)
  | .node k n => some (k + 1, n / 64, n % 64)
  | _ => none

/-- R284: raise one minor; at 127 MAJOR rises and all minors are zero. Answers whether it overflowed. -/
def CtrLine.raise (x : CtrLine) (i : Nat) : CtrLine × Bool :=
  if x.minors.getD i 0 = 127 then ({ x with major := x.major + 1, minors := List.replicate 64 0 }, true)
  else ({ x with minors := x.minors.modify i (· + 1) }, false)

/-- R284: raise minors in order; answers the overflows. -/
def CtrLine.raiseAll (x : CtrLine) : List Nat → CtrLine × Nat
  | [] => (x, 0)
  | i :: is =>
    let (y, o) := x.raise i
    let (z, n) := y.raiseAll is
    (z, b2n o + n)

/-- R286: the frame of a block whose MAJOR would pass 2^64 − 1 is retired. -/
def Channel.retire (c : Channel) (x : CtrLine) : Channel × Bool :=
  if x.level = 0 ∧ 2 ^ 64 ≤ x.major ∧ !c.retired.contains (x.num / 16) then ({ c with retired := c.retired ++ [x.num / 16] }, true)
  else (c, false)

/-- R284: raise minors of a counter line or node: MAJOR_HWM, block re-encryptions and retirement follow. -/
def State.raiseMinors (s : State) (ch level n : Nat) (is : List Nat) : State :=
  match s.chan? ch with
  | none => s
  | some c =>
    let (x, ov) := (c.ctr level n).raiseAll is
    let (c', retired) := ({ c.putCtr x with majorHwm := max c.majorHwm x.major } : Channel).retire x
    let s := s.modChan ch (fun _ => c')
    let s := if level = 0 ∧ 0 < ov then s.bump Reg.semReenc ov else s
    if retired then s.notice Reg.semNotice 5 else s

/-- R299: lines the counter cache holds: 4 MiB. -/
def ctrCacheLines : Nat := 65536
/-- R299: lines the MAC cache holds: 2 MiB. -/
def macCacheLines : Nat := 32768

/-- R278: a node of the channel's top or above it is held in the seal unit. -/
def Channel.onDie (c : Channel) (level : Nat) : Bool := decide (c.top ≤ level)

/-- Whether a counter line or node may be used as it stands (R285 step 2). -/
def State.ctrCached (s : State) (ch level n : Nat) : Bool :=
  ((s.chan? ch).map (fun c => c.onDie level)).getD false || s.dram.ctrCache.any (fun e => e.1 == ch && e.2.1 == level && e.2.2.1 == n)

/-- Bring a counter line or node to the front of the counter cache. -/
def State.touchCtr (s : State) (ch level n : Nat) (dirty : Bool) : State :=
  if ((s.chan? ch).map (fun c => c.onDie level)).getD true then s
  else
    let isIt (e : Nat × Nat × Nat × Bool) : Bool := e.1 == ch && e.2.1 == level && e.2.2.1 == n
    let was := s.dram.ctrCache.any (fun e => isIt e && e.2.2.2)
    { s with dram := { s.dram with ctrCache := (ch, level, n, dirty || was) :: s.dram.ctrCache.filter (fun e => !isIt e) } }

/-- R284, R299: lines past the cache's size leave it; a changed one is written back and raises its parent's minor for it. The
first argument bounds the number. -/
def State.evictCtrs : Nat → State → State
  | 0, s => s
  | n + 1, s =>
    if s.dram.ctrCache.length ≤ ctrCacheLines then s
    else match s.dram.ctrCache.getLast? with
      | none => s
      | some (ch, level, num, dirty) =>
        let s := { s with dram := { s.dram with ctrCache := s.dram.ctrCache.dropLast } }
        let s := if dirty then (s.raiseMinors ch (level + 1) (num / 64) [num % 64]).touchCtr ch (level + 1) (num / 64) true else s
        State.evictCtrs n s

/-- R294: the module supply of a channel is on. -/
def Channel.powered (c : Channel) : Bool := !(c.state == 0 || c.state == 6)

/-- R275: the outputs CH_PWR_EN, which nothing but a channel's state moves: they hold their value through a feed switchover. -/
def State.chPwrEn (s : State) (ch : Nat) : Bool := ((s.chan? ch).map (fun c => c.powered)).getD false

/-- R301: the write queue holds 4,096 lines. -/
def writeQueueLines : Nat := 4096

/-- R274, R301: line writes still queued: the serving channels take them at their raw bandwidth, 44.8 GB/s with one module and 38.4 GB/s
with two. DESIGN CHOICE (notes/assumptions/82.md). -/
def State.writesNow (s : State) : Nat :=
  let perTen := sumOf (fun c => if c.state = 2 then (if c.dimms = 2 then 6 else 7) else 0) s.dram.channels
  s.dram.writes - (s.clock.mono - s.dram.writesAt) * perTen / 10

/-- R11, R301: lines enter the write queue, and its 75 % watermark is compared: a crossing is SEM_NOTICE bit 6 and a device log record,
whose code is PRESUMED (notes/assumptions/41.md). -/
def State.queueWrites (s : State) (n : Nat) : State :=
  let was := s.writesNow
  let lvl := min writeQueueLines (was + n)
  let th := ceilPct writeQueueLines 75
  let armed := s.dram.wqArmed || decide (was < th)
  let s : State := { s with dram := { s.dram with writes := lvl, writesAt := s.clock.mono, writesMax := max s.dram.writesMax lvl,
                                                  wqArmed := armed && decide (lvl < th) } }
  if armed ∧ th ≤ lvl then (s.notice Reg.semNotice 6).devEvent 2 0x0507 59 (leBytes 4 lvl) else s

/-- R284: the 64 lines of a block are written. -/
def State.writeBlock (s : State) (ch block : Nat) : State :=
  let s := s.queueWrites 64
  let s := s.bump (if s.ctrCached ch 0 block then Reg.semCacheHits else Reg.semCacheMisses)
  (((s.raiseMinors ch 0 block (List.range 64)).touchCtr ch 0 block true)).evictCtrs 4

/-- R284: the lines of a frame are written. -/
def State.writeFrameLines (s : State) (ch frame : Nat) : State := forEach (List.range 16) (fun b s => s.writeBlock ch (16 * frame + b)) s

/-! ### Frames (R287, R288) -/

/-- The runs of frames in use on a channel: first frame and count. -/
def State.runsOn (s : State) (ch : Nat) : List (Nat × Nat) :=
  (s.dram.cacheFrames.filter (fun f => f.ch == ch)).map (fun f => (f.frame, 1)) ++
  s.dram.work.flatMap (fun w => (if w.chA = ch then [(w.frameA, w.count)] else []) ++ (if w.chB = ch then [(w.frameB, w.count)] else [])) ++
  (((s.chan? ch).map (fun c => c.retired)).getD []).map (fun f => (f, 1))

/-- R301: FREE frames of a channel. -/
def State.freeFrames (s : State) (ch : Nat) : Nat :=
  ((s.chan? ch).map (fun c => c.frames)).getD 0 - sumOf (fun r => r.2) (s.runsOn ch)

/-- The lowest place at or above `low` where a run of `n` frames is free. -/
def State.freeRunOn (s : State) (ch n low : Nat) : Option Nat :=
  let runs := s.runsOn ch
  let total := ((s.chan? ch).map (fun c => c.frames)).getD 0
  let fits (x : Nat) : Bool := decide (low ≤ x) && decide (x + n ≤ total) && runs.all (fun r => decide (x + n ≤ r.1) || decide (r.1 + r.2 ≤ x))
  minBy id ((low :: runs.map (fun r => r.1 + r.2)).filter fits)

/-- R277: the rank of a line. -/
def Channel.rankOf (c : Channel) (line : Nat) : Nat :=
  if c.ranks ≤ 1 then 0 else Config.lineRank (c.dimms * 2 ^ c.capLog2 / 2) c.ranks line % c.ranks

/-- R287: where the second copy of a run of frames lies on the channel of the first: a place of another rank when the channel has more
than one and such a place is free, tried at ascending distances, else at least half the data region apart. -/
def State.secondPlace (s : State) (c : Channel) (fa n : Nat) : Option Nat :=
  let half := c.frames / 2
  let tries := (List.range 24).filterMap (fun k => s.freeRunOn c.num n (fa + max n (2 ^ k)))
  match (if c.ranks ≤ 1 then none else tries.find? (fun f => c.rankOf (1024 * f) ≠ c.rankOf (1024 * fa))) with
  | some f => some f
  | none => s.freeRunOn c.num n (fa + max n half)

/-- R294: the serving channels. -/
def State.serving (s : State) : List Nat := (s.dram.channels.filter (fun c => c.state == 2)).map (fun c => c.num)

/-- R288: the serving channel, among those that satisfy a predicate, with the most FREE frames, the lowest of equals. -/
def State.bestChannel (s : State) (p : Nat → Bool) : Option Nat :=
  minBy (fun c => 2 ^ 64 - s.freeFrames c) (s.serving.filter p)

/-- Whether a job pins an object: it holds a key of the page or a context of it. -/
def State.objPinned (s : State) (o : Obj) : Bool :=
  s.jobs.any (fun j => j.phase ≠ .done &&
    (j.keys.any (fun k => keyPageObj (hPart k.handle) (hPage k.handle) == o) ||
     (match j.ctx with | some c => ctxPageObj c.id == o | none => false)))

/-- Whether a load holds an object: it, or one below it, is being loaded; or a change of it waits for its commit point. -/
def State.objHeld (s : State) (o : Obj) : Bool :=
  s.keys.objs.any (fun e => (e.obj == o || (treePath e.obj).contains o) &&
    (match e.load with | .loading _ => true | .fromPeer => true | _ => false)) ||
  s.commit.waiting.any (fun e => e.objs.contains o) ||
  s.commit.batches.any (fun b => b.objs.contains o || b.images.any (fun e => e.1 == o))

/-- An object is unloaded: what sealed memory held of it is gone. -/
def State.unload (s : State) (o : Obj) : State :=
  let inPage (id : Nat) : Bool := o.kind == 2 && id / 512 == o.num
  let held := s.ctxs.bound.filter (fun c => inPage c.id)
  let room := (List.range 4).filter (fun c => s.keys.pages.any (fun g => o.kind == 1 && g.part == o.part && g.num == o.num && (g.freeRun c).isSome))
  let ctxs := (held.map (fun c => c.part)).dedup.map (fun p => (p, countOf (fun c => c.part == p) held))
  let objs := modWhere (fun e => e.obj == o && e.load == .loaded)
    (fun (e : ObjState) => { e with load := .unloaded, seen := true, room := room, ctxs := ctxs }) s.keys.objs
  let pages := s.keys.pages.filter (fun g => !(o.kind == 1 && g.part == o.part && g.num == o.num))
  { s with keys := { s.keys with objs := objs, pages := pages },
           ctxs := { s.ctxs with bound := s.ctxs.bound.filter (fun c => !inPage c.id), last := s.ctxs.last.filter (fun e => !inPage e.1) } }

/-- R289 FRAME_DROP: a CACHE frame becomes FREE and its object unloaded. -/
def State.dropFrame (s : State) (o : Obj) : State :=
  ({ s with dram := { s.dram with cacheFrames := s.dram.cacheFrames.filter (fun f => f.obj ≠ o),
                                  lru := s.dram.lru.filter (fun x => x ≠ o) } } : State).unload o

/-- R288: an object is the most recently used. -/
def State.useObj (s : State) (o : Obj) : State :=
  if s.dram.lru.contains o then { s with dram := { s.dram with lru := o :: s.dram.lru.filter (fun x => x ≠ o) } } else s

/-- R151, R325: the key-page frames of the serving channels: 15/16 of their frames, the rest being kept back. -/
def State.keyFrames (s : State) : Nat := sumOf (fun c => if c.state = 2 then c.frames else 0) s.dram.channels * 15 / 16

/-- R325: G(p), the frames a partition keeps in STRICT mode. -/
def State.keptFrames (s : State) (p : Nat) : Nat :=
  let quota := ((s.part? p).map (fun r => r.quota)).getD 0
  let all := sumOf (fun r => r.quota) s.tabs.table.parts
  if all ≤ s.keyFrames then quota else s.keyFrames * quota / all

/-- R287: key pages that lie in CACHE frames, of one partition or of all. -/
def State.keyPagesHeld (s : State) (p : Option Nat) : Nat :=
  countOf (fun f => f.obj.kind == 1 && (p.isNone || p == some f.obj.part)) s.dram.cacheFrames

/-- R288, R325: whether a frame must be given up before an object takes one: none is FREE, or a key page would pass what key pages may
take, which in STRICT mode is its own partition's G(p). -/
def State.mustEvict (s : State) (o : Obj) : Bool :=
  !s.serving.any (fun c => decide (0 < s.freeFrames c)) ||
    (o.kind == 1 && (if s.tabs.table.strict then decide (s.keptFrames o.part ≤ s.keyPagesHeld (some o.part))
                     else decide (s.keyFrames ≤ s.keyPagesHeld none)))

/-- R325: an object whose frame may be dropped for another: in STRICT mode a key page of the same partition, never a context or tree page. -/
def State.mayEvict (s : State) (o x : Obj) : Bool :=
  !s.objPinned x && !s.objHeld x && (!s.tabs.table.strict || (x.kind == 1 && x.part == o.part))

/-- R288, R325: when an object needs the frame of another, the least recently used CACHE frame that nothing pins or holds is dropped. -/
def State.makeRoom (s : State) (o : Obj) : State :=
  if !s.mustEvict o then s
  else match s.dram.lru.reverse.find? (s.mayEvict o) with
    | some x => s.dropFrame x
    | none => s

/-- R288: allocate a CACHE frame for an object and write its lines; without a key or a serving channel there is none. -/
def State.placeFrame (s : State) (o : Obj) : State :=
  if s.dram.key.isNone ∨ s.dram.cacheFrames.any (fun f => f.obj == o) then s.useObj o
  else
    let s := s.makeRoom o
    match s.bestChannel (fun _ => true) with
    | none => s
    | some ch => match s.freeRunOn ch 1 0 with
      | none => s
      | some f =>
        let d := { s.dram with cacheFrames := s.dram.cacheFrames ++ [{ ch := ch, frame := f, obj := o }], lru := o :: s.dram.lru }
        ({ s with dram := d } : State).writeFrameLines ch f

/-- R287: the memory group of a channel. -/
def memGroup (ch : Nat) : Nat := ch / 4

/-- R287: the second channel of a WORK frame whose first copy lies on `ch`: of the other group while it serves, else another
channel, else the same. -/
def State.secondChannel (s : State) (ch : Nat) : Option Nat :=
  ((s.bestChannel (fun c => memGroup c ≠ memGroup ch)).or (s.bestChannel (fun c => c ≠ ch))).or (s.bestChannel (fun c => c == ch))

/-- R287: allocate a run of WORK frames, held twice, and write their lines. -/
def State.placeWork (s : State) (kind ref n : Nat) : State :=
  if s.dram.key.isNone then s
  else match s.bestChannel (fun _ => true) with
    | none => s
    | some a => match s.secondChannel a, s.freeRunOn a n 0 with
      | some b, some fa =>
        (match (if b = a then (s.chan? b).bind (fun c => s.secondPlace c fa n) else s.freeRunOn b n 0) with
        | none => s
        | some fb =>
          let w : WorkFrame := { kind := kind, ref := ref, chA := a, frameA := fa, chB := b, frameB := fb, count := n }
          { s with dram := { s.dram with work := s.dram.work ++ [w] } })
      | _, _ => s

/-- An object as the reference of a WORK frame. -/
def objRef (o : Obj) : Nat := leNat (objBytes o)

/-- R287: a WORK frame pair for the new version of each object of a batch, written in full. -/
def State.placeSpares (s : State) (os : List Obj) : State :=
  forEach os (fun o s =>
    let s := (if s.serving.any (fun c => decide (0 < s.freeFrames c)) then s else s.makeRoom o).placeWork 0 (objRef o) 1
    match s.dram.work.getLast? with
    | some w => if w.kind = 0 ∧ w.ref = objRef o then (s.writeFrameLines w.chA w.frameA).writeFrameLines w.chB w.frameB else s
    | none => s) s

/-- R137 step 4, R287: a committed spare becomes the object's CACHE frame, and the frame it replaces is FREE. -/
def State.commitSpares (s : State) (os : List Obj) : State :=
  forEach os (fun o s =>
    match s.dram.work.find? (fun w => w.kind == 0 && w.ref == objRef o) with
    | none => s
    | some w =>
      let d := { s.dram with work := s.dram.work.filter (fun x => !(x.kind == 0 && x.ref == objRef o)),
                             cacheFrames := s.dram.cacheFrames.filter (fun f => f.obj ≠ o) ++ [{ ch := w.chA, frame := w.frameA, obj := o }],
                             lru := o :: s.dram.lru.filter (fun x => x ≠ o) }
      { s with dram := d }) s

/-- R138: the spares of a batch that fails are given up. -/
def State.dropSpares (s : State) (os : List Obj) : State :=
  { s with dram := { s.dram with work := s.dram.work.filter (fun w => !(w.kind == 0 && os.any (fun o => objRef o == w.ref))) } }

/-- R21: the island of a channel's memory group. -/
def memIsland (ch : Nat) : Nat := 52 + memGroup ch

/-- R295: an action ends: CH_DONE and a device log record. -/
def State.chDone (s : State) : State :=
  match s.dram.action with
  | none => s
  | some (a, ch) =>
    let st := ((s.chan? ch).map (fun c => c.state)).getD 0
    (({ s with dram := { s.dram with action := none } } : State).notice Reg.semNotice 0).devEvent 2 0x0504 (memIsland ch)
      (leBytes 1 ch ++ leBytes 1 a ++ leBytes 1 st)

end Sys2Proof.Machine
end

