-- ==== Sys2Proof/Machine/Commit.lean ====
section
/-! DEFINITION. Persistence and the commit sequencer's rows (R130 to R142): batches, frames and notices, page loads, the
persistence queue and its regions. -/

namespace Sys2Proof

/-- R131: the number of an object within regions of its KIND. -/
def regionPos (o : Obj) : Nat := if o.kind = 3 then (o.level - 1) * 2 ^ 29 + o.num else o.num

/-- R131: whether a region covers an object. -/
def PRegion.covers (r : PRegion) (o : Obj) : Bool :=
  r.kind == o.kind && r.part == o.part && decide (r.first ≤ regionPos o) && decide (regionPos o < r.first + r.count)

/-- R131: a region record from its 32 bytes. -/
def parsePRegion (b : Bytes) : PRegion :=
  { num := leAt 0 2 b, kind := Machine.byteAt 2 b, part := Machine.byteAt 3 b, rkey := leAt 4 4 b, base := leAt 8 8 b, first := leAt 16 4 b,
    count := leAt 20 4 b }

/-- R131: the record is in range and its reserved bytes are zero. -/
def PRegion.valid (r : PRegion) (b : Bytes) : Bool :=
  decide (r.num < 1024) && decide (1 ≤ r.kind) && decide (r.kind ≤ 3) && (r.kind == 1 || r.part == 0) && decide (1 ≤ r.count) &&
    decide (r.first + r.count ≤ 2 ^ 32) && decide (r.base + r.count * 131328 ≤ 2 ^ 64) && Machine.zeroAt 24 8 b

/-- R131: two regions of one KIND and PARTITION overlap. -/
def PRegion.overlaps (r x : PRegion) : Bool :=
  r.kind == x.kind && r.part == x.part && decide (r.first < x.first + x.count) && decide (x.first < r.first + r.count)

end Sys2Proof

namespace Sys2Proof.Machine

/-- Change the batches that satisfy a predicate. -/
def State.modBatches (s : State) (p : Batch → Bool) (f : Batch → Batch) : State :=
  { s with commit := { s.commit with batches := modWhere p f s.commit.batches } }

/-- Change the stored state of an object. -/
def State.modObj (s : State) (o : Obj) (f : ObjState → ObjState) : State :=
  { s with keys := { s.keys with objs := modWhere (fun e => e.obj == o) f s.keys.objs } }

/-! ### Regions and frames (R131 to R135) -/

/-- R131, R132: the region an object's frames go to: the first that covers it and is not being removed. -/
def State.regionFor (s : State) (o : Obj) : Option PRegion :=
  (s.keys.regions.find? (fun r => r.covers o && !s.keys.removing.any (fun e => e.1 == r.num))).or
    (s.keys.regions.find? (fun r => r.covers o))

/-- R131, R133: the byte offset of a frame of an object in its region. -/
def frameOffset (r : PRegion) (o : Obj) (frame : Nat) : Nat := (regionPos o - r.first) * 131328 + frame * 65664

/-- R135: the frame the next version of an object goes to. -/
def State.spareFrame (s : State) (o : Obj) : Nat :=
  match s.obj? o with
  | none => 0
  | some e => 1 - e.frame

/-- R133: a persist notice's 32 bytes. -/
def noticeBytes (o : Obj) (region phase frame version offset : Nat) : Bytes :=
  objBytes o ++ leBytes 2 region ++ leBytes 1 (phase + 2 * frame) ++ zeros 5 ++ leBytes 8 version ++ leBytes 8 offset

/-- R57: PHASE of a completion sequence on a ring of 2^log2 entries. -/
def phaseOf (seq log2 : Nat) : Nat := 1 - seq / 2 ^ log2 % 2

/-- R53: the strides of a queue's rings, by SEAL_REQUIRED. -/
def Qp.sqStride (q : Qp) : Nat := if q.cfg.flags.getLsbD 1 then 96 else 64
/-- R53: the completion stride. -/
def Qp.cqStride (q : Qp) : Nat := if q.cfg.flags.getLsbD 1 then 64 else 32

/-- R75: a GCM nonce of a sealed queue. -/
def sealNonce (seq queue kind : Nat) : Bytes := leBytes 8 seq ++ leBytes 2 queue ++ leBytes 1 kind ++ [0]

/-- R72: the entry a 32 B completion or notice becomes on a queue: as it is, in clear with a zero tag, or sealed. -/
def Qp.cplEntry (q : Qp) (clear : Bool) (b : Bytes) : Bytes :=
  if !q.cfg.flags.getLsbD 1 then b
  else
    let tail := [b.getD 10 0 &&& 1] ++ zeros 15
    match q.session, q.state == 3 && !clear with
    | some k, true =>
      let (ct, tag) := aeadSeal 0x04 k.toHost (sealNonce k.cplSeq q.cfg.queue 0x81) [] b
      ct ++ tag ++ tail
    | _, _ => b ++ zeros 16 ++ tail

/-- R57, R59, R72: write one completion-ring entry: the WRITE, the next sequence and the sealed queue's sequence. -/
def State.writeRing (s : State) (n : Nat) (kind : ReqKind) (clear : Bool) (b : Nat → Bytes) : State :=
  match s.qp? n with
  | none => s
  | some q =>
    let seq := q.cqPosted.toNat
    let entry := q.cplEntry clear (b (phaseOf seq q.cfg.cqLog2))
    let addr := q.cfg.cqAddr + q.cqStride * (seq % 2 ^ q.cfg.cqLog2)
    let s := s.issue n kind addr q.cfg.cqRkey entry.length entry (seq + 1)
    let sealed := q.state == 3 && !clear
    (s.modQp n (fun x => { x with
      cqPosted := x.cqPosted + 1,
      session := if sealed then x.session.map (fun k => { k with cplSeq := k.cplSeq + 1 }) else x.session })).queueWatermark n 1

/-- R11, R134: the notice ring's watermark. -/
def State.noticeWatermark (s : State) : State :=
  match s.keys.persistQ.bind s.qp? with
  | none => s
  | some q =>
    let lvl := s.keys.notices.length
    let s := { s with keys := { s.keys with noticeMax := max s.keys.noticeMax lvl } }
    if lvl < ceilPct (ringSize q.cfg.cqLog2) (s.fld Reg.kstCtrl 14 8) then { s with keys := { s.keys with wmArmed := true } }
    else if s.keys.wmArmed then ({ s with keys := { s.keys with wmArmed := false } } : State).notice Reg.kstNotice 4
    else s

/-- R133 to R135: write one frame of a batch and its notice. -/
def State.writeFrame (s : State) (pq : Nat) (q : Qp) (epoch : Nat) (o : Obj) (img : Bytes) : State :=
  match s.regionFor o with
  | none => s
  | some r =>
    let f := s.spareFrame o
    let off := frameOffset r o f
    let s := s.issue pq .frame (r.base + off) r.rkey img.length img
    let n : Notice := { seq := q.cqPosted, epoch := epoch, obj := o, region := r.num, frame := f, offset := off }
    let s := { s with keys := { s.keys with notices := s.keys.notices ++ [n] } }
    (s.writeRing pq .notice false (fun ph => noticeBytes o r.num ph f epoch off)).noticeWatermark

/-- R134: write what frames of the batch at step 1 the notice ring takes now. The first argument bounds the number. -/
def State.pumpFrames : Nat → State → State
  | 0, s => s
  | n + 1, s =>
    match s.commit.batches.find? (fun b => b.step == 1), s.keys.persistQ.bind s.qp?, s.keys.persistQ with
    | some b, some q, some pq =>
      match b.left with
      | [] => s
      | o :: rest =>
        if ringSize q.cfg.cqLog2 ≤ q.cqLevel ∨ q.state = 4 then s
        else
          let img := ((b.images.find? (fun e => e.1 == o)).map Prod.snd).getD []
          let s := s.writeFrame pq q b.epoch o img
          let s := s.modBatches (fun x => x.epoch == b.epoch) (fun x => { x with left := rest })
          State.pumpFrames n s
    | _, _, _ => s

/-- Write all frames that can go. -/
def State.pump (s : State) : State := s.pumpFrames (sumOf (fun b => b.left.length) s.commit.batches)

/-- R134: a consumer index on the persistence queue acknowledges every notice below it; waiting frames go on. -/
def State.ackNotices (s : State) (q : Nat) : State :=
  if s.keys.persistQ ≠ some q then s
  else match s.qp? q with
    | none => s
    | some x =>
      let live (n : Notice) : Bool := decide ((n.seq - x.cqDoorbell).toNat < (x.cqPosted - x.cqDoorbell).toNat)
      (({ s with keys := { s.keys with notices := s.keys.notices.filter live } } : State).noticeWatermark).pump

/-! ### Building a batch (R135 to R137) -/

/-- The distinct tree pages in a list of objects and above them, lowest level first. -/
def treesOf (os : List Obj) : List Obj :=
  let l := (os.filter (fun o => o.kind == 3) ++ os.flatMap treePath).dedup
  (List.range 4).flatMap (fun k => l.filter (fun o => o.level == k + 1))

/-- R138: the first object of a change, or tree page of its path, that lies in no declared region. -/
def State.uncovered (s : State) (os : List Obj) : Option Obj :=
  (os ++ treesOf os).find? (fun o => (s.regionFor o).isNone)

/-- R148, R268: the generation an object's new version is sealed under: that of a re-wrap in the batch, else the one it has,
else the generation for new objects. -/
def State.sealGen (s : State) (cs : List Change) (o : Obj) : Nat :=
  match cs.findSome? (fun c => match c with | .rewrap p g => if p = o then some g else none | _ => none) with
  | some g => g
  | none => match s.obj? o with
    | some e => e.kekGen
    | none => s.kekNow

/-- R128, R129, R137: seal one object at an epoch in a working copy of the state: its image, and its digest for its parent. -/
def sealOne (epoch : Nat) (cs : List Change) (acc : State × List (Obj × Bytes)) (o : Obj) : State × List (Obj × Bytes) :=
  let s := acc.1
  let g := s.sealGen cs o
  let img := imageOf ((s.genSecret g).getD []) o epoch g (plainOf s o epoch g)
  let e : ObjState := { obj := o, version := epoch, kekGen := g, frame := s.spareFrame o, digest := imageDigest img, load := .loaded }
  ({ s with keys := { s.keys with objs := s.keys.objs.filter (fun x => x.obj ≠ o) ++ [e] } }, acc.2 ++ [(o, img)])

/-- R137: the images and the new root hash of a batch, over the changes of every batch not yet committed and its own. -/
def State.sealBatch (s : State) (b : Batch) : List (Obj × Bytes) × Bytes :=
  let w := forEach s.commit.batches (fun x w => w.applyAll x) s
  let w := w.applyAll b
  let cs := b.entries.flatMap (fun e => e.changes)
  let (w, imgs) := (b.objs.filter (fun o => o.kind ≠ 3) ++ treesOf b.objs).foldl (sealOne b.epoch cs) (w, [])
  (imgs, rootHash (treePageBytes w (treeObj 4 0)) b.epoch)

/-- R136: the waiting entries a batch takes: in order, while its distinct pages stay within BATCH_PAGES; a page already in it
always joins. Re-wraps take at most half of a batch that holds other changes (R268). -/
def takeEntries (limit : Nat) : List Entry → List Entry × List Obj × List Entry → List Entry × List Obj × List Entry
  | [], acc => acc
  | e :: rest, (got, objs, left) =>
    let new := e.objs.filter (fun o => !objs.contains o)
    let cap := if e.rewrap && got.any (fun x => !x.rewrap) then limit / 2 else limit
    let tooBig := decide (cap < objs.length + new.length) && !got.isEmpty && !new.isEmpty
    takeEntries limit rest (if tooBig then (got, objs, left ++ [e]) else (got ++ [e], objs ++ new.dedup, left))

/-- R136: the epoch of the next batch. -/
def State.nextEpoch (s : State) : Nat :=
  match s.commit.lastEpoch with
  | some e => e + 1
  | none => s.vault.epoch + 2 ^ 32

/-- R137, R440: a batch that carries only retained-configuration changes. -/
def Batch.configOnly (b : Batch) : Bool := b.objs.isEmpty && b.entries.all Entry.configOnly

/-- R130: an entry that attaches a persistence queue. -/
def Entry.attaches (e : Entry) : Bool := e.changes.any (fun c => match c with | .persistQueue _ => true | _ => false)

/-- R129, R137: the objects that must be in sealed memory before an entry can be sealed: its own and the tree pages on their paths, or
the level-4 tree page alone, whose entries the root hash covers. -/
def Entry.needs (e : Entry) : List Obj :=
  if e.configOnly then [] else if e.objs.isEmpty then [treeObj 4 0] else e.objs ++ treesOf e.objs

/-- R141: some of an entry's objects must still load. -/
def State.mustLoad (s : State) (e : Entry) : Bool :=
  e.needs.any (fun o => match s.obj? o with | some x => x.load ≠ .loaded && x.load ≠ .unavailable | none => false)

/-- Some of an entry's objects are unavailable. -/
def State.cannotLoad (s : State) (e : Entry) : Bool :=
  e.needs.any (fun o => match s.obj? o with | some x => x.load == .unavailable | none => false)

/-- R136, R141: the waiting entries that can be sealed now, and those held back until objects have loaded; what changes an object of one
held back stays behind it. -/
def State.holdBack (s : State) : List Entry → List Obj → List Entry × List Entry
  | [], _ => ([], [])
  | e :: rest, objs =>
    if s.mustLoad e || e.objs.any objs.contains then
      let r := s.holdBack rest (objs ++ e.objs)
      (r.1, e :: r.2)
    else
      let r := s.holdBack rest objs
      (e :: r.1, r.2)

/-- An entry leaves the sequencer and fails. -/
def State.rejectEntry (s : State) (e : Entry) (st dt : Nat) : State :=
  ({ s with commit := { s.commit with waiting := s.commit.waiting.erase e } } : State).failEntry e st dt

/-- R138: the entries that can join no batch fail: without a persistence queue every one but the retained configuration's, one whose
object lies in no declared region, one whose object or tree page is unavailable (DESIGN CHOICE, notes/assumptions/69.md). -/
def State.rejectUnfit (s : State) : State :=
  let one (e : Entry) (s : State) : State :=
    if !e.configOnly ∧ s.noPersist then (s.notice Reg.kstNotice 0).rejectEntry e Status.persistFault 0
    else match s.uncovered e.objs with
      | some o => (s.notice Reg.kstNotice 0).rejectEntry e Status.persistFault (leNat (objBytes o))
      | none => if s.cannotLoad e then s.rejectEntry e Status.pageUnavailable 0 else s
  forEach s.commit.waiting one s

/-- R130, R136, R138, R440: BATCH_OPEN. While a batch stands at step 1, only the attaching of another persistence queue goes on, in a
batch of the retained configuration alone. -/
def State.batchOpen (s : State) : State :=
  if s.commit.waiting.isEmpty ∨ s.guard.freeze then s
  else
    let busy := s.commit.batches.any (fun b => b.step == 1)
    let s := if busy then s else s.rejectUnfit
    let (ready, held) := s.holdBack s.commit.waiting []
    let (got, objs, left) := takeEntries (s.fld Reg.kstCtrl 7 0) (if busy then ready.filter Entry.attaches else ready) ([], [], [])
    let left := if busy then s.commit.waiting.filter (fun e => !got.contains e) else left ++ held
    if got.isEmpty then s
    else
      let epoch := s.nextEpoch
      let b : Batch := { epoch := epoch, step := 1, entries := got, objs := objs }
      let b := if b.configOnly then b else
        let (imgs, root) := s.sealBatch b
        { b with images := imgs, root := root, left := imgs.map Prod.fst }
      let s : State := { s with commit := { waiting := left, batches := s.commit.batches ++ [b], lastEpoch := some epoch } }
      (s.placeSpares (b.images.map Prod.fst)).pump

/-- R136 BATCH_OPEN -/
def execBatchOpen (s : State) : Host.Outcome State Fault Refusal := .next s.batchOpen

/-! ### The commit point (R137, R146, R147) -/

/-- R146: a revocation whose commit point has passed completes once no job pins the record or its descendants. -/
def State.finishRevokes (s : State) : State :=
  let ready := s.keys.revoking.filter (fun r => r.2.2.1 && s.pinsUnder r.1 == 0)
  forEach ready (fun r s =>
    let s := { s with keys := { s.keys with revoking := s.keys.revoking.filter (fun x => x.2.1 ≠ r.2.1) } }
    s.finish r.2.1 { status := Status.done, detail := r.2.2.2 } (((s.job? r.2.1).map (fun j => j.tile)).getD 0xFF) true) s

/-- R130: what moving to a new persistence queue does to the batch at step 1: frames not acknowledged are written again. -/
def State.moveNotices (s : State) : State :=
  let again := (s.keys.notices.map (fun n => n.obj)).dedup
  let s := s.modBatches (fun b => b.step == 1) (fun b => { b with left := again.filter (fun o => !b.left.contains o) ++ b.left })
  ({ s with keys := { s.keys with notices := [] } } : State).pump

/-- R92, R68, R146: an entry whose job's completion waits beyond the commit point. -/
def Entry.waits (e : Entry) : Bool :=
  e.changes.any (fun c => match c with | .ctxUnbind .. | .regionDel .. | .keyRevoke .. => true | _ => false)

/-- R137 step 4: what a committed entry does beyond its changes: its job completes, or waits for what it must (R92, R68, R146). -/
def State.commitEntry (s : State) (epoch : Nat) (e : Entry) : State :=
  let s := if e.changes.any (fun c => match c with | .persistQueue _ => true | _ => false) then s.moveNotices else s
  let s := if e.changes.any (fun c => match c with | .markAbsent _ => true | _ => false) then s.chDone else s
  match e.job with
  | none => s
  | some id =>
    let s := { s with keys := { s.keys with replacing := s.keys.replacing.filter (fun r => (r.queue, r.idx) ≠ id) } }
    let s := forEach e.changes (fun c s => match c with
      | .ctxUnbind c _ => { s with ctxs := { s.ctxs with unbinding := s.ctxs.unbinding ++ [(c, id)] } }
      | .regionDel q n => s.modQp q (fun x => { x with removing := x.removing ++ [(n, x.fetchIndex, id)] })
      | .keyRevoke _ =>
        let rs := modWhere (fun r : Nat × JobId × Bool × Nat => r.2.1 == id) (fun r => (r.1, r.2.1, true, epoch)) s.keys.revoking
        { s with keys := { s.keys with revoking := rs } }
      | .move _ n =>
        let ks := { s.keys with regions := s.keys.regions.filter (fun r => r.num ≠ n), removing := s.keys.removing.filter (fun e => e.1 ≠ n) }
        { s with keys := ks }
      | _ => s) s
    let isSeal := ((s.job? id).map (fun j => j.desc.opcode == Op.objSeal)).getD false
    let out := if isSeal then patch (e.res.out.length - 8) (leBytes 8 epoch) e.res.out else e.res.out
    if e.waits then (s.modJob id (fun j => { j with phase := .blocked, result := some { e.res with detail := epoch } })).settle.finishRevokes
    else s.finish id { e.res with detail := epoch, out := out } (((s.job? id).map (fun j => j.tile)).getD 0xFF) true

/-- R137: the commit point of a batch: its changes take effect, and the completions of its commands are queued. -/
def State.commitBatch (s : State) (b : Batch) : State :=
  let s := { s with commit := { s.commit with batches := s.commit.batches.filter (fun x => x.epoch ≠ b.epoch) } }
  let s := ((s.applyAll b).bump Reg.kstBatches).commitSpares (b.images.map Prod.fst)
  forEach b.entries (fun e s => s.commitEntry b.epoch e) s

/-- R263: the records that an entry gives new versions. -/
def Entry.puts (e : Entry) : List Nat :=
  e.changes.filterMap (fun c => match c with
    | .keyPut p n r false => some (recHandle p n r)
    | _ => none)

/-- R138, R263: the waiting entries fail that need the persistence queue; so do the jobs whose change, not yet brought, builds on a record
version that is lost. -/
def State.failBehind (s : State) (lost : List Nat) : State :=
  let bad := s.commit.waiting.filter (fun e => !e.configOnly)
  let s := forEach bad (fun e s => s.rejectEntry e Status.persistFault 0) s
  let builds (j : Job) : Bool := j.phase ≠ .committing && j.phase ≠ .done && (match j.brings with | some e => e.puts.any lost.contains | none => false)
  forEach (s.jobs.filter builds) (fun j s => (s.release j).modJob j.id (fun k => { k with result := some (fail Status.persistFault), brings := none })) s

/-- R138, R440: the persistence queue has entered ERROR: every command of a batch at step 1 completes with PERSIST_FAULT and nothing of it
changes, but for a batch of the retained configuration alone. What waits behind it fails too, chain appends that build on one of its
heads among it (R263). -/
def State.failBatch (s : State) : State :=
  match s.commit.batches.find? (fun b => b.step == 1 && !b.configOnly) with
  | none => s.failBehind []
  | some b =>
    let s := { s with commit := { s.commit with batches := s.commit.batches.filter (fun x => x.epoch ≠ b.epoch) },
                      keys := { s.keys with notices := s.keys.notices.filter (fun n => n.epoch ≠ b.epoch) } }
    let s := (s.dropSpares (b.images.map Prod.fst)).noticeWatermark.notice Reg.kstNotice 0
    (forEach b.entries (fun e s => s.failEntry e Status.persistFault 0) s).failBehind (b.entries.flatMap Entry.puts)

/-- R137 step 2: the retained configuration takes the batch's changes, then the vault root its new hash and epoch, and the
spare frames are the versions of the tree. -/
def State.rootBatch (s : State) (b : Batch) : State :=
  let w := (forEach (s.commit.batches.filter (fun x => x.epoch ≠ b.epoch)) (fun x w => w.applyAll x) s).applyAll b
  let cs := b.entries.flatMap (fun e => e.changes)
  let s := if cs.any Change.isConfig then s.writeSnapshot (forEach cs (fun c x => x.note c) w.snapshotBase) else s
  if b.configOnly then s
  else
    let w := b.images.foldl (fun (w : State) (e : Obj × Bytes) =>
      let g := leAt 16 2 e.2
      let o : ObjState := { obj := e.1, version := b.epoch, kekGen := g, frame := w.spareFrame e.1, digest := imageDigest e.2, load := .loaded }
      { w with keys := { w.keys with objs := w.keys.objs.filter (fun x => x.obj ≠ e.1) ++ [o] } }) s
    { w with vault := w.vault.putRoot b.root b.epoch }

/-- R137: whether step 1 of a batch has ended: every image is written and its notice acknowledged. -/
def State.persisted (s : State) (b : Batch) : Bool :=
  b.images.isEmpty || (b.left.isEmpty && s.keys.notices.all (fun n => n.epoch ≠ b.epoch))

/-- R417: the journal entry of a batch's command. -/
def State.journalOf (s : State) (epoch : Nat) (e : Entry) : List JEntry :=
  match e.job.bind s.job? with
  | none => []
  | some j =>
    let isSeal := j.desc.opcode == Op.objSeal
    let out := if isSeal then patch (e.res.out.length - 8) (leBytes 8 epoch) e.res.out else e.res.out
    let c : Cpl :=
      { tag := j.desc.tag, idx := j.idx.toNat, res := { e.res with detail := epoch, out := out }, tile := j.tile, doneTime := s.now,
        outAddr := j.desc.outAddr, outRkey := j.desc.outRkey, chained := j.chained,
        establish := j.desc.opcode == Op.qpSealEstablish, outSeal := j.sealing.map (fun (k : SealRef) => (k.toHost, k.seq)) }
    [{ queue := j.queue, idx := j.idx.toNat, tag := j.desc.tag, cpl := c }]

/-- R435: entries the completion journal holds. -/
def journalSize : Nat := 16384

/-- R436: the journal's watermark, at 75 % of its entries, and its highest level. The record's code is PRESUMED. -/
def State.journalWatermark (s : State) : State :=
  let n := s.pair.journal.length
  let s : State := { s with pair := { s.pair with journalMax := max s.pair.journalMax n } }
  if n < ceilPct journalSize 75 then { s with pair := { s.pair with journalArmed := true } }
  else if s.pair.journalArmed then
    let s : State := { s with pair := { s.pair with journalArmed := false } }
    (s.notice Reg.mirNotice 7).devEvent 3 0x0B02 54 (leBytes 4 n)
  else s

/-- R415, R417, R435: send the mirror batch of one batch at step 3, while fewer than 64 are unacknowledged and the journal takes its
entries. -/
def State.mirrorOne (s : State) (b : Batch) : State :=
  let js := b.entries.flatMap (s.journalOf b.epoch)
  if !s.inService ∨ b.step ≠ 3 ∨ b.seq ≠ 0 ∨ 64 ≤ s.pair.sent - s.pair.acked ∨ journalSize < s.pair.journal.length + js.length then s
  else
    let seq := s.pair.sent + 1
    let s : State := { s with pair := { s.pair with sent := seq, journal := s.pair.journal ++ js } }
    let s := s.modBatches (fun x => x.epoch == b.epoch) (fun x => { x with seq := seq })
    s.journalWatermark.send (.mirror 2 seq)

/-- R415, R436: send what mirror batches can go, oldest first. -/
def State.mirrorSend (s : State) : State :=
  let s := forEach s.commit.batches (fun b s => s.mirrorOne b) s
  { s with pair := { s.pair with lagMax := max s.pair.lagMax (countOf (fun b => b.step == 3) s.commit.batches) } }

/-- R137, R415, R440: BATCH_PERSISTED. With a pair in service the mirror batch leaves and the batch waits for its
acknowledgement; otherwise this is the commit point. -/
def State.batchPersisted (s : State) : State :=
  match s.commit.batches.find? (fun b => b.step == 1 && s.persisted b) with
  | none => s
  | some b =>
    if s.guard.freeze then s
    else
      let s := s.rootBatch b
      if s.inService || s.deciding then (s.modBatches (fun x => x.epoch == b.epoch) (fun x => { x with step := 3 })).mirrorSend
      else s.commitBatch b

/-- R137 BATCH_PERSISTED -/
def execBatchPersisted (s : State) : Host.Outcome State Fault Refusal := .next s.batchPersisted

/-! ### Loading objects (R141, R142) -/

/-- R141: READ a frame of an object. -/
def State.readFrame (s : State) (o : Obj) (frame : Nat) : State :=
  match s.keys.persistQ, s.regionFor o with
  | some q, some r => s.issue q .readPage (r.base + frameOffset r o frame) r.rkey 65664 []
  | _, _ => s

/-- Set where the loading of an object stands. -/
def State.setLoad (s : State) (o : Obj) (l : Load) : State :=
  s.modObj o (fun e => { e with load := l })

/-- R141, R142: PAGE_LOAD_START: the first READ of an object whose parents are loaded. A load that finds no declared region
waits (R445). -/
def State.pageLoadStart (s : State) (o : Obj) : State :=
  match s.obj? o with
  | none => s
  | some e =>
    if e.load ≠ .unloaded ∨ (o.kind = 1 ∧ s.eol) ∨ s.stand o ≠ .load o ∨ (s.regionFor o).isNone ∨ s.noPersist ∨ s.dram.key.isNone ∨ s.serving = [] then s
    else (s.setLoad o (.loading 0)).readFrame o 0

/-- R141 PAGE_LOAD_START -/
def execPageLoadStart (o : Obj) (s : State) : Host.Outcome State Fault Refusal := .next (s.pageLoadStart o)

/-- R129: the children of a loaded tree page. -/
def childrenOf (o : Obj) (plain : Bytes) : List ObjState :=
  (List.range (if o.level = 4 then 128 else 2048)).filterMap (fun i =>
    let d := sub (32 * i) 32 plain
    if allZero d then none
    else some { obj := treeChild o.level o.num i, version := 0, kekGen := 0, frame := 0, digest := d, load := .unloaded })

/-- R90: the records of a context page. -/
def ctxRecords (n : Nat) (plain : Bytes) : List CtxRec × List (Nat × Nat) :=
  let rs := (List.range 512).map (fun k => (512 * n + k, parseCtx (sub (128 * k) 128 plain)))
  ((rs.filter (fun e => e.2.id ≠ 0 && !e.2.ops.isEmpty)).map Prod.snd,
   (rs.filter (fun e => e.2.id ≠ 0 && e.2.ops.isEmpty)).map (fun e => (e.1, e.2.gen)))

/-- R141: install a verified object: its header's version and generation, and what its plaintext holds. -/
def State.install (s : State) (o : Obj) (frame : Nat) (img plain : Bytes) : State :=
  let d := imageDigest img
  let s := s.modObj o (fun e =>
    { e with version := leAt 8 8 img, kekGen := leAt 16 2 img, frame := frame, digest := d, load := .loaded })
  if o.kind = 1 then
    { s with keys := { s.keys with pages := s.keys.pages.filter (fun g => !(g.part == o.part && g.num == o.num)) ++
      [parsePage o.part o.num plain] } }
  else if o.kind = 2 then
    let (bs, us) := ctxRecords o.num plain
    { s with ctxs := { s.ctxs with bound := forEach bs (fun r l => insertBy (fun x => x.id) r l) s.ctxs.bound,
                                   last := forEach us (fun u l => aput u.1 u.2 l) s.ctxs.last } }
  else
    let kids := (childrenOf o plain).filter (fun k => (s.obj? k.obj).isNone)
    { s with keys := { s.keys with objs := s.keys.objs ++ kids } }

/-- R141, R142: an image verifies: it opens, and its digest is its parent's entry; for the level-4 page the root hash must match. -/
def State.imageGood (s : State) (e : ObjState) (img : Bytes) : Option Bytes :=
  match openImage s e.obj img with
  | none => none
  | some plain =>
    let okDigest := if e.obj.kind = 3 ∧ e.obj.level = 4 then
        (match s.vault.root with | some (h, ep) => rootHash plain ep == h | none => false)
      else imageDigest img == e.digest
    if okDigest && img.take 8 == objBytes e.obj then some plain else none

/-- R141, R458: no copy verifies: the object is unavailable, and the loss is logged, the object in a record of code 0x0302 and the epoch
in one that follows it, whose code is PRESUMED (notes/assumptions/41.md). -/
def State.lose (s : State) (o : Obj) : State :=
  (((s.setLoad o .unavailable).notice Reg.kstNotice 2).devEvent 5 0x0302 59 (objBytes o)).devEvent 5 0x0305 59 (leBytes 8 s.vault.epoch)

/-- R141: an image arrives from a frame: it is installed, the other frame is read, or the peer is asked. -/
def State.pageImage (s : State) (o : Obj) (frame : Nat) (img : Bytes) : State :=
  match s.obj? o with
  | none => s
  | some e =>
    if e.load ≠ .loading frame then s
    else
      let s := match s.keys.persistQ with
        | some q => s.readDone q (fun r => r.kind == ReqKind.readPage)
        | none => s
      match s.imageGood e img with
      | some plain => (s.install o frame img plain).placeFrame o
      | none =>
        if frame = 0 then (s.setLoad o (.loading 1)).readFrame o 1
        else if s.pair.role ≠ 0 ∧ s.pair.peer ≠ 2 then (s.setLoad o .fromPeer).send (.mirror 5 (leNat (objBytes o)))
        else s.lose o

/-! ### The persistence queue and its regions (R130 to R132) -/

/-- R130: PERSIST_ATTACH. -/
def State.persistAttach (s : State) (j : Job) : State :=
  let q := j.desc.pLe 48 2
  match s.qp? q with
  | none => s.deny j Status.attrDenied
  | some x =>
    if x.cfg.part ≠ 0 ∨ ¬(x.state = 1 ∨ x.state = 3) then s.deny j Status.attrDenied
    else if x.inFlight ≠ 0 ∨ s.jobs.any (fun k => k.queue == q && k.phase ≠ .done) then s.deny j Status.busy
    else s.bringCtl j [.persistQueue q] []

/-- R130 PERSIST_ATTACH -/
def execPersistAttach (q i : Nat) (s : State) : Host.Outcome State Fault Refusal :=
  .next (s.ctl q i Op.persistAttach State.persistAttach)

/-- R131: PERSIST_REGION_DECLARE. -/
def State.persistRegionDeclare (s : State) (j : Job) : State :=
  let r := parsePRegion j.input
  if j.input.length ≠ 32 ∨ !r.valid j.input ∨ s.keys.regions.any (fun x => x.num == r.num || r.overlaps x) then
    s.deny j Status.invalidInput
  else ({ s with keys := { s.keys with regions := insertBy (fun x => x.num) r s.keys.regions } } : State).done j

/-- R131 PERSIST_REGION_DECLARE -/
def execPersistRegionDeclare (q i : Nat) (s : State) : Host.Outcome State Fault Refusal :=
  .next (s.ctl q i Op.persistRegionDeclare State.persistRegionDeclare)

/-- R132: an object of the region, or a tree page whose children are not known, is still to be loaded. -/
def State.regionUnknown (s : State) (r : PRegion) : Bool :=
  s.keys.objs.any (fun e => e.load ≠ .loaded && e.load ≠ .unavailable && (e.obj.kind == 3 || r.covers e.obj))

/-- R132: PERSIST_REGION_REMOVE. It waits while an object that may lie in the region is not loaded. A REGION that is not declared gives
INVALID_INPUT: DESIGN CHOICE (notes/assumptions/70.md). -/
def State.persistRegionRemove (s : State) (j : Job) : State :=
  let n := j.desc.pLe 48 2
  match s.keys.regions.find? (fun r => r.num == n) with
  | none => s.deny j Status.invalidInput
  | some r =>
    if s.regionUnknown r then s
    else
      let held := (s.keys.objs.filter (fun e => r.covers e.obj)).map (fun e => e.obj)
      if held.isEmpty then
        ({ s with keys := { s.keys with regions := s.keys.regions.filter (fun x => x.num ≠ n) } } : State).done j
      else if held.any (fun o => !s.keys.regions.any (fun x => x.num ≠ n && x.covers o)) then s.deny j Status.busy
      else
        let s := { s with keys := { s.keys with removing := s.keys.removing ++ [(n, j.id)] } }
        s.bringCtl j (held.map (fun o => .move o n)) (held.filter (fun o => o.kind ≠ 3))

/-- R132 PERSIST_REGION_REMOVE -/
def execPersistRegionRemove (q i : Nat) (s : State) : Host.Outcome State Fault Refusal :=
  .next (s.ctl q i Op.persistRegionRemove State.persistRegionRemove)

end Sys2Proof.Machine
end

