-- ==== Sys2Proof/Machine/SymForms.lean ====
section
/-! DEFINITION. The operand forms of the symmetric and hash family (R154, R155, R160 to R163): cipher blocks of a context, the
family's binding rules, and lengths of inputs and outputs. -/

namespace Sys2Proof.Machine

/-- R160: a 16 B cipher block. -/
structure SymBlock where
  mode : Nat
  ivPolicy : Nat
  pad : Nat
  hashAlg : Nat
  tagLen : Nat
  duLog2 : Nat
  deriving DecidableEq, Repr

/-- R160: a cipher block from its bytes. -/
def parseBlock (b : Bytes) : SymBlock :=
  { mode := byteAt 0 b, ivPolicy := byteAt 1 b, pad := byteAt 2 b, hashAlg := byteAt 3 b, tagLen := byteAt 4 b, duLog2 := byteAt 5 b }

/-- R155: the AEAD modes. -/
def isAead (mode : Nat) : Bool := mode == 0x04 || mode == 0x05 || mode == 0x07

/-- R154: an AES key. -/
def isAes (alg : Nat) : Bool := alg == 0x01 || alg == 0x02

/-- R155: the ALGs a MODE accepts. -/
def modeAlgs (mode : Nat) : List Nat :=
  if [0x01, 0x02, 0x10, 0x11].contains mode then [1, 2, 3, 4]
  else if [0x03, 0x04, 0x05].contains mode then [1, 2]
  else if mode = 0x06 then [5, 6]
  else if mode = 0x07 then [7]
  else if mode = 0x12 then [3]
  else if mode = 0x20 then [8]
  else []

/-- R155, R160: the IV policies a MODE gives, with the key's ALG: 0 LEASED, 1 HOST, 2 NONE. -/
def ivPolicies (mode alg : Nat) : List Nat :=
  if mode = 0x02 then (if isAes alg then [0, 1] else [1])
  else if mode = 0x03 ∨ mode = 0x04 ∨ mode = 0x07 then [0]
  else if mode = 0x05 then [0, 1]
  else if mode = 0x06 then [1]
  else [2]

/-- R155: the tag lengths a MODE allows, lowest and highest. -/
def tagRange (mode alg hashAlg : Nat) : Nat × Nat :=
  if mode = 0x04 then (12, 16)
  else if mode = 0x05 ∨ mode = 0x07 then (16, 16)
  else if mode = 0x10 ∨ mode = 0x11 then (4, if isAes alg then 16 else 8)
  else if mode = 0x12 then (4, 8)
  else if mode = 0x20 then (4, digestLen hashAlg)
  else (0, 0)

/-- R155, R160, R161: a block's fields are valid for the ALG of its key. -/
def SymBlock.ok (x : SymBlock) (raw : Bytes) (alg : Nat) : Bool :=
  let r := tagRange x.mode alg x.hashAlg
  zeroAt 6 10 raw && (x.mode == 0x30 || (modeAlgs x.mode).contains alg) && (ivPolicies x.mode alg).contains x.ivPolicy &&
  decide (x.pad ≤ 3) && (x.pad == 0 || [0x01, 0x02, 0x11, 0x12].contains x.mode) &&
  (if x.mode = 0x30 then digestLen x.hashAlg ≠ 0
   else if x.mode = 0x20 then digestLen x.hashAlg ≠ 0 && !isShake x.hashAlg else x.hashAlg == 0) &&
  decide (r.1 ≤ x.tagLen) && decide (x.tagLen ≤ r.2) &&
  (if x.mode = 0x06 then decide (9 ≤ x.duLog2) && decide (x.duLog2 ≤ 16) else x.duLog2 == 0)

/-- R162: an opcode fits block 0's MODE. -/
def symFits (op mode : Nat) : Bool :=
  if op = Op.symEncrypt ∨ op = Op.symDecrypt ∨ op = Op.symReencrypt then decide (1 ≤ mode) && decide (mode ≤ 7)
  else if op = Op.macGenerate ∨ op = Op.macVerify then [0x10, 0x11, 0x12, 0x20].contains mode
  else mode == 0x30

/-- The ALG of the key a handle of a partition names. -/
def State.algOf (s : State) (p h : Nat) : Nat :=
  match s.findKey p h with
  | .rec_ _ r => r.alg
  | _ => 0

/-- The record a handle of a partition names. -/
def State.keyOf (s : State) (p h : Nat) : Option KeyRec :=
  match s.findKey p h with
  | .rec_ _ r => some r
  | _ => none

/-- R161: the family rules of a 0x1000 context. -/
def State.symOk (s : State) (c : CtxRec) : Bool :=
  let raw0 := sub 0 16 c.params
  let raw1 := sub 16 16 c.params
  let b0 := parseBlock raw0
  let b1 := parseBlock raw1
  let k (n : Nat) : Nat := c.keys.getD n 0
  let re := c.ops.contains Op.symReencrypt
  b0.ok raw0 (s.algOf c.part (k 0)) && c.ops.all (fun o => symFits o b0.mode) && ((k 0 == 0) == (b0.mode == 0x30)) &&
  zeroAt 32 24 c.params && ((k 1 ≠ 0) == re) && k 2 == 0 && k 3 == 0 &&
  (if re then b1.ok raw1 (s.algOf c.part (k 1)) && decide (2 ≤ b1.mode) && decide (b1.mode ≤ 7) &&
      (b1.ivPolicy == 0 || (b1.mode == 0x06 && b1.ivPolicy == 1))
   else allZero raw1)

/-- R163: the IV a MODE carries before its ciphertext. -/
def ivLen (mode alg : Nat) : Nat :=
  if mode = 0x02 then blockLen alg else if [0x03, 0x04, 0x05, 0x07].contains mode then 12 else 0

/-- The tag a MODE carries after its ciphertext. -/
def SymBlock.tagOut (x : SymBlock) : Nat := if isAead x.mode then x.tagLen else 0

/-- R160: the length of a plaintext once padded. -/
def padLen (pad n len : Nat) : Nat :=
  let up (l : Nat) : Nat := (l + n - 1) / n * n
  match pad with
  | 1 => if len = 0 then n else up len
  | 2 => up (len + 1)
  | 3 => n + (if len = 0 then n else up len)
  | _ => len

/-- R163: the length of IV ‖ ciphertext ‖ tag of a plaintext. -/
def SymBlock.outLen (x : SymBlock) (alg len : Nat) : Nat :=
  ivLen x.mode alg + padLen x.pad (blockLen alg) len + x.tagOut

/-- R163: the length of the plaintext in AAD ‖ IV ‖ ciphertext ‖ tag. -/
def SymBlock.ptLen (x : SymBlock) (alg aad total : Nat) : Nat := total - aad - ivLen x.mode alg - x.tagOut

/-- R163: the length of the plaintext given to an encryption: AAD, and the IV under HOST, lie before it. -/
def SymBlock.givenLen (x : SymBlock) (alg aad total : Nat) : Nat :=
  total - aad - (if x.ivPolicy = 1 then ivLen x.mode alg else 0)

/-- R162: AAD_LEN, DUN, PART and XOF_LEN of a descriptor. -/
def Job.aadLen (j : Job) : Nat := j.desc.pLe 48 4
/-- R162: DUN. -/
def Job.dun (j : Job) : Nat := j.desc.pLe 56 8
/-- R162: PART of `HASH`. -/
def Job.hashPart (j : Job) : Nat := j.desc.p8 48
/-- R162: XOF_LEN of `HASH`. -/
def Job.xofLen (j : Job) : Nat := j.desc.pLe 52 4

/-- R160: a block of the job's context. -/
def Job.block (j : Job) (n : Nat) : SymBlock := parseBlock (j.parBytes (16 * n) 16)

/-- R163: the digest `HASH` returns. -/
def Job.hashLen (j : Job) : Nat :=
  if j.xofLen = 0 then digestLen (j.block 0).hashAlg else if isShake (j.block 0).hashAlg && decide (j.xofLen ≤ 65536) then j.xofLen else 0

/-- R66 order 10, R163: the largest output of a job of the family; `n` is its input length, `a0` and `a1` its keys' ALGs. -/
def Job.symOut (j : Job) (n a0 a1 : Nat) : Nat :=
  let b := j.block 0
  let op := j.desc.opcode
  if op = Op.symEncrypt then (if n < j.aadLen then 0 else b.outLen a0 (b.givenLen a0 j.aadLen n))
  else if op = Op.symDecrypt then b.ptLen a0 j.aadLen n
  else if op = Op.symReencrypt then (if n < j.aadLen then 0 else (j.block 1).outLen a1 (b.ptLen a0 j.aadLen n))
  else if op = Op.macGenerate then b.tagLen
  else if op = Op.hash then (if j.hashPart = 1 ∨ j.hashPart = 2 then 512 else j.hashLen)
  else 0

/-- R162: AAD_LEN and DUN are zero but for the modes that use them. -/
def Job.symParamOk (j : Job) : Bool :=
  let b := j.block 0
  let re := j.desc.opcode == Op.symReencrypt
  let aead := isAead b.mode || (re && isAead (j.block 1).mode)
  let xts := b.mode == 0x06 || (re && (j.block 1).mode == 0x06)
  j.desc.opcode == Op.hash || ((aead || j.aadLen == 0) && (xts || j.dun == 0))

/-- R162: the keys a job of the family uses, with their usage classes. -/
def symKeys (op : Nat) : List (Nat × List Nat) :=
  if op = Op.symEncrypt then [(0, [1])]
  else if op = Op.symDecrypt then [(0, [2])]
  else if op = Op.macGenerate ∨ op = Op.macVerify then [(0, [7])]
  else if op = Op.symReencrypt then [(0, [2]), (1, [1])]
  else []

end Sys2Proof.Machine
end

