-- ==== Sys2Proof/Machine/KeyMake.lean ====
section
/-! DEFINITION. How a key enters and leaves the store: X9.143 key blocks (R124, R234 to R237, R242), checks of new material
(R150, R154, R190) and the storing of a new record (R119, R125, R151). -/

namespace Sys2Proof.Machine

/-! ### Characters -/

/-- A hexadecimal digit as its ASCII byte. -/
def hexDigit (n : Nat) : Byte := BitVec.ofNat 8 (if n < 10 then 48 + n else 55 + n)

/-- Bytes as upper-case hexadecimal characters. -/
def hexOf (b : Bytes) : Bytes := b.flatMap (fun x => [hexDigit (x.toNat / 16), hexDigit (x.toNat % 16)])

/-- The value of a hexadecimal character. -/
def hexVal (c : Byte) : Option Nat :=
  let n := c.toNat
  if 48 ≤ n ∧ n ≤ 57 then some (n - 48) else if 65 ≤ n ∧ n ≤ 70 then some (n - 55) else if 97 ≤ n ∧ n ≤ 102 then some (n - 87) else none

/-- Bytes of hexadecimal characters; none for a character that is not one, or an odd count. -/
def unhex : Bytes → Option Bytes
  | [] => some []
  | [_] => none
  | a :: b :: rest => match hexVal a, hexVal b, unhex rest with
    | some x, some y, some l => some (BitVec.ofNat 8 (16 * x + y) :: l)
    | _, _, _ => none

/-- The `n` decimal characters of a number. -/
def decOf (n v : Nat) : Bytes := (List.range n).map (fun k => BitVec.ofNat 8 (48 + v / 10 ^ (n - 1 - k) % 10))

/-- The number of decimal characters. -/
def decVal (b : Bytes) : Option Nat :=
  if b.all (fun c => decide (48 ≤ c.toNat) && decide (c.toNat ≤ 57)) then some (b.foldl (fun v c => 10 * v + (c.toNat - 48)) 0) else none

/-! ### Key block headers (R124, R234 to R236) -/

/-- A key block taken apart: the header text with its optional blocks, usage, algorithm letter, mode, version number,
exportability, the optional blocks (ID, data), and the ciphertext and MAC. -/
structure KeyBlock where
  ver : Byte
  head : Bytes
  usage : Bytes
  letter : Byte
  mode : Byte
  keyVer : Bytes
  export_ : Byte
  opts : List (Bytes × Bytes)
  ct : Bytes
  mac : Bytes
  deriving DecidableEq, Repr

/-- R235: the length of the optional block at the head of `b` and of what precedes its data. X9.143: two hexadecimal characters give the
length, or are 00 and two more say how many bytes, in hexadecimal, give it. -/
def optLen (b : Bytes) : Option (Nat × Nat) :=
  match unhex (sub 2 2 b), unhex (sub 4 2 b) with
  | some [0], some [n] => (unhex (sub 6 (2 * n.toNat) b)).bind (fun l => if l.length = n.toNat then some (beNat l, 6 + 2 * n.toNat) else none)
  | some [l], _ => some (l.toNat, 4)
  | _, _ => none

/-- R235: cut `n` optional blocks off: ID, length, data. -/
def parseOpts : Nat → Bytes → Option (List (Bytes × Bytes) × Bytes)
  | 0, b => some ([], b)
  | n + 1, b =>
    match optLen b with
    | some (len, head) =>
      if b.length < head ∨ len < head ∨ b.length < len then none
      else match parseOpts n (b.drop len) with
        | some (os, rest) => some ((b.take 2, sub head (len - head) b) :: os, rest)
        | none => none
    | none => none

/-- R234: the MAC characters of a version: 8 B for B, 16 B for D. -/
def kbMacLen (ver : Byte) : Nat := if ver = 0x44 then 16 else 8

/-- R234, R235: a key block from its characters; its length field must equal their count. -/
def parseKb (b : Bytes) : Option KeyBlock :=
  let ver := b.getD 0 0
  match decVal (sub 1 4 b), decVal (sub 12 2 b) with
  | some len, some n =>
    if len ≠ b.length ∨ b.length < 16 ∨ 8 < n ∨ ¬(ver = 0x42 ∨ ver = 0x44) then none
    else match parseOpts n (b.drop 16) with
      | none => none
      | some (os, rest) => match unhex rest with
        | none => none
        | some raw =>
          let m := kbMacLen ver
          if raw.length < m then none
          else some { ver := ver, head := b.take (b.length - rest.length), usage := sub 5 2 b, letter := b.getD 7 0, mode := b.getD 8 0,
                      keyVer := sub 9 2 b, export_ := b.getD 11 0, opts := os, ct := raw.take (raw.length - m), mac := raw.drop (raw.length - m) }
  | _, _ => none

/-- R234: a protection key's ALG fits a version. -/
def kbFits (ver : Byte) (alg : Nat) : Bool :=
  (ver == 0x42 && (alg == 0x03 || alg == 0x04)) || (ver == 0x44 && (alg == 0x01 || alg == 0x02))

/-- R124, R236: the usage class of a key usage, algorithm letter and mode of use. -/
def kbClass (usage : Bytes) (letter mode : Byte) : Option Nat :=
  let at_ := letter == 0x41 || letter == 0x54
  let ms := mode.toNat
  let isE := usage.getD 0 0 == 0x45 && decide (0x30 ≤ (usage.getD 1 0).toNat) && decide ((usage.getD 1 0).toNat ≤ 0x36)
  let isM := usage.getD 0 0 == 0x4D && decide (0x30 ≤ (usage.getD 1 0).toNat) && decide ((usage.getD 1 0).toNat ≤ 0x38)
  let isV := usage.getD 0 0 == 0x56 && decide (0x30 ≤ (usage.getD 1 0).toNat) && decide ((usage.getD 1 0).toNat ≤ 0x34)
  if usage = ascii "D0" ∧ at_ ∨ usage = ascii "D1" ∧ letter = 0x52 then
    (if ms = 0x45 then some 1 else if ms = 0x44 then some 2 else none)
  else if (usage = ascii "K0" ∨ usage = ascii "K1") ∧ at_ then (if ms = 0x42 then some 3 else none)
  else if (usage = ascii "B0" ∨ usage = ascii "B1" ∨ isE) ∧ at_ then (if ms = 0x58 then some 4 else none)
  else if usage = ascii "S0" ∧ (letter = 0x52 ∨ letter = 0x45) then
    (if ms = 0x53 then some 5 else if ms = 0x56 then some 6 else none)
  else if (isM ∧ (at_ ∨ letter = 0x48)) ∨ ((usage = ascii "C0" ∨ isV) ∧ at_) then (if ms = 0x43 then some 7 else none)
  else if usage = ascii "P0" ∧ at_ then (if ms = 0x42 then some 8 else none)
  else none

/-- R242: the usages whose import needs an unwrapping key with DUAL set. -/
def kbDualUsage (usage : Bytes) : Bool :=
  let a := usage.getD 0 0
  let d := (usage.getD 1 0).toNat
  usage == ascii "P0" || usage == ascii "K0" || usage == ascii "K1" || usage == ascii "B0" || usage == ascii "B1" ||
  usage == ascii "C0" || (a == 0x45 && decide (0x30 ≤ d) && decide (d ≤ 0x36)) || (a == 0x56 && decide (0x30 ≤ d) && decide (d ≤ 0x34))

/-- R236: the ALG of a symmetric key by its letter and length; none for lengths no ALG has (AES-192 among them). -/
def kbSymAlg (letter : Byte) (len : Nat) : Option Nat :=
  if letter = 0x41 then (if len = 16 then some 1 else if len = 32 then some 2 else none)
  else if letter = 0x54 then (if len = 16 then some 3 else if len = 24 then some 4 else none)
  else if letter = 0x48 then (if 16 ≤ len ∧ len ≤ 128 then some 8 else none)
  else none

/-- R236: the ALGs an asymmetric letter and class can name. -/
def kbAsymAlgs (letter : Byte) (cls : Nat) : List Nat :=
  if letter = 0x52 then (if cls = 5 ∨ cls = 2 then [0x10] else [0x11])
  else if letter = 0x45 then (if cls = 5 then [0x20, 0x21, 0x22] else [0x28, 0x29, 0x2A])
  else []

/-- The plain key field: two bytes of length in bits, the key, padding. For an asymmetric letter the key decodes by its standard
form; with letter E its length selects the curve (R236). Answers ALG, LEN and material. -/
def kbMaterial (k : KeyBlock) (cls : Nat) (field : Bytes) : Option (Nat × Nat × Bytes) :=
  let bits := beNat (field.take 2)
  let key := sub 2 (bits / 8) field
  if bits % 8 ≠ 0 ∨ field.length < 2 + bits / 8 then none
  else match kbSymAlg k.letter key.length with
    | some a => some (a, key.length, key)
    | none =>
      let algs := kbAsymAlgs k.letter cls
      let a? := if k.letter = 0x45 then (Config.kbCurve key.length).bind (fun n => if n < 3 then algs[n]? else none) else algs.head?
      a?.bind (fun a => (Config.kbDecode a key).map (fun r => (a, r.1, fixLen (matLen a r.1) r.2)))

/-- What taking a key block apart answers: a status, or its class, ALG, LEN, material and exportability. -/
inductive KbOpened where
  | bad (st : Nat)
  | ok (cls alg len : Nat) (mat : Bytes) (exp : Bool)
  deriving DecidableEq, Repr

/-- R235: a KC block's value: two characters of method, then the device's check value in hexadecimal. DEDUCED
(notes/assumptions/71.md): all four bytes, and no more. -/
def kcMatches (data check : Bytes) : Bool :=
  match unhex (data.drop 2) with
  | some v => v == check
  | none => false

/-- R235: the optional blocks are well formed for a usage: KS and IK go with B1, KC must match. -/
def kbOptsOk (k : KeyBlock) (check : Bytes) : Nat :=
  if k.opts.any (fun o => (o.1 == ascii "KS" || o.1 == ascii "IK") && k.usage ≠ ascii "B1") then Status.invalidInput
  else if k.opts.any (fun o => o.1 == ascii "KC" && !kcMatches o.2 check) then Status.verifyFail
  else 0

/-- R235: a component's version number: c1 to c9. -/
def kbComponent (k : KeyBlock) : Option Nat :=
  match k.keyVer with
  | [c, d] => if c = 0x63 ∧ 0x31 ≤ d.toNat ∧ d.toNat ≤ 0x39 then some (d.toNat - 48) else none
  | _ => none

/-- R234 to R236: open a key block under a protection key; `comp` says that it is a component's. -/
def openKb (palg : Nat) (pkey b : Bytes) (comp : Bool) : KbOpened :=
  match parseKb b with
  | none => .bad Status.invalidInput
  | some k =>
    if !kbFits k.ver palg ∨ ((kbComponent k).isSome ∧ !comp) then .bad Status.invalidInput
    else match kbClass k.usage k.letter k.mode with
      | none => .bad Status.attrDenied
      | some cls =>
        match Config.kbOpen palg pkey k.head k.ct k.mac with
        | none => .bad Status.authFail
        | some field => match kbMaterial k cls (fixLen k.ct.length field) with
          | none => .bad Status.invalidInput
          | some (alg, len, mat) =>
            let e := kbOptsOk k (checkValue alg len mat)
            if e ≠ 0 then .bad e else .ok cls alg len mat (k.export_ == 0x45)

/-! ### Export (R236, R237) -/

/-- R236: export usage, mode and algorithm letter of a class and ALG. -/
def kbExport (cls alg : Nat) : Option (Bytes × Byte × Byte) :=
  let letter : Byte := if alg ≤ 2 then 0x41 else if alg ≤ 4 then 0x54 else if alg = 8 then 0x48 else if alg ≤ 0x11 then 0x52 else 0x45
  let sym := decide (1 ≤ alg) && decide (alg ≤ 4)
  if (cls = 1 ∨ cls = 2) ∧ sym then some (ascii "D0", (if cls = 1 then 0x45 else 0x44), letter)
  else if (cls = 1 ∧ alg = 0x11) ∨ (cls = 2 ∧ alg = 0x10) then some (ascii "D1", (if cls = 1 then 0x45 else 0x44), letter)
  else if cls = 3 ∧ sym then some (ascii "K0", 0x42, letter)
  else if cls = 5 ∧ [0x10, 0x20, 0x21, 0x22].contains alg then some (ascii "S0", 0x53, letter)
  else if cls = 6 ∧ [0x11, 0x28, 0x29, 0x2A].contains alg then some (ascii "S0", 0x56, letter)
  else if cls = 7 ∧ (alg = 3 ∨ alg = 4) then some (ascii "M0", 0x43, letter)
  else if cls = 7 ∧ (alg = 1 ∨ alg = 2) then some (ascii "M6", 0x43, letter)
  else if cls = 7 ∧ alg = 8 then some (ascii "M7", 0x43, letter)
  else if cls = 8 ∧ sym then some (ascii "P0", 0x42, letter)
  else none

/-- R237: the length a key takes in the key field before the cipher's padding. -/
def kbKeyLen (alg len : Nat) : Nat :=
  if alg = 1 ∨ alg = 2 then 32 else if alg = 3 ∨ alg = 4 then 24 else if alg < 0x10 then len else Config.kbEncodeLen alg len

/-- R234, R237: the padded key field under a protection key. -/
def kbFieldLen (palg alg len : Nat) : Nat :=
  let n := blockLen palg
  (2 + kbKeyLen alg len + n - 1) / n * n

/-- R234, R235: optional blocks as text, with a PB block where padding needs one, and their count. Its printable characters are
hexadecimal digits of `fill`: DESIGN CHOICE (notes/assumptions/71.md). -/
def kbOptText (palg : Nat) (opts : List (Bytes × Bytes)) (fill : Bytes) : Nat × Bytes :=
  let one (o : Bytes × Bytes) : Bytes := o.1 ++ hexOf (leBytes 1 (4 + o.2.length)) ++ o.2
  let t := opts.flatMap one
  let n := blockLen palg
  if t.length % n = 0 then (opts.length, t)
  else
    let short := n - t.length % n
    let pad := if short < 4 then short + n - 4 else short - 4
    (opts.length + 1, t ++ one (ascii "PB", if fill = [] then fixLen pad [] else fixLen pad (hexOf fill)))

/-- R234: the characters of a key block with given optional blocks. -/
def kbLen (palg alg len : Nat) (opts : List (Bytes × Bytes)) : Nat :=
  16 + (kbOptText palg opts []).2.length + 2 * (kbFieldLen palg alg len + kbMacLen (if blockLen palg = 16 then 0x44 else 0x42))

/-- R234 to R237: write a key block. `rnd` fills the padding. -/
def makeKb (palg : Nat) (pkey usage : Bytes) (mode letter : Byte) (alg len : Nat) (mat : Bytes) (opts : List (Bytes × Bytes))
    (rnd fill : Bytes) : Bytes :=
  let ver : Byte := if blockLen palg = 16 then 0x44 else 0x42
  let key := if alg < 0x10 then mat else (Config.kbEncode alg mat).take (Config.kbEncodeLen alg len)
  let (n, text) := kbOptText palg opts fill
  let total := kbLen palg alg len opts
  let head := [ver] ++ decOf 4 total ++ usage ++ [letter, mode] ++ ascii "00" ++ ascii "E" ++ decOf 2 n ++ ascii "00" ++ text
  let field := fixLen (kbFieldLen palg alg len) (beBytes 2 (8 * key.length) ++ key ++ rnd)
  let (ct, mac) := Config.kbSeal palg pkey head field
  head ++ hexOf (fixLen field.length ct) ++ hexOf (fixLen (kbMacLen ver) mac)

/-! ### New keys (R124, R125, R150, R154, R188, R190) -/

/-- R124, R150: ALG, USAGE and ATTR of a new record: none when good, else the status. -/
def keyFieldsBad (alg usage : Nat) (attr : Nat) : Option Nat :=
  if (genLen alg 2048).isNone ∨ usage = 0 ∨ 8 < usage ∨ 16 ≤ attr then some Status.invalidInput
  else if bitOf 3 attr ∨ !(algUsages alg).contains usage then some Status.attrDenied
  else none

/-- R154, R188: LEN fits the ALG. -/
def keyLenOk (alg len : Nat) : Bool :=
  if alg = 0x08 then decide (16 ≤ len) && decide (len ≤ 128)
  else if alg = 0x10 then decide (2048 ≤ len) && decide (len ≤ 8192) && len % 256 == 0
  else if alg = 0x11 then decide (1024 ≤ len) && decide (len ≤ 8192) && len % 256 == 0
  else genLen alg 0 == some len

/-- R190: the checks of material before it enters a record. -/
def materialOk (alg len : Nat) (mat : Bytes) : Bool :=
  keyLenOk alg len && mat.length == matLen alg len &&
  (if alg < 0x10 then true else keyValid alg len mat && (if [0x10, 0x20, 0x21, 0x22, 0x30].contains alg then Config.pairwise alg mat else true))

/-- R352, R356, R362, R397: what stops a key-store opcode altogether (DUS_BAD; the states BLANK and SCRAPPED, where it is absent). `change` says that it is state-changing, `new` that R397 names
it. -/
def State.keyStoreShut (s : State) (change new : Bool) : Option (Nat × Nat) :=
  if s.life.dusBad ∨ s.life.state = 0 ∨ s.life.state = 5 then some (Status.attrDenied, 0)
  else if change ∧ s.life.erased then some (Status.attrDenied, 0)
  else if new ∧ s.eol then some (Status.attrDenied, 0x20)
  else none

/-- What checking a parent answers. -/
inductive ParentCheck where
  | ok (depth : Nat) | wait | bad (st : Nat)
  deriving DecidableEq, Repr

/-- R125, R148: a parent INDEX of a new record; zero for a domain parent. An INDEX that names no record, or a RETIRED slot, gives
KEY_ABSENT, and a parent with an erase pending PARENT_REVOKED: DESIGN CHOICE (notes/assumptions/70.md). -/
def State.parentCheck (s : State) (p parent : Nat) : ParentCheck :=
  if parent = 0 then .ok 4
  else match s.stand (keyPageObj p (parent / 1024)) with
    | .load _ => .wait
    | .unavailable => .bad Status.pageUnavailable
    | .absent => .bad Status.keyAbsent
    | .loaded => match s.recAt p parent with
      | none => .bad Status.keyAbsent
      | some r =>
        let h := recHandle p (parent / 1024) r
        if r.usage ≠ 3 ∨ r.alg ≠ 0x02 ∨ 6 ≤ r.depth then .bad Status.attrDenied
        else match s.lookup p h [] with
          | .wait _ => .wait
          | .status st => .bad (if st = Status.pageUnavailable then st else Status.parentRevoked)
          | .rec_ _ _ => .ok (r.depth + 1)

/-- The fields of a record to be made. -/
structure NewKey where
  alg : Nat
  usage : Nat
  attr : Nat
  domain : Nat
  parent : Nat
  len : Nat
  mat : Bytes
  deriving DecidableEq, Repr

/-- What making a record answers: a status, a page to wait for, or the record, its handle and the state with its slot reserved. -/
inductive Made where
  | bad (st dt : Nat) | wait | ok (h page : Nat) (r : KeyRec) (s : State)

/-- R119, R122, R123, R125, R151: make a record of a partition: its place, generation, header and wrapped material. -/
def State.makeRec (s : State) (p : Nat) (k : NewKey) : Made :=
  match s.parentCheck p k.parent with
  | .wait => .wait
  | .bad st => .bad st 0
  | .ok depth =>
    if s.life.debug = 1 ∧ bitOf 1 k.attr then .bad Status.attrDenied 0
    else match classFor (matLen k.alg k.len) with
      | none => .bad Status.invalidInput 0
      | some cls => match s.wrapKey p k.parent k.domain with
        | none => .bad Status.pageUnavailable 0
        | some wk => if s.reserveWaits p cls then .wait else match s.reserve p cls with
          | none => .bad Status.quotaExceeded 0
          | some (n, x, gen, s) =>
            let r : KeyRec := { slot := x, cls := cls, revoked := false, depth := depth, usage := k.usage, attr := BitVec.ofNat 8 k.attr,
                                alg := k.alg, kekGen := s.kekNow, gen := gen, parent := k.parent, domain := k.domain, len := k.len, body := [] }
            let h := recHandle p n r
            .ok h n (wrapRec wk h r (fixLen (matLen k.alg k.len) k.mat)) s

/-- R137, R151: a tile's job stores a new record: the handle, then `more`, is its output. -/
def State.storeKey (s : State) (j : Job) (k : NewKey) (before more : Bytes) (extra : Nat → List Change := fun _ => []) : State :=
  match s.makeRec j.part k with
  | .wait => s
  | .bad st dt => (if st = Status.quotaExceeded then s.notice Reg.kstNotice 5 else s).answer j (fail st dt)
  | .ok h n r s =>
    s.answerBring j (.keyPut j.part n r true :: extra h) [keyPageObj j.part n] (okOut (before ++ leBytes 8 h ++ more))

end Sys2Proof.Machine
end

