-- ==== Sys2Proof/Machine/PkForms.lean ====
section
/-! DEFINITION. The operand forms of the public-key family (R188, R191 to R194): PARAMS, binding rules, lengths. -/

namespace Sys2Proof.Machine

/-- R191: the PARAMS of a 0x2000 context. -/
structure PkParams where
  scheme : Nat
  hashAlg : Nat
  mgf : Nat
  nonce : Nat
  saltLen : Nat
  pre : Nat
  outForm : Nat
  dAlg : Nat
  dUsage : Nat
  dAttr : Nat
  dDomain : Nat
  dLen : Nat
  ctxLen : Nat
  deriving DecidableEq, Repr

/-- R191: PARAMS from their bytes. -/
def parsePk (b : Bytes) : PkParams :=
  { scheme := byteAt 0 b, hashAlg := byteAt 1 b, mgf := byteAt 2 b, nonce := byteAt 3 b, saltLen := leAt 4 2 b, pre := byteAt 6 b,
    outForm := byteAt 7 b, dAlg := byteAt 16 b, dUsage := byteAt 17 b, dAttr := byteAt 18 b, dDomain := byteAt 19 b, dLen := leAt 20 2 b,
    ctxLen := byteAt 24 b }

/-- R191, R192: the ALGs a SCHEME fits. -/
def schemeAlgs (s : Nat) : List Nat :=
  if s = 0x01 ∨ s = 0x02 ∨ s = 0x03 then [0x10, 0x11]
  else if s = 0x10 then [0x20, 0x21, 0x22, 0x28, 0x29, 0x2A]
  else if s = 0x11 ∨ s = 0x12 then [0x30, 0x38]
  else if s = 0x20 ∨ s = 0x21 then [0x50, 0x51, 0x52, 0x58, 0x59, 0x5A]
  else if s = 0x30 then [0x20, 0x21, 0x22]
  else if s = 0x31 then [0x40, 0x41, 0x42, 0x48, 0x49, 0x4A]
  else []

/-- R193: an opcode fits a SCHEME and, for ML-KEM, the key's side. -/
def pkFits (op scheme alg : Nat) : Bool :=
  if op = Op.pkSign ∨ op = Op.pkVerify then [0x01, 0x02, 0x10, 0x11, 0x12, 0x20, 0x21].contains scheme
  else if op = Op.pkEncrypt ∨ op = Op.pkDecrypt then scheme == 0x03
  else if op = Op.keyAgree then scheme == 0x30
  else if op = Op.kemEncap then scheme == 0x31 && decide (0x48 ≤ alg)
  else scheme == 0x31 && decide (alg ≤ 0x42)

/-- R193: the opcodes that derive a key. -/
def derives (op : Nat) : Bool := op == Op.keyAgree || op == Op.kemEncap || op == Op.kemDecap

/-- R191, R192: SCHEMEs without a HASH_ALG. -/
def noHash (scheme : Nat) : Bool := [0x11, 0x20, 0x30, 0x31].contains scheme

/-- R192: the derived-key fields. -/
def PkParams.derivedOk (x : PkParams) (raw : Bytes) (on : Bool) : Bool :=
  if on then
    decide (1 ≤ x.dAlg) && decide (x.dAlg ≤ 8) && (keyFieldsBad x.dAlg x.dUsage x.dAttr).isNone && keyLenOk x.dAlg x.dLen &&
      (x.outForm ≠ 1 || (kbExport x.dUsage x.dAlg).isSome)
  else zeroAt 16 6 raw && x.outForm == 0

/-- R192: the family rules of a 0x2000 context. -/
def State.pkOk (s : State) (c : CtxRec) : Bool :=
  let raw := c.params
  let x := parsePk raw
  let k0 := s.keyOf c.part (c.keys.getD 0 0)
  let alg := (k0.map (fun r => r.alg)).getD 0
  let k := ((k0.map (fun r => r.len)).getD 0) / 8
  let h := digestLen x.hashAlg
  (schemeAlgs x.scheme).contains alg && (if noHash x.scheme then x.hashAlg == 0 else h ≠ 0) &&
  (x.mgf == 0 || digestLen x.mgf ≠ 0) && (x.scheme ≠ 0x12 || x.hashAlg == 0x04) && decide (x.pre ≤ 1) &&
  (x.pre == 0 || !noHash x.scheme) && decide (x.nonce ≤ 1) && (x.nonce == 1 || !(x.scheme == 0x11 || x.scheme == 0x12)) &&
  decide (x.saltLen ≤ h) && (x.scheme ≠ 0x02 || (decide (x.saltLen + h + 2 ≤ k) && (x.nonce == 0 || x.saltLen == 0))) &&
  decide (x.outForm ≤ 1) && x.derivedOk raw (c.ops.any derives) &&
  (x.outForm == 0 || ((s.keyOf c.part (c.keys.getD 1 0)).map (fun r => r.usage)) == some 3) &&
  c.ops.all (fun o => pkFits o x.scheme alg) && zeroAt 8 8 raw && zeroAt 22 2 raw && decide (x.ctxLen ≤ 31) &&
  zeroAt (25 + x.ctxLen) (31 - x.ctxLen) raw

/-- R194: signature lengths by ALG of either side and LEN. -/
def sigLen (alg len : Nat) : Nat :=
  if alg = 0x10 ∨ alg = 0x11 then len / 8
  else if alg = 0x20 ∨ alg = 0x28 then 64
  else if alg = 0x21 ∨ alg = 0x29 then 96
  else if alg = 0x22 ∨ alg = 0x2A then 132
  else if alg = 0x30 ∨ alg = 0x38 then 64
  else if alg = 0x50 ∨ alg = 0x58 then 2420
  else if alg = 0x51 ∨ alg = 0x59 then 3309
  else if alg = 0x52 ∨ alg = 0x5A then 4627
  else 0

/-- R207: ML-KEM ciphertext lengths. -/
def kemCtLen (alg : Nat) : Nat :=
  if alg = 0x40 ∨ alg = 0x48 then 768 else if alg = 0x41 ∨ alg = 0x49 then 1088 else if alg = 0x42 ∨ alg = 0x4A then 1568 else 0

/-- R189: an uncompressed point's length by the private ALG. -/
def pointLen (alg : Nat) : Nat := if alg = 0x20 then 65 else if alg = 0x21 then 97 else 133

/-- R191: PARAMS of a job's context. -/
def Job.pk (j : Job) : PkParams := parsePk (j.parBytes 0 56)

/-- R194: the longest message of OAEP. -/
def oaepMax (len h : Nat) : Nat := len / 8 - 2 * h - 2

/-- R195: the length of a derived key's output: a handle, or a key block under an ALG. -/
def PkParams.keyOut (x : PkParams) (palg : Nat) : Nat := if x.outForm = 1 then kbLen palg x.dAlg x.dLen [] else 8

/-- R66 order 10, R194: the largest output of a job of the family, from the records its context's KEY0 and KEY1 name. -/
def Job.pkOut (j : Job) (alg len palg : Nat) : Nat :=
  let op := j.desc.opcode
  let x := j.pk
  if op = Op.pkSign then sigLen alg len
  else if op = Op.pkEncrypt then len / 8
  else if op = Op.pkDecrypt then oaepMax len (digestLen x.hashAlg)
  else if op = Op.kemEncap then kemCtLen alg + x.keyOut palg
  else if derives op then x.keyOut palg
  else 0

/-- R193: the keys a job of the family uses, with their usage classes. -/
def Job.pkKeys (j : Job) : List (Nat × List Nat) :=
  let op := j.desc.opcode
  if op = Op.pkSign then [(0, [5])]
  else if op = Op.pkVerify then [(0, [6])]
  else if op = Op.pkEncrypt then [(0, [1])]
  else if op = Op.pkDecrypt then [(0, [2])]
  else (0, [4]) :: (if j.pk.outForm = 1 then [(1, [3])] else [])

/-- R193: INFO_LEN. -/
def Job.infoLen (j : Job) : Nat := j.desc.pLe 48 2

end Sys2Proof.Machine
end

