-- ==== Sys2Proof/Machine/PayForms.lean ====
section
/-! DEFINITION. The operand forms of the payment family (R215 to R223): PARAMS, binding rules, keys, lengths. -/

namespace Sys2Proof.Machine

/-- R216: the PARAMS of a 0x3000 context. -/
structure PayParams where
  inFmt : Nat
  outFmt : Nat
  keyMode : Nat
  dkAlg : Nat
  dkUsage : Nat
  macAlg : Nat
  macPad : Nat
  macLen : Nat
  method : Nat
  digits : Nat
  pinPos : Nat
  pinCount : Nat
  mkd : Nat
  skd : Nat
  arpc : Nat
  dectab : Bytes
  pinMin : Nat
  pinMax : Nat
  deriving DecidableEq, Repr

/-- R216: PARAMS from their bytes. -/
def parsePay (b : Bytes) : PayParams :=
  { inFmt := byteAt 0 b, outFmt := byteAt 1 b, keyMode := byteAt 2 b, dkAlg := byteAt 3 b, dkUsage := leAt 4 2 b, macAlg := byteAt 6 b,
    macPad := byteAt 7 b, macLen := byteAt 8 b, method := byteAt 9 b, digits := byteAt 10 b, pinPos := byteAt 11 b,
    pinCount := byteAt 12 b, mkd := byteAt 13 b, skd := byteAt 14 b, arpc := byteAt 15 b, dectab := sub 16 8 b, pinMin := byteAt 24 b,
    pinMax := byteAt 25 b }

/-- R215: the PIN opcodes. -/
def isPinOp (op : Nat) : Bool := op == Op.pinTranslate || op == Op.pinVerify || op == Op.pinValueGenerate
/-- R215, R228: the opcodes that check or form a PIN value. -/
def isPinValueOp (op : Nat) : Bool := op == Op.pinVerify || op == Op.pinValueGenerate
/-- R215: the payment MAC opcodes. -/
def isPayMacOp (op : Nat) : Bool := op == Op.payMacGenerate || op == Op.payMacVerify
/-- R215: the verification-value opcodes. -/
def isValueOp (op : Nat) : Bool := op == Op.valueGenerate || op == Op.valueVerify

/-- R219: a PIN block format the device supports. -/
def pinFormat (f : Nat) : Bool := f == 0 || f == 1 || f == 3 || f == 4
/-- R219: a format whose block is bound to the PAN. -/
def panBound (f : Nat) : Bool := f == 0 || f == 3 || f == 4
/-- R219: the bytes of a PIN block. -/
def pinBlockLen (f : Nat) : Nat := if f = 4 then 16 else 8
/-- R217: a format's cipher fits a key's ALG. -/
def fmtFits (f alg : Nat) : Bool := if f = 4 then isAes alg else alg == 0x03 || alg == 0x04

/-- R219, R224: the ALG of the key that opens a job's PIN block or makes its MAC, from KEY0's. -/
def PayParams.workAlg (x : PayParams) (a0 : Nat) : Nat := if x.keyMode = 1 then 0x03 else if x.keyMode = 2 then x.dkAlg else a0

/-- A field in its range, or zero where no listed opcode uses it. -/
def usedIn (used : Bool) (v : Nat) (ok : Bool) : Bool := if used then ok else ok || v == 0

/-- R155, R217: a MAC_ALG fits a key's ALG. -/
def payMacFits (macAlg alg : Nat) : Bool :=
  if macAlg = 0x03 ∨ macAlg = 0x16 then alg == 0x03 || alg == 0x04
  else if macAlg = 0x01 then (modeAlgs 0x11).contains alg
  else (modeAlgs 0x10).contains alg

/-- R216, R223: DK_ALG and DK_USAGE for a KEYMODE and the listed opcodes. -/
def PayParams.derivesOk (x : PayParams) (ops : List Nat) : Bool :=
  let pin := ops.any isPinOp
  let mac := ops.any isPayMacOp
  if x.keyMode = 1 then x.dkAlg == 0 && decide (x.dkUsage ≤ 3) && (!pin || x.dkUsage == 1) && (!mac || x.dkUsage == 2 || x.dkUsage == 3)
  else if x.keyMode = 2 then
    let listed := decide (0x2000 ≤ x.dkUsage) && decide (x.dkUsage ≤ 0x2003)
    (if pin || mac then decide (1 ≤ x.dkAlg) && decide (x.dkAlg ≤ 4) && listed else decide (x.dkAlg ≤ 4) && (listed || x.dkUsage == 0)) &&
    (!pin || x.dkUsage == 0x2000) && (!mac || decide (0x2001 ≤ x.dkUsage))
  else x.dkAlg == 0 && x.dkUsage == 0

/-- R217, R230: the family rules of a 0x3000 context. -/
def State.payOk (s : State) (c : CtxRec) : Bool :=
  let x := parsePay c.params
  let a0 := s.algOf c.part (c.keys.getD 0 0)
  let a1 := s.algOf c.part (c.keys.getD 1 0)
  let w := x.workAlg a0
  let pin := c.ops.any isPinOp
  let tr := c.ops.contains Op.pinTranslate
  let pval := c.ops.any isPinValueOp
  let mac := c.ops.any isPayMacOp
  let val := c.ops.any isValueOp
  let emv := c.ops.contains Op.emvArqcVerify
  let init := c.ops.contains Op.dukptInitExport
  let macs := mac || val || pval || emv
  (pinFormat x.inFmt || (x.inFmt == 0xFF && !pin)) && (pinFormat x.outFmt || (x.outFmt == 0xFF && !tr)) &&
  decide (x.keyMode ≤ 3) && x.derivesOk c.ops &&
  usedIn macs x.macAlg ([0x01, 0x03, 0x05, 0x16].contains x.macAlg) &&
  (if x.macAlg = 0x05 then x.macPad == 0 else usedIn macs x.macPad (decide (1 ≤ x.macPad) && decide (x.macPad ≤ 3))) &&
  usedIn mac x.macLen (decide (4 ≤ x.macLen) && decide (x.macLen ≤ (if isAes w then 16 else 8))) &&
  (if pval then x.method == 1 || x.method == 2 else x.method == 0) &&
  usedIn (pval || val) x.digits (decide (3 ≤ x.digits) && decide (x.digits ≤ 12)) && decide (x.pinPos ≤ 127) &&
  usedIn (pval && x.method == 1) x.pinCount (decide (1 ≤ x.pinCount) && decide (x.pinCount ≤ 12)) &&
  decide (x.mkd ≤ 1) && decide (x.skd ≤ 1) && decide (x.arpc ≤ 2) &&
  usedIn pin x.pinMin (decide (4 ≤ x.pinMin) && decide (x.pinMin ≤ 12)) &&
  usedIn pin x.pinMax (decide (x.pinMin ≤ x.pinMax) && decide (x.pinMax ≤ 12)) && zeroAt 26 30 c.params &&
  (x.inFmt == 0xFF || fmtFits x.inFmt w) && (x.outFmt == 0xFF || fmtFits x.outFmt a1) &&
  !((x.inFmt == 0 || x.inFmt == 3 || x.inFmt == 4) && x.outFmt == 1) &&
  (x.keyMode ≠ 1 || a0 == 0x03 || a0 == 0x04) && (x.keyMode ≠ 2 || isAes a0) &&
  (!mac || payMacFits x.macAlg w) && (!val || payMacFits x.macAlg a0) &&
  (!emv || x.macAlg == (if isAes a0 then 0x05 else 0x03)) && (!pval || payMacFits x.macAlg a1) &&
  x.dectab.all (fun b => decide (b.toNat % 16 ≤ 9) && decide (b.toNat / 16 ≤ 9)) &&
  (x.method ≠ 1 || decide (x.pinCount ≤ x.pinMin)) && (x.method ≠ 2 || decide (x.digits ≤ x.pinMin)) &&
  ((x.keyMode == 3) == emv) && (x.keyMode ≠ 3 || !(pin || mac)) &&
  (!init || (c.ops.all (fun o => o == Op.dukptInitExport) && (x.keyMode == 1 || x.keyMode == 2))) &&
  (c.keys.getD 1 0 == 0 || pin || init) && c.keys.getD 2 0 == 0 && c.keys.getD 3 0 == 0

/-- R216: PARAMS of a job's context. -/
def Job.pay (j : Job) : PayParams := parsePay (j.parBytes 0 56)

/-- R222: DATA_LEN. -/
def Job.dataLen (j : Job) : Nat := j.desc.p8 60

/-- R223: PARAM bytes 48 to 59, reserved with KEYMODE 0 and 3 but for the EMV data of R222. -/
def Job.payParamOk (j : Job) : Bool :=
  let x := j.pay
  j.desc.opcode == Op.emvArqcVerify || isValueOp j.desc.opcode ||
    (if x.keyMode = 1 then j.desc.pZero 58 2 else if x.keyMode = 2 then true else j.desc.pZero 48 12)

/-- R215: the keys a payment job uses, with their usage classes. -/
def Job.payKeys (j : Job) : List (Nat × List Nat) :=
  let op := j.desc.opcode
  let k := j.pay.keyMode
  if op = Op.pinTranslate then [(0, if k = 0 then [8] else [4]), (1, [8])]
  else if isPinValueOp op then [(0, if k = 0 then [8] else [4]), (1, [7])]
  else if isPayMacOp op then [(0, if k = 0 then [7] else [4])]
  else if isValueOp op then [(0, [7])]
  else if op = Op.emvArqcVerify then [(0, [4])]
  else if op = Op.dukptInitExport then [(0, [4]), (1, [3])]
  else []

/-- R226: the optional block of an exported initial key, from the initial KSN. -/
def dukptOpts (keyMode : Nat) (ksn : Bytes) : List (Bytes × Bytes) :=
  if keyMode = 1 then [(ascii "KS", hexOf (ksn.take 10))] else [(ascii "IK", hexOf (ksn.take 8))]

/-- R222: the KSN of a descriptor. -/
def Job.ksn (j : Job) : Bytes := if j.pay.keyMode = 1 then sub 0 10 j.desc.param else sub 0 12 j.desc.param

/-- R226: the ALG and LEN of an initial key: two-key TDES, or the BDK's. -/
def initialAlg (keyMode alg len : Nat) : Nat × Nat := if keyMode = 1 then (0x03, 16) else (alg, len)

/-- R66 order 10, R222: the largest output of a payment job, from the ALG and LEN of KEY0 and the ALG of KEY1. -/
def Job.payOut (j : Job) (alg len palg : Nat) : Nat :=
  let op := j.desc.opcode
  let x := j.pay
  if op = Op.pinTranslate then pinBlockLen x.outFmt
  else if op = Op.pinValueGenerate ∨ op = Op.valueGenerate then x.digits
  else if op = Op.payMacGenerate then x.macLen
  else if op = Op.emvArqcVerify then (if x.arpc = 1 then 8 else if x.arpc = 2 then 4 else 0)
  else if op = Op.dukptInitExport then
    let (a, l) := initialAlg x.keyMode alg len
    kbLen palg a l (dukptOpts x.keyMode j.ksn)
  else 0

/-- R215: whether a payment job takes random bits. -/
def Job.payEntropy (j : Job) : Bool :=
  let f := j.pay.outFmt
  (j.desc.opcode == Op.pinTranslate && (f == 1 || f == 3 || f == 4)) || j.desc.opcode == Op.dukptInitExport

end Sys2Proof.Machine
end

