-- ==== Sys2Proof/Machine/CustodyForms.lean ====
section
/-! DEFINITION. The operand forms of the custody family (R244, R245, R249, R250): PARAMS, binding rules, hash-based parameter
sets, lengths. -/

namespace Sys2Proof.Machine

/-- R249: the PARAMS of a 0x4000 context. -/
structure CustParams where
  objMode : Nat
  hbsTiles : Nat
  maxErr : Nat
  policyLen : Nat
  policy : Bytes
  deriving DecidableEq, Repr

/-- R249: PARAMS from their bytes. -/
def parseCust (b : Bytes) : CustParams :=
  { objMode := byteAt 0 b, hbsTiles := byteAt 1 b, maxErr := leAt 4 4 b, policyLen := byteAt 8 b, policy := sub 9 (byteAt 8 b) b }

/-- R252: bytes 0 to 11 of a seal record. -/
def sealHead (h mode : Nat) : Bytes := leBytes 8 h ++ leBytes 1 mode ++ [0x01, 0, 0]

/-- R244: a stateful hash-based key. -/
def isStateful (alg : Nat) : Bool := alg == 0x66 || alg == 0x67

/-- R250: SLH-DSA, LMS and XMSS keys. -/
def isHashSigner (alg : Nat) : Bool := decide (0x60 ≤ alg) && decide (alg ≤ 0x67)

/-- R250: the keys an opcode pairs with: slot, ALGs, usage class. -/
def custNeeds (op : Nat) : List (Nat × (Nat → Bool) × Nat) :=
  if op = Op.objSeal ∨ op = Op.objOpen then [(0, fun _ => true, 3)]
  else if op = Op.manifestSign then [(0, isHashSigner, 5), (1, fun a => a == 0x52, 5), (2, fun a => a == 0x21, 5)]
  else if op = Op.custodySign then [(0, isHashSigner, 5)]
  else if op = Op.timestamp then [(0, fun a => a == 0x21 || a == 0x52, 5)]
  else if op = Op.chainAppend then [(0, fun a => a == 0x68, 5), (1, fun a => a == 0x52, 5)]
  else []

/-- R249, R250: the family rules of a 0x4000 context. -/
def State.custOk (s : State) (c : CtxRec) : Bool :=
  let x := parseCust c.params
  let obj := c.ops.contains Op.objSeal || c.ops.contains Op.objOpen
  let ts := c.ops.contains Op.timestamp
  let key (n : Nat) : Option KeyRec := s.keyOf c.part (c.keys.getD n 0)
  let needs := c.ops.flatMap custNeeds
  let a0 := ((key 0).map (fun r => r.alg)).getD 0
  (if obj then x.objMode == 0x04 || x.objMode == 0x05 else x.objMode == 0) &&
  (if isStateful a0 then decide (1 ≤ x.hbsTiles) && decide (x.hbsTiles ≤ 8) else x.hbsTiles == 0) &&
  zeroAt 2 2 c.params && (!ts || decide (1 ≤ x.maxErr)) &&
  (if ts then decide (1 ≤ x.policyLen) && decide (x.policyLen ≤ 47) else x.policyLen == 0) &&
  zeroAt (9 + x.policyLen) (47 - x.policyLen) c.params &&
  needs.all (fun n => match key n.1 with | some r => n.2.1 r.alg && r.usage == n.2.2 | none => false) &&
  (!c.ops.contains Op.objSeal || (match key 0 with | some r => r.depth == 4 || r.depth == 5 | none => false)) &&
  (List.range 4).all (fun n => c.keys.getD n 0 == 0 || needs.any (fun e => e.1 == n))

/-- R249: PARAMS of a job's context. -/
def Job.cust (j : Job) : CustParams := parseCust (j.parBytes 0 56)

/-- R255: SIGNER. -/
def Job.signer (j : Job) : Nat := j.desc.p8 48

/-- R250: the keys a job of the family uses; `OBJ_OPEN` takes the object key its input names (slot 4). -/
def Job.custKeys (j : Job) : List (Nat × List Nat) :=
  let op := j.desc.opcode
  if op = Op.objSeal then [(0, [3])]
  else if op = Op.objOpen then [(4, [2])]
  else if op = Op.manifestSign then (if j.signer ≤ 2 then [(j.signer, [5])] else [])
  else if op = Op.custodySign ∨ op = Op.timestamp then [(0, [5])]
  else if op = Op.chainAppend then [(0, [5]), (1, [5])]
  else []

/-! ### Hash-based parameter sets (R244, R245; RFC 8554, SP 800-208, FIPS 205) -/

/-- A big-endian 32-bit code at an offset. -/
def code32 (o : Nat) (m : Bytes) : Nat := beNat (sub o 4 m)

/-- The tree height an LMS type names: the M32 types 5 to 9 and the M24 types 10 to 14. -/
def lmsHeight (t : Nat) : Nat := if 5 ≤ t ∧ t ≤ 14 then 5 * ((t - 5) % 5 + 1) else 0
/-- The node bytes of an LMS type. -/
def lmsBytes (t : Nat) : Nat := if 10 ≤ t then 24 else 32
/-- The signature bytes of an LM-OTS type: the N32 types 1 to 4 and the N24 types 5 to 8. -/
def otsLen (t : Nat) : Nat :=
  let p := [265, 133, 67, 34, 200, 101, 51, 26].getD (t - 1) 0
  4 + (if t ≤ 4 then 32 else 24) * (1 + p)
/-- The signature bytes of one LMS level. -/
def lmsSigLen (lms ots : Nat) : Nat := 4 + otsLen ots + 4 + lmsHeight lms * lmsBytes lms

/-- R244: the LMS and LM-OTS types of the levels of ALG 0x66 material. -/
def hssLevels (m : Bytes) : List (Nat × Nat) :=
  (List.range (min 3 (byteAt 0 m))).map (fun k => (code32 (1 + 8 * k) m, code32 (5 + 8 * k) m))

/-- The tree height an XMSS OID names. -/
def xmssHeight (oid : Nat) : Nat :=
  if oid = 1 ∨ oid = 13 then 10 else if oid = 2 ∨ oid = 14 then 16 else if oid = 3 ∨ oid = 15 then 20 else 0

/-- R245: a supported set: an HSS key of 1 to 3 levels, each of a supported LMS type with an LM-OTS type of the same n, heights of at
most 60 in all; a supported XMSS OID. -/
def setOk (alg : Nat) (m : Bytes) : Bool :=
  let level (l : Nat × Nat) : Bool :=
    decide (5 ≤ l.1) && decide (l.1 ≤ 14) && decide (1 ≤ l.2) && decide (l.2 ≤ 8) && decide (10 ≤ l.1) == decide (5 ≤ l.2)
  if alg = 0x66 then
    decide (1 ≤ byteAt 0 m) && decide (byteAt 0 m ≤ 3) && (hssLevels m).all level &&
      decide (sumOf (fun l => lmsHeight l.1) (hssLevels m) ≤ 60)
  else if alg = 0x67 then decide (xmssHeight (code32 0 m) ≠ 0)
  else true

/-- R245: which supported set a generated key takes is not stated and stays open; what is not supported gives way to
LMS_SHA256_M32_H20 with LMOTS_SHA256_N32_W4, or XMSS-SHA2_20_256 (notes/assumptions/74.md). -/
def fitSet (alg : Nat) (m : Bytes) : Bytes :=
  if setOk alg m then m
  else if alg = 0x66 then patch 0 ([1] ++ beBytes 4 8 ++ beBytes 4 3 ++ zeros 16) m
  else patch 0 (beBytes 4 3) m

/-- R256: LIMIT of a stateful key's material. -/
def leafLimit (alg : Nat) (m : Bytes) : Nat :=
  2 ^ (if alg = 0x66 then sumOf (fun l => lmsHeight l.1) (hssLevels m) else xmssHeight (code32 0 m))

/-- The signature length of hash-based material. -/
def hbsSigLen (alg : Nat) (m : Bytes) : Nat :=
  if alg = 0x66 then
    let ls := hssLevels m
    4 + sumOf (fun l => lmsSigLen l.1 l.2) ls + sumOf (fun l => 24 + lmsBytes l.1) (ls.drop 1)
  else if alg = 0x67 then
    let n := if 13 ≤ code32 0 m then 24 else 32
    4 + n + (if n = 24 then 51 else 67) * n + xmssHeight (code32 0 m) * n
  else [7856, 17088, 16224, 35664, 29792, 49856].getD (alg - 0x60) 0

/-- The signature length of a record of the family's signers. -/
def State.signLen (s : State) (p h : Nat) (r : KeyRec) : Nat :=
  if isStateful r.alg then ((s.material p h r).map (hbsSigLen r.alg)).getD 0
  else if isHashSigner r.alg then hbsSigLen r.alg [] else sigLen r.alg r.len

/-- R259: REQ_LEN. -/
def Job.reqLen (j : Job) : Nat := j.desc.pLe 48 2

/-- R66 order 10: the largest output of a job of the family, from its input length. -/
def State.custOut (s : State) (j : Job) (n : Nat) : Nat :=
  let op := j.desc.opcode
  let sl (k : Nat) : Nat := ((s.keyOf j.part (j.key k)).map (fun r => s.signLen j.part (j.key k) r)).getD 0
  if op = Op.objSeal then n + 128
  else if op = Op.objOpen then n - 128
  else if op = Op.manifestBuild then 128
  else if op = Op.manifestSign then (if j.signer ≤ 2 then sl j.signer else 0)
  else if op = Op.custodySign then sl 0
  else if op = Op.timestamp then 6144 + (n - j.reqLen)
  else if op = Op.timeQuery then 32
  else if op = Op.chainAppend then 128 + n + sl 1
  else 0

/-- R250: the random bytes a job of the family takes. -/
def custEntropy (op : Nat) : Nat :=
  if op = Op.objSeal ∨ op = Op.manifestSign ∨ op = Op.custodySign ∨ op = Op.timestamp ∨ op = Op.chainAppend then 64 else 0

/-- R252, R253: a seal record whose fixed fields are good: MODE, FORMAT, reserved bytes. -/
def sealRecordOk (b : Bytes) : Bool :=
  decide (128 ≤ b.length) && (byteAt 8 b == 0x04 || byteAt 8 b == 0x05) && byteAt 9 b == 1 && zeroAt 10 2 b

end Sys2Proof.Machine
end

