-- ==== Sys2Proof/Machine/Operands.lean ====
section
/-! DEFINITION. The operand forms: how a descriptor is read and checked (R51, R66, R67), which opcodes use a context, which
tokens and how much output each opcode needs, and who may post it (R35, R448, R449). -/

namespace Sys2Proof.Machine

/-- R51: a descriptor from its 64 bytes. -/
def parseDesc (b : Bytes) : Desc :=
  { opcode := leAt 0 2 b, flags := b.getD 2 0, rsv3 := b.getD 3 0, ctxWord := BitVec.ofNat 32 (leAt 4 4 b), tag := leAt 8 8 b,
    inAddr := leAt 16 8 b, inRkey := leAt 24 4 b, inLen := leAt 28 4 b, outAddr := leAt 32 8 b, outRkey := leAt 40 4 b,
    outLen := leAt 44 4 b, param := sub 48 16 b }

/-- R51, R85: the opcodes that use a context: the families 0x1000 to 0x6FFF but for TIME_QUERY (R261). -/
def usesCtx (op : Nat) : Bool := decide (0x1000 ≤ op) && decide (op < 0x7000) && op ≠ Op.timeQuery

/-- R70: the lowest-numbered region whose rkey matches and that contains the first byte, else 0xFF. -/
def Qp.regionAt (q : Qp) (addr rkey : Nat) : Nat :=
  ((q.regions.find? (fun r => r.rkey == rkey && decide (r.base ≤ addr) && decide (addr < r.base + r.len))).map
    (fun r => r.num)).getD 0xFF

/-- R67, R68: an extent of the descriptor at a ring index lies in a declared region with a permission; a region being removed admits
only what was fetched before its removal. -/
def Qp.admits (q : Qp) (i : BitVec 32) (perm : Region → Bool) (addr rkey len : Nat) : Bool :=
  q.regions.any (fun r => perm r && r.rkey == rkey && decide (r.base ≤ addr) && decide (addr + len ≤ r.base + r.len) &&
    !q.removing.any (fun e => e.1 == r.num && !fetchedBefore i e.2.1))

/-- R67, R70: check one extent: none when it is good, else the DETAIL of its BUFFER_FAULT. -/
def Qp.extent (q : Qp) (i : BitVec 32) (cause : Nat) (perm : Region → Bool) (addr rkey len : Nat) : Option Nat :=
  if len = 0 then (if addr = 0 ∧ rkey = 0 then none else some (cause + 0xFF00))
  else if 2 ^ 64 < addr + len then some 0xFF03
  else if q.admits i perm addr rkey len then none
  else some (cause + 256 * q.regionAt addr rkey)

/-- R66 order 9: both extents of the descriptor at a ring index. -/
def Qp.extents (q : Qp) (i : BitVec 32) (d : Desc) : Option Nat :=
  (if d.inline then none else q.extent i 0x01 (fun r => r.read) d.inAddr d.inRkey d.inLen).or
    (q.extent i 0x02 (fun r => r.write) d.outAddr d.outRkey d.outLen)

/-! ### Context rules by family (R88 orders 4 and 5) -/

/-- R86, R88 order 4: the usage classes that permit an opcode, over all key slots of its context. -/
def opUsages (op : Nat) : List Nat :=
  if op = Op.symEncrypt then [1]
  else if op = Op.symDecrypt then [2]
  else if op = Op.symReencrypt then [2, 1]
  else if op = Op.macGenerate ∨ op = Op.macVerify then [7]
  else if op = Op.pkSign then [5]
  else if op = Op.pkVerify then [6]
  else if op = Op.pkEncrypt then [1]
  else if op = Op.pkDecrypt then [2]
  else if derives op then [4, 3]
  else if op = Op.pinTranslate then [8, 4]
  else if isPinValueOp op then [8, 4, 7]
  else if isPayMacOp op then [7, 4]
  else if isValueOp op then [7]
  else if op = Op.emvArqcVerify then [4]
  else if op = Op.dukptInitExport then [4, 3]
  else if op = Op.objSeal ∨ op = Op.objOpen then [3]
  else if op = Op.manifestSign ∨ op = Op.custodySign ∨ op = Op.timestamp ∨ op = Op.chainAppend then [5]
  else if op = Op.keyImport ∨ op = Op.keyReplace then [3]
  else []

/-- R88 order 5: the family's rules. The key-store family gives PARAMS no layout, so they are zero, as the entropy family's are (R319). -/
def State.familyOk (s : State) (c : CtxRec) : Bool :=
  match (c.ops.find? (fun o => decide (o < 0x7000))).map (fun o => o / 0x1000) with
  | some 1 => s.symOk c
  | some 2 => s.pkOk c
  | some 3 => s.payOk c
  | some 4 => s.custOk c
  | some 5 => allZero c.params
  | some 6 => allZero c.params && c.keys.all (fun k => k == 0)
  | _ => true

/-! ### Reserved PARAM bytes (R6, R66 order 2) -/

/-- The PARAM bytes each opcode uses: offset and length in the descriptor. The key-store range and `VAULT_ADOPT` judge their own
(R150, R399). -/
def paramUsed (op : Nat) : List (Nat × Nat) :=
  if op = Op.cfgRead then [(48, 6)]
  else if op = Op.cfgWrite then [(48, 12)]
  else if op = Op.ceremonyBegin then [(48, 2)]
  else if [Op.ceremonyJoin, Op.componentAdd, Op.componentCommit, Op.ctxUnbind, Op.ctxQuery].contains op then [(48, 4)]
  else if [Op.actorEnrol, Op.actorRemove, Op.powerModeSet, Op.prtQuery, Op.lcyTransition, Op.lcySvnAdvance, Op.debugChallenge, Op.fwWriteBank,
      Op.cardQuery, Op.cardLock, Op.cardUnlock, Op.cardForceErase, Op.manifestSign, Op.rngGenerate, Op.evqAttach].contains op then [(48, 1)]
  else if [Op.qpDestroy, Op.qpQuery, Op.persistAttach, Op.persistRegionRemove, Op.timestamp, Op.cardShareOpen, Op.keyAgree, Op.kemEncap,
      Op.kemDecap].contains op then [(48, 2)]
  else if op = Op.regionRemove ∨ op = Op.cardWrite then [(48, 3)]
  else if op = Op.symEncrypt ∨ op = Op.symDecrypt ∨ op = Op.symReencrypt then [(48, 4), (56, 8)]
  else if op = Op.hash then [(48, 1), (52, 4)]
  else if op = Op.pinTranslate ∨ isPayMacOp op ∨ op = Op.dukptInitExport then [(48, 12)]
  else if isPinValueOp op then [(48, 13)]
  else if isValueOp op then [(60, 1)]
  else if op = Op.emvArqcVerify then [(48, 9)]
  else if op = Op.manifestBuild then [(48, 8)]
  else if (0x5001 ≤ op ∧ op ≤ 0x5008) ∨ op = Op.vaultAdopt then [(48, 16)]
  else []

/-- R6: bits reserved within the PARAM bytes an opcode uses. -/
def paramBitsOk (d : Desc) : Bool :=
  let op := d.opcode
  if op = Op.rngGenerate ∨ op = Op.lcyTransition then decide (d.p8 48 ≤ 1)
  else if op = Op.ceremonyBegin then decide (d.p8 48 ≤ 1) && (d.p8 48 == 1 || d.p8 49 == 0)
  else if op = Op.ctxUnbind ∨ op = Op.ctxQuery then decide (d.pLe 48 4 < 2 ^ 22)
  else true

/-- R6, R66 order 2: every reserved PARAM byte is zero. -/
def paramOk (d : Desc) : Bool :=
  !definedOps.contains d.opcode ||
    (((List.range 16).map (· + 48)).all (fun o => d.p8 o == 0 || (paramUsed d.opcode).any (fun u => decide (u.1 ≤ o) && decide (o < u.1 + u.2)))
      && paramBitsOk d)

/-! ### Output lengths (R66 order 10, R69) -/

/-- The input length a job will have: its extent's, or the most its chain predecessor can hand it. -/
def State.inputLen (s : State) (j : Job) : Nat :=
  if !j.desc.chainWait then (if j.desc.inline ∨ j.sealing.isNone then j.desc.inLen else j.desc.inLen - 16)
  else match j.chainIn with
    | some out => out.length
    | none => ((s.job? (j.queue, j.idx - 1)).map (fun k => k.desc.outLen)).getD 1024

/-- The output of a management or utility command; none for one of another family. -/
def ctlOut (d : Desc) (n : Nat) : Option Nat :=
  let op := d.opcode
  if op = Op.cfgRead then some (4 * d.pLe 52 2)
  else if op = Op.queueEcho then some (if d.inLen ≤ 65536 then n else 0)
  else alook op [(Op.sessionChallenge, 4884), (Op.ceremonyBegin, 4), (Op.qpCreate, 32), (Op.qpQuery, 64), (Op.ctxBind, 16), (Op.ctxReplace, 16),
    (Op.ctxQuery, 144), (Op.componentBegin, 8), (Op.componentAdd, 4), (Op.componentCommit, 12), (Op.repointOpen, 8), (Op.repointQuery, 64),
    (Op.prtQuery, 13888), (Op.debugChallenge, 4787), (Op.pairQuery, 64), (Op.cardQuery, 160), (Op.rngStatus, 16), (Op.qpSealOffer, 8192),
    (Op.attest, 32768), (Op.evqMark, 8)]

/-- R149: the output of a key-store command. -/
def State.keyOutLen (s : State) (j : Job) : Nat :=
  let op := j.desc.opcode
  let alg := j.desc.p8 48
  let h := j.desc.pLe 48 8
  if op = Op.keyGenerate then 8 + (if (pubAlg alg).isSome then pubLen alg ((genLen alg (j.desc.pLe 58 2)).getD 0) else 0)
  else if op = Op.keyImport then 8
  else if op = Op.keyExport then
    match s.keyOf j.part h, s.keyOf j.part (j.desc.pLe 56 8) with
    | some r, some w => if (kbExport r.usage r.alg).isSome then kbLen w.alg r.alg r.len [] else 0
    | _, _ => 0
  else if op = Op.keyReplace then 4
  else if op = Op.keyQuery then 32
  else if op = Op.keyPublic then ((s.keyOf j.part h).map (fun r =>
    if r.alg = 0x66 ∨ r.alg = 0x67 then ((s.material j.part h r).map (fun m => 8 + (publicOf r.alg r.len m).length)).getD 0
    else if (pubAlg r.alg).isSome then 8 + pubLen r.alg r.len else 0)).getD 0
  else 0

/-- R66 order 10: the largest output a job can produce. -/
def State.outNeed (s : State) (j : Job) : Nat :=
  let op := j.desc.opcode
  let n := s.inputLen j
  let k (i : Nat) : Option KeyRec := s.keyOf j.part (j.key i)
  let a (i : Nat) : Nat := ((k i).map (fun r => r.alg)).getD 0
  let l0 := ((k 0).map (fun r => r.len)).getD 0
  if op = Op.rngGenerate then 0
  else match op / 0x1000 with
    | 1 => j.symOut n (a 0) (a 1)
    | 2 => j.pkOut (a 0) l0 (a 1)
    | 3 => j.payOut (a 0) l0 (a 1)
    | 4 => s.custOut j n
    | 5 => s.keyOutLen j
    | _ => (ctlOut j.desc n).getD 0

/-! ### Tokens (R99) -/

/-- R99, R149: the key slots a job asks for, with the usage classes order 7 of R120 allows: KEY0 to KEY3, and 4 and 5 for the PARAM
handles at bytes 48 and 56. -/
def State.keyNeeds (_ : State) (j : Job) : List (Nat × List Nat) :=
  let op := j.desc.opcode
  match op / 0x1000 with
  | 1 => symKeys op
  | 2 => j.pkKeys
  | 3 => j.payKeys
  | 4 => j.custKeys
  | _ =>
    if op = Op.keyImport then [(if j.desc.pLe 48 8 = 0 then 0 else 4, [3])]
    else if op = Op.keyExport then [(4, []), (5, [3])]
    else if op = Op.keyReplace ∧ j.desc.p8 56 = 1 then [(0, [3])]
    else if op = Op.keyPublic then [(4, [])]
    else []

/-- R99, R197, R215, R237, R250, R319: the random bytes a job asks for, and whether with prediction resistance. -/
def State.entNeed (_ : State) (j : Job) : Nat × Bool :=
  let op := j.desc.opcode
  if op = Op.rngGenerate then (if 1 ≤ j.desc.outLen ∧ j.desc.outLen ≤ 65536 then j.desc.outLen else 0, j.desc.p8 48 == 1)
  else if op / 0x1000 = 2 ∧ op ≠ Op.pkVerify then (64, false)
  else if op / 0x1000 = 3 ∧ j.payEntropy then (64, false)
  else if op / 0x1000 = 4 then (custEntropy op, false)
  else if op = Op.keyGenerate then
    let alg := j.desc.p8 48
    (if alg = 0x68 then 0 else 64, false)
  else if op = Op.keyReplace ∧ j.desc.p8 56 = 0 then (64, false)
  else if op = Op.keyExport ∨ op = Op.qpSealOffer ∨ op = Op.attest then (64, false)
  else (0, false)

/-! ### Who may post a command (R241, R448, R449) -/

/-- R448: the role and partition of a queue's session; 4 for queue 0 of a device without a device administrator. -/
def State.actorOf (s : State) (q : Nat) : Nat × Nat :=
  if q = 0 ∧ !s.mgmt.actors.any (fun a => a.role == 1) then (4, 0)
  else match s.mgmt.sessions.find? (fun x => x.queue == q) with
    | none => (0, 0)
    | some x => match s.mgmt.actors.find? (fun a => a.idx == x.actor) with
      | some a => (a.role, a.part)
      | none => (0, 0)

/-- R448: a session's role lets it post a management command. -/
def roleAllows (role op : Nat) : Bool :=
  role == 4 ||
  (if [Op.sessionChallenge, Op.sessionOpen, Op.sessionClose].contains op then true
   else if [Op.ctxBind, Op.ctxReplace, Op.ctxUnbind, Op.ctxQuery, Op.componentBegin, Op.componentCommit].contains op then role == 1 || role == 2
   else if op = Op.componentAdd ∨ op = Op.ceremonyJoin then role == 3
   else role == 1)

/-- R162, R223, R448: what stops a job once its context is known, beyond R66. -/
def State.gate (_ : State) (j : Job) : Option (Nat × Nat) :=
  let op := j.desc.opcode
  if j.desc.isMgmt then (if roleAllows j.actor.1 op then none else some (Status.attrDenied, 0x30))
  else if op / 0x1000 = 1 ∧ !j.symParamOk then some (Status.descriptorMalformed, 0)
  else if op / 0x1000 = 3 ∧ !j.payParamOk then some (Status.descriptorMalformed, 0)
  else none

/-- R241: a qualifying ceremony is open for a partition's DUAL records. -/
def State.dualHolds (s : State) (p : Nat) : Bool :=
  match s.mgmt.ceremony with
  | some c => c.dual == some p && decide (2 ≤ c.shareCount)
  | none => false

/-! ### What is fetched (R378, R392, R411) -/

/-- R378, R392: tenants are served only with a VALID vault, and not before the recovery pass of a purge. -/
def State.tenantsServed (s : State) : Bool := vaultState s.vault == 0 && !s.guard.recovering && !s.noMemory

/-- R411: a standby fetches only its own queue 0 and its own management queues. -/
def State.fetchRole (s : State) (q : Qp) : Bool := s.pair.role ≠ 2 || q.cfg.queue == 0 || (q.cfg.flags.getLsbD 0 && q.cfg.part == 0)

/-! ### CFG_WRITE (R437, R438) -/

/-- R437, R438: ADDRESS, VALUE and MASK of a CFG_WRITE. -/
def Job.cfgAddr (j : Job) : Nat := j.desc.pLe 48 4
/-- R438: VALUE. -/
def Job.cfgValue (j : Job) : Nat := j.desc.pLe 52 4
/-- R438: MASK. -/
def Job.cfgMask (j : Job) : Nat := j.desc.pLe 56 4

/-- R438: a register's value after the masked bits are written. -/
def Job.merge (j : Job) (old : Nat) : Nat :=
  ((BitVec.ofNat 32 old &&& ~~~(BitVec.ofNat 32 j.cfgMask)) ||| (BitVec.ofNat 32 j.cfgValue &&& BitVec.ofNat 32 j.cfgMask)).toNat

/-- R438: run a CFG_WRITE of a register whose write is a step of its own. -/
def State.cfgRow (s : State) (q i addr : Nat) (f : State → Job → State) : State :=
  s.ctl q i Op.cfgWrite (fun s j => if j.cfgAddr ≠ addr then s else if j.cfgMask = 0 then s.deny j Status.invalidInput else f s j)

/-- R8: the field of an action register that names what the action is for: CHANNEL of SEM_CH_CMD, SOURCE of ENT_CMD, CELL of
VLT_CELL_CMD. -/
def cmdTarget (addr : Nat) : Option (Nat × Nat) :=
  if addr = Reg.semChCmd then some (2, 0) else if addr = Reg.entCmd then some (12, 8) else if addr = Reg.vltCellCmd then some (3, 3) else none

/-- R8: what a write of an action register gives that field. -/
def State.targetOf (s : State) (j : Job) (addr : Nat) : Nat :=
  match cmdTarget addr with | some (hi, lo) => bitsOf hi lo (j.merge (s.reg addr)) | none => 0

/-- R8: the field keeps what is written; ACTION reads zero. DESIGN CHOICE (notes/assumptions/68.md): it keeps it also where the action
itself is then refused. -/
def State.keepTarget (s : State) (j : Job) (addr : Nat) : State :=
  match cmdTarget addr with | some (hi, lo) => s.setReg addr 0 (setBits hi lo (s.targetOf j addr) 0) | none => s

/-- An action register's write: bits [hi:lo], which read zero, take one action code. -/
def State.cfgAction (s : State) (q i addr hi lo act : Nat) (f : State → Job → State) : State :=
  s.cfgRow q i addr (fun s j => if bitsOf hi lo (j.merge 0) ≠ act then s else f s j)

end Sys2Proof.Machine
end

