-- ==== Sys2Proof/Machine/Queues.lean ====
section
/-! DEFINITION. The rows of the host queues (R41 to R60, R67 to R71, R80 to R82): doorbells, transport answers, completions, and
the commands that create, destroy and query queues and regions. -/

namespace Sys2Proof

/-- R76: the bytes of an output as they are written: sealed on a sealed queue. -/
def Cpl.outBytes (c : Cpl) (q : Nat) : Bytes :=
  match c.outSeal with
  | none => c.res.out
  | some (k, seq) =>
    if !c.res.writes then c.res.out else
    let (ct, tag) := Machine.aeadSeal 0x04 k (Machine.sealNonce seq q 0x82) [] c.res.out
    ct ++ tag

/-- R52, R76: OUT_WRITTEN of a completion. -/
def Cpl.outWritten (c : Cpl) : Nat :=
  if c.res.status ≠ 0 then 0 else if c.outSeal.isSome ∧ !c.chained ∧ c.res.writes then c.res.written + 16 else c.res.written

end Sys2Proof

namespace Sys2Proof.Machine

/-- R418: a queue's transport state has changed since the last TRANSPORT frames. -/
def State.touch (s : State) (q : Nat) : State :=
  if s.pair.role = 1 ∧ !s.pair.dirty.contains q then { s with pair := { s.pair with dirty := s.pair.dirty ++ [q] } } else s

/-! ### Doorbells (R54 to R56) -/

/-- R54: the index a doorbell carries: exactly 8 bytes, the upper four zero. -/
def doorbellIndex (data : Bytes) : Option (BitVec 32) :=
  if data.length = 8 ∧ zeroAt 4 4 data then some (BitVec.ofNat 32 (leAt 0 4 data)) else none

/-- R54 to R56: a doorbell is ignored and counted. -/
def State.badDoorbell (s : State) (q : Nat) : State :=
  ((s.modQp q (fun x => { x with dbBad := x.dbBad + 1 })).bump Reg.hqiDbBad).notice Reg.hqiNotice 5

/-- The transport takes one inbound request packet of a queue. -/
def State.inbound (s : State) (q : Nat) : State := s.modQp q (fun x => { x with hostPsn := x.hostPsn + 1 })

/-- R55: a producer index a queue accepts. -/
def Qp.takesProducer (q : Qp) (p : BitVec 32) : Bool :=
  decide ((p - q.sqDoorbell).toNat ≤ ringSize q.cfg.sqLog2) && decide ((p - q.fetchIndex).toNat ≤ ringSize q.cfg.sqLog2)

/-- R56: a consumer index a queue accepts. -/
def Qp.takesConsumer (q : Qp) (c : BitVec 32) : Bool :=
  decide ((c - q.cqDoorbell).toNat ≤ ringSize q.cfg.cqLog2) && decide ((q.cqPosted - c).toNat ≤ ringSize q.cfg.cqLog2)

/-- R41, R46: a WRITE that leaves the queue's own 64 B doorbell block meets no permission of DB_RKEY, and is answered as a remote
access error is (notes/assumptions/11.md). -/
def State.outsideBlock (s : State) (n off len : Nat) (f : State → State) : State :=
  if 64 < off + len then s.send (.nak n 0x62) else f (s.inbound n)

/-- R54, R55, R130: a WRITE into the doorbell block, for its offset 0: one that begins elsewhere is ignored and counted. -/
def State.producerDoorbell (s : State) (n off : Nat) (data : Bytes) : State :=
  match s.qp? n with
  | none => s
  | some q => s.outsideBlock n off data.length (fun s =>
    match doorbellIndex data with
    | none => s.badDoorbell n
    | some p =>
      if off ≠ 0 then s.badDoorbell n
      else if s.keys.persistQ = some n ∨ !q.takesProducer p then s.badDoorbell n
      else ((s.modQp n (fun x => { x with sqDoorbell := p })).queueWatermark n 0).touch n)

/-- R55 PRODUCER_DOORBELL -/
def execProducerDoorbell (q off : Nat) (data : Bytes) (s : State) : Host.Outcome State Fault Refusal :=
  .next (s.producerDoorbell q off data)

/-- R54, R56, R134: a WRITE into the doorbell block, for its offset 8: one that begins elsewhere is ignored and counted. -/
def State.consumerDoorbell (s : State) (n off : Nat) (data : Bytes) : State :=
  match s.qp? n with
  | none => s
  | some q => s.outsideBlock n off data.length (fun s =>
    match doorbellIndex data with
    | none => s.badDoorbell n
    | some c =>
      if off ≠ 8 ∨ !q.takesConsumer c then s.badDoorbell n
      else (((s.modQp n (fun x => { x with cqDoorbell := c })).queueWatermark n 1).touch n).ackNotices n)

/-- R56 CONSUMER_DOORBELL -/
def execConsumerDoorbell (q off : Nat) (data : Bytes) (s : State) : Host.Outcome State Fault Refusal :=
  .next (s.consumerDoorbell q off data)

/-! ### The transport (R41, R42, R71, R418) -/

/-- R41: a NAK leaves for an inbound request of a queue that exists: syndrome 0x62 remote access error, 0x61 invalid request. -/
def State.nakInbound (s : State) (q syndrome : Nat) : State := if (s.qp? q).isNone then s else s.send (.nak q syndrome)

/-- R41 INBOUND_READ_NAK -/
def execInboundReadNak (q _addr _len : Nat) (s : State) : Host.Outcome State Fault Refusal := .next (s.nakInbound q 0x62)

/-- R41 INBOUND_UNSUPPORTED_NAK -/
def execInboundUnsupportedNak (q _op : Nat) (s : State) : Host.Outcome State Fault Refusal := .next (s.nakInbound q 0x61)

/-- R49, R71: the completions queued on a queue that stops are not written: those of committed jobs leave orphan-completion events, and
the output a job has streamed is overwritten with zeros where the rule lets the queue still write (R177). -/
def State.dropCpls (s : State) (q : Qp) (zero : Bool) : State :=
  forEach q.cpls (fun c s =>
    let s := if c.committed then s.orphan c.part q.cfg.queue c.tag c.idx c.res.status else s
    if zero ∧ 0 < c.zeroFill then s.issue q.cfg.queue .write c.outAddr c.outRkey c.zeroFill (zeros c.zeroFill) else s) s

/-- Requests, fetches and completions of a queue that stops are dropped, and the credit of its READs returns. -/
def Qp.halt (q : Qp) (state live : Nat) : Qp :=
  { q with state := state, reqs := [], waitReads := [], fetches := [], held := none, cpls := [], inFlight := live }

/-- The jobs of a queue that have not completed. -/
def State.liveJobs (s : State) (q : Nat) : Nat := countOf (fun j => j.queue == q && j.phase ≠ .done) s.jobs

/-- R71: a queue enters ERROR. -/
def State.enterError (s : State) (n syndrome : Nat) : State :=
  match s.qp? n with
  | none => s
  | some q =>
    if q.state = 4 ∨ q.state = 5 then s
    else
      let live := s.liveJobs n
      let s := s.dropCpls q false
      let s := (((s.modQp n (fun x => x.halt 4 live)).postMany n q.readsOut |>.notice Reg.hqiNotice 3).bump Reg.hqiQpErrors).touch n
      let pay := leBytes 2 n ++ leBytes 1 syndrome
      let s := s.partEvent q.cfg.part 4 0x0104 51 pay
      let s := s.devEvent 4 0x0104 51 pay q.cfg.part
      let s := s.errAll (fun j => j.queue == n) Status.bufferFault 0xFF21
      if s.keys.persistQ = some n then s.failBatch else s

/-- R42, R84: the device's ACK timeout in ns: 4.096 µs × 2^ACK_TIMEOUT. -/
def State.ackTime (s : State) : Nat := 4096 * 2 ^ s.fld Reg.hqiTransport 4 0

/-- R42, R84: the RNR timer in ns. PRESUMED (notes/assumptions/63.md): the RoCEv2 encoding is InfiniBand's, in units of 10 µs. -/
def rnrTime (v : Nat) : Nat :=
  10 ^ 4 * [65536, 1, 2, 3, 4, 6, 8, 12, 16, 24, 32, 48, 64, 96, 128, 192, 256, 384, 512, 768, 1024, 1536, 2048, 3072, 4096, 6144,
    8192, 12288, 16384, 24576, 32768, 49152].getD (v % 32) 0

/-- R42, R71: ACK_TIMEOUT passes without an answer to a queue's oldest request: it is retried, or RETRY_CNT is exhausted. -/
def State.ackTimeout (s : State) (n : Nat) : State :=
  match (s.qp? n).bind (fun q => q.reqs.head?) with
  | none => s
  | some r =>
    let s := s.advanceTo (max s.clock.mono (r.at_ + s.ackTime))
    if s.fld Reg.hqiTransport 7 5 ≤ r.retries then s.enterError n 0xFF
    else s.modQp n (fun q => { q with reqs := modWhere (fun x => x.psn == r.psn) (fun x => { x with retries := x.retries + 1, at_ := s.clock.mono }) q.reqs })

/-- R42 ACK_TIMEOUT -/
def execAckTimeout (q : Nat) (s : State) : Host.Outcome State Fault Refusal := .next (s.ackTimeout q)

/-- PSN order modulo 2^24. -/
def psnLe (a b : BitVec 24) : Bool := decide ((b - a).toNat < 2 ^ 23)

/-- R418, R465: what the acknowledgement of one request does: a completion WRITE raises CQ_CONFIRMED, a SEND's records are read. -/
def State.acked (s : State) (n : Nat) (r : Req) : State :=
  if r.kind = .completion then s.modQp n (fun q => { q with cqConfirmed := BitVec.ofNat 32 r.cseq })
  else if r.kind = .send ∧ r.rkey = 0 then
    match s.log.rings.find? (fun x => x.queue == some n) with
    | none => s
    | some x => (s.modRing x.num (fun y => { y with reader := max y.reader (r.cseq + 1) })).ringLevel x.num
  else s

/-- R41, R418: the host acknowledges every request of a queue up to a PSN; READs end with their responses. -/
def State.ackUpTo (s : State) (n : Nat) (p : BitVec 24) : State :=
  match s.qp? n with
  | none => s
  | some q =>
    let got := q.reqs.filter (fun r => psnLe r.psn p && !r.kind.isRead)
    let s := s.modQp n (fun q => { q with reqs := q.reqs.filter (fun r => !(psnLe r.psn p && !r.kind.isRead)) })
    (forEach got (fun r s => s.acked n r) s).touch n

/-- R418 WRITE_ACK_RX -/
def execWriteAckRx (q psn : Nat) (s : State) : Host.Outcome State Fault Refusal := .next (s.ackUpTo q (BitVec.ofNat 24 psn))

/-- R71: a NAK of PSN sequence error acknowledges what precedes the PSN it names; the rest is sent again. -/
def State.psnNak (s : State) (n psn : Nat) : State := s.ackUpTo n (BitVec.ofNat 24 psn - 1)

/-- R71 PSN_SEQUENCE_NAK_RX -/
def execPsnSequenceNakRx (q psn : Nat) (s : State) : Host.Outcome State Fault Refusal := .next (s.psnNak q psn)

/-- R42, R71: a SEND meets receiver not ready: it waits for the RNR timer, or RNR_RETRY is exhausted. -/
def State.rnrNak (s : State) (n : Nat) : State :=
  match (s.qp? n).bind (fun q => q.reqs.find? (fun r => r.kind == .send)) with
  | none => s
  | some r =>
    let lim := s.fld Reg.hqiTransport 10 8
    if lim ≠ 7 ∧ lim ≤ r.rnrTries then s.enterError n 0xFF
    else s.modQp n (fun q => { q with reqs := modWhere (fun x => x.psn == r.psn)
                                         (fun x => { x with rnrTries := x.rnrTries + 1, rnrWait := true, at_ := s.clock.mono }) q.reqs })

/-- R42 RNR_NAK_RX -/
def execRnrNakRx (q : Nat) (s : State) : Host.Outcome State Fault Refusal := .next (s.rnrNak q)

/-- R42: RNR_TIMER of a queue's waiting SEND expires, and it is sent again. -/
def State.rnrExpiry (s : State) (n : Nat) : State :=
  match (s.qp? n).bind (fun q => q.reqs.find? (fun r => r.rnrWait)) with
  | none => s
  | some r =>
    let s := s.advanceTo (max s.clock.mono (r.at_ + rnrTime (s.fld Reg.hqiTransport 15 11)))
    s.modQp n (fun q => { q with reqs := q.reqs.map (fun r => if r.rnrWait then { r with rnrWait := false, at_ := s.clock.mono } else r) })

/-- R42 RNR_RETRY_EXPIRY -/
def execRnrRetryExpiry (q : Nat) (s : State) : Host.Outcome State Fault Refusal := .next (s.rnrExpiry q)

/-- R71 REMOTE_ERROR_NAK_RX -/
def execRemoteErrorNakRx (q syndrome : Nat) (s : State) : Host.Outcome State Fault Refusal := .next (s.enterError q syndrome)

/-! ### Completions (R52, R57 to R60, R76, R82) -/

/-- R52: the 32 bytes of a completion. -/
def cplBytes (c : Cpl) (written phase : Nat) (notice : Bool) : Bytes :=
  leBytes 8 c.tag ++ leBytes 2 c.res.status ++ leBytes 1 (phase + 2 * b2n notice) ++ leBytes 1 c.tile ++ leBytes 4 written ++
    leBytes 8 c.res.detail ++ leBytes 8 c.doneTime

/-- R173: consecutive WRITEs of at most 64 KiB each. -/
def State.writeRuns (s : State) (q addr rkey : Nat) : List Bytes → State
  | [] => s
  | b :: bs => (s.issue q .write addr rkey b.length b).writeRuns q (addr + b.length) rkey bs

/-- R59, R76, R102, R173, R176: the WRITEs a job's output takes before its completion: what it has not written as it streamed. -/
def State.writeOutput (s : State) (n : Nat) (c : Cpl) : State :=
  let s := if c.res.status ≠ 0 ∧ 0 < c.zeroFill then s.issue n .write c.outAddr c.outRkey c.zeroFill (zeros c.zeroFill) else s
  let b := (c.outBytes n).drop c.zeroFill
  if c.chained ∨ c.res.status ≠ 0 ∨ b = [] then s
  else s.writeRuns n (c.outAddr + c.res.outOff + c.zeroFill) c.outRkey (blocks 65536 b)

/-- R60, R82: the completion has carried the notices latched when it was formed, which clear. A cleared watermark re-arms once its
level lies below the crossing: DESIGN CHOICE (notes/assumptions/64.md), a level seen below it while the latch stood does not
count, only one at the clearing or later. -/
def State.deliverNotices (s : State) (n : Nat) (carried : BitVec 3) : State :=
  let s := s.modQp n (fun q =>
    let q := if carried.getLsbD 2 then { q with refusedSinceArm := 0, armed := q.armed ||| 4 } else q
    { q with notices := q.notices &&& ~~~carried })
  (s.queueWatermark n 0).queueWatermark n 1

/-- R73, R78: with the completion of QP_SEAL_ESTABLISH the queue is sealed under its new keys. -/
def Qp.establish (q : Qp) : Qp := { q with state := 3, session := q.nextSession, nextSession := none, sealBusy := false }

/-- R79, R415: session keys come into force on an active device: they are mirrored in a batch of their own. -/
def State.mirrorKeys (s : State) (n idx : Nat) : State :=
  match (s.qp? n).bind (fun q => q.session.map (fun k => (k, q.cqPosted))) with
  | some (k, posted) =>
    if s.pair.role = 1 then
      s.enqueue { changes := [.sealKeys n k.toDevice k.toHost ((idx + 1) % 2 ^ 32) posted.toNat], objs := [], job := none, res := {} }
    else s
  | none => s

/-- R59: the next completion of a queue that may be written: the oldest, but for those a freeze withholds (R104). -/
def Qp.nextCpl (q : Qp) (hold : Bool) : Option Cpl := q.cpls.find? (fun c => !hold || c.freezeOk)

/-- R104, R393: completions are withheld: a freeze is in force, or the completion of the `TAMPER_CLEAR` that ended it is still to
be written. -/
def State.withholds (s : State) : Bool := s.guard.freeze || s.qps.any (fun q => q.cpls.any (fun c => c.release))

/-- R355: with RESET_NOW, the cold start begins 10 ms after the completion is written. -/
def State.resetTimer (s : State) (id : JobId) : State :=
  if s.power.resetBy = some id then { s with power := { s.power with resetBy := none, resetAt := some (s.clock.mono + 10 ^ 7) } } else s

/-- R57, R59, R72, R82: COMPLETION_WRITE. -/
def State.completionWrite (s : State) (n : Nat) : State :=
  match s.qp? n with
  | none => s
  | some q =>
    if q.state = 4 ∨ q.state = 5 then s
    else match q.nextCpl s.withholds with
      | none => s
      | some c =>
        let s := s.writeOutput n c
        let note := q.notices ≠ 0
        let s := s.writeRing n .completion false (fun ph => cplBytes c c.outWritten ph note)
        let s := s.modQp n (fun x =>
          let x := { x with cpls := x.cpls.erase c, inFlight := x.inFlight - 1 }
          if c.establish then x.establish else x)
        let s := if c.establish then s.mirrorKeys n c.idx else s
        let hit (e : JEntry) : Bool := e.queue == n && e.idx == c.idx && e.posted.isNone
        let s : State := { s with pair := { s.pair with journal := modWhere hit (fun e => { e with posted := some q.cqPosted.toNat }) s.pair.journal } }
        let s := s.resetTimer (n, BitVec.ofNat 32 c.idx)
        (if note then s.deliverNotices n q.notices else s).touch n

/-- R59 COMPLETION_WRITE -/
def execCompletionWrite (q : Nat) (s : State) : Host.Outcome State Fault Refusal := .next (s.completionWrite q)

/-! ### QP_CREATE (R46, R47) -/

/-- R46: a queue-pair record from its 128 bytes. -/
def parseQp (b : Bytes) : QpRec :=
  { queue := leAt 0 2 b, part := byteAt 2 b, iface := byteAt 3 b, flags := b.getD 4 0, pmtu := byteAt 5 b, rdDepth := byteAt 6 b,
    sqLog2 := byteAt 7 b, cqLog2 := byteAt 8 b, pcp := byteAt 9 b, vlan := leAt 10 2 b, hostQpn := leAt 12 4 b,
    hostPsn := leAt 16 4 b, hostAddr := sub 24 16 b, sqAddr := leAt 40 8 b, sqRkey := leAt 48 4 b, cqRkey := leAt 52 4 b,
    cqAddr := leAt 56 8 b, sqWm := byteAt 64 b, cqWm := byteAt 65 b, refuseWm := leAt 66 2 b, hostKey := leAt 72 8 b }

/-- R46: an address is in IPv4-mapped form. -/
def v4Mapped (a : Bytes) : Bool := a.take 12 == zeros 10 ++ [0xFF, 0xFF]

/-- R47 order 1. -/
def State.qpRecOk (s : State) (r : QpRec) (b : Bytes) : Bool :=
  decide (1 ≤ r.queue) && decide (r.queue ≤ 4095) && decide (r.iface < 8) && decide (r.flags.toNat < 16) &&
  decide (3 ≤ r.pmtu) && decide (r.pmtu ≤ 5) && decide (1 ≤ r.rdDepth) && decide (r.rdDepth ≤ s.fld Reg.hqiTransport 22 16) &&
  decide (6 ≤ r.sqLog2) && decide (r.sqLog2 ≤ 16) && decide (6 ≤ r.cqLog2) && decide (r.cqLog2 ≤ 16) && decide (r.pcp < 8) &&
  decide (r.vlan < 4096) && decide (r.hostQpn < 2 ^ 24) && decide (r.hostPsn < 2 ^ 24) && decide (r.sqWm ≤ 100) &&
  decide (r.cqWm ≤ 100) && zeroAt 20 4 b && zeroAt 68 4 b && zeroAt 80 48 b && (v4Mapped r.hostAddr != r.flags.getLsbD 2) &&
  (r.flags.getLsbD 1 || r.hostKey == 0)

/-- R47 order 2. -/
def State.qpRecAllowed (s : State) (r : QpRec) : Bool :=
  (match s.part? r.part with | some p => decide (p.qpFirst ≤ r.queue) && decide (r.queue ≤ p.qpLast) | none => false) &&
  (!r.flags.getLsbD 0 || r.part == 0) && (r.part == 0 || r.flags.getLsbD 1 || s.fld Reg.hqiCtrl 1 1 == 0)

/-- Changes on their way to a commit point. -/
def State.changesPending (s : State) (p : Change → Bool) : Bool :=
  s.commit.waiting.any (fun e => e.changes.any p) || s.commit.batches.any (fun b => b.entries.any (fun e => e.changes.any p))

/-- R47: a QP_CREATE of a queue number is on its way to a commit point. -/
def State.creating (s : State) (n : Nat) : Bool :=
  s.changesPending (fun c => match c with | .qpAdd x _ _ => x.queue == n | _ => false)

/-- R68: a REGION_DECLARE of a queue's region number is on its way to a commit point. -/
def State.declaring (s : State) (n r : Nat) : Bool :=
  s.changesPending (fun c => match c with | .regionAdd m x => m == n && x.num == r | _ => false)

/-- R68: a REGION_REMOVE of a queue's region number is on its way to a commit point. -/
def State.removing (s : State) (n r : Nat) : Bool :=
  s.changesPending (fun c => match c with | .regionDel m x => m == n && x == r | _ => false)

/-- R46: the 32 B result of QP_CREATE. -/
def qpResult (r : QpRec) (psn rkey : Nat) : Bytes :=
  leBytes 2 r.queue ++ zeros 2 ++ leBytes 4 (0x400000 + r.queue) ++ leBytes 4 psn ++ leBytes 4 rkey ++
    leBytes 8 (0x100000000 + 64 * r.queue) ++ leBytes 1 (if r.flags.getLsbD 1 then 2 else 1) ++ zeros 7

/-- R47 orders 4 and 5: the HOST_KEY of a sealed queue's record. -/
def State.hostKeyCheck (s : State) (r : QpRec) : Found :=
  if !r.flags.getLsbD 1 then .status Status.done
  else match s.findKey (hPart r.hostKey) r.hostKey with
    | .rec_ n k =>
      if s.erasePending r.hostKey then .status Status.keyAbsent
      else if k.alg = 0x29 ∧ k.usage = 4 ∧ hPart r.hostKey = r.part then .rec_ n k else .status Status.attrDenied
    | .status st => if st = Status.pageUnavailable then .status st else .status Status.keyAbsent
    | .wait o => .wait o

/-- R46, R47, R415: QP_CREATE. The first device PSN and the rkey are free values (notes/assumptions/3.md). -/
def State.qpCreate (s : State) (j : Job) : State :=
  let b := j.input
  let r := parseQp b
  if b.length ≠ 128 ∨ !s.qpRecOk r b then s.deny j Status.invalidInput
  else if !s.qpRecAllowed r then s.deny j Status.attrDenied
  else if (s.qp? r.queue).isSome ∨ s.creating r.queue then
    s.deny j Status.invalidInput
  else
    let go (s : State) : State :=
      let psn := Config.freeNat s.free % 2 ^ 24
      let rkey := Config.freeNat (s.free + 1) % 2 ^ 32
      ({ s with free := s.free + 2 } : State).bringCtl j [.qpAdd r psn rkey] [] (okOut (qpResult r psn rkey))
    match s.hostKeyCheck r with
    | .wait _ => s
    | .rec_ _ _ => go s
    | .status st => if st = Status.done then go s else s.deny j st

/-- R46 QP_CREATE -/
def execQpCreate (q i : Nat) (s : State) : Host.Outcome State Fault Refusal := .next (s.ctl q i Op.qpCreate State.qpCreate)

/-! ### QP_DESTROY and QP_QUERY (R49, R50) -/

/-- R49 steps 1 and 2: QP_DESTROY begins. -/
def State.qpDestroy (s : State) (j : Job) : State :=
  let n := j.desc.pLe 48 2
  match s.qp? n with
  | none => s.deny j Status.invalidInput
  | some q =>
    if n = j.queue ∨ q.state = 5 then s.deny j Status.invalidInput
    else
      let live := s.liveJobs n
      let s := (s.modQp n (fun x => { x.halt 5 live with destroyBy := some j.id })).postMany n q.readsOut
      let s := if q.state = 4 then s else s.dropCpls q true
      let s := (s.errAll (fun k => k.queue == n) Status.bufferFault 0xFF20).touch n
      let s := if s.keys.persistQ = some n then ({ s with keys := { s.keys with persistQ := none } } : State).failBatch else s
      s.block j

/-- R49 QP_DESTROY -/
def execQpDestroy (q i : Nat) (s : State) : Host.Outcome State Fault Refusal := .next (s.ctl q i Op.qpDestroy State.qpDestroy)

/-- R49 steps 4 and 5: no job of a draining queue remains: it becomes ABSENT, and QP_DESTROY completes, at the batch's commit
point (R415). -/
def State.qpDestroyDrained (s : State) (n : Nat) : State :=
  match s.qp? n with
  | none => s
  | some q => match q.destroyBy.bind s.job? with
    | none => s
    | some j =>
      if q.state ≠ 5 ∨ s.liveJobs n ≠ 0 ∨ j.phase ≠ .blocked then s
      else
        let s := { s with jobs := s.jobs.filter (fun k => k.queue ≠ n) }
        let s := s.sessionEnds n
        let s := { s with mgmt := { s.mgmt with challenges := s.mgmt.challenges.filter (fun x => x.1 ≠ n) } }
        let s := { s with log := { s.log with rings := modWhere (fun r => r.queue == some n) (fun r => { r with queue := none }) s.log.rings } }
        s.bringCtl j [.qpGone n] []

/-- R49 QP_DESTROY_DRAINED -/
def execQpDestroyDrained (q : Nat) (s : State) : Host.Outcome State Fault Refusal := .next (s.qpDestroyDrained q)

/-- R50: the 64 B record of a queue; an ABSENT queue shows its number only. -/
def State.qpRecord (s : State) (n : Nat) : Bytes :=
  match s.qp? n with
  | none => leBytes 2 n ++ zeros 62
  | some q =>
    leBytes 2 n ++ leBytes 1 q.state ++ leBytes 1 q.cfg.part ++ wordBytes q.sqDoorbell ++ wordBytes q.fetchIndex ++
      wordBytes q.cqDoorbell ++ wordBytes q.cqPosted ++ leBytes 4 q.inFlight ++ wordBytes q.refusals ++ wordBytes q.cqStalls ++
      leBytes 4 (max q.sqBacklogMax q.backlog) ++ leBytes 4 (max q.cqLevelMax q.cqLevel) ++ wordBytes q.sealFails ++
      wordBytes q.dbBad ++ leBytes 1 q.notices.toNat ++ zeros 7 ++ leBytes 8 ((q.session.map (fun k => k.descSeq)).getD 0)

/-- R50: QP_QUERY. -/
def State.qpQuery (s : State) (j : Job) : State :=
  let n := j.desc.pLe 48 2
  if 4095 < n then s.deny j Status.invalidInput
  else (s.modQp n (fun q => { q with sqBacklogMax := q.backlog, cqLevelMax := q.cqLevel })).done j (okOut (s.qpRecord n))

/-- R50 QP_QUERY -/
def execQpQuery (q i : Nat) (s : State) : Host.Outcome State Fault Refusal := .next (s.ctl q i Op.qpQuery State.qpQuery)

/-! ### Regions (R67, R68) -/

/-- R68: REGION_DECLARE. DESIGN CHOICE (notes/assumptions/65.md): the spec names no status for a BASE plus LENGTH beyond 2^64 or for a
queue that is ABSENT; both are INVALID_INPUT. -/
def State.regionDeclare (s : State) (j : Job) : State :=
  let b := j.input
  let n := leAt 0 2 b
  let acc := byteAt 3 b
  let r : Region := { num := byteAt 2 b, read := bitOf 0 acc, write := bitOf 1 acc, rkey := leAt 4 4 b, base := leAt 8 8 b, len := leAt 16 8 b }
  let bad := b.length ≠ 32 ∨ 16 ≤ r.num ∨ 4 ≤ acc ∨ r.len = 0 ∨ 2 ^ 48 < r.len ∨ 2 ^ 64 < r.base + r.len ∨ !zeroAt 24 8 b
  match s.qp? n with
  | none => s.deny j Status.invalidInput
  | some q =>
    if bad ∨ q.regions.any (fun x => x.num == r.num) ∨ s.declaring n r.num then
      s.deny j Status.invalidInput
    else s.bringCtl j [.regionAdd n r] []

/-- R68 REGION_DECLARE -/
def execRegionDeclare (q i : Nat) (s : State) : Host.Outcome State Fault Refusal :=
  .next (s.ctl q i Op.regionDeclare State.regionDeclare)

/-- R68: REGION_REMOVE. Its completion waits for the jobs that use the region. DESIGN CHOICE (notes/assumptions/65.md): a region that is
not declared, or a queue that is ABSENT, is INVALID_INPUT; the spec names no status. -/
def State.regionRemove (s : State) (j : Job) : State :=
  let n := j.desc.pLe 48 2
  let r := j.desc.p8 50
  match (s.qp? n).bind (fun q => q.regions.find? (fun x => x.num == r)) with
  | none => s.deny j Status.invalidInput
  | some _ =>
    if s.removing n r then s.deny j Status.invalidInput
    else s.bringCtl j [.regionDel n r] []

/-- R68 REGION_REMOVE -/
def execRegionRemove (q i : Nat) (s : State) : Host.Outcome State Fault Refusal :=
  .next (s.ctl q i Op.regionRemove State.regionRemove)

/-! ### QUEUE_ECHO (R80) -/

/-- R80: QUEUE_ECHO copies its input. -/
def State.queueEcho (s : State) (j : Job) : State :=
  let big := if j.desc.chainWait then decide (65536 < j.input.length) else decide (65536 < j.desc.inLen)
  s.answer j (if big then fail Status.invalidInput else { okOut j.input with writes := j.input ≠ [] || 0 < j.desc.inLen })

/-- R80 QUEUE_ECHO -/
def execQueueEcho (t : Nat) (s : State) : Host.Outcome State Fault Refusal := .next (s.onTile t Op.queueEcho State.queueEcho)

end Sys2Proof.Machine
end

