-- ==== Sys2Proof/Machine/Fetch.lean ====
section
/-! DEFINITION. Fetching, descriptor checks, matching-store entries and operand tokens (R61 to R66, R72 to R78, R91, R95 to
R104). -/

namespace Sys2Proof.Machine

/-! ### FETCH_PASS (R58, R61 to R65) -/

/-- R45, R61, R96, R130, R25, R31, R35, R411, R427, R432: a queue whose descriptors may be fetched now, credit and space apart. -/
def State.mayFetch (s : State) (q : Qp) : Bool :=
  (q.state == 1 || q.state == 2 || q.state == 3) && s.coresReleased && !s.guard.stopped.contains 51 && s.power.serviceBegun && s.keys.persistQ ≠ some q.cfg.queue &&
  q.newCourse.isNone && q.resumed && !q.sealBusy && s.fetchRole q &&
  (!q.cfg.flags.getLsbD 0 || !s.restarting) &&
  (q.cfg.part == 0 || (s.fld Reg.hqiCtrl 0 0 == 1 && s.power.mode == .serving && s.power.standbyReq.isNone && s.pair.switching.isNone && s.tenantsServed))

/-- R64, R82: a queue is refused for lack of credit. -/
def State.refuse (s : State) (n : Nat) : State :=
  let s := s.modQp n (fun q => { q with refusals := q.refusals + 1, refusedSinceArm := if q.armed.getLsbD 2 then q.refusedSinceArm + 1 else q.refusedSinceArm })
  (s.bump Reg.hqiRefusals).queueWatermark n 2

/-- R58: entries the completion ring can still take. -/
def Qp.space (q : Qp) : Nat := ringSize q.cfg.cqLog2 - (q.cqLevel + q.inFlight)

/-- R62: the size of a fetch READ. In STANDBY no credit is taken (R35). -/
def State.fetchCount (s : State) (q : Qp) (credit : Nat) : Nat :=
  let n := ringSize q.cfg.sqLog2
  let c := min (min q.backlog q.space) (min (s.fld Reg.hqiFetch 6 0) (n - q.fetchIndex.toNat % n))
  if s.power.mode = .standby then c else min c credit

/-- R53, R61: issue the fetch READ of a queue. -/
def State.fetchRead (s : State) (q : Qp) (k : Nat) : State :=
  let n := q.cfg.queue
  let addr := q.cfg.sqAddr + q.sqStride * (q.fetchIndex.toNat % ringSize q.cfg.sqLog2)
  let s := s.issue n .readDesc addr q.cfg.sqRkey (q.sqStride * k) []
  let s := s.modQp n (fun x => { x with fetches := x.fetches ++ [{ first := x.fetchIndex, count := k }],
                                        fetchIndex := x.fetchIndex + BitVec.ofNat 32 k, inFlight := x.inFlight + k })
  (s.queueWatermark n 0).touch n

/-- R61, R64, R96: one queue's turn. An entry held back over a change of course takes its credit in the new course first. -/
def State.fetchTurn (s : State) (q : Qp) : State :=
  let credit := s.creditLeft q.cfg.part q.homeCourse
  if q.heldIn.isSome then
    (if credit = 0 ∧ s.power.mode ≠ .standby then s.refuse q.cfg.queue else s.modQp q.cfg.queue (fun x => { x with heldIn := none }))
  else if q.cfg.rdDepth ≤ q.readsOut ∨ 32768 ≤ s.readsOut then s
  else if credit = 0 ∧ s.power.mode ≠ .standby then s.refuse q.cfg.queue
  else if q.space = 0 then s.modQp q.cfg.queue (fun x => { x with cqStalls := x.cqStalls + 1 })
  else s.fetchRead q (s.fetchCount q credit)

/-- R65: the queue of a partition whose turn it is, among those with backlog: the next number after the one served last. -/
def State.nextTurn (s : State) (p : Nat) : Option Qp :=
  let l := s.qps.filter (fun q => q.cfg.part == p && decide (0 < q.backlog) && s.mayFetch q)
  match alook p s.tabs.turns with
  | none => l.head?
  | some k => (l.find? (fun q => decide (k < q.cfg.queue))).or l.head?

/-- R61, R65: FETCH_PASS for a partition. -/
def State.fetchPass (s : State) (p : Nat) : State :=
  match s.nextTurn p with
  | none => s
  | some q => ({ s with tabs := { s.tabs with turns := aput p q.cfg.queue s.tabs.turns } } : State).fetchTurn q

/-- R61 FETCH_PASS -/
def execFetchPass (p : Nat) (s : State) : Host.Outcome State Fault Refusal := .next (s.fetchPass p)

/-! ### Requesting operand tokens (R66 orders 9 and 10, R99) -/

/-- R76: the input bytes a job takes from its extent: those of the sealed extent without its tag. -/
def Job.inTotal (j : Job) : Nat :=
  if j.desc.inline ∨ j.sealing.isNone then j.desc.inLen else j.desc.inLen - 16

/-- R314: a job asks its partition's instance for random bits. -/
def State.askEntropy (s : State) (j : Job) : State :=
  let (n, pr) := s.entNeed j
  if n = 0 then s
  else
    let r : EntReq := { part := j.part, len := n, pr := pr, job := some j.id }
    { s with ent := { s.ent with waiting := s.ent.waiting ++ [r], waitMax := max s.ent.waitMax (s.ent.waiting.length + 1) } }

/-- R173: a job that can stream reads its input in order, in READs of at most 64 KiB with up to four outstanding; a management command
reads its own whole. -/
def State.askPayload (s : State) (j : Job) : State :=
  let n := j.desc.inLen
  if j.desc.isMgmt then (s.issue j.queue .readPayload j.desc.inAddr j.desc.inRkey n [] 0 j.idx).modJob j.id (fun k => { k with readTo := n })
  else
    let one (k : Nat) (s : State) : State :=
      if n ≤ 65536 * k then s
      else s.issue j.queue .readPayload (j.desc.inAddr + 65536 * k) j.desc.inRkey (min 65536 (n - 65536 * k)) [] 0 j.idx
    (one 3 (one 2 (one 1 (one 0 s)))).modJob j.id (fun k => { k with readTo := min n 262144 })

/-- R161, R194, R222: the opcodes without an output, whose OUT_LEN is zero. -/
def noOutputOps : List Nat := [Op.macVerify, Op.pkVerify, Op.pinVerify, Op.payMacVerify, Op.valueVerify]

/-- R66 orders 9 and 10, R102, R222: the checks that need no token but the context's. An OUT_LEN that must be zero and is not gives
INVALID_INPUT: DESIGN CHOICE (notes/assumptions/78.md). -/
def State.operandCheck (s : State) (j : Job) : Option (Nat × Nat) :=
  match s.qp? j.queue with
  | none => some (Status.bufferFault, 0xFF20)
  | some q =>
    let d := if j.chained then { j.desc with outAddr := 0, outRkey := 0, outLen := 0 } else j.desc
    match q.extents j.idx d with
    | some dt => some (Status.bufferFault, dt)
    | none =>
      let need := s.outNeed j
      let need := if j.sealing.isSome ∧ !j.chained ∧ 0 < need then need + 16 else need
      if j.desc.outLen < need then some (Status.outputShort, need)
      else if noOutputOps.contains j.desc.opcode ∧ j.desc.outLen ≠ 0 then some (Status.invalidInput, 0)
      else s.gate j

/-- R99: with its context known, or none needed, an entry asks for its payload, keys and random bits. -/
def State.askOperands (s : State) (id : JobId) : State :=
  match s.job? id with
  | none => s
  | some j =>
    match s.operandCheck j with
    | some (st, dt) => s.errToken id st dt
    | none =>
      let pay := decide (0 < j.desc.inLen) && !j.desc.inline && !j.desc.chainWait
      let ks := (s.keyNeeds j).map (fun k => Tok.key k.1)
      let ent := decide (0 < (s.entNeed j).1)
      let want := (if pay then [Tok.payload] else []) ++ ks ++ (if ent then [Tok.entropy] else [])
      let s := s.modJob id (fun j => { j with want := j.want ++ want })
      let s := if pay then s.askPayload j else s
      s.askEntropy j

/-! ### DESCRIPTOR_ARRIVAL (R66, R72, R77, R98, R102) -/

/-- R72, R75, R77: open one ring entry of a queue: its bytes (none when the tag fails), its sealing, and the queue with its
descriptor sequence advanced. Bytes 64 onwards of what is answered must be zero. -/
def Qp.openEntry (q : Qp) (b : Bytes) : Option Bytes × Option SealRef × Qp :=
  match q.session, q.state == 3 with
  | some k, true =>
    let pt := aeadOpen 0x04 k.toDevice (sealNonce k.descSeq q.cfg.queue 0x01) [] (b.take 64) (sub 64 16 b)
    (pt.map (fun d => d ++ b.drop 80), some { toDevice := k.toDevice, toHost := k.toHost, seq := k.descSeq },
     { q with session := some { k with descSeq := k.descSeq + 1 } })
  | _, _ => (some b, none, q)

/-- R73: the opcodes accepted in SEALING. -/
def sealingOps : List Nat := [Op.queueEcho, Op.qpSealOffer, Op.qpSealEstablish]

/-- R464: the opcodes an event queue accepts. -/
def eventOps : List Nat := [Op.queueEcho, Op.evqAttach, Op.evqMark, Op.evqRewind]

/-- R66 orders 2 to 6 and R102, in order. `pred` is the chain length up to the entry before, none when it cannot be a
predecessor; `chained` says that the next entry waits for this one's output. -/
def State.descCheck (s : State) (q : Qp) (d : Desc) (tail : Bytes) (pred : Option Nat) (chained : Bool) : Option (Nat × Nat) :=
  let mal := some (Status.descriptorMalformed, 0)
  let evq := s.log.rings.any (fun r => r.queue == some q.cfg.queue)
  if d.rsv3 ≠ 0 ∨ d.ctxWord.toNat ≠ d.ctxId ∨ 16 ≤ d.flags.toNat ∨ d.flags.getLsbD 3 ≠ (q.state == 3) ∨ !allZero tail then mal
  else if d.inline ∧ (d.inAddr ≠ 0 ∨ d.inRkey ≠ 0 ∨ 16 < d.inLen) then mal
  else if d.inline ∧ !zeroAt d.inLen (16 - d.inLen) d.param then mal
  else if !d.inline ∧ !paramOk d then mal
  else if !definedOps.contains d.opcode ∨ (!usesCtx d.opcode ∧ d.ctxId ≠ 0) then mal
  else if d.isMgmt ∧ !q.cfg.flags.getLsbD 0 then some (Status.attrDenied, 0)
  else if q.state = 2 ∧ !sealingOps.contains d.opcode then some (Status.attrDenied, 0)
  else if evq ∧ !eventOps.contains d.opcode then some (Status.attrDenied, 0)
  else if d.chainWait ∧ (d.inAddr ≠ 0 ∨ d.inRkey ≠ 0 ∨ d.inLen ≠ 0 ∨ d.inline ∨ pred.isNone ∨
      s.fld Reg.dspCtrl 4 0 < pred.getD 0 + 1) then mal
  else if chained ∧ (d.outAddr ≠ 0 ∨ d.outRkey ≠ 0 ∨ 1024 < d.outLen) then mal
  else none

/-- R35: the commands the control cluster executes in STANDBY. -/
def standbyOps : List Nat :=
  [Op.powerModeSet, Op.cfgRead, Op.cfgWrite, Op.cfgStage, Op.qpQuery, Op.prtQuery, Op.pairQuery, Op.cardQuery, Op.tamperClear,
   Op.sessionChallenge, Op.sessionOpen, Op.sessionClose, Op.ceremonyBegin, Op.ceremonyJoin, Op.ceremonyEnd]

/-- R78: the descriptor sequence of a sealed queue is used up. -/
def sealSpent (d : Desc) (r : Option SealRef) : Bool :=
  (match r with | some x => decide (2 ^ 48 ≤ x.seq) | none => false) && d.opcode ≠ Op.qpSealOffer && d.opcode ≠ Op.qpSealEstablish

/-- R66, R77, R78, R35: what stops a fetched descriptor before any token is asked for. LEASE_EXHAUSTED comes after orders 2 to 6: DESIGN
CHOICE (notes/assumptions/73.md). -/
def State.entryError (s : State) (q : Qp) (e : Held) (d : Desc) (pred : Option Nat) (chained : Bool) : Option (Nat × Nat) :=
  match e.bytes with
  | none => some (Status.sealFail, e.idx.toNat)
  | some b =>
    (s.descCheck q d (b.drop 64) pred chained).or
      (if sealSpent d e.sealing then some (Status.leaseExhausted, 0)
       else if s.power.mode = .standby ∧ !standbyOps.contains d.opcode then some (Status.busy, 0x50) else none)

/-- R77: each failed tag raises SEAL_FAILS and sets SEAL_FAIL in HQI_NOTICE. -/
def State.countSealFail (s : State) (n : Nat) : State :=
  ((s.modQp n (fun x => { x with sealFails := x.sealFails + 1 })).bump Reg.hqiSealFails).notice Reg.hqiNotice 4

/-- R98, R99: create the matching-store entry of a fetched descriptor and ask for its tokens. `chained` says that the entry
after it, created with it, waits for its output; `alone` that no successor was fetched with it. -/
def State.createEntry (s : State) (n : Nat) (e : Held) (chained alone : Bool) : State :=
  match s.qp? n with
  | none => s
  | some q =>
    let d := match e.bytes with | some b => parseDesc b | none => ({} : Desc)
    let pred := if q.lastCreated = some (e.idx - 1) then some q.chainLen else none
    let err := s.entryError q e d pred chained
    let bad := s.entryError q e d pred chained |>.isSome
    let inp := if d.inline then d.param.take d.inLen else []
    let entry := if s.power.mode = .standby then none else some (s.freeEntry q.homeCourse)
    let j : Job :=
      { queue := n, idx := e.idx, part := q.cfg.part, course := q.homeCourse, entry := entry, seq := s.jobSeq,
        desc := if d.inline then { d with param := zeros 16 } else d, input := inp, chained := chained, err := err,
        want := if d.chainWait && !bad then [.chain] else [], sealing := e.sealing, actor := e.actor,
        ceremonyOk := e.ceremonyOk, dualOk := e.dualOk }
    let j := match q.passed with
      | some (i, r) => if d.chainWait ∧ i + 1 = e.idx ∧ !bad then j.fromPredecessor i r else j
      | none => j
    let s := { s with jobs := s.jobs ++ [j], jobSeq := s.jobSeq + 1 }
    let len := if d.chainWait then pred.getD 0 + 1 else 1
    let s := s.modQp n (fun x => { x with lastCreated := if alone then none else some e.idx, chainLen := len, passed := none })
    let s := if e.bytes.isNone then s.countSealFail n else s
    let s := if d.isMgmt then
      { s with mgmt := { s.mgmt with sessions := modWhere (fun x => x.queue == n) (fun x => { x with lastUse := s.clock.mono }) s.mgmt.sessions } }
      else s
    let s := match q.passed with
      | some (i, r) => if d.chainWait ∧ i + 1 = e.idx ∧ !bad then s.countChain r else s
      | none => s
    let s := s.msWatermark q.homeCourse
    if bad then s
    else if j.err.isSome then s
    else if usesCtx d.opcode then s.modJob j.id (fun k => { k with want := .context :: k.want })
    else s.askOperands j.id

/-- Whether an entry, known as a successor, waits for the output of the one before it. -/
def Held.chains (e : Held) : Bool := match e.bytes with | some b => (parseDesc b).chainWait | none => false

/-- R98: create the entries of a list in ring order; `next` is the successor of the last one, none when it is created alone. -/
def State.createAll (s : State) (n : Nat) (next : Option Held) : List Held → State
  | [] => s
  | [e] => s.createEntry n e (match next with | some f => f.chains | none => false) next.isNone
  | e :: f :: rest => (s.createEntry n e f.chains false).createAll n next (f :: rest)

/-- R73: a fetched entry is a QP_SEAL_ESTABLISH. -/
def Held.establishes (e : Held) : Bool := match e.bytes with | some b => (parseDesc b).opcode == Op.qpSealEstablish | none => false

/-- R72, R73: cut a READ's bytes into ring entries and open each, up to a QP_SEAL_ESTABLISH. -/
def openEntries (q : Qp) (stride : Nat) (first : BitVec 32) : Nat → Bytes → List Held → Qp × List Held
  | 0, _, acc => (q, acc)
  | k + 1, b, acc =>
    let (o, r, q) := q.openEntry (fixLen stride b)
    let e : Held := { idx := first, bytes := o, sealing := r }
    if e.establishes then (q, acc ++ [e]) else openEntries q stride (first + 1) k (b.drop stride) (acc ++ [e])

/-- R73: nothing beyond a QP_SEAL_ESTABLISH at a ring index is fetched: what READs have covered beyond it stays in the host's ring, and
is read again once it has completed (notes/assumptions/66.md). -/
def Qp.stopAt (q : Qp) (i : BitVec 32) : Qp :=
  { q with fetches := [], reqs := q.reqs.filter (fun r => r.kind ≠ ReqKind.readDesc),
           waitReads := q.waitReads.filter (fun r => r.kind ≠ ReqKind.readDesc),
           inFlight := q.inFlight - (q.fetchIndex - (i + 1)).toNat, fetchIndex := i + 1, sealBusy := true }

/-- R241, R448, R449: what is found at the fetch of a queue's entries. -/
def State.sampled (s : State) (q : Qp) (e : Held) : Held :=
  { e with actor := s.actorOf q.cfg.queue, ceremonyOk := s.ceremonyHolds q.cfg.queue, dualOk := s.dualHolds q.cfg.part }

/-- R98: whether a fetched entry is created without waiting for its successor: the producer index covered no more, or it is a
QP_SEAL_ESTABLISH, beyond which nothing is fetched (R73). -/
def Held.createNow (e : Held) (q : Qp) : Bool :=
  e.idx + 1 == q.sqDoorbell || e.establishes

/-- R66, R98: the descriptors of the oldest fetch READ of a queue arrive. -/
def State.descriptorArrival (s : State) (n : Nat) (data : Bytes) : State :=
  match s.qp? n with
  | none => s
  | some q => match q.fetches with
    | [] => s
    | f :: rest =>
      let (q', got) := openEntries q q.sqStride f.first f.count data []
      let got := got.map (s.sampled q)
      let s := s.modQp n (fun x => { x with fetches := rest, session := q'.session })
      let s := s.readDone n (fun r => r.kind == ReqKind.readDesc)
      match got.getLast? with
      | none => s
      | some e =>
        let reads := countOf (fun r => r.kind == ReqKind.readDesc) (((s.qp? n).map (fun x => x.reqs)).getD [])
        let s := if e.establishes then ((s.modQp n (fun x => x.stopAt e.idx)).postMany n reads).touch n else s
        let all := q.held.toList ++ got
        let s := s.modQp n (fun x => { x with held := none })
        if e.createNow q then (s.createAll n none all).settle
        else ((s.createAll n (some e) all.dropLast).modQp n (fun x => { x with held := some e })).settle

/-- R66 DESCRIPTOR_ARRIVAL -/
def execDescriptorArrival (q : Nat) (data : Bytes) (s : State) : Host.Outcome State Fault Refusal := .next (s.descriptorArrival q data)

/-! ### The context token (R66 orders 7 and 8, R91, R95) -/

/-- Whether an operand of an entry is still to come. -/
def Job.wants (j : Job) (t : Tok) : Bool := j.want.contains t

/-- R95: the record of a context ID in a course's first level or in the second. A commit drops its ID from both, so what they hold is
in force. -/
def State.cachedCtx (s : State) (course id : Nat) : Option CtxRec :=
  ((((s.course? course).map (fun x => x.ctxCache)).getD []).find? (fun c => c.id == id)).or (s.ctxs.cache2.find? (fun c => c.id == id))

/-- R95, R325: a context token is served: hits and misses are counted, and the record becomes the most recently used of both levels.
DESIGN CHOICE (notes/assumptions/61.md): a miss fills both levels, and each drops its least recently used record. -/
def State.cacheCtx (s : State) (course : Nat) (hit : Bool) (c : CtxRec) : State :=
  let top (n : Nat) (cs : List Nat) (l : List CtxRec) : List CtxRec := s.ctxLevel c.part n cs (c :: l.filter (fun x => x.id ≠ c.id))
  let s := s.bump (if hit then Reg.dspCtxHits else Reg.dspCtxMisses)
  let s := s.modCourse course (fun x => { x with ctxCache := top 8192 [course] x.ctxCache })
  { s with ctxs := { s.ctxs with cache2 := top 16384 (List.range 6) s.ctxs.cache2 } }

/-- R66 order 7: a context is of the queue's partition and admits the queue. -/
def Job.admitted (j : Job) (c : CtxRec) : Bool :=
  c.id == j.desc.ctxId && c.part == j.part && decide (c.qpFirst ≤ j.queue) && decide (j.queue ≤ c.qpLast)

/-- R66 orders 7 and 8, R91: the context token of an entry from a record that a cache or its page gave. -/
def State.takeContext (s : State) (j : Job) (hit : Bool) (c : CtxRec) : State :=
  if !j.admitted c then (s.errToken j.id Status.contextAbsent 0 (some .context)).settle
  else if !c.ops.contains j.desc.opcode then (s.errToken j.id Status.attrDenied 0 (some .context)).settle
  else
    let s := s.cacheCtx j.course hit c
    let s := if hit then s else s.useObj (ctxPageObj c.id)
    let s := s.modJob j.id (fun k => { k with ctx := some c, want := k.want.filter (fun t => t ≠ .context) })
    (if j.err.isSome then s else s.askOperands j.id).settle

/-- R66, R91, R95: the context token of an entry: from a cache, else from its page, for which it waits while it must load. -/
def State.contextToken (s : State) (id : JobId) : State :=
  match s.job? id with
  | none => s
  | some j =>
    if !j.wants .context then s
    else
      let fail (st : Nat) : State := (s.errToken id st 0 (some .context)).settle
      if j.desc.ctxId = 0 then fail Status.contextAbsent
      else match s.cachedCtx j.course j.desc.ctxId with
        | some c => s.takeContext j true c
        | none => match s.stand (ctxPageObj j.desc.ctxId) with
          | .load _ => s
          | .unavailable => fail Status.pageUnavailable
          | _ => match s.ctxs.bound.find? (fun c => c.id == j.desc.ctxId) with
            | none => fail Status.contextAbsent
            | some c => s.takeContext j false c

/-- R91 CONTEXT_TOKEN_ARRIVAL -/
def execContextTokenArrival (q i : Nat) (s : State) : Host.Outcome State Fault Refusal :=
  .next (s.contextToken (q, BitVec.ofNat 32 i))

/-! ### Payload, key, entropy, chain and error tokens (R99 to R104) -/

/-- R77: a payload's tag fails. -/
def State.payloadSealFail (s : State) (id : JobId) : State :=
  let s := s.countSealFail id.1
  (s.errToken id Status.sealFail 0 (some .payload)).settle

/-- R87, R149: the handle of a key slot: KEY0 to KEY3 of the context, a PARAM handle at bytes 48 or 56, or the
object key an `OBJ_OPEN`'s seal record names (R253). -/
def Job.slotHandle (j : Job) (slot : Nat) : Nat :=
  if slot < 4 then j.key slot
  else if j.desc.opcode = Op.objOpen then leAt 0 8 j.input
  else j.desc.pLe (if slot = 4 then 48 else 56) 8

/-- R106, R144: a tile holds a key's version in force in its cache. -/
def State.holdsKey (s : State) (t h : Nat) : Bool :=
  ((s.tile? t).map (fun x => x.cache.any (fun e => e.handle == h && !e.stale && e.ver == s.keyVer h))).getD false

/-- R106, R257: the one tile a job's tokens name: that of its references, or of its stateful key's lease. -/
def Job.named (j : Job) : Option Nat := (j.keys.findSome? (fun k => k.tile)).or (j.keys.findSome? (fun k => k.lease))

/-- R106, R144: the tile a key reference of a job can name: the one its tokens name already, else any that holds the key. -/
def State.refTile (s : State) (j : Job) (h : Nat) : Option Nat :=
  match j.named with
  | some t => if s.holdsKey t h then some t else none
  | none => s.cachedOn j.course j.part h

/-- R256: LIMIT of a stateful key. -/
def State.leafLimitOf (s : State) (h : Nat) : Nat := ((s.vault.stateful.find? (fun e => e.handle == h)).map (fun e => e.limit)).getD 0

/-- R257: a tile holds a lease of a stateful key, or has asked for one. -/
def Tile.mayLeaf (t : Tile) (h : Nat) : Bool := t.leaves.any (fun l => l.owner == h) || t.wantLeaf.contains h

/-- R258: HWM equals LIMIT and no leased leaf remains. -/
def State.leavesSpent (s : State) (h : Nat) : Bool :=
  decide (s.leafLimitOf h ≤ ((s.vault.stateful.find? (fun e => e.handle == h)).map (fun e => e.hwm)).getD 0) && !s.tiles.any (fun t => t.mayLeaf h)

/-- R106, R257: the tiles of a job's course that could sign with a stateful key. -/
def State.leafTiles (s : State) (j : Job) : List Tile :=
  s.tiles.filter (fun t => courseOf t.num == j.course && (s.tileRec t.num).holds j.part && t.state == 0)

/-- R106, R257: the tile a token of a stateful key names: one of the course that holds a lease of it, else one that may take one. -/
def State.leafTile (s : State) (j : Job) (h : Nat) : Option Nat :=
  match (s.leafTiles j).find? (fun t => t.mayLeaf h) with
  | some t => some t.num
  | none => if countOf (fun t => t.mayLeaf h) s.tiles < j.cust.hbsTiles then (s.leafTiles j).head?.map (fun t => t.num) else none

/-- R257: a token of a stateful key waits while tiles of other courses hold every lease HBS_TILES allows. -/
def State.leafWaits (s : State) (j : Job) (h : Nat) : Bool :=
  s.pair.role ≠ 3 && !s.leavesSpent h && !(s.leafTiles j).isEmpty && (s.leafTile j h).isNone

/-- R253: what stops an `OBJ_OPEN` before its object key is looked up. -/
def Job.objOpenBad (j : Job) : Bool :=
  j.desc.opcode == Op.objOpen && (!sealRecordOk j.input || j.inTotal ≠ 128 + leAt 40 8 j.input)

/-- R106: with a stateful key's tile named, references to any other tile give way to wrapped records. -/
def KeyTok.only (k : KeyTok) (lease : Option Nat) : KeyTok := if lease.isSome ∧ k.tile ≠ lease then { k with tile := none } else k

/-- R253: the object key an `OBJ_OPEN` names is none of KEY0's children, which is judged before order 6 of R120. -/
def State.notChild (s : State) (j : Job) (h : Nat) : Bool :=
  match s.findKey j.part h with
  | .rec_ _ r => decide (r.depth ≤ 4) || r.parent ≠ hIndex (j.key 0)
  | _ => false

/-- R99, R106, R120, R144: a key token of an entry: the lookup's answer. It waits while a page must load. -/
def State.keyToken (s : State) (id : JobId) (slot : Nat) : State :=
  match s.job? id with
  | none => s
  | some j =>
    let isOpen := j.desc.opcode == Op.objOpen
    if !j.wants (.key slot) ∨ (isOpen ∧ (j.wants .payload ∨ j.wants .chain)) then s
    else if j.objOpenBad then (s.errToken id Status.invalidInput 0 (some (.key slot))).settle
    else
      let h := j.slotHandle slot
      let usage := ((s.keyNeeds j).find? (fun k => k.1 == slot)).map Prod.snd |>.getD []
      if isOpen ∧ s.notChild j h then (s.errToken id Status.keyAbsent 0 (some (.key slot))).settle
      else match s.lookup j.part h usage with
      | .wait _ => s
      | .status st => (s.errToken id st 0 (some (.key slot))).settle
      | .rec_ _ r =>
        if isStateful r.alg ∧ s.leafWaits j h then s
        else
          let lease := if isStateful r.alg then s.leafTile j h else none
          let ref := match lease with
            | some t => if s.holdsKey t h then some t else none
            | none => s.refTile j h
          let s := s.bump (if ref.isSome then Reg.kstCacheHits else Reg.kstCacheMisses)
          let tok : KeyTok := { slot := slot, handle := h, tile := ref, kr := r, chain := (s.ancestors j.part r).filterMap (fun x => x),
                                seq := s.keys.tokSeq, ver := s.keyVer h, lease := lease }
          let s : State := { s with keys := { s.keys with tokSeq := s.keys.tokSeq + 1 } }
          (s.useObj (keyPageObj j.part (hPage h))).deliver id (.key slot) (fun k => { k with keys := k.keys.map (fun x => x.only lease) ++ [tok] })

/-- R99 KEY_TOKEN_ARRIVAL -/
def execKeyTokenArrival (q i slot : Nat) (s : State) : Host.Outcome State Fault Refusal :=
  .next (s.keyToken (q, BitVec.ofNat 32 i) slot)

/-- R99: the random bits an instance has delivered for an entry. -/
def State.entropyToken (s : State) (id : JobId) : State :=
  match s.job? id, s.ent.delivered.find? (fun e => e.1 == id) with
  | some j, some (_, bits) =>
    let s := { s with ent := { s.ent with delivered := s.ent.delivered.filter (fun e => e.1 ≠ id) } }
    if !j.wants .entropy then s else s.deliver id .entropy (fun k => { k with entropy := bits })
  | _, _ => s

/-- R99 ENTROPY_TOKEN_ARRIVAL -/
def execEntropyTokenArrival (q i : Nat) (s : State) : Host.Outcome State Fault Refusal :=
  .next (s.entropyToken (q, BitVec.ofNat 32 i))

/-- R102, R103: the predecessor's output arrives as the chain token. -/
def State.chainToken (s : State) (id : JobId) : State :=
  match s.job? id with
  | none => s
  | some j => match j.chainIn with
    | none => s
    | some out => if !j.wants .chain then s else s.deliver id .chain (fun k => { k with input := out, chainIn := none })

/-- R102 CHAIN_TOKEN_ARRIVAL -/
def execChainTokenArrival (q i : Nat) (s : State) : Host.Outcome State Fault Refusal :=
  .next (s.chainToken (q, BitVec.ofNat 32 i))

/-- R99: the status and DETAIL of an error token, and the token it answers. -/
def errOf (j : Job) : ErrCause → Nat × Nat × Option Tok
  | .bufferFault c => (Status.bufferFault, 0xFF00 + c % 256, some .payload)
  | .sealFail => (Status.sealFail, 0, some .payload)
  | .rngFault c => (Status.rngFault, c, some .entropy)
  | .pageUnavailable => (Status.pageUnavailable, 0, j.want.find? (fun t => match t with | .context => true | .key _ => true | _ => false))
  | .tamperHalt => (Status.tamperHalt, 0, none)

/-- R99, R100: a producer answers an outstanding request of an entry with an error token. A guard's TAMPER_HALT answers all of
them. -/
def State.errorToken (s : State) (id : JobId) (c : ErrCause) : State :=
  match s.job? id with
  | none => s
  | some j =>
    let (st, dt, tok) := errOf j c
    match c, tok with
    | .tamperHalt, _ => s.errAll (fun k => k.id == id) st dt
    | .sealFail, _ => if j.wants .payload then s.payloadSealFail id else s
    | _, none => s
    | _, some t => if j.wants t then (s.errToken id st dt (some t)).settle else s

/-- R100 ERROR_TOKEN_ARRIVAL -/
def execErrorTokenArrival (q i : Nat) (cause : ErrCause) (s : State) : Host.Outcome State Fault Refusal :=
  .next (s.errorToken (q, BitVec.ofNat 32 i) cause)

end Sys2Proof.Machine
end

