-- ==== Sys2Proof/Machine/EntropyOps.lean ====
section
/-! DEFINITION. The entropy island's shared operations (R302 to R317): source figures, instances, blocks and reserves, failure
and restart, and how the device draws random bits for itself. -/

namespace Sys2Proof.Machine

/-! ### Figures of the sources (R302, R305) -/

/-- R302: assessed min-entropy per sample of a source under the debiasers in force, in units of 0.05. -/
def Entropy.hOf (e : Entropy) (n : Nat) : Nat :=
  if e.compat then 16
  else if n < 16 then (if e.debRo then 12 else 10)
  else if n < 20 then (if e.debMl then 18 else 16)
  else (if e.debTn then 19 else 18)

/-- R302: assessed rate of a source, H × debiased rate, in units of 0.05 Mbit/s. -/
def Entropy.rateOf (e : Entropy) (n : Nat) : Nat :=
  if e.compat then 64
  else if n < 16 then (if e.debRo then 3 else 5)
  else if n < 20 then (if e.debMl then 36 else 64)
  else (if e.debTn then 76 else 144)

/-- R307: the assessed rate of the sources that satisfy a predicate, in units of 0.05 Mbit/s. -/
def Entropy.rateWhere (e : Entropy) (p : Source → Bool) : Nat :=
  sumOf (fun x => if p x then e.rateOf x.num else 0) e.sources

/-- R307: the rate of the sources IN. -/
def Entropy.rate (e : Entropy) : Nat := e.rateWhere (fun x => x.state == 2)

/-- R305: the repetition count cut-off of an H. -/
def rctCut (h : Nat) : Nat := if h = 10 then 41 else if h = 12 then 35 else if h = 16 then 26 else if h = 18 then 24 else 23

/-- R305: the adaptive proportion cut-off of an H. -/
def aptCut (h : Nat) : Nat :=
  if h = 10 then 794 else if h = 12 then 748 else if h = 16 then 664 else if h = 18 then 625 else 607

/-! ### Debiasers and health tests (R302, R305) -/

/-- Bits of bytes, the first in bit 0. -/
def bitsOfBytes (b : Bytes) : List Bool := b.flatMap (fun x => (List.range 8).map (fun i => x.getLsbD i))

/-- Eight bits as a byte, the first in bit 0. -/
def byteOfBits (l : List Bool) : Byte := BitVec.ofNat 8 (sumOf (fun i => b2n (l.getD i false) * 2 ^ i) (List.range 8))

/-- R308: samples packed with the first in bit 0. -/
def packBits (l : List Bool) : Bytes := (List.range (ceilDiv l.length 8)).map (fun k => byteOfBits ((l.drop (8 * k)).take 8))

/-- R302: the XOR debiaser: the exclusive-or of each pair of successive raw bits. -/
def xorDebias : List Bool → List Bool
  | a :: b :: l => xor a b :: xorDebias l
  | _ => []

/-- R302: the von Neumann debiaser: the first bit of each unequal pair. -/
def vnDebias : List Bool → List Bool
  | a :: b :: l => if a = b then vnDebias l else a :: vnDebias l
  | _ => []

/-- R302, R303: the debiased samples of a source's raw bits. -/
def Entropy.debias (e : Entropy) (n : Nat) (raw : List Bool) : List Bool :=
  let vn := if n < 16 then e.debRo else if n < 20 then e.debMl else e.debTn
  if vn ∧ !e.compat then vnDebias raw else xorDebias raw

/-- R305, R306: the window of 1,024 samples that a source's raw bits fill; none when they are too few to close it. -/
def Entropy.windowOf (e : Entropy) (n : Nat) (raw : Bytes) : Option (List Bool) :=
  let w := (e.debias n (bitsOfBytes raw)).take 1024
  if w.length < 1024 then none else some w

/-- SP 800-90B: the longest run of equal samples that begins with a run of `n` samples `v`. -/
def runFrom (v : Bool) (n : Nat) : List Bool → Nat
  | [] => n
  | x :: l => if x = v then runFrom v (n + 1) l else max n (runFrom x 1 l)

/-- R305: the longest run of equal samples in a window. -/
def longestRun : List Bool → Nat
  | [] => 0
  | x :: l => runFrom x 1 l

/-- R305, SP 800-90B: the APT count of a window: the samples that equal its first. -/
def aptCount (w : List Bool) : Nat := countOf (fun x => x == w.headD false) w

/-- R305: the test a window fails: 0 RCT, 1 APT; none when it passes both. -/
def Entropy.windowTest (e : Entropy) (n : Nat) (w : List Bool) : Option Nat :=
  if rctCut (e.hOf n) ≤ longestRun w then some 0 else if aptCut (e.hOf n) ≤ aptCount w then some 1 else none

/-- Change one source. -/
def State.modSource (s : State) (n : Nat) (f : Source → Source) : State :=
  { s with ent := { s.ent with sources := modWhere (fun x => x.num == n) f s.ent.sources } }

/-- Change one instance. -/
def State.modInst (s : State) (p : Nat) (f : Instance → Instance) : State :=
  { s with ent := { s.ent with instances := modWhere (fun x => x.part == p) f s.ent.instances } }

/-- A partition's instance. -/
def State.inst? (s : State) (p : Nat) : Option Instance := s.ent.instances.find? (fun x => x.part == p)

/-! ### Failure and restart (R315, R316) -/

/-- R315, R316: every instance, reserve and pool block is zeroed. -/
def State.entZero (s : State) : State :=
  { s with ent := { s.ent with instances := [], pool := [], absorbed := [], absorbedBits := 0, rotation := 0, poolMin := 0 } }

/-- R315: a request gets an error token of RNG_FAULT. -/
def State.entRefuse (s : State) (r : EntReq) : State :=
  match r.job with
  | some id => (s.errToken id Status.rngFault s.ent.failCause (some .entropy)).settle
  | none => s

/-- R315: the expanders are uninstantiated and STATE becomes FAILED; every waiting request fails. -/
def State.entFail (s : State) (cause : Nat) : State :=
  let s := s.entZero.notice Reg.entNotice 1
  let w := s.ent.waiting
  let s := { s with ent := { s.ent with state := 3, failCause := cause, waiting := [], delivered := s.ent.delivered } }
  forEach w (fun r s => s.entRefuse r) s

/-- R318: an action ends. -/
def State.entActionDone (s : State) : State :=
  ({ s with ent := { s.ent with action := none } } : State).notice Reg.entNotice 5

/-- R303, R313 step 1, R316: the island restarts from its start-up tests; what takes effect at a start is taken now. -/
def State.entRestart (s : State) : State :=
  let s := s.entZero
  let compat := s.fld Reg.entCtrl 0 0 == 1
  let en := s.fld Reg.entSrcEn 21 0
  let start (x : Source) : Source :=
    if (if compat then x.num == 16 else bitOf x.num en) then
      { x with state := 1, run := 0, leaving := false, joining := false, trim := s.reg Reg.entSrcTrim x.num % 64 }
    else { x with state := 0, run := 0, leaving := false, joining := false }
  { s with ent := { s.ent with
      state := 1, failCause := 0, compat := compat, debRo := s.fld Reg.entCtrl 1 1 == 1, debMl := s.fld Reg.entCtrl 2 2 == 1,
      debTn := s.fld Reg.entCtrl 3 3 == 1, budget := 5 * s.fld Reg.entCtrl 12 8, sources := s.ent.sources.map start } }

/-! ### Instances (R309, R311, R312) -/

/-- R309: instantiate a partition's instance from a block. -/
def State.instantiate (s : State) (p : Nat) (block : Bytes) : State :=
  let n := (alook p s.ent.instCounts).getD 0
  let key := Config.drbgInstantiate block (leBytes 8 s.now ++ leBytes 8 n) (leBytes 1 p ++ leBytes 8 s.life.fuses.serial)
  { s with ent := { s.ent with instances := s.ent.instances ++ [{ part := p, key := key, count := n }],
                               instCounts := aput p (n + 1) s.ent.instCounts } }

/-- R309: partitions in use that have no instance, ascending. -/
def State.uninstantiated (s : State) : List Nat :=
  (s.tabs.table.parts.map (fun p => p.num)).filter (fun p => (s.inst? p).isNone)

/-- R311, R312: an instance reseeds from a block; one that stretched stops. -/
def State.reseed (s : State) (p : Nat) (block : Bytes) : State :=
  let was := ((s.inst? p).map (fun x => x.stretching)).getD false
  let n := ((s.inst? p).map (fun x => x.requests)).getD 0
  let s := (s.modInst p (fun x => { x with key := Config.drbgReseed x.key block, requests := 0, stretching := false })).bump Reg.entReseeds
  if was then s.devEvent 2 0x0604 57 (leBytes 1 p ++ zeros 3 ++ leBytes 4 n) p else s

/-- R311: an instance's reserve is taken; it is now the one that emptied last. -/
def State.takeReserve (s : State) (p : Nat) : State :=
  match s.inst? p with
  | none => s
  | some x => { s with ent := { s.ent with
      instances := s.ent.instances.filter (fun y => y.part ≠ p) ++ [{ x with reserve := none }] } }

/-- R311, R312: a block goes to a partition's reserve, or at once to the reseed an instance that stretches waits for. -/
def State.giveReserve (s : State) (p : Nat) (block : Bytes) : State :=
  match s.inst? p with
  | none => s
  | some x => if x.stretching then (s.takeReserve p).reseed p block else s.modInst p (fun x => { x with reserve := some block })

/-- R312: the limit a stretched count may reach. -/
def State.stretchLimit (s : State) : Nat := 2 ^ s.fld Reg.entCtrl 20 16

/-- R311, R312: a reseed that is due before a request: from the reserve, or else the instance stretches. -/
def State.dueReseed (s : State) (p : Nat) : State :=
  match s.inst? p with
  | none => s
  | some x =>
    if x.requests < 2 ^ 16 then s
    else match x.reserve with
      | some b => (s.takeReserve p).reseed p b
      | none =>
        if x.stretching then s
        else ((((s.modInst p (fun x => { x with stretching := true })).notice Reg.entNotice 2).bump Reg.entStretched)).devEvent 2
          0x0603 57 (leBytes 1 p ++ zeros 3 ++ leBytes 4 x.requests) p

/-- R309, R312: an instance generates `n` bytes; none while its request must wait. -/
def State.generate (s : State) (p n : Nat) : Option (Bytes × State) :=
  let s := s.dueReseed p
  match s.inst? p with
  | none => none
  | some x =>
    if s.stretchLimit ≤ x.requests then none
    else
      let r := Config.drbgGenerate x.key n
      some (fixLen n r.1, s.modInst p (fun y => { y with key := r.2, requests := y.requests + 1 }))

/-- What asking an instance for random bits answers. -/
inductive Drawn where
  | bits (b : Bytes) (s : State) | waits | fails (cause : Nat)

/-- R314, R315: random bits of a partition's instance for the device's own use. -/
def State.random (s : State) (p n : Nat) : Drawn :=
  if s.ent.state = 3 then .fails s.ent.failCause
  else match s.generate p n with
    | some (b, s) => .bits b s
    | none => .waits

/-- R314, R315: a management command draws random bits of partition 0's instance: it waits for the instance, or completes with
RNG_FAULT. -/
def State.withRandom (s : State) (j : Job) (n : Nat) (f : State → Bytes → State) : State :=
  match s.random 0 n with
  | .bits b s => f s b
  | .waits => s
  | .fails c => s.deny j Status.rngFault c

/-! ### Blocks (R308, R311, R317) -/

/-- R311 efficient mode: pool blocks refill empty reserves in the order in which they emptied. -/
def State.refill : Nat → State → State
  | 0, s => s
  | n + 1, s =>
    match s.ent.pool, s.ent.instances.find? (fun x => x.reserve.isNone) with
    | b :: rest, some x => State.refill n (({ s with ent := { s.ent with pool := rest } } : State).giveReserve x.part b)
    | _, _ => s

/-- R311 strict mode: a block goes to the partition whose turn it is: to a waiting prediction-resistant request of it, to its
empty reserve, or it is discarded. -/
def State.strictBlock (s : State) (block : Bytes) : State :=
  let ps := (s.tabs.table.parts.map (fun p => p.num))
  let p := (ps.find? (fun p => decide (s.ent.rotation ≤ p))).getD 0
  let s := { s with ent := { s.ent with rotation := p + 1 } }
  if s.ent.waiting.any (fun r => r.part == p && r.pr) ∧ s.ent.pool.length < 64 then
    { s with ent := { s.ent with pool := s.ent.pool ++ [block] } }
  else match s.inst? p with
    | none => s
    | some x => if x.reserve.isNone then s.giveReserve p block else s

/-- R308, R309, R311, R317: a block closes: an instance still to be made takes it first, then reserves and the pool. -/
def State.newBlock (s : State) (block : Bytes) : State :=
  match s.uninstantiated with
  | p :: _ => s.instantiate p block
  | [] =>
    if s.tabs.table.strict then s.strictBlock block
    else
      let s := if s.ent.pool.length < 64 then { s with ent := { s.ent with pool := s.ent.pool ++ [block] } } else s
      s.refill 256

/-- R11: note the lowest pool level. -/
def State.notePool (s : State) : State :=
  { s with ent := { s.ent with poolMin := min s.ent.poolMin s.ent.pool.length, waitMax := max s.ent.waitMax s.ent.waiting.length } }

end Sys2Proof.Machine
end

