-- ==== Sys2Proof/Machine/TimeOps.lean ====
section
/-! DEFINITION. Secure time's shared operations (R246 to R248): the bound on its error and its STATE code. -/

namespace Sys2Proof.Machine

/-- R247: a calibration no older than 24 h. -/
def Clock.calibrated (c : Clock) : Bool :=
  match c.calibratedAt with
  | some t => decide (c.secure ≤ t + 24 * 3600 * 10 ^ 9)
  | none => false

/-- R247: the bound of HOLDOVER with a drift in ppm. -/
def Clock.drifted (c : Clock) (ppm : Nat) : Nat := c.errBase + ceilDiv (ppm * (c.mono - c.holdFrom)) (10 ^ 6)

/-- R247: ERR on main power. -/
def Clock.err (c : Clock) : Nat :=
  match c.state with
  | .unset => 2 ^ 64 - 1
  | .locked => 250 + c.errBase
  | .holdover => min (2 ^ 64 - 1) (c.drifted (if c.calibrated then 2 else 50))

/-- R261: the code of a STATE. -/
def TimeState.code : TimeState → Nat
  | .unset => 0
  | .locked => 1
  | .holdover => 2

/-- R246: secure time in ns of UTC. -/
def Clock.utc (c : Clock) : Int := (c.secure : Int) - c.utcOffset * 10 ^ 9

end Sys2Proof.Machine
end

