-- ==== Sys2Proof/Machine/TamperOps.lean ====
section
/-! DEFINITION. The guard's shared operations (R384 to R397): what is lost with power or by a purge, the six tamper actions, how
a source fires on main power and on cells, and evidence. -/

namespace Sys2Proof.Machine

/-! ### What a purge or a power loss takes -/

/-- R142: the objects known before any page is loaded: the level-4 tree page, but none under the empty root. -/
def Vault.rootObjs (v : Vault) : List ObjState :=
  match v.root with
  | none => []
  | some (h, e) =>
    if e = 0 ∧ h = emptyRoot then []
    else [{ obj := treeObj 4 0, version := e, kekGen := 0, frame := 0, digest := h, load := .unloaded }]

/-- R34, R141: DRAM is discarded: pages, contexts and their caches are gone, to be loaded again from the host. -/
def State.forgetDram (s : State) : State :=
  let chan (c : Channel) : Channel :=
    { c with state := if c.state = 4 then 5 else c.state, majorHwm := 0, ctrs := [], retired := c.retired }
  let dram := { s.dram with key := none, channels := s.dram.channels.map chan, cacheFrames := [], work := [], lru := [], ctrCache := [],
                            macCache := [], lastLine := none }
  let keys := { s.keys with pages := [], objs := s.vault.rootObjs, replacing := [], erasing := [], revoking := [], removing := [], notices := [] }
  let s : State := { s with dram := dram, keys := keys, ctxs := {}, courses := s.courses.map (fun c => { c with ctxCache := [] }) }
  match s.dram.action with
  | some (2, _) => s.chDone
  | _ => s

/-- R459: the device log and the partition regions are emptied; their SEQ carries on. What was not read is lost (R463). -/
def State.emptyLogs (s : State) : State :=
  let one (r : Ring) : Ring :=
    if r.num = 257 then r
    else
      let n := r.unread
      { r with recs := [], lost := r.lost + BitVec.ofNat 32 n, gap := r.gap + n, markValid := false, waitSince := none,
               wmArmed := true }
  { s with log := { s.log with rings := s.log.rings.map one } }

/-- R113, R211: every tile is reset and wiped, and drops its leases. A quarantined tile stays quarantined, one out of service
stays out. -/
def State.resetTiles (s : State) : State :=
  let one (t : Tile) : Tile :=
    { t with state := if t.state = 4 ∨ t.state = 6 then t.state else 5, hod := [], job := none, held := none, cache := [], plan := [], opMem := [],
             leases := [], leaves := [], wantLease := [], wantLeaf := [], window := false, yields := 0, borrower := none,
             action := false, wipes := t.wipes + 1, link := {} }
  let some_ := s.tiles.any (fun t => !t.hod.isEmpty || !t.coming.isEmpty)
  let s : State := { s with tiles := s.tiles.map one }
  if some_ then s.notice Reg.dspNotice 2 else s

/-- R79: a session key in a completion, or in what a job was fetched with, is erased. -/
def noSealKey (x : Bytes × Nat) : Bytes × Nat := ([], x.2)
/-- R79: a completion without its session key. -/
def unsealCpl (c : Cpl) : Cpl := { c with outSeal := c.outSeal.map noSealKey }
/-- R79: a descriptor's sealing without its session keys. -/
def unsealRef (r : SealRef) : SealRef := { r with toDevice := [], toHost := [] }

/-- R79: session keys are erased wherever they are held, and queues in SEALING or SEALED move to ERROR. -/
def State.purgeSeals (s : State) : State :=
  let hit := (s.qps.filter (fun q => q.state == 2 || q.state == 3)).map (fun q => q.cfg.queue)
  let s : State := { s with jobs := s.jobs.map (fun j => { j with sealing := j.sealing.map unsealRef }),
                            pair := { s.pair with journal := s.pair.journal.map (fun e => { e with cpl := unsealCpl e.cpl }) } }
  let s : State := { s with qps := s.qps.map (fun q => { q with session := none, nextSession := none, offer := none, sealBusy := false }) }
  forEach hit (fun n s => s.enterError n 0) s

/-- R104, R140: every job that has not completed completes with TAMPER_HALT. -/
def State.haltJobs (s : State) : State :=
  let s := s.errAll (fun _ => true) Status.tamperHalt 0
  forEach ((s.jobs.filter (fun j => j.phase ≠ .done)).map (fun j => (j.id, j.tile)))
    (fun e s => s.finish e.1 (fail Status.tamperHalt) e.2) s

/-- R140: a batch past step 2 stands; one that has not ended step 2 is discarded. -/
def State.purgeBatches (s : State) : State :=
  let kept := s.commit.batches.filter (fun b => decide (2 < b.step))
  let s := forEach kept (fun b s => s.applyAll b) s
  { s with commit := { s.commit with waiting := [], batches := [] } }

/-- R447, R449, R240, R331, R441, R452, R484: sessions, ceremonies, open loads, what is staged, claims and card commands end. -/
def State.purgeMgmt (s : State) : State :=
  let port (p : CardPort) : CardPort :=
    if p.cmd.isSome then { p with cmd := none, phase := 0, writing := none, state := if p.state = 4 then 2 else p.state, trailing := 8 } else p
  { s with mgmt := { s.mgmt with sessions := [], challenges := [], ceremony := none, loads := [], claim := 0, image := none },
           tabs := { s.tabs with staged := none, list := none, restart := none },
           io := { s.io with ports := s.io.ports.map port } }

/-- R420, R421: a purge with PURGE_HANDOVER sets FAILING; a device in a pair joins it again as an incomplete standby. -/
def State.purgePair (s : State) : State :=
  let hand := s.fld Reg.mirCtrl 2 2 == 1
  if s.pair.role = 0 then s
  else if s.pair.role = 1 ∧ !(hand && s.inService) then { s with pair := { s.pair with failing := hand } }
  else { s with pair := { s.pair with failing := hand, role := 2, sync := 1, journal := [], cas := none, switching := none } }

/-- R388 PURGE. -/
def State.purge (s : State) : State :=
  let s := s.purgeSeals.purgeBatches.haltJobs
  let s := s.resetTiles.forgetDram.emptyLogs.purgeMgmt.purgePair.entRestart
  let s := { s with guard := { s.guard with vaultKey := [], identity := [], recovering := true } }
  s.notice Reg.vltNotice 2

/-- R388 ZEROIZE: one bulk clear of the vault SRAM; no object exists any more for this vault. -/
def State.zeroize (s : State) : State :=
  let v := { s.vault with seed := zeros 32, gens := [], root0 := ([], 0), root1 := ([], 0), suiteArea := [], hwms := [], stateful := [] }
  ({ s with vault := v, keys := { s.keys with objs := [] } } : State).notice Reg.vltNotice 3

/-- R453: a write of a bank that is cut short leaves that bank failing its checks; of the bootstrap copies one stands (R485). -/
def Flash.cut (f : Flash) : Flash :=
  match f.writing with
  | some (_, 0, _) => { f with bankA := [], writing := none }
  | some (_, 1, _) => { f with bankB := [], writing := none }
  | _ => { f with writing := none }

/-- R379, R380: without the charger a cell charges no more. -/
def Cell.unfed (c : Cell) : Cell := { c with state := if c.state = 4 then 1 else c.state, constVolt := false, gaugedAt := none }

/-- R29, R36, R261: all volatile state is lost, and LOCKED is left. What stays: the vault SRAM with its ring and both copies of the retained configuration,
the cells, the fuses, the boot flash, secure time, and the retained values the vault's registers hold. -/
def State.volatileLost (s : State) : State :=
  let ring := (s.log.rings.filter (fun r => r.num == 257)).map (fun r =>
    { r with reader := 0, next := 0, waitSince := none, queue := none, mark := none, markValid := false, gap := 0 })
  let r := State.reset
  { r with
    pending := s.pending, free := s.free, sent := s.sent,
    clock := { r.clock with mono := s.clock.mono, secure := s.clock.secure, errBase := if s.clock.state = .unset then 0 else s.clock.err,
                            holdFrom := s.clock.mono, calibratedAt := s.clock.calibratedAt, correction := s.clock.correction, utcOffset := s.clock.utcOffset,
                            lastLock := if s.clock.state = .locked then s.clock.secure else s.clock.lastLock,
                            state := if s.clock.state = .unset then .unset else .holdover },
    power := { r.power with goodA := s.power.goodA, goodB := s.power.goodB, mvA := s.power.mvA, mvB := s.power.mvB,
                            lowA := s.power.lowA, lowB := s.power.lowB, active := s.power.active, gateA := s.power.gateA,
                            gateB := s.power.gateB, switching := s.power.switching, heldOut := s.power.heldOut, lastSwitch := s.power.lastSwitch, lastPause := s.power.lastPause },
    thermal := { r.thermal with die := s.thermal.die },
    vault := s.vault,
    net := { r.net with ifaces := s.net.ifaces },
    guard := { r.guard with supply := s.guard.supply, cellA := s.guard.cellA.unfed, cellB := s.guard.cellB.unfed, lfsr := s.guard.lfsr,
                            meshFault := s.guard.meshFault, encState := s.guard.encState, encLast := s.guard.encLast,
                            active := s.guard.active, quietSince := s.guard.quietSince },
    life := { r.life with fuses := s.life.fuses },
    pair := { r.pair with secret := s.pair.secret },
    mgmt := { r.mgmt with cseqA := s.mgmt.cseqA, cseqB := s.mgmt.cseqB, goodA := s.mgmt.goodA, goodB := s.mgmt.goodB },
    copyA := s.copyA, copyB := s.copyB,
    log := { rings := ring },
    io := { r.io with flash := s.io.flash.cut, ports := s.io.ports.map (fun p => { num := p.num, card := p.card }) },
    regs := (s.inForce.map (fun x => x.regs)).getD [] }

/-- R388, R489 HALT: the device is held in reset until a power cycle. HALT_OUT shows it, so the pins keep their owners; the guard goes on
driving TAMPER_ALERT (notes/assumptions/84.md). -/
def State.halt (s : State) : State :=
  let pins := s.tabs.pins
  let alert := s.guard.alertPin
  let s := s.volatileLost
  { s with power := { s.power with mode := .halted }, tabs := { s.tabs with pins := pins }, guard := { s.guard with alertPin := alert } }

/-! ### Firing (R388 to R396) -/

/-- R384, R388: the ACTIONS in force of a source, with their implied bits. -/
def State.actionsOf (s : State) (src : Nat) : Nat :=
  let a := bitsOf 5 0 (s.reg Reg.vltSrcCfg src)
  a + (if bitOf 0 a then 0 else 1)

/-- R390: the union of the ACTIONS of every source that has fired in the episode. -/
def State.episodeActs (s : State) : BitVec 6 :=
  (List.range 12).foldl (fun (a : BitVec 6) n => if s.vault.fired.getLsbD n then a ||| BitVec.ofNat 6 (s.actionsOf n) else a) 0

/-- R388: the payload of a TAMPER record. -/
def tamperPayload (src acts flags cause : Nat) : Bytes := leBytes 1 src ++ leBytes 1 acts ++ leBytes 1 flags ++ [0] ++ leBytes 4 cause

/-- R457: the TAMPER record. -/
def State.tamperEvent (s : State) (src island flags cause : Nat) : Event :=
  { seq := 0, sev := 7, time := s.clock.secure, code := 0x0901, part := 0, island := island,
    payload := tamperPayload src s.episodeActs.toNat flags cause }

/-- R395: records of severity 7 written into the device log and every partition region in use. -/
def State.alertAll (s : State) (e : Event) : State :=
  let s := s.devEvent e.sev e.code e.island e.payload
  forEach (s.tabs.table.parts.map (fun p => p.num)) (fun p s => s.partEvent p e.sev e.code e.island e.payload) s

/-- R396, R397, R501: blow evidence bits of a class; a full counter discards them, and none is blown while VDD_IO18 is out of its
window. -/
def State.blow (s : State) (cls n : Nat) : State :=
  let old := s.life.fuses.evidence.getD cls 0
  let new := if s.guard.io18Out then old else min 255 (old + n)
  if new = old then s
  else
    let f := { s.life.fuses with evidence := s.life.fuses.evidence.set cls new }
    let s := ({ s with life := { s.life with fuses := f } } : State).notice Reg.vltNotice 8
    if new = 255 then s.notice Reg.vltNotice 9 else s

/-- R396: raise the count of a class in the pending-evidence latch, which saturates at 15. -/
def State.latchUp (s : State) (cls : Nat) : State :=
  { s with vault := { s.vault with latch := s.vault.latch.modify cls (fun n => min 15 (n + 1)), counted := s.vault.counted ++ [cls] } }

/-- R396: the classes of the sources that fired in the episode, whose own ACTIONS hold PURGE and which it has not yet counted. -/
def State.dueClasses (s : State) : List Nat :=
  (((List.range 12).filter (fun n => s.vault.fired.getLsbD n && bitOf 3 (s.actionsOf n))).map
    (fun n => bitsOf 7 6 (s.reg Reg.vltSrcCfg n))).dedup.filter (fun c => !s.vault.counted.contains c)

/-- R396, R501: on main power the latch is blown into the fuses at once and cleared; what cannot be blown stays in it. -/
def State.evidence (s : State) : State :=
  forEach s.dueClasses (fun c s =>
    let s := (s.latchUp c).blow c 1
    let l := if s.guard.io18Out then s.vault.latch else s.vault.latch.set c 0
    { s with vault := { s.vault with latch := l } }) s

/-- R390: mark actions performed. -/
def State.perform (s : State) (bit : Nat) : State :=
  { s with vault := { s.vault with performed := s.vault.performed ||| BitVec.ofNat 6 (2 ^ bit) } }

/-- R390: an action of the episode still to be performed. -/
def State.dueAct (s : State) (bit : Nat) : Bool := s.episodeActs.getLsbD bit && !s.vault.performed.getLsbD bit

/-- R104, R388 FREEZE. -/
def State.freezeNow (s : State) : State :=
  ({ s with guard := { s.guard with freeze := true } } : State).notice Reg.vltNotice 1

/-- R388 ALERT: the records and notices. Without sealed memory the records wait for a memory channel (R395). -/
def State.alert (s : State) (e : Event) : State :=
  let s := s.notice Reg.vltNotice 0
  if s.dram.key.isNone then { s with guard := { s.guard with queued := s.guard.queued ++ [e] } } else s.alertAll e

/-- R390: the actions on main power, in their order. -/
def State.respond (s : State) (src island cause : Nat) : State :=
  let e := s.tamperEvent src island 0 cause
  let s := ((s.writeRec 257 7 e.code 0 island e.payload).devEvent 7 e.code island e.payload).perform 0
  let alertDue := s.dueAct 1
  let haltDue := s.dueAct 5
  let s := if alertDue then ({ s with guard := { s.guard with alertPin := true } } : State).perform 1 else s
  let s := if s.dueAct 2 then s.freezeNow.perform 2 else s
  let s := if s.dueAct 3 then s.purge.perform 3 else s
  let s := if s.dueAct 4 then s.zeroize.perform 4 else s
  let s := if s.vault.performed.getLsbD 3 then s.evidence else s
  let s := if alertDue then
    (if haltDue then { s with vault := { s.vault with marked := s.vault.marked ++ [s.tamperEvent src island 2 cause] } } else s.alert e) else s
  if haltDue then (s.perform 5).halt else s

/-- R394: the reduced actions on cells. -/
def State.respondOnCells (s : State) (src cause : Nat) : State :=
  let marked := s.episodeActs.getLsbD 1 && !s.vault.performed.getLsbD 1
  let e := s.tamperEvent src 56 (1 + 2 * b2n marked) cause
  let s := (s.writeRec 257 7 e.code 0 56 e.payload).perform 0
  let s := if marked then ({ s with vault := { s.vault with marked := s.vault.marked ++ [e] } } : State).perform 1 else s
  let s := forEach s.dueClasses (fun c s => s.latchUp c) s
  let s := if s.episodeActs.getLsbD 3 then s.perform 3 else s
  if s.dueAct 4 then s.zeroize.perform 4 else s

/-- R384: the sources armed on cells. -/
def armedOnCells (src : Nat) : Bool := decide (3 ≤ src) && decide (src ≤ 8)

/-- R384: a source whose condition lasts; the others are event-type causes (their repeats fire again). -/
def levelSource (src : Nat) : Bool := decide (1 ≤ src) && decide (src ≤ 8)

/-- R384, R390: a source fires. One that is disabled, or not armed on cells when no feed is good, never fires; one whose condition
lasts does not fire again while it is active. A device held in HALTED has no action left to perform but LOG. -/
def State.fire (s : State) (src island cause : Nat) : State :=
  let cells := s.power.mode == .vault
  if bitsOf 9 9 (s.reg Reg.vltSrcCfg src) = 0 ∨ (cells && !armedOnCells src) ∨ (levelSource src && s.guard.active.getLsbD src) then s
  else
    let bit : BitVec 12 := BitVec.ofNat 12 (2 ^ src)
    let g := { s.guard with active := s.guard.active ||| bit, quietSince := none,
                            counts := s.guard.counts.modify src (fun n => min 65535 (n + 1)) }
    let v := if s.vault.episode then s.vault else { s.vault with episode := true, fired := 0, performed := 0, counted := [] }
    let s := ({ s with guard := g, vault := { v with fired := v.fired ||| bit } } : State).notice Reg.vltFired src
    if cells then s.respondOnCells src cause
    else if s.power.mode = .halted then s.writeRec 257 7 0x0901 0 island (tamperPayload src s.episodeActs.toNat 0 cause)
    else s.respond src island cause

/-- R384: a source stops being active; the episode's quiet time starts when none that fired in it is. -/
def State.calm (s : State) (src : Nat) : State :=
  let act := s.guard.active &&& ~~~(BitVec.ofNat 12 (2 ^ src))
  let quiet := s.vault.episode && (act &&& s.vault.fired) == 0
  let since := if quiet then some (s.guard.quietSince.getD s.clock.mono) else s.guard.quietSince
  { s with guard := { s.guard with active := act, quietSince := since } }

end Sys2Proof.Machine
end

