-- ==== Sys2Proof/Machine/Symmetric.lean ====
section
/-! DEFINITION. The rows of the bulk, short-block and hash engines (R154 to R179): ciphers, MACs, hashes, counter leases and
parity errors. -/

namespace Sys2Proof.Machine

/-! ### Counter leases (R168 to R172) -/

/-- R168, R433: this device's member number; 0 when unpaired. -/
def State.member (s : State) : Nat :=
  if s.pair.role = 0 then 0 else ((s.inForce.bind (fun x => x.pairing)).map (fun p => p.member)).getD 0

/-- R168: the 12 B of a leased IV. -/
def State.leasedIv (s : State) (p t counter : Nat) : Bytes :=
  leBytes 1 p ++ leBytes 1 t ++ leBytes 1 s.member ++ [0x01] ++ leBytes 8 counter

/-- R169: the high-water mark of a counter space, beyond every lease asked for and not yet committed. -/
def State.hwmNext (s : State) (p c : Nat) : Nat :=
  let asked := (s.commit.waiting ++ s.commit.batches.flatMap (fun b => b.entries)).flatMap (fun e => e.changes.filterMap (fun x =>
    match x with | .hwm p' c' _ v => if p' = p ∧ c' = c then some v else none | _ => none))
  asked.foldl max ((alook (256 * c + p) s.vault.hwms).getD 0)

/-- R169: ask for the next lease of a space, unless one is asked for already. -/
def State.askLease (s : State) (t p : Nat) : State :=
  let want := ((s.tile? t).map (fun x => x.wantLease.contains p)).getD true
  let c := courseOf t
  let v := s.hwmNext p c + 2 ^ 24
  if want ∨ 2 ^ 64 ≤ v then s
  else
    let s := s.modTile t (fun x => { x with wantLease := x.wantLease ++ [p] })
    s.bring { changes := [.hwm p c t v], objs := [], job := none, res := {} }

/-- R172: the space of a tile's course can give no lease any more. -/
def State.spaceSpent (s : State) (t p : Nat) : Bool := decide (2 ^ 64 ≤ s.hwmNext p (courseOf t) + 2 ^ 24)

/-- R169: the current lease's next value is taken. -/
def State.takeCounter (s : State) (t p : Nat) : Option (Nat × State) :=
  match (s.tile? t).bind (fun x => x.leases.find? (fun l => l.owner == p && decide (l.next < l.stop))) with
  | none => none
  | some l =>
    let used := { l with next := l.next + 1 }
    some (l.next, s.modTile t (fun x =>
      { x with leases := (x.leases.map (fun k => if k = l then used else k)).filter (fun k => decide (k.next < k.stop)) }))

/-- R146, R172: the device revokes a key. -/
def State.retireKey (s : State) (h : Nat) : State :=
  (((s.cancelReplace h Status.keyRevoked).setRevoked h true).dropFamily h).bring { changes := [.keyRevoke h], objs := [keyPageObj (hPart h) (hPage h)], job := none, res := {} }

/-- R171, R172, R424: run with the next counter of the job's space: a job that finds no usable lease waits for the grant, and one whose
space is spent completes with LEASE_EXHAUSTED and its key is retired. -/
def State.withCounter (s : State) (t : Nat) (j : Job) (slot : Nat) (f : State → Nat → State) : State :=
  if s.pair.role = 3 then s.answer j (fail Status.fenced)
  else match j.counter with
  | some n => f s n
  | none => match s.takeCounter t j.part with
  | some (n, s) => f s n
  | none =>
    if s.spaceSpent t j.part then (s.retireKey (j.handle slot)).answer j (fail Status.leaseExhausted)
    else (s.askLease t j.part).modJob j.id (fun k => { k with awaits := some j.part })

/-- R169: LEASE_REQUEST: the next lease is asked for when at most 2^22 values of the current one remain. -/
def State.leaseRequest (s : State) (t p : Nat) : State :=
  match s.tile? t with
  | none => s
  | some x =>
    let mine := x.leases.filter (fun l => l.owner == p)
    let low := match mine with
      | [] => true
      | [l] => decide (l.stop - l.next ≤ 2 ^ 22)
      | _ => false
    if low && (s.tileRec t).holds p && x.state ≠ 4 && x.state ≠ 6 && s.power.mode == .serving then s.askLease t p else s

/-- R169 LEASE_REQUEST -/
def execLeaseRequest (t p : Nat) (s : State) : Host.Outcome State Fault Refusal := .next (s.leaseRequest t p)

/-! ### Ciphers (R155, R163, R164, R166) -/

/-- What opening or sealing answers: a status, or bytes. -/
inductive Ciphered where
  | bad (st : Nat) | ok (b : Bytes)
  deriving DecidableEq, Repr

/-- R163, R166: an XTS input is long enough, its last unit too, and its two keys differ. -/
def xtsOk (x : SymBlock) (alg : Nat) (key m : Bytes) : Bool :=
  let h := matLen alg key.length / 2
  let u := 2 ^ x.duLog2
  decide (16 ≤ m.length) && (m.length % u == 0 || decide (16 ≤ m.length % u)) && key.take h ≠ key.drop h

/-- R163: XTS under data key ‖ tweak key. -/
def xtsRun (enc : Bool) (x : SymBlock) (alg : Nat) (key : Bytes) (dun : Nat) (m : Bytes) : Bytes :=
  let h := key.length / 2
  xtsCrypt enc (if alg = 0x05 then 0x01 else 0x02) (key.take h) (key.drop h) dun (blocks (2 ^ x.duLog2) m)

/-- R163, R164, R166: open AAD ‖ IV ‖ ciphertext ‖ tag. -/
def SymBlock.openIt (x : SymBlock) (alg : Nat) (key : Bytes) (aadLen dun : Nat) (m : Bytes) : Ciphered :=
  let n := blockLen alg
  let ivn := ivLen x.mode alg
  if m.length < aadLen + ivn + x.tagOut then .bad Status.invalidInput
  else
    let aad := m.take aadLen
    let iv := sub aadLen ivn m
    let rest := m.drop (aadLen + ivn)
    let ct := rest.take (rest.length - x.tagOut)
    if x.mode = 0x06 then
      (if xtsOk x alg key ct then .ok (xtsRun false x alg key dun ct) else .bad Status.invalidInput)
    else if isAead x.mode then
      match aeadOpen x.mode key iv aad ct (rest.drop ct.length) with
      | some pt => .ok pt
      | none => .bad Status.authFail
    else if x.mode = 0x03 then .ok (ctrCrypt alg key iv 0 (blocks 16 ct))
    else if ct.length % n ≠ 0 then .bad Status.invalidInput
    else if x.mode = 0x02 then .ok (cbcDec alg key iv (blocks n ct))
    else .ok ((blocks n ct).flatMap (decBlock alg key))

/-- R163, R166: whether a plaintext can be sealed under a block. -/
def SymBlock.sealable (x : SymBlock) (alg : Nat) (key pt : Bytes) : Bool :=
  if x.mode = 0x06 then xtsOk x alg key pt
  else if x.mode = 0x01 ∨ x.mode = 0x02 then x.pad ≠ 0 || pt.length % blockLen alg == 0
  else true

/-- R163, R174: IV ‖ ciphertext ‖ tag of a plaintext; `tag1` is the tag of the first pass where GCM-SIV has read its input twice. -/
def SymBlock.sealIt (x : SymBlock) (alg : Nat) (key iv aad : Bytes) (dun : Nat) (pt : Bytes) (tag1 : Option Bytes := none) : Bytes :=
  let n := blockLen alg
  if x.mode = 0x06 then xtsRun true x alg key dun pt
  else if x.mode = 0x05 ∧ tag1.isSome then
    let tag := tag1.getD []
    iv ++ xorBytes pt (sivStream key iv tag pt.length) ++ tag.take x.tagLen
  else if isAead x.mode then
    let (ct, tag) := aeadSeal x.mode key iv aad pt
    iv ++ ct ++ tag.take x.tagLen
  else if x.mode = 0x03 then iv ++ ctrCrypt alg key iv 0 (blocks 16 pt)
  else if x.mode = 0x02 then iv ++ cbcEnc alg key iv (blocks n (padMsg x.pad n pt))
  else (blocks n (padMsg x.pad n pt)).flatMap (encBlock alg key)

/-- R174: the tag of the first pass of a job that has read its input twice: of its host IV, AAD and plaintext. -/
def SymBlock.firstTag (x : SymBlock) (key iv : Bytes) (first : Option (Bytes × Bytes × Bytes)) : Option Bytes :=
  first.map (fun (h, aad, pt) => sivTag key (if x.ivPolicy = 0 then iv else h) aad pt)

/-- R163, R168, R174: seal with the IV the policy gives: a leased one, whose COUNTER is DETAIL, or the host's. `first` is what the
first of two passes read. -/
def State.sealWith (s : State) (t : Nat) (j : Job) (slot : Nat) (x : SymBlock) (alg : Nat) (key hostIv aad pt : Bytes)
    (first : Option (Bytes × Bytes × Bytes) := none) : State :=
  if !x.sealable alg key pt then s.answer j (fail Status.invalidInput)
  else if x.ivPolicy = 0 then
    s.withCounter t j slot (fun s n =>
      let iv12 := s.leasedIv j.part t n
      let iv := if x.mode = 0x02 then encBlock alg key (iv12 ++ zeros 4) else iv12
      s.answer j (okOut (x.sealIt alg key iv aad j.dun pt (x.firstTag key iv first)) n))
  else s.answer j (okOut (x.sealIt alg key hostIv aad j.dun pt (x.firstTag key hostIv first)))

/-- R163: SYM_ENCRYPT. -/
def State.symEncrypt (t : Nat) (s : State) (j : Job) : State :=
  s.withKey t j 0 (fun s r key =>
    let x := j.block 0
    let ivn := if x.ivPolicy = 1 then ivLen x.mode r.alg else 0
    if j.input.length < j.aadLen + ivn then s.answer j (fail Status.invalidInput)
    else s.sealWith t j 0 x r.alg key (sub j.aadLen ivn j.input) (j.input.take j.aadLen) (j.input.drop (j.aadLen + ivn))
      (j.firstPass.map (fun p => (sub j.aadLen ivn p, p.take j.aadLen, p.drop (j.aadLen + ivn)))))

/-- R163 SYM_ENCRYPT -/
def execSymEncrypt (t : Nat) (s : State) : Host.Outcome State Fault Refusal := .next (s.onTile t Op.symEncrypt (State.symEncrypt t))

/-- R163: SYM_DECRYPT. -/
def State.symDecrypt (t : Nat) (s : State) (j : Job) : State :=
  s.withKey t j 0 (fun s r key =>
    match (j.block 0).openIt r.alg key j.aadLen j.dun j.input with
    | .bad st => s.answer j (fail st)
    | .ok pt => s.answer j (okOut pt))

/-- R163 SYM_DECRYPT -/
def execSymDecrypt (t : Nat) (s : State) : Host.Outcome State Fault Refusal := .next (s.onTile t Op.symDecrypt (State.symDecrypt t))

/-- R163: SYM_REENCRYPT: the plaintext never leaves the tile. -/
def State.symReencrypt (t : Nat) (s : State) (j : Job) : State :=
  s.withKey t j 0 (fun s r key =>
    let opened (m : Bytes) : Ciphered := (j.block 0).openIt r.alg key j.aadLen j.dun m
    match opened j.input, j.firstPass.map opened with
    | .bad st, _ => s.answer j (fail st)
    | .ok _, some (.bad st) => s.answer j (fail st)
    | .ok pt, some (.ok pt1) => s.withKey t j 1 (fun s r1 key1 => s.sealWith t j 1 (j.block 1) r1.alg key1 [] (j.input.take j.aadLen) pt
        (some ([], (j.firstPass.getD []).take j.aadLen, pt1)))
    | .ok pt, none => s.withKey t j 1 (fun s r1 key1 => s.sealWith t j 1 (j.block 1) r1.alg key1 [] (j.input.take j.aadLen) pt))

/-- R163 SYM_REENCRYPT -/
def execSymReencrypt (t : Nat) (s : State) : Host.Outcome State Fault Refusal :=
  .next (s.onTile t Op.symReencrypt (State.symReencrypt t))

/-! ### MACs and hashes (R163, R175) -/

/-- R155, R163: the MAC of a message, TAG_LEN bytes; none when its length breaks R166. -/
def SymBlock.mac (x : SymBlock) (alg : Nat) (key m : Bytes) : Option Bytes :=
  let n := blockLen alg
  if x.mode = 0x20 then some ((hmacOf x.hashAlg key m).take x.tagLen)
  else if x.mode = 0x10 then some ((cmacOf alg key m).take x.tagLen)
  else if x.pad = 0 ∧ m.length % n ≠ 0 then none
  else
    let p := padMsg x.pad n m
    some ((if x.mode = 0x12 then macAlg3 key p else cbcLast alg key p).take x.tagLen)

/-- R163: MAC_GENERATE. -/
def State.macGenerate (t : Nat) (s : State) (j : Job) : State :=
  s.withKey t j 0 (fun s r key =>
    match (j.block 0).mac r.alg key j.input with
    | none => s.answer j (fail Status.invalidInput)
    | some m => s.answer j (okOut m))

/-- R163 MAC_GENERATE -/
def execMacGenerate (t : Nat) (s : State) : Host.Outcome State Fault Refusal := .next (s.onTile t Op.macGenerate (State.macGenerate t))

/-- R163: MAC_VERIFY. -/
def State.macVerify (t : Nat) (s : State) (j : Job) : State :=
  s.withKey t j 0 (fun s r key =>
    let n := (j.block 0).tagLen
    if j.input.length < n then s.answer j (fail Status.invalidInput)
    else
      let m := j.input.take (j.input.length - n)
      match (j.block 0).mac r.alg key m with
      | none => s.answer j (fail Status.invalidInput)
      | some tag => s.answer j (if tag = j.input.drop m.length then {} else fail Status.authFail))

/-- R163 MAC_VERIFY -/
def execMacVerify (t : Nat) (s : State) : Host.Outcome State Fault Refusal := .next (s.onTile t Op.macVerify (State.macVerify t))

/-- R180: the limit of a hash's message length in bits; TOTAL_BITS itself holds 128 bits. -/
def hashLimit (alg : Nat) : Nat := if alg = 0x01 ∨ alg = 0x02 then 2 ^ 64 else 2 ^ 128

/-- R175: a state block. -/
def hashBlockBytes (alg total : Nat) (st buf : Bytes) : Bytes :=
  leBytes 1 alg ++ [0x01] ++ leBytes 2 buf.length ++ zeros 4 ++ leBytes 16 total ++ fixLen 200 st ++ fixLen 168 buf ++ zeros 120

/-- R166, R175: a state block a HASH_ALG can continue from. -/
def hashBlockOk (alg : Nat) (b : Bytes) : Bool :=
  byteAt 0 b == alg && byteAt 1 b == 1 && decide (leAt 2 2 b < hashBlock alg) && zeroAt 4 4 b && zeroAt 392 120 b

/-- R163, R175: HASH: the result of a part. -/
def hashJob (alg part xof n : Nat) (inp : Bytes) : Result :=
  if 3 < part ∨ (xof ≠ 0 ∧ !isShake alg) ∨ 65536 < xof then fail Status.invalidInput
  else
    let later := part = 2 ∨ part = 3
    if later ∧ (inp.length < 512 ∨ !hashBlockOk alg inp) then fail Status.invalidInput
    else
      let total := if later then leAt 8 16 inp else 0
      let st := if later then sub 24 (hashState alg) inp else fixLen (hashState alg) (Config.hashInit alg)
      let buf := if later then sub 224 (leAt 2 2 inp) inp else []
      let m := if later then inp.drop 512 else inp
      let bits := total + 8 * m.length
      if hashLimit alg ≤ bits then fail Status.invalidInput
      else
        let (st', buf') := absorbAll alg st (buf ++ m)
        if part = 1 ∨ part = 2 then okOut (hashBlockBytes alg bits st' buf')
        else okOut (fixLen n (Config.hashFinish alg st' buf' bits n))

/-- R175: HASH. -/
def State.hash (s : State) (j : Job) : State :=
  s.answer j (hashJob (j.block 0).hashAlg j.hashPart j.xofLen j.hashLen j.input)

/-- R175 HASH -/
def execHash (t : Nat) (s : State) : Host.Outcome State Fault Refusal := .next (s.onTile t Op.hash State.hash)

/-! ### PARITY_ERROR (R178, R212) -/

/-- R178, R184, R212: an engine of a tile finds a parity or memory error: the job ends with ENGINE_FAULT, the tile is quarantined and the
cipher-engine parity source fires. Engine 0 stands for a single-bit error of operand memory, which is corrected, counted and logged: DESIGN
CHOICE (notes/assumptions/79.md); the record's code is PRESUMED (notes/assumptions/41.md). -/
def State.parityError (s : State) (t engine lane : Nat) : State :=
  match s.tile? t with
  | none => s
  | some x =>
    if x.state = 4 ∨ x.state = 6 ∨ s.power.mode ≠ .serving then s
    else if engine = 0 then
      (s.modTile t (fun x => { x with corrected := x.corrected + 1 })).devEvent 3 0x0402 t (leBytes 1 t)
    else
      let dt := engine % 256 + 256 * (lane % 256)
      ((s.endRunning t (fail Status.engineFault dt)).quarantine t).fire 10 t dt

/-- R178 PARITY_ERROR -/
def execParityError (t engine lane : Nat) (s : State) : Host.Outcome State Fault Refusal := .next (s.parityError t engine lane)

end Sys2Proof.Machine
end

