-- ==== Sys2Proof/Machine/Streams.lean ====
section
/-! DEFINITION. What a streaming job reads and writes as it streams (R76, R77, R99, R112, R155, R173, R174, R176): its READs, its input as
it arrives and is opened in line, and the output it has produced. -/

namespace Sys2Proof.Machine

/-- R111: TOTAL_LEN: input bytes of the whole job, a chain's among them. -/
def Job.totalLen (j : Job) : Nat := if j.desc.chainWait then j.input.length else j.inTotal

/-! ### Engines (R155) -/

/-- R155: the engine that runs a job of the 0x1000 family. -/
inductive Engine where
  | bulk | shortBlock | hash
  deriving DecidableEq, Repr

/-- R155: the engine of a MODE, the ALG of its key and an input length. -/
def engineOf (mode alg len : Nat) : Engine :=
  if mode = 0x20 ∨ mode = 0x30 then .hash
  else if mode = 0x11 ∨ mode = 0x12 then .shortBlock
  else if (mode = 0x01 ∨ mode = 0x02 ∨ mode = 0x10) ∧ (!isAes alg ∨ len ≤ 256) then .shortBlock
  else .bulk

/-- R155: the engine that runs a job under its block 0. -/
def Job.engine (j : Job) : Engine := engineOf (j.block 0).mode (((j.rec? 0).map (fun r => r.alg)).getD 0) j.inTotal

/-- R173, R176: the jobs that write their output as they stream: those of the bulk engine with an output of the input's length. A
short-block job does not (R155). -/
def Job.streamsOut (j : Job) : Bool :=
  j.streamed && !j.chained && (j.desc.opcode == Op.objSeal || j.desc.opcode == Op.objOpen ||
    ([Op.symEncrypt, Op.symDecrypt, Op.symReencrypt].contains j.desc.opcode && j.engine == .bulk))

/-- R174: AES-GCM-SIV encryption, which reads its input twice. -/
def Job.readsTwice (j : Job) : Bool :=
  (j.desc.opcode == Op.symEncrypt && (j.block 0).mode == 0x05) ||
  (j.desc.opcode == Op.symReencrypt && (j.block 1).mode == 0x05) || (j.desc.opcode == Op.objSeal && j.par 0 1 == 0x05)

/-! ### The order of chain appends (R263) -/

/-- R263: order of a job's key token for KEY0. -/
def Job.tokenOrder (j : Job) : Nat := ((j.keys.find? (fun k => k.slot == 0)).map (fun k => k.seq)).getD 0

/-- R263: job `k` appends to the head that append `j` names, and its key token came first. One that has failed changes no head. -/
def Job.appendsBefore (j k : Job) : Bool :=
  k.id ≠ j.id && k.desc.opcode == Op.chainAppend && j.desc.opcode == Op.chainAppend && k.handle 0 == j.handle 0 &&
    k.keys.any (fun x => x.slot == 0) && decide (k.tokenOrder < j.tokenOrder) && k.err.isNone

/-! ### Input as it arrives -/

/-- R173: an outstanding payload READ of a job. -/
def Job.ownRead (j : Job) (r : Req) : Bool := r.kind == ReqKind.readPayload && r.idx == j.idx

/-- R173: the READs of a job that have not ended. -/
def State.readsOf (s : State) (j : Job) : Nat :=
  ((s.qp? j.queue).map (fun q => countOf j.ownRead (q.reqs ++ q.waitReads))).getD 0

/-- R173: the transport reads the input in order, in READs of at most 64 KiB, with up to four outstanding. -/
def State.readAhead (s : State) (id : JobId) : Nat → State
  | 0 => s
  | n + 1 =>
    match s.job? id with
    | none => s
    | some j =>
      if j.desc.inLen ≤ j.readTo ∨ 4 ≤ s.readsOf j then s
      else
        let len := min 65536 (j.desc.inLen - j.readTo)
        let s := s.issue j.queue .readPayload (j.desc.inAddr + j.readTo) j.desc.inRkey len [] 0 j.idx
        (s.modJob id (fun k => { k with readTo := k.readTo + len })).readAhead id n

/-- R42, R173: READs of a job whose bytes have all arrived end, and the next are issued. `got` counts the bytes of the extent. -/
def State.readsEnd (s : State) (id : JobId) (got : Nat) : Nat → State
  | 0 => s.readAhead id 4
  | n + 1 =>
    match s.job? id with
    | none => s
    | some j => (s.readDone j.queue (fun r => j.ownRead r && decide (r.addr + r.len ≤ j.desc.inAddr + got))).readsEnd id got n

/-- R76: the plaintext of the first bytes of a sealed input extent, opened in line before its tag is known. -/
def SealRef.openPrefix (k : SealRef) (q : Nat) (ct : Bytes) : Bytes :=
  xorBytes ct (aeadStream 0x04 k.toDevice (sealNonce k.seq q 0x02) ct.length)

/-- R76: the tag of a whole sealed input extent verifies. -/
def SealRef.tagOk (k : SealRef) (q : Nat) (raw : Bytes) : Bool :=
  let n := raw.length - 16
  (aeadOpen 0x04 k.toDevice (sealNonce k.seq q 0x02) [] (raw.take n) (raw.drop n)).isSome

/-- What part of its extent a job takes from `data`: the bytes of the extent so far, and the input they hold. -/
def Job.absorb (j : Job) (data : Bytes) : Bytes × Bytes :=
  let raw := j.raw ++ data.take (j.desc.inLen - j.raw.length)
  match j.sealing with
  | none => (raw, raw)
  | some k => (raw, k.openPrefix j.queue (raw.take j.inTotal))

/-- R77: the tag of a job's sealed extent fails once all of it has arrived. -/
def Job.tagBad (j : Job) (raw : Bytes) : Bool :=
  raw.length == j.desc.inLen && !j.desc.inline && (match j.sealing with | some k => !k.tagOk j.queue raw | none => false)

/-! ### Output as it is produced (R173) -/

/-- A length rounded down to whole units. -/
def wholeUnits (u n : Nat) : Nat := n / u * u

/-- R163, R173: the plaintext that the first bytes `m` of an input of `total` bytes give. -/
def SymBlock.openPrefix (x : SymBlock) (alg : Nat) (key : Bytes) (aadLen dun total : Nat) (m : Bytes) : Bytes :=
  let n := blockLen alg
  let ivn := ivLen x.mode alg
  let iv := sub aadLen ivn m
  let all := total - aadLen - ivn - x.tagOut
  let ct := (m.drop (aadLen + ivn)).take all
  let whole (u : Nat) : Bytes := if ct.length = all then ct else ct.take (wholeUnits u ct.length)
  if x.mode = 0x06 then xtsRun false x alg key dun (whole (2 ^ x.duLog2))
  else if x.mode = 0x05 then xorBytes ct []
  else if isAead x.mode then xorBytes (whole 16) (aeadStream x.mode key iv (whole 16).length)
  else if x.mode = 0x03 then ctrCrypt alg key iv 0 (blocks 16 (whole 16))
  else if x.mode = 0x02 then cbcDec alg key iv (blocks n (whole n))
  else (blocks n (whole n)).flatMap (decBlock alg key)

/-- R163, R173, R174: the IV and the ciphertext that the first bytes of a plaintext of `total` bytes give; GCM-SIV gives none before
the tag of its first pass is known. -/
def SymBlock.sealPrefix (x : SymBlock) (alg : Nat) (key iv : Bytes) (dun total : Nat) (pt : Bytes) (tag1 : Option Bytes) : Bytes :=
  let n := blockLen alg
  let whole (u : Nat) : Bytes := pt.take (wholeUnits u (if pt.length = total then pt.length - 1 else pt.length))
  if x.mode = 0x06 then (if pt.length = total then xtsRun true x alg key dun pt else xtsRun true x alg key dun (whole (2 ^ x.duLog2)))
  else if x.mode = 0x05 then (match tag1 with | none => [] | some tag => iv ++ xorBytes pt (sivStream key iv tag pt.length))
  else if x.pad = 3 then []
  else if isAead x.mode then iv ++ xorBytes pt (aeadStream x.mode key iv pt.length)
  else if x.mode = 0x03 then iv ++ ctrCrypt alg key iv 0 (blocks 16 (whole 16))
  else if x.mode = 0x02 then iv ++ cbcEnc alg key iv (blocks n (whole n))
  else (blocks n (whole n)).flatMap (encBlock alg key)

/-- R163, R168: the IV a block's policy gives a job, from its counter or from the host. -/
def State.ivOf (s : State) (t : Nat) (j : Job) (x : SymBlock) (alg : Nat) (key hostIv : Bytes) : Option Bytes :=
  if x.ivPolicy = 0 then j.counter.map (fun n =>
    let iv12 := s.leasedIv j.part t n
    if x.mode = 0x02 then encBlock alg key (iv12 ++ zeros 4) else iv12)
  else some hostIv

/-- R163, R173, R251: the output a job has produced from the input that has arrived, before any tag. -/
def State.produced (s : State) (t : Nat) (j : Job) : Bytes :=
  let m (k : Nat) : Bytes := (s.keyMat t j k).getD []
  let a (k : Nat) : Nat := ((j.rec? k).map (fun r => r.alg)).getD 0
  let b0 := j.block 0
  let total := j.totalLen
  if j.desc.opcode = Op.symDecrypt then b0.openPrefix (a 0) (m 0) j.aadLen j.dun total j.input
  else if j.desc.opcode = Op.symEncrypt then
    let ivn := if b0.ivPolicy = 1 then ivLen b0.mode (a 0) else 0
    match s.ivOf t j b0 (a 0) (m 0) (sub j.aadLen ivn j.input) with
    | none => []
    | some iv => b0.sealPrefix (a 0) (m 0) iv j.dun (total - j.aadLen - ivn) (j.input.drop (j.aadLen + ivn))
        (b0.firstTag (m 0) iv (j.firstPass.map (fun p => (sub j.aadLen ivn p, p.take j.aadLen, p.drop (j.aadLen + ivn)))))
  else if j.desc.opcode = Op.symReencrypt then
    let b1 := j.block 1
    match s.ivOf t j b1 (a 1) (m 1) [] with
    | none => []
    | some iv => b1.sealPrefix (a 1) (m 1) iv j.dun (total - j.aadLen - ivLen b0.mode (a 0) - b0.tagOut)
        (b0.openPrefix (a 0) (m 0) j.aadLen j.dun total j.input)
        (b1.firstTag (m 1) iv (j.firstPass.map (fun p => ([], p.take j.aadLen, b0.openPrefix (a 0) (m 0) j.aadLen j.dun total p))))
  else if j.desc.opcode = Op.objSeal then
    let key := j.entropy.take 32
    let iv := sub 32 12 j.entropy
    match j.made, j.firstPass with
    | none, _ => []
    | some (h, _, _), some p => xorBytes j.input (sivStream key iv (sivTag key iv (sealHead h 0x05) p) j.input.length)
    | some _, none => if j.par 0 1 = 0x05 then [] else xorBytes j.input (aeadStream (j.par 0 1) key iv j.input.length)
  else if j.desc.opcode = Op.objOpen then
    let ct := j.input.drop 128
    if byteAt 8 j.input = 0x05 then []
    else xorBytes ct (aeadStream (byteAt 8 j.input) (m 4) (sub 12 12 j.input) ct.length)
  else []

/-- R76: the bytes of an output's beginning as they are written: sealed on a sealed queue, without the tag. -/
def Job.sealPrefix (j : Job) (out : Bytes) : Bytes :=
  match j.sealing with
  | none => out
  | some k => xorBytes out (aeadStream 0x04 k.toHost (sealNonce k.seq j.queue 0x82) out.length)

/-- R173: what a streaming job on a tile has newly produced is written. -/
def State.writeProduced (s : State) (t : Nat) (j : Job) : State :=
  let out := s.produced t j
  let fresh := (j.sealPrefix out).drop j.outWritten
  if fresh = [] then s
  else (s.writeRuns j.queue (j.desc.outAddr + j.outWritten) j.desc.outRkey (blocks 65536 fresh)).modJob j.id
    (fun k => { k with outWritten := out.length })

/-- R166, R173: the lengths and keys that R166 judges before any output: a text of `n` bytes under a block. -/
def SymBlock.fits (x : SymBlock) (alg : Nat) (key : Bytes) (n : Nat) (seals : Bool) : Bool :=
  let h := matLen alg key.length / 2
  let u := 2 ^ x.duLog2
  if x.mode = 0x06 then decide (16 ≤ n) && (n % u == 0 || decide (16 ≤ n % u)) && key.take h ≠ key.drop h
  else if x.mode = 0x01 ∨ x.mode = 0x02 then (seals && x.pad ≠ 0) || n % blockLen alg == 0
  else true

/-- R166: no INVALID_INPUT stands against a streaming job, so that it may write as it streams. -/
def State.streamable (s : State) (t : Nat) (j : Job) : Bool :=
  let m (k : Nat) : Option Bytes := s.keyMat t j k
  let a (k : Nat) : Nat := ((j.rec? k).map (fun r => r.alg)).getD 0
  let b0 := j.block 0
  let total := j.totalLen
  let opens := decide (j.aadLen + ivLen b0.mode (a 0) + b0.tagOut ≤ total) && b0.fits (a 0) ((m 0).getD []) (b0.ptLen (a 0) j.aadLen total) false
  if j.desc.opcode = Op.symDecrypt then (m 0).isSome && opens
  else if j.desc.opcode = Op.symEncrypt then
    let ivn := if b0.ivPolicy = 1 then ivLen b0.mode (a 0) else 0
    (m 0).isSome && decide (j.aadLen + ivn ≤ total) && b0.fits (a 0) ((m 0).getD []) (total - j.aadLen - ivn) true
  else if j.desc.opcode = Op.symReencrypt then
    (m 0).isSome && (m 1).isSome && opens && (j.block 1).fits (a 1) ((m 1).getD []) (b0.ptLen (a 0) j.aadLen total) true
  else if j.desc.opcode = Op.objOpen then (m 4).isSome && sealRecordOk (j.input.take 128) && total == 128 + leAt 40 8 j.input
  else (m 0).isSome

/-- R251: the record of an OBJ_SEAL's object key is made, and its slot reserved, before any encryption. -/
def State.makeObjKey (s : State) (j : Job) (r : KeyRec) : State :=
  let k : NewKey := { alg := 0x02, usage := 2, attr := 6, domain := r.domain, parent := hIndex (j.key 0), len := 32, mat := j.entropy.take 32 }
  match s.makeRec j.part k with
  | .wait => s
  | .bad st dt => (if st = Status.quotaExceeded then s.notice Reg.kstNotice 5 else s).answer j (fail st dt)
  | .ok h page rec s => s.modJob j.id (fun x => { x with made := some (h, page, rec), reserved := some (page, rec.slot, rec.cls) })

/-! ### The payload token (R99, R100, R112) -/

/-- R99, R100, R112: the payload token: the whole input of a management job, or for a tile's job up to 1 KiB of it, the rest following as
continuation packets. A sealed extent's tag is known once all of it has arrived. -/
def State.payloadToken (s : State) (id : JobId) (data : Bytes) : State :=
  match s.job? id with
  | none => s
  | some j =>
    if !j.wants .payload then s
    else
      let whole := j.desc.isMgmt || decide (j.inTotal ≤ 1024)
      let n := if whole then j.desc.inLen else 1024
      let (raw, inp) := j.absorb (fixLen n data)
      let s := (s.modJob id (fun k => { k with raw := raw })).readsEnd id raw.length 4
      if j.tagBad raw then s.payloadSealFail id
      else s.deliver id .payload (fun k => { k with input := inp.take j.inTotal, raw := raw, streams := !whole, streamed := !whole })

/-- R99 PAYLOAD_TOKEN_ARRIVAL -/
def execPayloadTokenArrival (q i : Nat) (data : Bytes) (s : State) : Host.Outcome State Fault Refusal :=
  .next (s.payloadToken (q, BitVec.ofNat 32 i) data)

end Sys2Proof.Machine
end

