-- ==== Sys2Proof/Machine/Dispatching.lean ====
section
/-! DEFINITION. From the ready queue through the hod to a job's end (R105 to R113, R335 to R337, R339): placement, packets,
continuation packets, the start and the end of a job. -/

namespace Sys2Proof.Machine

/-! ### Packets (R110 to R112) -/

/-- Bytes padded to whole 256-bit words. -/
def padWords (b : Bytes) : Bytes := fixLen (32 * ceilDiv b.length 32) b

/-- R123: a record's slots. -/
def recBytes (r : KeyRec) : Bytes := recHeader r ++ r.body

/-- R111, R157: the operand pieces of a job packet, in order, with their slot kind and, for a key reference, its entry in the tile's
key cache: wrapped records (with their ancestors), key references, the payload or chain input, the random bits. -/
def Job.pieces (j : Job) (cache : List KeyCacheEntry) : List (Nat × Nat × Bytes) :=
  let entryOf (k : KeyTok) : Nat := ((cache.find? (fun e => e.handle == k.handle && e.ver == k.ver)).map (fun e => e.entry)).getD 0
  j.keys.map (fun k => if k.tile.isSome then (3, entryOf k, []) else (4, 0, recBytes k.kr ++ k.chain.flatMap (fun e => recBytes e.2))) ++
  (if j.input = [] then [] else [(if j.desc.chainWait then 2 else 1, 0, padWords j.input)]) ++
  (if j.entropy = [] then [] else [(5, 0, padWords j.entropy)])

/-- R111: operand words a first packet can take. -/
def Job.packetCap (j : Job) : Nat := if j.ctx.isSome then 28 else 30

/-- All operand bytes of a job that are held. -/
def Job.operandBytes (j : Job) : Bytes := (j.pieces []).flatMap (fun p => p.2.2)

/-- R111: words of the job's first packet, its header among them. -/
def Job.firstWords (j : Job) : Nat := (if j.ctx.isSome then 4 else 2) + min j.packetCap (j.operandBytes.length / 32)

/-- R111: the slot descriptors of a packet: each piece's kind, first word and word count as far as the packet holds it. -/
def slotDescs (cap : Nat) : Nat → List (Nat × Nat × Bytes) → List Nat
  | _, [] => []
  | w, (k, e, b) :: rest =>
    let n := min (b.length / 32) (cap - w)
    (k + 16 * (w % 32) + 512 * n + (if k = 3 then 2 ^ 14 * (e % 64) else 0)) :: slotDescs cap (w + n) rest

/-- R111: a packet's header word. -/
def packetHeader (kind : Nat) (final : Bool) (error : Bool) (j : Job) (words : Nat) (slots : List Nat) : Bytes :=
  let g := (j.ctx.map (fun c => c.gen)).getD 0
  leBytes 2 (kind + 4 * b2n final + 8 * b2n error + 16 * (j.entry.getD 0)) ++ leBytes 1 j.part ++ leBytes 2 j.desc.opcode ++
    leBytes 3 (j.desc.ctxId % 2 ^ 22) ++ leBytes 4 g ++ leBytes 1 words ++ leBytes 2 j.queue ++ zeros 1 ++ leBytes 4 j.totalLen ++
    fixLen 12 (slots.flatMap (leBytes 3))

/-- R111: the job block of word 1. -/
def jobBlock (j : Job) : Bytes := fixLen 16 j.desc.param ++ leBytes 4 j.desc.outLen ++ [j.desc.flags] ++ zeros 11

/-- R111: words 2 and 3 of a job that uses a context. -/
def ctxBlock (j : Job) : Bytes :=
  match j.ctx with
  | none => []
  | some c => fixLen 56 c.params ++ leBytes 1 c.order ++ zeros 7

/-- R111: a job's first packet, for a tile with this key cache. -/
def Job.packet (j : Job) (streams : Bool) (cache : List KeyCacheEntry) : Packet :=
  let base := if j.ctx.isSome then 4 else 2
  let words := j.firstWords - 1
  let hdr := packetHeader 0 (!streams) false j words (slotDescs (base + j.packetCap) base (j.pieces cache))
  { kind := 0, queue := j.queue, idx := j.idx, words := j.firstWords, final := !streams, error := none,
    data := hdr ++ jobBlock j ++ ctxBlock j ++ j.operandBytes.take (32 * j.packetCap) }

/-- R111, R112: a continuation packet with operand bytes. -/
def Job.contPacket (j : Job) (final : Bool) (body : Bytes) : Packet :=
  let words := 1 + ceilDiv body.length 32
  { kind := 1, queue := j.queue, idx := j.idx, words := words, final := final, error := none,
    data := packetHeader 1 final false j (words - 1) [] ++ padWords body }

/-- R111: a continuation packet with ERROR: the word after the header holds STATUS. -/
def Job.errorPacket (j : Job) (status : Nat) : Packet :=
  { kind := 1, queue := j.queue, idx := j.idx, words := 2, final := true, error := some status,
    data := packetHeader 1 true true j 1 [] ++ leBytes 2 status ++ zeros 30 }

/-- R110: the packet counter: job packets in the hod. -/
def Tile.packets (t : Tile) : Nat := countOf (fun p => p.kind == 0) t.hod

/-! ### Eligibility (R105, R106, R335 to R337) -/

/-- R199: engine cycles of the long-integer operations whose count the spec gives, by opcode and ALG. -/
def cycleTable : List (Nat × Nat) :=
  [(0x2001 * 256 + 0x20, 32000), (0x2002 * 256 + 0x28, 64000), (0x2005 * 256 + 0x20, 30400), (0x2001 * 256 + 0x21, 85330),
   (0x2002 * 256 + 0x29, 170700), (0x2001 * 256 + 0x22, 196000), (0x2001 * 256 + 0x30, 25600), (0x2002 * 256 + 0x38, 51200),
   (0x2006 * 256 + 0x49, 30000), (0x2007 * 256 + 0x41, 38400), (0x2002 * 256 + 0x59, 64000), (0x2002 * 256 + 0x5A, 96000)]

/-- R193, R250: the opcodes that sign with KEY0. -/
def signOps : List Nat := [Op.pkSign, Op.custodySign, Op.manifestSign, Op.timestamp, Op.chainAppend]

/-- R199: the cycle count the table gives an operation, by opcode, algorithm, and key length in bits. -/
def tableCycles (op a len : Nat) : Option Nat :=
  let op := if signOps.contains op then Op.pkSign else op
  if a = 0x10 ∧ (op = Op.pkSign ∨ op = Op.pkDecrypt) then alook len [(2048, 213300), (4096, 1477400), (8192, 11200000)]
  else if a = 0x11 ∧ (op = Op.pkVerify ∨ op = Op.pkEncrypt) then alook len [(2048, 16000), (4096, 56000)]
  else alook (op * 256 + a) cycleTable

/-- R198, R199: the fixed cycle count of a job: what the table gives, else a value of the implementation (`Config.jobCycles`). -/
def Job.cycles (j : Job) : Nat :=
  let k := j.keys.find? (fun k => k.slot == 0)
  let a := (k.map (fun k => k.kr.alg)).getD 0
  let len := (k.map (fun k => k.kr.len)).getD 0
  (tableCycles j.desc.opcode a len).getD (Config.jobCycles j.desc.opcode a len j.totalLen j.desc.outLen)

/-- R200: the cycles of the windows that open within the first `n` cycles of a job on a tile. -/
def TileRec.windows (r : TileRec) (n : Nat) : Nat :=
  r.yieldLen * countOf (fun k => r.yieldMask.getLsbD (k % 16)) (List.range ((n - 1) / 16384))

/-- R202: ML-DSA signing. -/
def Job.mlDsaSign (j : Job) : Bool :=
  signOps.contains j.desc.opcode && j.keys.any (fun k => decide (0x50 ≤ k.kr.alg) && decide (k.kr.alg ≤ 0x52))

/-- R112: the job does not fit its first packet. -/
def Job.overflows (j : Job) : Bool := j.streams || decide (32 * j.packetCap < j.operandBytes.length)

/-- R335: slots of partition `p` from slot `i` on without a break, at most 16. -/
def runOfSlots (slots : List Nat) (p : Nat) : Nat → Nat → Nat
  | 0, _ => 0
  | n + 1, i => if slots.getD (i % 16) 256 = p then 1 + runOfSlots slots p n (i + 1) else 0

/-- R200, R202: the cycles a job takes on a tile, the windows of a long-integer job among them. -/
def TileRec.jobCycles (r : TileRec) (j : Job) : Nat := j.cycles + (if longOps.contains j.desc.opcode then r.windows j.cycles else 0)

/-- R335: slot `i` of a shared tile begins a run. -/
def startsRun (slots : List Nat) (i : Nat) : Bool := slots.getD (i % 16) 256 ≠ slots.getD ((i + 15) % 16) 256

/-- R335, R336: cycles from the start of slot `i` to the end of its run that a job can use: a run that follows another partition's
begins with its wipe of 512. -/
def runCycles (r : TileRec) (p i : Nat) : Nat :=
  runOfSlots r.slots p 16 i * r.slotLen * 16384 - (if startsRun r.slots i then 512 else 0)

/-- R335: a shared tile whose slots all belong to one partition: its one run never ends. -/
def TileRec.endless (r : TileRec) (p : Nat) : Bool := (List.range 16).all (fun i => r.slots.getD i 256 == p)

/-- R336: a tile of the table could ever hold the job. -/
def TileRec.couldHold (r : TileRec) (j : Job) : Bool :=
  (r.kind == 0 && r.owner == j.part) ||
  (r.kind == 1 && !j.overflows && !j.mlDsaSign && (r.endless j.part ||
    (List.range 16).any (fun i => startsRun r.slots i && decide (r.jobCycles j ≤ runCycles r j.part i))))

/-- R336: why no tile of the job's partition in its home course could ever hold it. -/
def State.neverPlaced (s : State) (j : Job) : Option Nat :=
  let rs := (List.range 8).map (fun k => s.tileRec (8 * j.course + k))
  if !rs.any (fun r => r.holds j.part) then some 0x13
  else if rs.any (fun r => r.couldHold j) then none
  else if j.mlDsaSign then some 0x10
  else if j.overflows then some 0x11
  else some 0x12

/-- R335: the cycles a tile's clock has counted since a mono time. -/
def State.cyclesSince (s : State) (x : Tile) (t : Nat) : Nat := (s.clock.mono - t) * x.freq / 1000

/-- R336: the cycles that remain to what a tile runs and holds in its hod. -/
def State.backlogCycles (s : State) (x : Tile) : Nat :=
  let r := s.tileRec x.num
  let left (id : JobId) : Nat := ((s.job? id).map r.jobCycles).getD 0
  sumOf (fun p => if p.kind = 0 then left (p.queue, p.idx) else 0) (x.hod ++ x.coming) +
    (match x.job with | some id => left id - s.cyclesSince x x.jobAt | none => 0) + (match x.held with | some id => left id | none => 0)

/-- R202, R336: a job placed now on a shared tile ends before the current run of partition `p` does. -/
def State.fitsRun (s : State) (x : Tile) (p : Nat) (j : Job) : Bool :=
  let r := s.tileRec x.num
  r.endless p || decide (s.cyclesSince x x.slotAt + s.backlogCycles x + r.jobCycles j ≤ runCycles r p x.slotNow)

/-- R105, R335, R336: a tile serves the job's partition now by the table. -/
def State.servesNow (s : State) (t : Tile) (j : Job) : Bool :=
  let r := s.tileRec t.num
  t.borrower.isNone && ((r.kind == 0 && r.owner == j.part) ||
    (r.kind == 1 && r.slots.getD t.slotNow 256 == j.part && !j.overflows && !j.mlDsaSign && s.fitsRun t j.part j))

/-- R333: a tile that a running live restart changes. -/
def State.changing (s : State) (t : Nat) : Bool :=
  match s.tabs.restart with
  | some r => r.changed.contains t
  | none => false

/-- R105: eligible apart from hod space. -/
def State.eligible (s : State) (t : Tile) (j : Job) : Bool :=
  courseOf t.num == j.course && t.state == 0 && !s.changing t.num && s.servesNow t j

/-- R337: the owner of a tile, or of its run now, has no ready job that could go there. -/
def State.ownerIdle (s : State) (t : Tile) : Bool :=
  !s.jobs.any (fun k => k.phase == .ready && s.eligible t k)

/-- R337: an idle tile or run lent to another partition of the course, in EFFICIENT mode. -/
def State.lendable (s : State) (t : Tile) (j : Job) : Bool :=
  !s.tabs.table.strict && courseOf t.num == j.course && t.state == 0 && !s.changing t.num && t.hod.isEmpty && t.job.isNone &&
  t.borrower.isNone && !j.overflows && !j.mlDsaSign && !s.servesNow t j && s.ownerIdle t &&
  (let r := s.tileRec t.num
   r.kind == 0 || (r.kind == 1 && s.fitsRun t (r.slots.getD t.slotNow 256) j))

/-- R110: the hod has room for the job's first packet, beside what is on its way. -/
def Tile.room (t : Tile) (j : Job) : Bool := decide (t.taken + j.firstWords ≤ 32)

/-- R263: an append enters a hod only after those to the same head whose key tokens came first. -/
def State.appendHeld (s : State) (j : Job) : Bool :=
  s.jobs.any (fun k => j.appendsBefore k && (k.phase == .waiting || k.phase == .ready))

/-- R105 to R107, R263, R337: the tile a ready job goes to: the named one, else the eligible one with the fewest words, the lowest
position on a tie; else an idle tile lent to it. -/
def State.tileFor (s : State) (j : Job) : Option Tile :=
  if s.appendHeld j then none
  else
  let own := s.tiles.filter (fun t => s.eligible t j && t.room j && (match j.named with | some n => t.num == n | none => true))
  (minBy (fun t => t.level * 64 + t.num) own).or
    (if j.named.isSome then none else minBy (fun t => t.num) (s.tiles.filter (fun t => s.lendable t j && t.room j)))

/-- R106: references to a tile that became ineligible for another reason than hod space are dropped. A lease of a stateful key still
names its tile (R257). -/
def State.refreshRefs (s : State) (c : Nat) : State :=
  let lost (j : Job) : Bool := j.course == c && j.phase == .ready &&
    (match j.keys.findSome? (fun k => k.tile) with
     | none => false
     | some n => match s.tile? n with
       | none => true
       | some t => !s.eligible t j)
  { s with jobs := modWhere lost (fun j => { j with keys := j.keys.map (fun k => { k with tile := none }) }) s.jobs }

/-! ### JOB_PLACE -/

/-- R105, R112, R337: a job's first packet goes to a tile's hod. A tile lent to another partition is wiped first. -/
def State.place (s : State) (j : Job) (t : Tile) : State :=
  let streams := j.overflows
  let s := if s.servesNow t j then s else (s.wipeFor t.num j.part).modTile t.num (fun x => { x with borrower := some j.part })
  let s := s.modJob j.id (fun k => { k with phase := .inHod t.num, rest := j.operandBytes.drop (32 * j.packetCap), streams := streams })
  (s.sendPacket t.num 0 (j.packet streams t.cache)).msWatermark j.course

/-- The ready jobs of a course, oldest readiness first. -/
def State.readyJobs (s : State) (c : Nat) : List Job :=
  (s.jobs.filter (fun j => j.course == c && j.phase == .ready)).mergeSort (fun a b => decide (a.readySeq ≤ b.readySeq))

/-- R104, R107, R336: JOB_PLACE: the oldest ready job of a course that has an eligible tile enters its hod; one that no tile
could ever hold completes from the trowel. -/
def State.jobPlace (s : State) (c : Nat) : State :=
  if s.guard.freeze ∨ s.power.mode ≠ .serving then s
  else
    let s := s.refreshRefs c
    match (s.readyJobs c).findSome? (fun j => (s.neverPlaced j).map (fun d => (j, d))) with
    | some (j, d) => s.finish j.id { status := Status.attrDenied, detail := d }
    | none => match (s.readyJobs c).findSome? (fun j => (s.tileFor j).map (fun t => (j, t))) with
      | some (j, t) => s.place j t
      | none => s

/-- R107 JOB_PLACE -/
def execJobPlace (course : Nat) (s : State) : Host.Outcome State Fault Refusal := .next (s.jobPlace course)

/-! ### Continuation packets (R112) -/

/-- R67: a job's input comes from a host extent. -/
def Job.hasExtent (j : Job) : Bool := decide (0 < j.desc.inLen) && !j.desc.inline && !j.desc.chainWait

/-- R112: the job that streams on a tile. -/
def State.streamJob (s : State) (t : Nat) : Option Job :=
  s.jobs.find? (fun j => j.streams && (j.phase == .inHod t || j.phase == .running t))

/-- R112: the sequencer takes the continuation packets of the job it runs as they reach the bottom of its hod. -/
def State.takeBehind (s : State) (t : Nat) : State :=
  s.modTile t (fun x => match x.job with
    | some id => { x with hod := x.hod.dropWhile (fun p => p.kind == 1 && (p.queue, p.idx) == id) }
    | none => x)

/-- R99, R112: the input of a streaming job fails: a continuation packet with ERROR is its last, and the job ends with the status when
it runs. A tag that fails is counted (R77). -/
def State.streamFails (s : State) (t : Nat) (j : Job) (st : Nat) : State :=
  let s := if st = Status.sealFail then s.countSealFail j.queue else s
  let s := s.modJob j.id (fun k => { k with streams := false, rest := [], result := some { status := st } })
  (s.sendPacket t 1 (j.errorPacket st)).takeBehind t

/-- R168, R171, R251: what a streaming job needs before its first output: its counter, or the record of its object key. -/
def State.prepareStream (s : State) (t : Nat) (j : Job) : State :=
  let x := j.block (if j.desc.opcode = Op.symReencrypt then 1 else 0)
  if j.desc.opcode = Op.objSeal then
    (match j.made, j.rec? 0 with
     | none, some r => s.makeObjKey j r
     | _, _ => s)
  else if j.desc.opcode = Op.symDecrypt ∨ j.desc.opcode = Op.objOpen ∨ x.ivPolicy ≠ 0 ∨ j.counter.isSome ∨ s.pair.role = 3 then s
  else match s.takeCounter t j.part with
    | some (n, s) => s.modJob j.id (fun k => { k with counter := some n, awaits := none })
    | none => if s.spaceSpent t j.part then s else (s.askLease t j.part).modJob j.id (fun k => { k with awaits := some j.part })

/-- R173: a job that streams on a tile writes what it has newly produced. -/
def State.streamOutput (s : State) (t : Nat) (id : JobId) : State :=
  match s.job? id with
  | none => s
  | some j =>
    if j.phase ≠ .running t ∨ !j.streamsOut ∨ j.result.isSome ∨ !s.streamable t j then s
    else
      let s := s.prepareStream t j
      match s.job? id with
      | none => s
      | some j => if j.result.isSome then s else s.writeProduced t j

/-- R174: the first pass of a job that reads its input twice has ended, and its READs begin again. -/
def State.secondPass (s : State) (id : JobId) : State :=
  (s.modJob id (fun k => { k with firstPass := some k.input, input := [], raw := [], readTo := 0 })).readAhead id 4

/-- R112, R173: the next continuation packet of the job that streams on a tile: what the operand storage still holds, then `data` from
the transport, as far as one packet holds it; `error` is the failure a packet with ERROR carries. -/
def State.continuation (s : State) (t : Nat) (data : Bytes) (error : Option Nat) : State :=
  match s.streamJob t, s.tile? t with
  | some j, some x =>
    if s.guard.freeze ∨ !s.tileRuns x then s
    else match error with
    | some st => if 32 < x.taken + 2 then s else s.streamFails t j st
    | none =>
      let ext := j.hasExtent
      let (raw, inp) := if ext then j.absorb data else (j.raw, j.input)
      let all := j.rest ++ padWords (inp.drop j.input.length)
      let done := !ext || raw.length == j.desc.inLen
      let again := done && ext && j.readsTwice && j.firstPass.isNone
      let pk := j.contPacket (done && !again && decide (all.length ≤ 31 * 32)) (all.take (31 * 32))
      if 32 < x.taken + pk.words then s
      else if ext ∧ j.tagBad raw then s.streamFails t j Status.sealFail
      else
        let s := (s.modJob j.id (fun k => { k with raw := raw, input := inp, rest := all.drop (31 * 32), streams := !pk.final })).readsEnd
          j.id raw.length 4
        let s := (s.sendPacket t 1 pk).takeBehind t
        (if again then s.secondPass j.id else s).streamOutput t j.id
  | _, _ => s

/-- R112 CONTINUATION_PACKET -/
def execContinuationPacket (t : Nat) (data : Bytes) (error : Option Nat) (s : State) : Host.Outcome State Fault Refusal :=
  .next (s.continuation t data error)

/-! ### JOB_START and JOB_END (R100, R110, R339) -/

/-- R339, R344: a job's scratchpad accesses: outside the region, or on a FAILED scratchpad, the job ends. -/
def State.scratchFaults (s : State) (t : Nat) (j : Job) (acc : List ScratchAcc) : State :=
  let c := courseOf t
  match s.course? c with
  | none => s
  | some x =>
    if acc = [] then s
    else if x.scrState = 3 then s.modJob j.id (fun k => { k with result := some (fail Status.engineFault 0x0A) })
    else
      let (m, bad) := s.scratchRun j.part c acc (x.scratch, false)
      let s := (s.modCourse c (fun x => { x with scratch := m })).countConflicts t j.part acc
      if bad then
        let s := (s.endRunning t (fail Status.engineFault 0x09)).notice Reg.tilNotice 4
        s.quarantine t
      else s

/-- R201: whether the job at the bottom of a hod may run in a window that is open for another job of its partition: it needs neither
engine nor operand memory, and its cycle count fits in what remains of the window. -/
def State.fitsWindow (s : State) (x : Tile) (id : JobId) : Bool :=
  match s.job? id, x.job.bind s.job? with
  | some j, some k => x.window && x.held.isNone && j.part == k.part && !longOps.contains j.desc.opcode && !j.streams &&
      decide (s.cyclesSince x x.windowAt + j.cycles ≤ (s.tileRec x.num).yieldLen)
  | _, _ => false

/-- R201: in EFFICIENT mode a window closes at once when no job at the bottom of the hod may run in it. -/
def State.closeIdle (s : State) (t : Nat) : State :=
  if s.tabs.table.strict then s
  else s.modTile t (fun x =>
    let next := match x.hod with | p :: _ => p.kind == 0 && s.fitsWindow x (p.queue, p.idx) | [] => false
    if x.window ∧ x.held.isNone ∧ !next then { x with window := false } else x)

/-- R110, R201: the sequencer of a tile that is free, or in a window, takes the job packet at the bottom of its hod, with the
continuation packets behind it. -/
def State.jobStart (s : State) (t : Nat) (acc : List ScratchAcc) : State :=
  match s.tile? t with
  | none => s
  | some x =>
    match x.hod with
    | p :: rest =>
      let id : JobId := (p.queue, p.idx)
      if p.kind ≠ 0 ∨ !s.tileRuns x ∨ s.power.mode ≠ .serving ∨ (x.job.isSome ∧ !s.fitsWindow x id) then s
      else
        let behind := rest.dropWhile (fun k => k.kind == 1 && (k.queue, k.idx) == id)
        let s := s.modTile t (fun x =>
          if x.job.isSome then { x with hod := behind, held := x.job, job := some id }
          else { x with hod := behind, job := some id, yields := 0, window := false, jobAt := s.clock.mono })
        let s := (s.modJob id (fun k => { k with phase := .running t, tile := t })).flowTile t |>.takeBehind t
        match s.job? id with
        | none => s
        | some j => ((s.layPlan t j).scratchFaults t j acc).streamOutput t id
    | [] => s

/-- R110 JOB_START -/
def execJobStart (t : Nat) (acc : List ScratchAcc) (s : State) : Host.Outcome State Fault Refusal := .next (s.jobStart t acc)

/-- R335, R337: the partition a tile serves now by the table. -/
def State.ownerNow (s : State) (x : Tile) : Nat :=
  let r := s.tileRec x.num
  if r.kind = 1 then r.slots.getD x.slotNow 0 else r.owner

/-- R186, R337: what a tile leaves behind at a job's end: its slots are zeroed, a lent tile is wiped. -/
def State.leaveTile (s : State) (t : Nat) : State :=
  let s := s.modTile t (fun x =>
    if x.held.isSome then { x with job := x.held, held := none, jobs := x.jobs + 1 }
    else { x.planEnds with job := none, window := false, yields := 0, jobs := x.jobs + 1 })
  let s := (s.flowTile t).closeIdle t
  match s.tile? t with
  | none => s
  | some x => if x.borrower.isSome ∧ x.hod = [] ∧ x.coming = [] ∧ x.job.isNone then
      (s.wipeFor t (s.ownerNow x)).modTile t (fun x => { x with borrower := none }) else s

/-- R417: with a pair, a WRITE of the output a job has already issued is not yet acknowledged. -/
def State.outputOpen (s : State) (j : Job) : Bool :=
  s.pair.role == 1 && ((s.qp? j.queue).map (fun q => q.reqs.any (fun r => r.kind == .write &&
    decide (j.desc.outAddr ≤ r.addr) && decide (r.addr < j.desc.outAddr + j.desc.outLen)))).getD false

/-- R100, R112, R137: JOB_END: the completion of a job that has its result, and its FINAL packet, is queued; what a state-changing job brings waits for its
batch. -/
def State.jobEnd (s : State) (t : Nat) : State :=
  match (s.tile? t).bind (fun x => x.job) with
  | none => s
  | some id => match s.job? id with
    | none => s.leaveTile t
    | some j => match j.result with
      | none => s
      | some r =>
        if j.streams ∨ ((s.tile? t).map s.tileRuns) ≠ some true ∨ (j.brings.isSome ∧ 0 < j.outWritten ∧ s.outputOpen j) then s
        else
          let s := s.leaveTile t
          match j.brings, r.status == 0 with
          | some e, true => s.bring e
          | _, false => (s.release j).finish id r t
          | none, true => s.finish id r t

/-- R100 JOB_END -/
def execJobEnd (t : Nat) (s : State) : Host.Outcome State Fault Refusal := .next (s.jobEnd t)

/-! ### Yield windows and slots (R200, R201, R335) -/

/-- R200, R201: the next yield point of the long-integer job a tile runs: a window opens when the schedule says so. -/
def State.yieldPoint (s : State) (t : Nat) : State :=
  match s.tile? t with
  | none => s
  | some x => match x.job.bind s.job? with
    | none => s
    | some j =>
      if !longOps.contains j.desc.opcode ∨ x.window ∨ x.held.isSome ∨ j.result.isSome ∨ !s.tileRuns x then s
      else
        let r := s.tileRec t
        (s.modTile t (fun x => { x with yields := x.yields + 1, windowAt := s.clock.mono,
                                        window := r.yieldMask.getLsbD (x.yields % 16) && r.yieldLen ≠ 0 })).closeIdle t

/-- R200 YIELD_POINT -/
def execYieldPoint (t : Nat) (s : State) : Host.Outcome State Fault Refusal := .next (s.yieldPoint t)

/-- R201: YIELD_LEN has passed and the window ends, once no short job runs in it. -/
def State.yieldWindowEnd (s : State) (t : Nat) : State :=
  match s.tile? t with
  | none => s
  | some x =>
    if !x.window ∨ x.held.isSome then s
    else
      let s := s.advanceTo (max s.clock.mono (x.windowAt + (s.tileRec t).yieldLen * 1000 / max 1 x.freq))
      s.modTile t (fun x => { x with window := false })

/-- R201 YIELD_WINDOW_END -/
def execYieldWindowEnd (t : Nat) (s : State) : Host.Outcome State Fault Refusal := .next (s.yieldWindowEnd t)

/-- R209, R210: the long-integer jobs of a tile are aborted; a short job in a window goes on. -/
def State.abortLong (s : State) (t dt : Nat) : State :=
  match s.tile? t with
  | none => s
  | some x =>
    let isLong (id : JobId) : Bool := ((s.job? id).map (fun j => longOps.contains j.desc.opcode)).getD false
    let run := x.job.toList.filter isLong
    let held := x.held.toList.filter isLong
    if run = [] ∧ held = [] then s
    else
      let clear (x : Tile) : Tile :=
        { x.planEnds with
                 job := if run = [] then x.job else none, held := if held = [] then x.held else none, window := false, yields := 0, state := if x.state = 1 ∧ run ≠ [] then 0 else x.state,
                 hod := x.hod.filter (fun p => !(p.kind == 1 && (run ++ held).contains (p.queue, p.idx))) }
      let s := forEach ((run ++ held).filterMap s.job?) (fun j s => s.release j) (s.modTile t clear)
      (forEach (run ++ held) (fun id s => s.finish id (fail Status.aborted dt) t) s).flowTile t

/-- R209, R211, R335: the next slot of a shared tile begins. A run of another partition begins with a wipe; a long-integer job still
running then is aborted. -/
def State.slotBoundary (s : State) (t : Nat) : State :=
  let r := s.tileRec t
  match s.tile? t with
  | none => s
  | some x =>
    if r.kind ≠ 1 then s
    else
      let n := (x.slotNow + 1) % 16
      let s := s.modTile t (fun x => { x with slotNow := n, slotAt := s.clock.mono })
      if r.slots.getD n 256 = r.slots.getD x.slotNow 256 then s
      else
        let s := (s.abortLong t 0x02).modTile t (fun x => { x with borrower := none })
        (s.wipeFor t (r.slots.getD n 0)).dropRefs t

/-- R335 SLOT_BOUNDARY -/
def execSlotBoundary (t : Nat) (s : State) : Host.Outcome State Fault Refusal := .next (s.slotBoundary t)

end Sys2Proof.Machine
end

