-- ==== Sys2Proof/Machine/PartTable.lean ====
section
/-! DEFINITION. The partition table's image (R328), its rules (R329), and what stands in the way of applying one (R332). -/

namespace Sys2Proof.Machine

/-! ### The image (R328) -/

/-- R328: the size of an image. -/
def tableLen : Nat := 13888

/-- R328: the 48 bytes of a partition record. -/
def partBytes (p : PartRec) : Bytes :=
  leBytes 2 1 ++ leBytes 2 p.qpFirst ++ leBytes 2 p.qpLast ++ leBytes 1 p.dramSlots ++ leBytes 1 p.fetchSlots ++
    fixLen 12 (p.credit.flatMap (leBytes 2)) ++ leBytes 4 p.quota ++ leBytes 2 p.logFrames ++ [0, 0] ++
    fixLen 12 (p.scratch.flatMap (fun r => leBytes 1 r.1 ++ leBytes 1 r.2)) ++ zeros 8

/-- R328: the 32 bytes of a tile record. -/
def tileBytes (t : TileRec) : Bytes :=
  leBytes 1 t.owner ++ leBytes 1 t.kind ++ leBytes 2 t.yieldMask.toNat ++ leBytes 2 t.yieldLen ++ leBytes 1 t.slotLen ++ zeros 1 ++
    fixLen 16 (t.slots.flatMap (leBytes 1)) ++ zeros 8

/-- R328: the image of a table. -/
def tableBytes (t : Table) : Bytes :=
  leBytes 2 1 ++ leBytes 1 (b2n t.strict) ++ zeros 1 ++ leBytes 4 t.seq ++ zeros 56 ++
    (List.range 256).flatMap (fun n => match t.parts.find? (fun p => p.num == n) with | some p => partBytes p | none => zeros 48) ++
    (List.range 48).flatMap (fun k => tileBytes (t.tiles.getD k {}))

/-- The bytes of a partition's record in an image. -/
def partSlice (b : Bytes) (n : Nat) : Bytes := sub (64 + 48 * n) 48 b

/-- The bytes of a tile's record in an image. -/
def tileSlice (b : Bytes) (k : Nat) : Bytes := sub (64 + 256 * 48 + 32 * k) 32 b

/-- R328: a partition record. -/
def parsePart (n : Nat) (r : Bytes) : PartRec :=
  { num := n, qpFirst := leAt 2 2 r, qpLast := leAt 4 2 r, dramSlots := byteAt 6 r, fetchSlots := byteAt 7 r,
    credit := (List.range 6).map (fun c => leAt (8 + 2 * c) 2 r), quota := leAt 20 4 r, logFrames := leAt 24 2 r,
    scratch := (List.range 6).map (fun c => (byteAt (28 + 2 * c) r, byteAt (29 + 2 * c) r)) }

/-- R328: a tile record. -/
def parseTile (r : Bytes) : TileRec :=
  { owner := byteAt 0 r, kind := byteAt 1 r, yieldMask := BitVec.ofNat 16 (leAt 2 2 r), yieldLen := leAt 4 2 r, slotLen := byteAt 6 r,
    slots := if byteAt 1 r = 1 then (List.range 16).map (fun i => byteAt (8 + i) r) else [] }

/-- R328: the table an image holds; `seq` is its BASE_SEQ field. -/
def parseTable (b : Bytes) : Table :=
  { strict := byteAt 2 b == 1, seq := leAt 4 4 b,
    parts := ((List.range 256).filter (fun n => byteAt 0 (partSlice b n) == 1)).map (fun n => parsePart n (partSlice b n)),
    tiles := (List.range 48).map (fun k => parseTile (tileSlice b k)) }

/-! ### The rules (R329) -/

/-- R329: DETAIL of a refusal: code, partition, tile or course; 0xFF for one that does not apply. -/
def tableDetail (code part place : Nat) : Nat := code + 2 ^ 8 * part + 2 ^ 16 * place

/-- R329 0x01: a partition record's fields are in range. -/
def partOk (r : Bytes) : Bool :=
  if byteAt 0 r = 0 then allZero r
  else
    let p := parsePart 0 r
    byteAt 0 r == 1 && byteAt 1 r == 0 && decide (p.qpFirst ≤ p.qpLast) && decide (p.qpLast ≤ 4095) &&
      p.credit.all (fun c => decide (c ≤ 2048)) && decide (1 ≤ p.logFrames) && decide (p.logFrames ≤ 1024) && zeroAt 26 2 r && zeroAt 40 8 r

/-- R329 0x01: a tile record's fields are in range. -/
def tileOk (r : Bytes) : Bool :=
  let k := byteAt 1 r
  decide (k ≤ 2) && (k == 0 || byteAt 0 r == 0) && decide (leAt 4 2 r ≤ 8192) && leAt 4 2 r % 256 == 0 &&
    (if k = 1 then decide (1 ≤ byteAt 6 r) && decide (byteAt 6 r ≤ 64) else byteAt 6 r == 0 && zeroAt 8 16 r) &&
    byteAt 7 r == 0 && zeroAt 24 8 r

/-- R329 0x01. -/
def tableRule1 (b : Bytes) : Option Nat :=
  if b.length ≠ tableLen ∨ leAt 0 2 b ≠ 1 ∨ 1 < byteAt 2 b ∨ byteAt 3 b ≠ 0 ∨ !zeroAt 8 56 b then some (tableDetail 1 0xFF 0xFF)
  else match (List.range 256).find? (fun n => !partOk (partSlice b n)) with
    | some n => some (tableDetail 1 n 0xFF)
    | none => ((List.range 48).find? (fun k => !tileOk (tileSlice b k))).map (tableDetail 1 0xFF)

/-- R329 0x02: partition 0 is in use and holds queue 0. -/
def tableRule2 (t : Table) : Option Nat :=
  match t.parts.find? (fun p => p.num == 0) with
  | some p => if p.qpFirst = 0 then none else some (tableDetail 2 0 0xFF)
  | none => some (tableDetail 2 0 0xFF)

/-- R329 0x03: queue ranges do not overlap. -/
def tableRule3 (t : Table) : Option Nat :=
  (t.parts.find? (fun p => t.parts.any (fun x => x.num ≠ p.num && decide (x.qpFirst ≤ p.qpLast) && decide (p.qpFirst ≤ x.qpLast)))).map
    (fun p => tableDetail 3 p.num 0xFF)

/-- R326: whether a partition holds a tile or slot in a course of a table. -/
def Table.holdsIn (t : Table) (p c : Nat) : Bool :=
  (List.range 8).any (fun k =>
    let r := t.tiles.getD (8 * c + k) {}
    (r.kind == 0 && r.owner == p) || (r.kind == 1 && r.slots.contains p))

/-- R329 0x04: credit. -/
def tableRule4 (t : Table) : Option Nat :=
  (List.range 6).findSome? (fun c =>
    if 2048 < sumOf (fun p => p.credit.getD c 0) t.parts then some (tableDetail 4 0xFF c)
    else (t.parts.find? (fun p => p.num ≠ 0 && 0 < p.credit.getD c 0 && !t.holdsIn p.num c)).map (fun p => tableDetail 4 p.num c))

/-- R329 0x05 and 0x06: slots of a frame of 256. -/
def tableSlots (t : Table) (code low : Nat) (f : PartRec → Nat) : Option Nat :=
  if 256 < sumOf f t.parts then some (tableDetail code 0xFF 0xFF)
  else (t.parts.find? (fun p => decide (f p < if p.num = 0 then low else 1))).map (fun p => tableDetail code p.num 0xFF)

/-- R329 0x07: OWNER and SLOT name partitions in use. -/
def tableRule7 (t : Table) : Option Nat :=
  let used (p : Nat) : Bool := t.parts.any (fun x => x.num == p)
  (List.range 48).findSome? (fun k =>
    let r := t.tiles.getD k {}
    if r.kind = 0 ∧ !used r.owner then some (tableDetail 7 r.owner k)
    else if r.kind = 1 then (r.slots.find? (fun p => !used p)).map (fun p => tableDetail 7 p k)
    else none)

/-- R329 0x08: every tenant holds a tile or slot. -/
def tableRule8 (t : Table) : Option Nat :=
  (t.parts.find? (fun p => p.num ≠ 0 && !(List.range 6).any (t.holdsIn p.num))).map (fun p => tableDetail 8 p.num 0xFF)

/-- R328: units of a partition's scratchpad region in a course. -/
def PartRec.units (p : PartRec) (c : Nat) : Nat := let r := p.scratch.getD c (1, 0); r.2 + 1 - r.1

/-- R329 0x09: scratchpad regions. -/
def tableRule9 (t : Table) : Option Nat :=
  (List.range 6).findSome? (fun c =>
    let meets (p x : PartRec) : Bool :=
      let a := p.scratch.getD c (1, 0)
      let b := x.scratch.getD c (1, 0)
      x.num ≠ p.num && 0 < p.units c && 0 < x.units c && decide (a.1 ≤ b.2) && decide (b.1 ≤ a.2)
    let small (p : PartRec) : Bool :=
      decide (p.units c < if p.num = 0 then 4 else if t.holdsIn p.num c then 1 else 0)
    (t.parts.find? (fun p => t.parts.any (meets p) || small p)).map (fun p => tableDetail 9 p.num c))

/-- R329: the first rule an image breaks. -/
def tableRefusal (b : Bytes) : Option Nat :=
  let t := parseTable b
  (tableRule1 b).or ((tableRule2 t).or ((tableRule3 t).or ((tableRule4 t).or ((tableSlots t 5 16 (fun p => p.dramSlots)).or
    ((tableSlots t 6 8 (fun p => p.fetchSlots)).or ((tableRule7 t).or ((tableRule8 t).or (tableRule9 t))))))))

/-! ### Applying an image (R332, R367) -/

/-- R332 0x11: what a partition that leaves use may no longer have. -/
def State.partBusy (s : State) (p : Nat) : Bool :=
  s.qps.any (fun q => q.cfg.part == p) || s.quotaUsed p ≠ 0

/-- R332: the refusals of a valid image, with the ceremony of the command that applies it. -/
def State.tableDenied (s : State) (t : Table) (ceremony : Bool) : Option Nat :=
  let left := (s.tabs.table.parts.filter (fun p => !t.parts.any (fun x => x.num == p.num))).map (fun p => p.num)
  let outside (q : Qp) : Bool := t.parts.any (fun p => p.num == q.cfg.part && !(decide (p.qpFirst ≤ q.cfg.queue) && decide (q.cfg.queue ≤ p.qpLast)))
  match left.find? s.partBusy with
  | some p => some (tableDetail 0x11 p 0xFF)
  | none => match s.qps.find? outside with
    | some q => some (tableDetail 0x12 q.cfg.part 0xFF)
    | none => match t.parts.find? (fun p => decide (65536 * p.quota < s.quotaUsed p.num)) with
      | some p => some (tableDetail 0x13 p.num 0xFF)
      | none =>
        if ceremony then none
        else if t.strict ≠ s.tabs.table.strict then some (tableDetail 0x14 0xFF 0xFF)
        else left.head?.map (fun p => tableDetail 0x14 p 0xFF)

/-- R332, R367: the checks of a staged table image: a status and DETAIL, or none. -/
def State.tableCheck (s : State) (b : Bytes) (ceremony : Bool) : Option (Nat × Nat) :=
  let t := parseTable b
  if t.seq ≠ s.tabs.table.seq then some (Status.generationStale, 0)
  else match s.tableDenied t ceremony with
    | some d => some (Status.attrDenied, d)
    | none => if s.life.debug = 1 ∧ t.parts.any (fun p => p.num ≠ 0) then some (Status.attrDenied, 0) else none

/-- R333 step 3: the tiles that change owner, kind or slots. -/
def State.tilesChanged (s : State) (t : Table) : List Nat :=
  (List.range 48).filter (fun k =>
    let a := s.tileRec k
    let b := t.tiles.getD k {}
    !(a.owner == b.owner && a.kind == b.kind && a.slotLen == b.slotLen && a.slots == b.slots))

/-- R346: the value of a PRT_ register's Retained fields, by the current image. -/
def prtWord (img : Bytes) (addr : Nat) : Nat :=
  if addr = Reg.prtCtrl then byteAt 2 img
  else if addr = Reg.prtSeq then leAt 4 4 img
  else if 0x70010 ≤ addr ∧ addr < 0x70030 then
    sumOf (fun n => byteAt 0 (partSlice img (8 * (addr - 0x70010) + n)) % 2 * 2 ^ n) (List.range 32)
  else if 0x70030 ≤ addr ∧ addr < 0x70050 then leAt (addr - 0x70030) 4 (sha3_256 img)
  else 0

/-- R346: the digest of the current image. -/
def State.tableDigest (s : State) : Bytes := sha3_256 (tableBytes s.tabs.table)

end Sys2Proof.Machine
end

