-- ==== Sys2Proof/Machine/Entropy.lean ====
section
/-! DEFINITION. The entropy island's rows (R303 to R319). -/

namespace Sys2Proof.Machine

/-! ### Start-up and windows (R305 to R308, R313) -/

/-- R307: a source becomes FAILED: notice and record. -/
def State.dropSource (s : State) (n : Nat) : State :=
  let s := (s.modSource n (fun x => { x with state := 3, leaving := false, joining := false })).notice Reg.entNotice 0
  s.devEvent 5 0x0602 57 (leBytes 1 n ++ [0] ++ leBytes 2 (s.ent.rate / 4))

/-- R313 steps 3 and 4: the start-up tests end: `failed` names the sources that failed theirs. -/
def State.entropyStart (s : State) (failed : List Nat) (katOk : Bool) : State :=
  if s.ent.state ≠ 1 then s
  else
    let bad := (s.ent.sources.filter (fun x => x.state == 1 && failed.contains x.num)).map (fun x => x.num)
    let ok (x : Source) : Source := if x.state = 1 ∧ !failed.contains x.num then { x with state := 2 } else x
    let s : State := { s with ent := { s.ent with sources := s.ent.sources.map ok } }
    let s : State := forEach bad (fun n s => s.dropSource n) s
    let s : State := if !katOk then (s.notice Reg.entNotice 3).entFail 0x02
      else if s.ent.rate < 4 * s.ent.budget then s.entFail 0x03
      else { s with ent := { s.ent with state := 2 } }
    let s := if s.ent.action = some (1, 0) then s.entActionDone else s
    forEach bad (fun n s => s.fire 11 57 n) s

/-- R313 ENTROPY_START -/
def execEntropyStart (failed : List Nat) (katOk : Bool) (s : State) : Host.Outcome State Fault Refusal :=
  .next (s.entropyStart failed katOk)

/-- R318: a source that leaves becomes OUT at the end of its window. -/
def State.leaveWindow (s : State) (n : Nat) : State :=
  match s.ent.sources.find? (fun x => x.num == n) with
  | none => s
  | some x => if x.leaving then (s.modSource n (fun y => { y with state := 0, leaving := false })).entActionDone else s

/-- R306, R307: a failed window is discarded whole, counted and logged. -/
def State.noteFailed (s : State) (x : Source) (test : Nat) : State :=
  let note (y : Source) : Source := { y with lastTest := test, intermittent := min 65535 (y.intermittent + 1), run := x.run + 1 }
  (((s.modSource x.num note).bump Reg.entIntermittent).notice Reg.entNotice 4).devEvent 3 0x0601 57 (leBytes 1 x.num ++ leBytes 1 test)

/-- R307: FAIL_RUN failed windows in a row drop the source; what rate remains decides whether the expanders go on. -/
def State.windowFailed (s : State) (x : Source) (test : Nat) : State :=
  let t := s.noteFailed x test
  if x.run + 1 < s.fld Reg.entCtrl 23 21 then t.leaveWindow x.num
  else
    let t := (if x.leaving then t.entActionDone else t).dropSource x.num
    let t := if t.ent.rate < 4 * t.ent.budget then t.entFail 0x01
      else { t with ent := { t.ent with absorbed := [], absorbedBits := 0 } }
    t.fire 11 57 x.num

/-- R306, R308: a passed window is released to the conditioner; a block closes at 512 assessed bits. -/
def State.windowPassed (s : State) (x : Source) (samples : Bytes) : State :=
  let s := s.modSource x.num (fun y => { y with run := 0 })
  let s :=
    if x.joining ∨ 64 ≤ s.ent.pool.length then s
    else
      let ab := s.ent.absorbed ++ leBytes 1 x.num ++ fixLen 128 samples
      let bits := s.ent.absorbedBits + 1024 * s.ent.hOf x.num
      if bits < 10240 then { s with ent := { s.ent with absorbed := ab, absorbedBits := bits } }
      else
        let srcs := s.ent.sources.map (fun y => { y with joining := false })
        ({ s with ent := { s.ent with absorbed := [], absorbedBits := 0, sources := srcs } } : State).newBlock (sha3_256 ab)
  s.leaveWindow x.num

/-- R302, R305 to R308: ENTROPY_WINDOW: `raw` is what the source gave since its last window closed. The window its debiased samples fill is
tested, and released or discarded. -/
def State.entropyWindow (s : State) (n : Nat) (raw : Bytes) : State :=
  match s.ent.sources.find? (fun x => x.num == n), s.ent.windowOf n raw with
  | some x, some w =>
    if s.ent.state ≠ 2 ∨ x.state ≠ 2 then s
    else match s.ent.windowTest n w with
      | some k => s.windowFailed x k
      | none => s.windowPassed x (packBits w)
  | _, _ => s

/-- R306 ENTROPY_WINDOW -/
def execEntropyWindow (src : Nat) (raw : Bytes) (s : State) : Host.Outcome State Fault Refusal := .next (s.entropyWindow src raw)

/-! ### Requests (R309, R312, R314, R315) -/

/-- The oldest waiting request of a partition. -/
def State.oldestReq (s : State) (p : Nat) : Option EntReq := s.ent.waiting.find? (fun r => r.part == p)

/-- R314: a request leaves the waiting list; its bits, if any, wait for the job that asked. -/
def State.served (s : State) (r : EntReq) (bits : Option Bytes) : State :=
  let got := match r.job, bits with | some id, some b => [(id, b)] | _, _ => []
  { s with ent := { s.ent with waiting := s.ent.waiting.erase r, delivered := s.ent.delivered ++ got } }

/-- R314, R315, R319: serve a request: it is answered, waits, or fails. -/
def State.serve (s : State) (r : EntReq) : State :=
  if s.ent.state = 3 then (s.served r none).entRefuse r
  else
    let go (s : State) : State := match s.generate r.part r.len with
      | some (b, s) => s.served r (some b)
      | none => s.dueReseed r.part
    if !r.pr then go s
    else match s.ent.pool, s.inst? r.part with
      | b :: rest, some _ => (go (({ s with ent := { s.ent with pool := rest } } : State).reseed r.part b)).notePool
      | _, _ => s

/-- R314: ENTROPY_REQUEST: the oldest request of a partition in use is taken up; one that no job made is the device's own. -/
def State.entropyRequest (s : State) (p n : Nat) (pr : Bool) : State :=
  if (s.part? p).isNone then s
  else
    let mine (r : EntReq) : Bool := r.part == p && r.len == n && r.pr == pr
    let s := if s.ent.waiting.any mine then s else
      { s with ent := { s.ent with waiting := s.ent.waiting ++ [{ part := p, len := n, pr := pr, job := none }] } }
    let s := s.notePool
    match s.oldestReq p with
    | none => s
    | some r => if mine r then s.serve r else s

/-- R314 ENTROPY_REQUEST -/
def execEntropyRequest (p n : Nat) (pr : Bool) (s : State) : Host.Outcome State Fault Refusal := .next (s.entropyRequest p n pr)

/-! ### Actions (R316, R318) -/

/-- R318: an action of ENT_CMD: one at a time. -/
def State.entAction (s : State) (q i act : Nat) (f : State → Job → Nat → State) : State :=
  s.cfgAction q i Reg.entCmd 2 0 act (fun s j =>
    let src := s.targetOf j Reg.entCmd
    if 22 ≤ src then s.deny j Status.invalidInput
    else if s.ent.action.isSome then s.deny j Status.busy
    else f (s.keepTarget j Reg.entCmd) j src)

/-- R316, R318: RESTART. -/
def State.entRestartCmd (s : State) (j : Job) (_src : Nat) : State :=
  ({ s with ent := { s.ent with action := some (1, 0) } } : State).entRestart.done j

/-- R316 RESTART -/
def execRestart (q i : Nat) (s : State) : Host.Outcome State Fault Refusal := .next (s.entAction q i 1 State.entRestartCmd)

/-- R318: KAT: step 4 of R313 between requests. -/
def State.entKat (pass : Bool) (s : State) (j : Job) (_src : Nat) : State :=
  if s.ent.state ≠ 2 then s.deny j Status.invalidInput
  else
    let s := s.done j
    (if pass then s else (s.notice Reg.entNotice 3).entFail 0x02).entActionDone

/-- R318 KAT -/
def execKat (q i : Nat) (pass : Bool) (s : State) : Host.Outcome State Fault Refusal := .next (s.entAction q i 2 (State.entKat pass))

/-- R318, R440: an action changes a bit of ENT_SRC_EN through a committed batch. -/
def State.setSrcEn (s : State) (n : Nat) (on : Bool) : State :=
  let m := BitVec.ofNat 32 (2 ^ n)
  s.enqueue { changes := [.reg Reg.entSrcEn 0 m (if on then m else 0)], objs := [], job := none, res := {} }

/-- R318: SOURCE_OUT. -/
def State.entSourceOut (s : State) (j : Job) (n : Nat) : State :=
  if s.ent.compat ∨ s.ent.rateWhere (fun x => x.state == 2 && x.num ≠ n) < 4 * s.ent.budget then s.deny j Status.attrDenied
  else
    let live := s.ent.state == 2 && s.ent.sources.any (fun x => x.num == n && x.state == 2)
    let s := (s.done j).setSrcEn n false
    if live then
      let s := { s with ent := { s.ent with action := some (3, n) } }
      s.modSource n (fun x => { x with leaving := true })
    else (s.modSource n (fun x => { x with state := 0 })).entActionDone

/-- R318 SOURCE_OUT -/
def execSourceOut (q i : Nat) (s : State) : Host.Outcome State Fault Refusal := .next (s.entAction q i 3 State.entSourceOut)

/-- R304, R318: SOURCE_IN: `pass` is the outcome of the source's own start-up test. -/
def State.entSourceIn (pass : Bool) (s : State) (j : Job) (n : Nat) : State :=
  let busy := s.ent.sources.any (fun x => x.num == n && (x.state == 1 || x.state == 2))
  if s.ent.compat ∨ busy then s.deny j Status.invalidInput
  else
    let s := s.done j
    let s := if pass then (s.modSource n (fun x => { x with state := 2, run := 0, joining := true, trim := s.reg Reg.entSrcTrim n % 64 })).setSrcEn n true
      else (s.modSource n (fun x => { x with state := 3, trim := s.reg Reg.entSrcTrim n % 64 })).notice Reg.entNotice 0
    s.entActionDone

/-- R318 SOURCE_IN -/
def execSourceIn (q i : Nat) (pass : Bool) (s : State) : Host.Outcome State Fault Refusal :=
  .next (s.entAction q i 4 (State.entSourceIn pass))

/-! ### The opcodes (R319) -/

/-- R319: RNG_GENERATE. -/
def State.rngGenerate (s : State) (j : Job) : State :=
  let n := j.desc.outLen
  if n = 0 ∨ 65536 < n ∨ j.desc.inLen ≠ 0 then s.answer j (fail Status.invalidInput)
  else s.answer j (okOut (fixLen n j.entropy))

/-- R319 RNG_GENERATE -/
def execRngGenerate (t : Nat) (s : State) : Host.Outcome State Fault Refusal := .next (s.onTile t Op.rngGenerate State.rngGenerate)

/-- R319: the 16 B of RNG_STATUS. -/
def State.rngStatusBytes (s : State) (p : Nat) : Bytes :=
  let i := s.inst? p
  let st := (i.map (fun x => x.stretching)).getD false
  leBytes 1 s.ent.state ++ leBytes 1 (b2n i.isSome + 2 * b2n st) ++ zeros 6 ++ leBytes 4 ((i.map (fun x => x.requests)).getD 0) ++ zeros 4

/-- R319: RNG_STATUS. -/
def State.rngStatus (s : State) (j : Job) : State := s.answer j (okOut (s.rngStatusBytes j.part))

/-- R319 RNG_STATUS -/
def execRngStatus (t : Nat) (s : State) : Host.Outcome State Fault Refusal := .next (s.onTile t Op.rngStatus State.rngStatus)

end Sys2Proof.Machine
end

