-- ==== Sys2Proof/Machine/CfgImage.lean ====
section
/-! DEFINITION. The retained configuration as the bytes of its copy (R443), with the layouts of queue records (R46), actor entries
(R446) and the pairing (R433). -/

namespace Sys2Proof.Machine

/-- R46: a queue-pair record's 128 bytes, with byte 127 as R443 sets it. -/
def qpRecBytes (r : QpRec) (mark : Nat) : Bytes :=
  leBytes 2 r.queue ++ leBytes 1 r.part ++ leBytes 1 r.iface ++ leBytes 1 r.flags.toNat ++ leBytes 1 r.pmtu ++ leBytes 1 r.rdDepth ++
    leBytes 1 r.sqLog2 ++ leBytes 1 r.cqLog2 ++ leBytes 1 r.pcp ++ leBytes 2 r.vlan ++ leBytes 4 r.hostQpn ++ leBytes 4 r.hostPsn ++
    zeros 4 ++ fixLen 16 r.hostAddr ++ leBytes 8 r.sqAddr ++ leBytes 4 r.sqRkey ++ leBytes 4 r.cqRkey ++ leBytes 8 r.cqAddr ++
    leBytes 1 r.sqWm ++ leBytes 1 r.cqWm ++ leBytes 2 r.refuseWm ++ zeros 4 ++ leBytes 8 r.hostKey ++ zeros 47 ++ leBytes 1 mark

/-- R446: an actor entry's 64 bytes. -/
def actorBytes (a : Actor) : Bytes :=
  leBytes 1 a.role ++ leBytes 1 a.part ++ leBytes 1 a.share ++ zeros 5 ++ fixLen 32 a.digest ++ zeros 24

/-- R446: an actor entry from its bytes. -/
def parseActor (idx : Nat) (b : Bytes) : Actor :=
  { idx := idx, role := byteAt 0 b, part := byteAt 1 b, share := byteAt 2 b, digest := sub 8 32 b }

/-- R433: the 96 bytes of PAIR_BIND's input. -/
def pairingBytes (p : Pairing) : Bytes :=
  leBytes 8 p.pairId ++ leBytes 1 p.member ++ leBytes 1 p.mode ++ leBytes 2 p.witnessQ ++ leBytes 4 p.witnessRkey ++
    leBytes 8 p.witnessAddr ++ fixLen 32 p.peerId ++ fixLen 16 p.peerAddr ++ leBytes 1 p.peerIface ++ zeros 23

/-- R433: a pairing from PAIR_BIND's input. -/
def parsePairing (b : Bytes) : Pairing :=
  { pairId := leAt 0 8 b, member := byteAt 8 b, mode := byteAt 9 b, witnessQ := leAt 10 2 b, witnessRkey := leAt 12 4 b,
    witnessAddr := leAt 16 8 b, peerId := sub 24 32 b, peerAddr := sub 56 16 b, peerIface := byteAt 72 b }

/-! ### The register image (R443) -/

/-- R439, R443: the indices of a selector whose registers hold Retained fields: twelve sources, eight rails, two cells, 22 entropy
sources; for DSP_QSEL the queues whose records the configuration holds. -/
def selIndices (sel : Nat) (qs : List Nat) : List Nat :=
  if sel = Reg.vltSsel then List.range 12
  else if sel = Reg.vltRsel then List.range 8
  else if sel = Reg.vltCsel then List.range 2
  else if sel = Reg.entSsel then List.range 22
  else if sel = Reg.dspQsel then qs
  else []

/-- R443: the mask of a register's Retained fields. -/
def RegDef.retainedMask (r : RegDef) : Nat :=
  sumOf (fun f => match f.rest with | .retained _ => (2 ^ (f.hi + 1 - f.lo) - 1) * 2 ^ f.lo | _ => 0) r.fields

/-- R443: the keys of the register image, ascending. -/
def imageKeys (qs : List Nat) : List Nat :=
  let one (r : RegDef) : List Nat :=
    if !r.isRetained then []
    else match r.sel with
      | none => [regKey r.addr 0]
      | some x => (selIndices x qs).map (regKey r.addr)
  (regTable.flatMap one).foldl (fun l k => insertBy id k l) []

/-- R330, R443: the partition-table image a snapshot holds; the default table where it holds none. -/
def Snapshot.image (x : Snapshot) : Bytes := if x.table = [] then tableBytes defaultTable else x.table

/-- R443: the value of a key in a snapshot. -/
def Snapshot.value (x : Snapshot) (k : Nat) : Nat :=
  let addr := k % 2 ^ 20
  if 0x70000 ≤ addr ∧ addr < 0x80000 then prtWord x.image addr else
  let v := ((alook k x.regs).map (fun w => w.toNat)).getD (regDefault addr (k / 2 ^ 20))
  (BitVec.ofNat 32 v &&& BitVec.ofNat 32 (((findReg addr).map RegDef.retainedMask).getD 0)).toNat

/-- R443: the queues whose records a snapshot holds. -/
def Snapshot.queues (x : Snapshot) : List Nat := 0 :: x.qps.map (fun q => q.queue)

/-- R443: bytes 0x0040 to 0x7FBF of a copy. -/
def Snapshot.content (x : Snapshot) : Bytes :=
  let ks := imageKeys x.queues
  let mark (q : Nat) : Nat :=
    if x.persistQ = some q then 1 else if (x.pairing.map (fun p => p.witnessQ)) = some q then 2 else 0
  fixLen 4096 (ks.flatMap (fun k => leBytes 4 k ++ leBytes 4 (x.value k))) ++ fixLen 13888 x.image ++ fixLen 64 x.boot ++
    fixLen 2048 (x.qps.flatMap (fun q => qpRecBytes q (mark q.queue))) ++
    fixLen 128 (match x.pairing with | some p => pairingBytes p | none => []) ++
    (List.range 32).flatMap (fun i => match x.actors.find? (fun a => a.idx == i) with | some a => actorBytes a | none => zeros 64) ++
    fixLen 64 (leBytes 1 x.m ++ leBytes 1 x.n ++ leBytes 2 x.sessionIdle) ++ zeros 10304

/-- R443: the 32 KiB of a copy. -/
def Snapshot.bytes (x : Snapshot) (cseq : Nat) : Bytes :=
  let h := leBytes 2 1 ++ leBytes 2 (imageKeys x.queues).length ++ leBytes 8 cseq ++ zeros 48
  let c := x.content
  h ++ crcBytes h ++ c ++ crcBytes c ++ zeros 60

/-- R443: CSEQ of the copy in force. -/
def State.cseq (s : State) : Nat :=
  match s.mgmt.goodA && s.copyA.isSome, s.mgmt.goodB && s.copyB.isSome with
  | true, true => max s.mgmt.cseqA s.mgmt.cseqB
  | true, false => s.mgmt.cseqA
  | false, true => s.mgmt.cseqB
  | false, false => 0

/-- R370, R443: the bytes of the copy in force; all zero when neither passes its checks. -/
def State.copyBytes (s : State) : Bytes :=
  match s.inForce with
  | some x => x.bytes s.cseq
  | none => zeros 32768

end Sys2Proof.Machine
end

