-- ==== Sys2Proof/Machine/PublicKey.lean ====
section
/-! DEFINITION. The rows of the public-key family (R184 to R208). -/

namespace Sys2Proof.Machine

/-- R157, R184, R185: run with KEY0's material, placed in the slots of the job's plan. -/
def State.withPk (s : State) (t : Nat) (j : Job) (f : State → KeyRec → Bytes → State) : State :=
  s.withKey t j 0 (fun s r m => f (s.placeKey t r m j.input) r m)

/-! ### Signatures (R194, R196, R197, R204 to R208) -/

/-- R191: what the standards' functions take of a scheme: PARAMS 0 to 7, where MGF_HASH zero takes HASH_ALG, and the context string. -/
def Job.schemeBytes (j : Job) : Bytes :=
  let b := j.parBytes 0 8
  (if j.pk.mgf = 0 then patch 2 (sub 1 1 b) b else b) ++ j.parBytes 24 32

/-- R197: bytes 32 to 63 of the entropy token. -/
def Job.hedge (j : Job) : Bytes := sub 32 32 j.entropy

/-- R197: `n` bytes of salt or seed: the first of bytes 32 to 63, extended by SHAKE256 above 32. -/
def Job.saltBytes (j : Job) (n : Nat) : Bytes := if n ≤ 32 then j.hedge.take n else shake256 n j.hedge

/-- R197: the random input of a signature: the additional input of ECDSA, the salt of RSA-PSS, rnd of ML-DSA; nothing for the others. -/
def Job.signRandom (j : Job) : Bytes :=
  let x := j.pk
  if x.scheme = 0x10 then (if x.nonce = 1 then [] else j.hedge)
  else if x.scheme = 0x02 then (if x.nonce = 1 then [] else j.saltBytes x.saltLen)
  else if x.scheme = 0x20 ∨ x.scheme = 0x21 then (if x.nonce = 1 then zeros 32 else j.hedge)
  else []

/-- R196: with PRE 1 the message is a digest of HASH_ALG. -/
def Job.msgOk (j : Job) (m : Bytes) : Bool := j.pk.pre == 0 || m.length == digestLen j.pk.hashAlg

/-- R194: PK_SIGN. -/
def State.pkSign (t : Nat) (s : State) (j : Job) : State :=
  s.withPk t j (fun s r m =>
    if !j.msgOk j.input then s.answer j (fail Status.invalidInput)
    else if 0x50 ≤ r.alg ∧ Config.signExhausts r.alg j.schemeBytes m j.input j.signRandom then s.answer j (fail Status.engineFault 0x07)
    else s.answerDest t j (okOut (fixLen (sigLen r.alg r.len) (Config.sign r.alg j.schemeBytes m j.input j.signRandom))))

/-- R194 PK_SIGN -/
def execPkSign (t : Nat) (s : State) : Host.Outcome State Fault Refusal := .next (s.onTile t Op.pkSign (State.pkSign t))

/-- R194, R204 to R208: PK_VERIFY. -/
def State.pkVerify (t : Nat) (s : State) (j : Job) : State :=
  s.withPk t j (fun s r m =>
    let n := sigLen r.alg r.len
    if j.input.length < n then s.answer j (fail Status.invalidInput)
    else
      let msg := j.input.take (j.input.length - n)
      if !j.msgOk msg then s.answer j (fail Status.invalidInput)
      else
        let sig := j.input.drop msg.length
        s.answer j (if sigOk r.alg r.len m sig && Config.verify r.alg j.schemeBytes m msg sig then {} else fail Status.authFail))

/-- R194 PK_VERIFY -/
def execPkVerify (t : Nat) (s : State) : Host.Outcome State Fault Refusal := .next (s.onTile t Op.pkVerify (State.pkVerify t))

/-! ### RSA-OAEP (R194, R196, R204) -/

/-- R194: PK_ENCRYPT. -/
def State.pkEncrypt (t : Nat) (s : State) (j : Job) : State :=
  s.withPk t j (fun s r m =>
    let h := digestLen j.pk.hashAlg
    if r.len / 8 < j.input.length + 2 * h + 2 then s.answer j (fail Status.invalidInput)
    else s.answerDest t j (okOut (fixLen (r.len / 8) (Config.oaepEncrypt j.schemeBytes m j.input (j.saltBytes h)))))

/-- R194 PK_ENCRYPT -/
def execPkEncrypt (t : Nat) (s : State) : Host.Outcome State Fault Refusal := .next (s.onTile t Op.pkEncrypt (State.pkEncrypt t))

/-- R194, R204: PK_DECRYPT. -/
def State.pkDecrypt (t : Nat) (s : State) (j : Job) : State :=
  s.withPk t j (fun s r m =>
    let k := r.len / 8
    let c := beNat j.input
    if j.input.length ≠ k ∨ c = 0 ∨ beNat (m.take k) ≤ c then s.answer j (fail Status.invalidInput)
    else match Config.oaepDecrypt j.schemeBytes m j.input with
      | none => s.answer j (fail Status.authFail)
      | some msg => s.answerDest t j (okOut (msg.take (oaepMax r.len (digestLen j.pk.hashAlg)))))

/-- R194 PK_DECRYPT -/
def execPkDecrypt (t : Nat) (s : State) : Host.Outcome State Fault Refusal := .next (s.onTile t Op.pkDecrypt (State.pkDecrypt t))

/-! ### Derived keys (R195, R205, R207) -/

/-- R195: the derived key's material. -/
def Job.derived (j : Job) (ss info : Bytes) : Bytes := shake256 j.pk.dLen (ascii "PK-DERIVE" ++ leBytes 1 j.pk.scheme ++ ss ++ info)

/-- R195, R237: a derived key is stored as a record, or returned as a key block under KEY1, padded from the job's entropy token; `before` is
written ahead of it. -/
def State.giveKey (s : State) (t : Nat) (j : Job) (before mat : Bytes) : State :=
  let x := j.pk
  if x.outForm = 0 then
    s.storeKey j { alg := x.dAlg, usage := x.dUsage, attr := x.dAttr, domain := x.dDomain, parent := 0, len := x.dLen, mat := mat } before []
  else
    s.withKey t j 1 (fun s r pk =>
      match kbExport x.dUsage x.dAlg with
      | none => s.answer j (fail Status.attrDenied)
      | some (u, md, l) =>
        s.answer j (okOut (before ++ makeKb r.alg pk u md l x.dAlg x.dLen mat [] j.entropy (j.entropy.drop 32))))

/-- R195, R205: KEY_AGREE. -/
def State.keyAgree (t : Nat) (s : State) (j : Job) : State :=
  s.withPk t j (fun s r m =>
    let n := pointLen r.alg
    let pt := j.input.take n
    if j.input.length ≠ n + j.infoLen ∨ pt.getD 0 0 ≠ 0x04 then s.answer j (fail Status.invalidInput)
    else match ecdhOf r.alg m pt with
      | none => s.answer j (fail Status.invalidInput)
      | some ss => s.giveKey t j [] (j.derived (fixLen (matLen r.alg r.len) ss) (j.input.drop n)))

/-- R195 KEY_AGREE -/
def execKeyAgree (t : Nat) (s : State) : Host.Outcome State Fault Refusal := .next (s.onTile t Op.keyAgree (State.keyAgree t))

/-- R195, R207: KEM_ENCAP, which has no invalid input: the whole input is INFO, whatever INFO_LEN says (notes/assumptions/73.md). -/
def State.kemEncap (t : Nat) (s : State) (j : Job) : State :=
  s.withPk t j (fun s r m =>
    let (ct, ss) := Config.kemEncap r.alg m j.hedge
    s.giveKey t j (fixLen (kemCtLen r.alg) ct) (j.derived (fixLen 32 ss) j.input))

/-- R195 KEM_ENCAP -/
def execKemEncap (t : Nat) (s : State) : Host.Outcome State Fault Refusal := .next (s.onTile t Op.kemEncap (State.kemEncap t))

/-- R195, R207: KEM_DECAP. A forged ciphertext gives the implicit-rejection secret, never an error. -/
def State.kemDecap (t : Nat) (s : State) (j : Job) : State :=
  s.withPk t j (fun s r m =>
    let n := kemCtLen r.alg
    if j.input.length ≠ n + j.infoLen then s.answer j (fail Status.invalidInput)
    else s.giveKey t j [] (j.derived (fixLen 32 (Config.kemDecap r.alg m (j.input.take n))) (j.input.drop n)))

/-- R195 KEM_DECAP -/
def execKemDecap (t : Nat) (s : State) : Host.Outcome State Fault Refusal := .next (s.onTile t Op.kemDecap (State.kemDecap t))

end Sys2Proof.Machine
end

