-- ==== Sys2Proof/Machine/TimeStamps.lean ====
section
/-! DEFINITION. The DER of RFC 3161 timestamps (R259, R260): the request taken apart, the response that rejects, and the granted
token's parts. Encodings are DER throughout: a form DER does not admit does not parse. -/

namespace Sys2Proof.Machine

/-! ### Reading DER -/

/-- One DER element: its tag, contents and what follows it; none when it does not parse. A length is in its shortest form and takes up to
three bytes; a tag is one byte. -/
def derTake (b : Bytes) : Option (Nat × Bytes × Bytes) :=
  match b with
  | tag :: len :: rest =>
    let n := len.toNat - 128
    let (size, body) := if len.toNat < 128 then (len.toNat, rest) else (beNat (rest.take n), rest.drop n)
    if tag.toNat % 32 = 31 ∨ len.toNat = 128 ∨ 3 < n ∨ rest.length < n ∨ body.length < size ∨
        (128 < len.toNat ∧ (size < 128 ∨ byteAt 0 rest = 0)) then none
    else some (tag.toNat, body.take size, body.drop size)
  | _ => none

/-- A DER element of a given tag: its contents and what follows. -/
def derTag (tag : Nat) (b : Bytes) : Option (Bytes × Bytes) :=
  match derTake b with
  | some (t, x, rest) => if t = tag then some (x, rest) else none
  | none => none

/-- An optional DER element of a given tag: its contents, if it stands there, and what follows. -/
def derOpt (tag : Nat) (b : Bytes) : Option Bytes × Bytes :=
  match derTag tag b with
  | some (x, rest) => (some x, rest)
  | none => (none, b)

/-- The contents of a DER INTEGER: not empty, in the fewest bytes. -/
def derIntOk (b : Bytes) : Bool :=
  match b with
  | [] => false
  | [_] => true
  | x :: y :: _ => !((x == 0 && decide (y.toNat < 128)) || (x == 0xFF && decide (128 ≤ y.toNat)))

/-- The contents of a DER OBJECT IDENTIFIER: every component ends, and none begins with an empty group of bits. -/
def derOidOk (b : Bytes) : Bool :=
  let starts := (true :: b.map (fun x => decide (x.toNat < 128))).zip b
  b ≠ [] && decide ((b.getLast?.map (fun x => x.toNat)).getD 128 < 128) && starts.all (fun p => !(p.1 && p.2 == 0x80))

/-- The contents of a DER BOOLEAN field whose default is FALSE: absent, or TRUE. -/
def derTrueOk (b : Option Bytes) : Bool := b == none || b == some [0xFF]

/-- RFC 3161, RFC 5280: the contents of an Extensions field: one or more of an OID, a critical flag and an octet string. -/
def derExtsOk : Nat → Bytes → Bool
  | 0, _ => false
  | n + 1, b => match derTag 0x30 b with
    | none => false
    | some (x, rest) => match derTag 0x06 x with
      | none => false
      | some (oid, r) =>
        let (crit, r) := derOpt 0x01 r
        match derTag 0x04 r with
        | some (_, []) => derOidOk oid && derTrueOk crit && (rest == [] || derExtsOk n rest)
        | _ => false

/-- RFC 3161: a TimeStampReq: the messageImprint as it stands, its hash OID and digest, policy, nonce, certReq and whether any
extension is present. -/
structure TsReq where
  imprint : Bytes
  oid : Bytes
  digest : Bytes
  policy : Option Bytes
  nonce : Option Bytes
  certReq : Bool
  ext : Bool
  deriving DecidableEq, Repr

/-- R259: the digest length of a hash OID the device accepts (2.16.840.1.101.3.4.2.n). -/
def tsDigestLen (oid : Bytes) : Option Nat :=
  if oid.length = 9 ∧ oid.take 8 = [0x60, 0x86, 0x48, 0x01, 0x65, 0x03, 0x04, 0x02] then alook (byteAt 8 oid) [(1, 32), (2, 48), (3, 64), (8, 32), (9, 48), (10, 64)]
  else none

/-- R259: the parameters of a messageImprint's hash algorithm: none, or one element, which is NULL for a hash the device accepts.
DEDUCED (notes/assumptions/80.md). -/
def hashParamsOk (oid r : Bytes) : Bool :=
  r == [] || r == [0x05, 0x00] || ((tsDigestLen oid).isNone && (match derTake r with | some (_, _, []) => true | _ => false))

/-- R259: a TimeStampReq from its DER; none when it does not parse. -/
def parseTsReq (b : Bytes) : Option TsReq := do
  let (body, tail) ← derTag 0x30 b
  let (ver, r1) ← derTag 0x02 body
  let (imp, r2) ← derTag 0x30 r1
  let (alg, i1) ← derTag 0x30 imp
  let (oid, params) ← derTag 0x06 alg
  let (digest, i2) ← derTag 0x04 i1
  let (policy, r3) := derOpt 0x06 r2
  let (nonce, r4) := derOpt 0x02 r3
  let (cert, r5) := derOpt 0x01 r4
  let (ext, r6) := derOpt 0xA0 r5
  if tail ≠ [] ∨ ver ≠ [1] ∨ i2 ≠ [] ∨ r6 ≠ [] ∨ !derOidOk oid ∨ !hashParamsOk oid params ∨ !(policy.map derOidOk).getD true ∨
      !(nonce.map derIntOk).getD true ∨ !derTrueOk cert ∨ !(ext.map (fun x => derExtsOk x.length x)).getD true then none
  else some { imprint := r1.take (r1.length - r2.length), oid := oid, digest := digest, policy := policy, nonce := nonce,
              certReq := cert.isSome, ext := ext.isSome }

/-! ### Writing DER -/

/-- A DER length. -/
def derLen (n : Nat) : Bytes :=
  if n < 128 then [BitVec.ofNat 8 n]
  else if n < 2 ^ 8 then 0x81 :: beBytes 1 n
  else if n < 2 ^ 16 then 0x82 :: beBytes 2 n
  else 0x83 :: beBytes 3 n

/-- A DER element. -/
def der (tag : Byte) (x : Bytes) : Bytes := tag :: derLen x.length ++ x

/-- A SEQUENCE of elements. -/
def derSeq (l : List Bytes) : Bytes := der 0x30 l.flatten

/-- A SET of one element. -/
def derSet (x : Bytes) : Bytes := der 0x31 x

/-- The contents of a DER INTEGER of a number given in big-endian bytes. -/
def derUint (b : Bytes) : Bytes :=
  let m := b.dropWhile (· == 0)
  if (m.head?.map (fun x => decide (128 ≤ x.toNat))).getD true then 0 :: m else m

/-- An INTEGER element of a number below 2³². -/
def derNat (v : Nat) : Bytes := der 0x02 (derUint (beBytes 4 v))

/-- An AlgorithmIdentifier without parameters. -/
def derAlg (oid : Bytes) : Bytes := derSeq [der 0x06 oid]

/-! ### The response that rejects (R259) -/

/-- RFC 3161: a PKIFailureInfo of one bit, as a DER BIT STRING of a named bit list. -/
def failInfo (bit : Nat) : Bytes := der 0x03 ([BitVec.ofNat 8 (7 - bit % 8)] ++ zeros (bit / 8) ++ [BitVec.ofNat 8 (2 ^ (7 - bit % 8))])

/-- R259: the TimeStampResp that rejects: PKIStatus 2 and the failure's bit. -/
def tsRejection (bit : Nat) : Bytes := derSeq [derSeq [derNat 2, failInfo bit]]

/-! ### The granted token (R260) -/

/-- The object identifiers a token holds. -/
def oidSignedData : Bytes := [0x2A, 0x86, 0x48, 0x86, 0xF7, 0x0D, 0x01, 0x07, 0x02]
def oidTstInfo : Bytes := [0x2A, 0x86, 0x48, 0x86, 0xF7, 0x0D, 0x01, 0x09, 0x10, 0x01, 0x04]
def oidContentType : Bytes := [0x2A, 0x86, 0x48, 0x86, 0xF7, 0x0D, 0x01, 0x09, 0x03]
def oidMessageDigest : Bytes := [0x2A, 0x86, 0x48, 0x86, 0xF7, 0x0D, 0x01, 0x09, 0x04]
def oidSigningCert : Bytes := [0x2A, 0x86, 0x48, 0x86, 0xF7, 0x0D, 0x01, 0x09, 0x10, 0x02, 0x2F]
def oidEcdsa384 : Bytes := [0x2A, 0x86, 0x48, 0xCE, 0x3D, 0x04, 0x03, 0x03]
def oidMlDsa87 : Bytes := [0x60, 0x86, 0x48, 0x01, 0x65, 0x03, 0x04, 0x03, 0x13]
def oidSha384 : Bytes := [0x60, 0x86, 0x48, 0x01, 0x65, 0x03, 0x04, 0x02, 0x02]
def oidSha512 : Bytes := [0x60, 0x86, 0x48, 0x01, 0x65, 0x03, 0x04, 0x02, 0x03]

/-- The year, month and day of a day counted from 1970-01-01. -/
def civilDay (days : Nat) : Nat × Nat × Nat :=
  let z := days + 719468
  let doe := z % 146097
  let yoe := (doe - doe / 1460 + doe / 36524 - doe / 146096) / 365
  let doy := doe - (365 * yoe + yoe / 4 - yoe / 100)
  let mp := (5 * doy + 2) / 153
  let m := if mp < 10 then mp + 3 else mp - 9
  (yoe + z / 146097 * 400 + (if m ≤ 2 then 1 else 0), m, doy - (153 * mp + 2) / 5 + 1)

/-- R260: the contents of a GeneralizedTime of a time in ns of UTC: to the microsecond, trailing zeros removed. -/
def genTime (ns : Nat) : Bytes :=
  let sec := ns / 10 ^ 9
  let (y, m, d) := civilDay (sec / 86400)
  let frac := ((decOf 6 (ns % 10 ^ 9 / 1000)).reverse.dropWhile (· == 0x30)).reverse
  decOf 4 y ++ decOf 2 m ++ decOf 2 d ++ decOf 2 (sec / 3600 % 24) ++ decOf 2 (sec / 60 % 60) ++ decOf 2 (sec % 60) ++
    (if frac = [] then [] else 0x2E :: frac) ++ [0x5A]

/-- R260: an Accuracy of whole microseconds: its seconds, millis and micros, each absent when zero. -/
def accuracyOf (us : Nat) : Bytes :=
  let part (tag : Byte) (v : Nat) : Bytes := if v = 0 then [] else der tag (derUint (beBytes 8 v))
  derSeq [part 0x02 (us / 10 ^ 6), part 0x80 (us / 1000 % 1000), part 0x81 (us % 1000)]

/-- R260: the serial number's contents: SECURE_TIME ‖ MEMBER ‖ TILE as a positive INTEGER, the time its most significant part. DEDUCED
(notes/assumptions/80.md): R5's byte order is not DER's. -/
def tsSerial (now member tile : Nat) : Bytes := derUint (beBytes 8 now ++ beBytes 1 member ++ beBytes 1 tile)

/-- R260: the TSTInfo of a request: policy, serial number, time in ns of UTC, ERR in ns. -/
def tstInfo (r : TsReq) (policy serial : Bytes) (utc err : Nat) : Bytes :=
  derSeq [derNat 1, der 0x06 policy, r.imprint, der 0x02 serial, der 0x18 (genTime utc), accuracyOf (ceilDiv err 1000),
    (r.nonce.map (der 0x02)).getD []]

/-- R260: what a signer's algorithms are: SHA-512 with ML-DSA-87, else SHA-384 with ECDSA P-384: the HASH_ALG, the digest's OID and the
signature's. -/
def tsAlgs (alg : Nat) : Nat × Bytes × Bytes := if alg = 0x52 then (0x04, oidSha512, oidMlDsa87) else (0x03, oidSha384, oidEcdsa384)

/-- R260, RFC 5652: the signed attributes in the order DER gives a SET OF: contentType, signingCertificateV2 when a certificate is
supplied, messageDigest. -/
def tsAttrs (alg : Nat) (info cert : Bytes) : Bytes :=
  let attr (oid x : Bytes) : Bytes := derSeq [der 0x06 oid, derSet x]
  attr oidContentType (der 0x06 oidTstInfo) ++
    (if cert = [] then [] else attr oidSigningCert (derSeq [derSeq [derSeq [der 0x04 (hashOf 0x02 cert)]]])) ++
    attr oidMessageDigest (der 0x04 (hashOf (tsAlgs alg).1 info))

/-- R260, RFC 5652: a signature's value in a SignerInfo: r and s in DER for ECDSA, the signature's bytes for ML-DSA. -/
def tsSigValue (alg : Nat) (sig : Bytes) : Bytes :=
  if alg = 0x52 then sig else derSeq [der 0x02 (derUint (sig.take 48)), der 0x02 (derUint (sig.drop 48))]

/-- R260, RFC 5652: the SignerInfo: version 1 with the certificate's issuer and serial number when one is supplied, else version 3 with a
subject key identifier. DESIGN CHOICE (notes/assumptions/80.md): the spec names no signer identifier. -/
def signerInfo (alg : Nat) (pub cert attrs sig : Bytes) : Bytes :=
  derSeq [derNat (if cert = [] then 3 else 1), (if cert = [] then der 0x80 (Config.signerKeyId alg pub) else Config.certIssuer cert),
    derAlg (tsAlgs alg).2.1, der 0xA0 attrs, derAlg (tsAlgs alg).2.2, der 0x04 (tsSigValue alg sig)]

/-- R260: the TimeStampResp that grants: PKIStatus 0 and the SignedData of one SignerInfo over the TSTInfo, with the certificate when
certReq is TRUE. -/
def tsGranted (alg : Nat) (pub cert info sig : Bytes) (certReq : Bool) : Bytes :=
  let attrs := tsAttrs alg info cert
  let signed := derSeq [derNat 3, derSet (derAlg (tsAlgs alg).2.1),
    derSeq [der 0x06 oidTstInfo, der 0xA0 (der 0x04 info)],
    (if certReq ∧ cert ≠ [] then der 0xA0 cert else []),
    derSet (signerInfo alg pub cert attrs sig)]
  derSeq [derSeq [derNat 0], derSeq [der 0x06 oidSignedData, der 0xA0 signed]]

end Sys2Proof.Machine
end

