-- ==== Sys2Proof/Machine/Custody.lean ====
section
/-! DEFINITION. The rows of the custody family (R246 to R263): object sealing, manifests, stateful signatures and leaf leases,
timestamps and chains. -/

namespace Sys2Proof.Machine

/-! ### Object sealing (R251 to R253) -/

/-- R174, R251, R252: the output of an OBJ_SEAL of mode `mode` under the object key `h`: ciphertext and seal record, EPOCH zero. -/
def objSealed (h mode : Nat) (entropy inp : Bytes) (first : Option Bytes) (now : Nat) : Bytes :=
  let head := sealHead h mode
  let key := entropy.take 32
  let iv := sub 32 12 entropy
  let (ct, tag) := match first with
    | some p => let tag := sivTag key iv head p
                (xorBytes inp (sivStream key iv tag inp.length), tag)
    | none => aeadSeal mode key iv head inp
  ct ++ head ++ iv ++ tag ++ leBytes 8 inp.length ++ sha3_512 inp ++ leBytes 8 now ++ zeros 8

/-- R251: OBJ_SEAL: the object key's record is made, if it was not made as the job streamed, and the object is sealed. The EPOCH of
the seal record takes its value at the commit point. -/
def State.objSeal (t : Nat) (s : State) (j : Job) : State :=
  s.withKey t j 0 (fun s r _ =>
    let s := if j.made.isSome then s else s.makeObjKey j r
    match s.job? j.id with
    | none => s
    | some j => match j.made with
      | none => s
      | some (h, page, rec) => s.answerBring j [.keyPut j.part page rec true] [keyPageObj j.part page]
          (okOut (objSealed h j.cust.objMode j.entropy j.input j.firstPass s.now)))

/-- R251 OBJ_SEAL -/
def execObjSeal (t : Nat) (s : State) : Host.Outcome State Fault Refusal := .next (s.onTile t Op.objSeal (State.objSeal t))

/-- R253: OBJ_OPEN. -/
def State.objOpen (t : Nat) (s : State) (j : Job) : State :=
  let b := j.input
  if !sealRecordOk b ∨ b.length ≠ 128 + leAt 40 8 b then s.answer j (fail Status.invalidInput)
  else s.withKey t j 4 (fun s _ key =>
    match aeadOpen (byteAt 8 b) key (sub 12 12 b) (b.take 12) (b.drop 128) (sub 24 16 b) with
    | none => s.answer j (fail Status.authFail)
    | some pt => s.answer j (if sha3_512 pt = sub 48 64 b then okOut pt else fail Status.authFail))

/-- R253 OBJ_OPEN -/
def execObjOpen (t : Nat) (s : State) : Host.Outcome State Fault Refusal := .next (s.onTile t Op.objOpen (State.objOpen t))

/-! ### Manifests (R254, R255) -/

/-- R254: one level of the Merkle tree. -/
def merkleUp : List Bytes → List Bytes
  | a :: b :: l => sha3_512 ([0x01] ++ a ++ b) :: merkleUp l
  | l => l

/-- R254: the root over leaf hashes. -/
def merkleRoot : Nat → List Bytes → Bytes
  | 0, l => l.headD []
  | n + 1, l => match l with
    | [] => []
    | [x] => x
    | _ => merkleRoot n (merkleUp l)

/-- R254: MANIFEST_BUILD. -/
def State.manifestBuild (s : State) (j : Job) : State :=
  let n := j.input.length
  let count := (n - 32) / 128
  if n < 160 ∨ (n - 32) % 128 ≠ 0 ∨ 2 ^ 24 < count then s.answer j (fail Status.invalidInput)
  else
    let leaves := (blocks 128 (j.input.drop 32)).map (fun r => sha3_512 ([0x00] ++ r))
    s.answer j (okOut (leBytes 2 1 ++ leBytes 1 j.part ++ [0] ++ leBytes 4 count ++ sub 0 8 j.desc.param ++ leBytes 8 s.now ++
      leBytes 8 s.clock.err ++ merkleRoot 25 leaves ++ j.input.take 32))

/-- R254 MANIFEST_BUILD -/
def execManifestBuild (t : Nat) (s : State) : Host.Outcome State Fault Refusal :=
  .next (s.onTile t Op.manifestBuild State.manifestBuild)

/-! ### Leaf leases (R256 to R258) -/

/-- R256, R257: the first leaf that no lease, committed or asked for, has covered. -/
def State.leafNext (s : State) (h : Nat) : Nat :=
  let asked := (s.commit.waiting ++ s.commit.batches.flatMap (fun b => b.entries)).flatMap (fun e => e.changes.filterMap (fun x =>
    match x with | .leaf h' _ b l => if h' = h then some (b + l) else none | _ => none))
  asked.foldl max (((s.vault.stateful.find? (fun e => e.handle == h)).map (fun e => e.hwm)).getD 0)

/-- R257: ask for the next lease of a key on a tile, unless one is asked for already. -/
def State.askLeaf (s : State) (t h : Nat) : State :=
  let want := ((s.tile? t).map (fun x => x.wantLeaf.contains h)).getD true
  let base := s.leafNext h
  let n := min 4096 (s.leafLimitOf h - base)
  if want ∨ n = 0 then s
  else
    (s.modTile t (fun x => { x with wantLeaf := x.wantLeaf ++ [h] })).bring { changes := [.leaf h t base n], objs := [], job := none, res := {} }

/-- R257: LEAF_LEASE_REQUEST: the next lease is asked for when at most 1,024 leaves of the only one remain. -/
def State.leafLeaseRequest (s : State) (t h : Nat) : State :=
  match s.tile? t with
  | none => s
  | some x =>
    match x.leaves.filter (fun l => l.owner == h) with
    | [l] => if l.stop - l.next ≤ 1024 ∧ s.power.mode = .serving then s.askLeaf t h else s
    | _ => s

/-- R257 LEAF_LEASE_REQUEST -/
def execLeafLeaseRequest (t handle : Nat) (s : State) : Host.Outcome State Fault Refusal := .next (s.leafLeaseRequest t handle)

/-- R258: the next unused leaf of a tile's current lease. -/
def State.takeLeaf (s : State) (t h : Nat) : Option (Nat × State) :=
  match (s.tile? t).bind (fun x => x.leaves.find? (fun l => l.owner == h && decide (l.next < l.stop))) with
  | none => none
  | some l =>
    let used := { l with next := l.next + 1 }
    some (l.next, s.modTile t (fun x =>
      { x with leaves := (x.leaves.map (fun k => if k = l then used else k)).filter (fun k => decide (k.next < k.stop)) }))

/-- R257, R258: run with the next leaf: FENCED on a fenced device, LEASE_EXHAUSTED when no leaf is left, else the job waits for the
grant. -/
def State.withLeaf (s : State) (t : Nat) (j : Job) (h : Nat) (f : State → Nat → State) : State :=
  if s.pair.role = 3 then s.answer j (fail Status.fenced)
  else match s.takeLeaf t h with
    | some (n, s) => f s n
    | none =>
      if s.leavesSpent h then s.answer j (fail Status.leaseExhausted)
      else if countOf (fun x => x.num ≠ t && x.mayLeaf h) s.tiles < j.cust.hbsTiles then
        (s.askLeaf t h).modJob j.id (fun k => { k with awaits := some h })
      else s

/-! ### Signatures (R255, R258) -/

/-- What the standards' functions take of a scheme outside a public-key context: SCHEME and HASH_ALG, nothing else. -/
def plainScheme (scheme hash : Nat) : Bytes := leBytes 1 scheme ++ leBytes 1 hash ++ zeros 38

/-- R255, R258: sign a message with a record of the custody family: the signature, with the leaf index as DETAIL for a stateful key. -/
def State.custSign (s : State) (t : Nat) (j : Job) (slot : Nat) (m : Bytes) : State :=
  s.withKey t j slot (fun s r key =>
    if isStateful r.alg then
      s.withLeaf t j (j.handle slot) (fun s leaf =>
        s.answer j (okOut (fixLen (hbsSigLen r.alg key) (Config.sign r.alg (leBytes 8 leaf) key m [])) leaf))
    else if isHashSigner r.alg then
      s.answer j (okOut (fixLen (hbsSigLen r.alg key) (Config.sign r.alg (plainScheme 0 0) key m (j.hedge.take (r.len / 4)))))
    else if r.alg = 0x52 then
      if Config.signExhausts r.alg (plainScheme 0x20 0) key m j.hedge then s.answer j (fail Status.engineFault 0x07)
      else s.answer j (okOut (fixLen 4627 (Config.sign r.alg (plainScheme 0x20 0) key m j.hedge)))
    else s.answer j (okOut (fixLen 96 (Config.sign r.alg (plainScheme 0x10 0x03) key m j.hedge))))

/-- R255: MANIFEST_SIGN. -/
def State.manifestSign (t : Nat) (s : State) (j : Job) : State :=
  let b := j.input
  if b.length ≠ 128 ∨ 2 < j.signer ∨ leAt 0 2 b ≠ 1 ∨ byteAt 2 b ≠ j.part ∨ byteAt 3 b ≠ 0 then s.answer j (fail Status.invalidInput)
  else s.custSign t j j.signer b

/-- R255 MANIFEST_SIGN -/
def execManifestSign (t : Nat) (s : State) : Host.Outcome State Fault Refusal :=
  .next (s.onTile t Op.manifestSign (State.manifestSign t))

/-- R258: CUSTODY_SIGN. -/
def State.custodySign (t : Nat) (s : State) (j : Job) : State := s.custSign t j 0 j.input

/-- R258 CUSTODY_SIGN -/
def execCustodySign (t : Nat) (s : State) : Host.Outcome State Fault Refusal := .next (s.onTile t Op.custodySign (State.custodySign t))

/-! ### Timestamps (R259 to R261) -/

/-- R259: the PKIFailureInfo bit a request is rejected with. -/
def State.tsReject (s : State) (j : Job) (r : TsReq) : Option Nat :=
  if tsDigestLen r.oid ≠ some r.digest.length then some 0
  else if r.policy.isSome ∧ r.policy ≠ some j.cust.policy then some 15
  else if r.ext then some 16
  else if 32 < (r.nonce.getD []).length then some 5
  else if s.clock.state = .unset ∨ j.cust.maxErr * 1000 < s.clock.err then some 14
  else none

/-- R260: the token over a TSTInfo: the signature stands over the signed attributes as a SET OF. R208: ENGINE_FAULT where an ML-DSA
signature runs out of iterations. -/
def Job.tsToken (j : Job) (alg : Nat) (pub key cert info : Bytes) (certReq : Bool) : Result :=
  let m := derSet (tsAttrs alg info cert)
  let scheme := if alg = 0x52 then plainScheme 0x20 0 else plainScheme 0x10 0x03
  if alg = 0x52 ∧ Config.signExhausts alg scheme key m j.hedge then fail Status.engineFault 0x07
  else okOut ((tsGranted alg pub cert info (fixLen (if alg = 0x52 then 4627 else 96) (Config.sign alg scheme key m j.hedge)) certReq).take
    (6144 + cert.length))

/-- R259, R260: TIMESTAMP. The reply to a request fits the 6,144 B and the certificate's length that OUT_LEN must allow. -/
def State.timestamp (t : Nat) (s : State) (j : Job) : State :=
  let cert := j.input.drop j.reqLen
  match (if j.input.length < j.reqLen then none else parseTsReq (j.input.take j.reqLen)) with
  | none => s.answer j (fail Status.invalidInput)
  | some r => s.withKey t j 0 (fun s k key =>
      let pub := publicOf k.alg k.len key
      if cert ≠ [] ∧ Config.certKey cert ≠ some ((pubAlg k.alg).getD 0, pub) then s.answer j (fail Status.invalidInput)
      else match s.tsReject j r with
        | some bit => s.answer j (okOut (tsRejection bit) bit)
        | none =>
          let info := tstInfo r j.cust.policy (tsSerial s.now s.member t) s.clock.utc.toNat s.clock.err
          s.answer j (j.tsToken k.alg pub key cert info r.certReq))

/-- R259 TIMESTAMP -/
def execTimestamp (t : Nat) (s : State) : Host.Outcome State Fault Refusal := .next (s.onTile t Op.timestamp (State.timestamp t))

/-- R261: TIME_QUERY. -/
def State.timeQuery (s : State) (j : Job) : State :=
  let c := s.clock
  s.answer j (okOut (leBytes 8 s.now ++ leBytes 8 c.err ++ leBytes 1 c.state.code ++ leBytes 1 c.source ++ zeros 6 ++
    leBytes 8 (if c.state = .locked then 0 else c.lastLock)))

/-- R261 TIME_QUERY -/
def execTimeQuery (t : Nat) (s : State) : Host.Outcome State Fault Refusal := .next (s.onTile t Op.timeQuery State.timeQuery)

/-! ### Chains of custody (R262, R263) -/

/-- R263: the pending versions of a record, in whatever batch or job they wait. -/
def State.pendingRecs (s : State) (h : Nat) : List KeyRec :=
  let es := s.commit.waiting ++ s.commit.batches.flatMap (fun b => b.entries) ++ s.jobs.filterMap (fun j => j.brings)
  es.flatMap (fun e => e.changes.filterMap (fun c => match c with
    | .keyPut p n r false => if recHandle p n r = h then some r else none
    | _ => none))

/-- R263: the head an append builds on: the latest of the committed one and those still pending. -/
def State.chainHead (s : State) (h : Nat) (key : Bytes) (r : KeyRec) : Option Bytes :=
  let mats := (r :: s.pendingRecs h).filterMap (fun x => openRec key h x)
  mats.foldl (fun acc m => match acc with
    | none => some m
    | some a => if leAt 0 8 a < leAt 0 8 m then some m else some a) none

/-- R263: another append to the same head whose key token came first has not yet taken its turn, on whatever tile. -/
def State.chainBehind (s : State) (j : Job) : Bool :=
  s.jobs.any (fun k => j.appendsBefore k && k.result.isNone && k.phase ≠ .done && k.phase ≠ .committing)

/-- R262, R263, R400: CHAIN_APPEND. -/
def State.chainAppend (t : Nat) (s : State) (j : Job) : State :=
  let h := j.handle 0
  let n := j.input.length
  if n = 0 ∨ 1024 < n then s.answer j (fail Status.invalidInput)
  else if s.chainBehind j then s
  else match s.recAt j.part (hIndex h) with
    | none => s.answer j (fail Status.keyAbsent)
    | some r => match (s.ownKey j.part r).bind (fun k => (s.chainHead h k r).map (fun m => (k, m))) with
      | none => s.answer j (fail Status.engineFault 0x04)
      | some (k, head) =>
        let seq := leAt 0 8 head + 1
        if 2 ^ 64 ≤ seq ∨ (s.vault.headsShut ∧ !s.vault.newHeads.contains h) then s.answer j (fail Status.leaseExhausted)
        else s.withKey t j 1 (fun s _ key =>
          let rec_ := leBytes 8 seq ++ leBytes 8 h ++ leBytes 8 s.now ++ leBytes 8 s.clock.err ++ sub 8 64 head ++ leBytes 4 n ++ zeros 28 ++ j.input
          if Config.signExhausts 0x52 (plainScheme 0x20 0) key rec_ j.hedge then s.answer j (fail Status.engineFault 0x07)
          else
            let sig := fixLen 4627 (Config.sign 0x52 (plainScheme 0x20 0) key rec_ j.hedge)
            let x := wrapRec k h r (leBytes 8 seq ++ sha3_512 rec_)
            s.answerBring j [.keyPut j.part (hPage h) x false] [keyPageObj j.part (hPage h)] (okOut (rec_ ++ sig)))

/-- R262 CHAIN_APPEND -/
def execChainAppend (t : Nat) (s : State) : Host.Outcome State Fault Refusal := .next (s.onTile t Op.chainAppend (State.chainAppend t))

end Sys2Proof.Machine
end

