-- ==== Sys2Proof/Machine/LifeOps.lean ====
section
/-! DEFINITION. Life cycle, images, measurements and identity keys: the operations the kiln's rows share (R348 to R370). -/

namespace Sys2Proof.Machine

/-! ### Life-cycle codewords (R350, R351, R354) -/

/-- R350: the codewords of states 0 to 5. -/
def codewords : List (BitVec 64) :=
  [0x0000000000000000, 0x00000F0000F0000F, 0x0000FF000FF000FF, 0x000FFF00FFF00FFF, 0x00FFFF0FFFF0FFFF, 0xFFFFFFFFFFFFFFFF]

/-- The bits set in a word. -/
def popCount (w : BitVec 64) : Nat := countOf (fun i => w.getLsbD i) (List.range 64)

/-- R351: a word decodes to the state whose codeword differs from it in at most 2 bits, else to 7. -/
def decodeWord (w : BitVec 64) : Nat := ((List.range 6).find? (fun k => decide (popCount (w ^^^ codewords.getD k 0) ≤ 2))).getD 7

/-- R348: the life-cycle slot. -/
def Fuses.lc (f : Fuses) : Nat → LcSlot
  | 0 => f.slot0
  | 1 => f.slot1
  | 2 => f.slot2
  | _ => f.slot3

/-- Change one life-cycle slot. -/
def Fuses.setLc (f : Fuses) (k : Nat) (x : LcSlot) : Fuses :=
  if k = 0 then { f with slot0 := x } else if k = 1 then { f with slot1 := x } else if k = 2 then { f with slot2 := x } else { f with slot3 := x }

/-- R348: OWNER of a slot. -/
def Fuses.owner (f : Fuses) : Nat → Bytes
  | 0 => f.owner0
  | 1 => f.owner1
  | 2 => f.owner2
  | _ => f.owner3

/-- Blow bits of an OWNER field. -/
def Fuses.setOwner (f : Fuses) (k : Nat) (b : Bytes) : Fuses :=
  let o := List.zipWith (· ||| ·) (f.owner k) b
  if k = 0 then { f with owner0 := o } else if k = 1 then { f with owner1 := o } else if k = 2 then { f with owner2 := o } else { f with owner3 := o }

/-- R501: the bits of a target of `width` bits that are still to be blown. -/
def newBits (width : Nat) (v w : Nat) : List Nat := (List.range width).filter (fun b => bitOf b w && !bitOf b v)

/-- R357, R501: of the bits to be blown, in ascending order, those up to the `n`th: the rest fails. -/
def cutMask (width : Nat) (v w n : Nat) : Nat := 2 ^ ((newBits width v w).getD n width) - 1

/-- R357: a 64-bit word partly blown towards another. -/
def cutWord (v w : BitVec 64) (n : Nat) : BitVec 64 := v ||| (w &&& BitVec.ofNat 64 (cutMask 64 v.toNat w.toNat n))

/-- R357: an OWNER field partly blown towards a digest. -/
def cutOwner (v d : Bytes) (n : Nat) : Bytes := List.zipWith (· ||| ·) v (leBytes 32 (leNat d &&& cutMask 256 (leNat v) (leNat d) n))

/-- R352: OWNER of a slot is blown. -/
def Fuses.ownerSet (f : Fuses) (k : Nat) : Bool := !allZero (f.owner k)

/-- R354: the permitted successors of a state in a slot; that of RETURNED to PROVISIONED enters the next slot. -/
def mayFollow (state slot target : Nat) : Bool :=
  target == 5 && state ≠ 5 || (state == 0 && target == 1 && slot == 0) || (state == 1 && target == 2 && slot == 0) ||
    (state == 2 && target == 3) || ((state == 2 || state == 3) && target == 4 && decide (slot ≤ 2))

/-- R351: the current slot: the highest whose STATE word has a bit set, else 0. -/
def Fuses.curSlot (f : Fuses) : Nat := ((List.range 4).reverse.find? (fun k => (f.lc k).state ≠ 0)).getD 0

/-- R351: the highest state to which a slot's targets decode; 6 for none. -/
def LcSlot.target (x : LcSlot) : Nat :=
  match [decodeWord x.targetA, decodeWord x.targetB].filter (fun k => 1 ≤ k && k ≤ 5) with
  | [] => 6
  | k :: ks => ks.foldl max k

/-- R351, R357: what decoding the life cycle answers: the fuses, the slot, the state, and whether a transition was completed. `cut` is
the number of bits of the STATE word after which a blow fails. -/
def decodeLife (f : Fuses) (cut : Option Nat) : Fuses × Nat × Nat × Bool :=
  let k := f.curSlot
  let st := decodeWord (f.lc k).state
  let enters := st == 4 && decide (k < 3) && (decodeWord (f.lc (k + 1)).targetA == 2 || decodeWord (f.lc (k + 1)).targetB == 2)
  let (slot, state, target) := if enters then (k + 1, 0, 2) else (k, st, (f.lc k).target)
  let word := codewords.getD target 0
  let ok := enters || (target ≤ 5 && mayFollow state slot target) ||
    (state == 7 && target ≤ 5 && ((f.lc slot).state &&& ~~~word) == 0)
  let old := (f.lc slot).state
  let short : Bool := match cut with | some n => decide (n < (newBits 64 old.toNat word.toNat).length) | none => false
  if ok ∧ short then
    let g := f.setLc slot { f.lc slot with state := cutWord old word (cut.getD 0) }
    (g, g.curSlot, decodeWord (g.lc g.curSlot).state, false)
  else if ok then (f.setLc slot { f.lc slot with state := old ||| word }, slot, target, true)
  else (f, slot, state, false)

/-- R349: RETURNED cycles left. -/
def returnedLeft (state slot : Nat) : Nat := if state = 4 ∨ state = 5 then 2 - slot else 3 - slot

/-- R371: the pending target: 6 for none. -/
def Life.pendingTarget (l : Life) : Nat :=
  let k := l.fuses.curSlot
  if l.state = 4 ∧ k < 3 ∧ (l.fuses.lc (k + 1)).target = 2 then 2
  else
    let t := (l.fuses.lc k).target
    if t ≤ 5 ∧ t ≠ l.state ∧ (mayFollow l.state k t ∨ l.state = 7) then t else 6

/-- R352: debug open by state. -/
def debugByState (state : Nat) : Bool := state == 0 || state == 1 || state == 4

/-- R371 DEBUG. -/
def Life.debugCode (l : Life) : Nat := if debugByState l.state then 2 else l.debug

/-- R365: development configuration. -/
def State.development (s : State) : Bool :=
  s.tabs.table.parts.all (fun p => p.num == 0) && s.keys.pages.all (fun g => g.recs.all (fun r => !r.attr.getLsbD 3))

/-! ### Images (R358, R359) -/

/-- R358: bytes of a signature block of both algorithms. -/
def sigBlockLen : Nat := 96 + 4627
/-- R358: bytes of an owner block. -/
def ownerBlockLen : Nat := 97 + 2592 + sigBlockLen

/-- Verify an ECDSA P-384 with SHA-384 and an ML-DSA-87 signature of a message under two public keys. -/
def dualVerify (ec ml m sigs : Bytes) : Bool :=
  Config.verify 0x29 (plainScheme 0x10 0x03) ec m (sub 0 96 sigs) && Config.verify 0x5A (plainScheme 0x20 0) ml m (sub 96 4627 sigs)

/-- R358: the header's H. -/
def imageH (img : Bytes) : Bytes := sha3_512 (img.take 256)

/-- R358: the body of an image. -/
def imageBody (img : Bytes) : Bytes := sub 256 (leAt 16 4 img) img

/-- R358: the components its table gives. -/
def imageComps (img : Bytes) : List (Nat × Nat × Bytes) := Config.imageComponents (byteAt 7 img) (imageBody img)

/-- R359 reason 2. -/
def imageLayoutOk (img : Bytes) : Bool :=
  img.take 4 == ascii "NRTX" && leAt 4 2 img == 1 && (byteAt 6 img == 1 || byteAt 6 img == 2) && decide (1 ≤ byteAt 7 img) &&
    decide (byteAt 7 img ≤ 16) && decide (byteAt 14 img ≤ 5) && decide (byteAt 15 img ≤ 1) && zeroAt 25 7 img && zeroAt 96 160 img &&
    (byteAt 6 img == 2 || byteAt 24 img == 0) && decide (img.length ≤ 2 ^ 24) &&
    img.length == 256 + leAt 16 4 img + sigBlockLen + (if byteAt 15 img = 1 then ownerBlockLen else 0)

/-- R359 reason 3. -/
def imageDigestsOk (img : Bytes) : Bool :=
  let b := imageBody img
  sub 32 64 img == sha3_512 b && (imageComps img).all (fun c => decide (c.1 + c.2.1 ≤ b.length) && sha3_512 (sub c.1 c.2.1 b) == c.2.2)

/-- R348: revoking these sets leaves an unrevoked set of each role. -/
def revokeOk (old new : Nat) : Bool :=
  (List.range 6).any (fun k => !bitOf k old && !bitOf k new) && [6, 7].any (fun k => !bitOf k old && !bitOf k new)

/-- R359 reason 8: the owner block. -/
def ownerBlockOk (owner img : Bytes) : Bool :=
  let o := 256 + leAt 16 4 img
  let hy := sub o sigBlockLen img
  let b := sub (o + sigBlockLen) ownerBlockLen img
  byteAt 15 img == 1 && sha3_256 (b.take 2689) == owner &&
    dualVerify (sub 0 97 b) (sub 97 2592 b) (sha3_512 (imageH img ++ hy)) (b.drop 2689)

/-- R352: the state whose images are accepted. -/
def Life.imageState (l : Life) : Nat := if l.state = 7 then (if l.fuses.ownerSet l.slot then 3 else 2) else l.state

/-- R359: the checks in order: 0 when all pass, else the reason of the first that fails. -/
def imageReason (l : Life) (img : Bytes) : Nat :=
  let f := l.fuses
  let set := byteAt 14 img
  if img.length < 256 then 1
  else if !imageLayoutOk img then 2
  else if !imageDigestsOk img then 3
  else if !dualVerify (Config.romEc set) (Config.romMl set) (imageH img) (sub (256 + leAt 16 4 img) sigBlockLen img) then 4
  else if f.hyRevoke.getLsbD set ∨ (byteAt 6 img = 2 ∧ !revokeOk f.hyRevoke.toNat (byteAt 24 img)) then 5
  else if byteAt 12 img < f.minSvn then 6
  else if !bitOf l.imageState (byteAt 13 img) then 7
  else if l.imageState = 3 ∧ !ownerBlockOk (f.owner l.slot) img then 8
  else 0

/-! ### Measurements (R364) -/

/-- R364: extend a measurement register. -/
def Life.extend (l : Life) (k : Nat) (d : Bytes) : Life := { l with meas := l.meas.modify k (fun m => sha3_512 (m ++ d)) }

/-- R364 MEAS1: an image is measured: H, then each component digest in table order. -/
def Life.measureImage (l : Life) (img : Bytes) : Life :=
  (imageComps img).foldl (fun l c => l.extend 1 c.2.2) (l.extend 1 (imageH img))

/-- R364 MEAS4. -/
def Life.measureState (l : Life) (event : Bytes) : Life := l.extend 4 (sha3_512 (leBytes 1 l.state ++ leBytes 1 l.slot ++ event))

/-- R358, R360: an image becomes the running one. -/
def Life.run (l : Life) (img : Bytes) : Life :=
  ({ l with running := img.take 256, runSvn := byteAt 12 img, suites := leAt 20 4 img } : Life).measureImage img

/-- R359: a TYPE 2 image is applied. -/
def Life.revoke (l : Life) (img : Bytes) : Life :=
  { l with fuses := { l.fuses with hyRevoke := l.fuses.hyRevoke ||| BitVec.ofNat 8 (byteAt 24 img) } }

/-! ### Identity (R368) -/

/-- R368: the secret S of a DUS. -/
def identityOf (dus : Bytes) : Bytes := sha3_512 (dus ++ ascii "IDENTITY")

/-- R368: the P-384 private material from S. -/
def identityEc (sec : Bytes) : Bytes := Config.keyGen 0x21 0 (sec.take 32)
/-- R368: the ML-DSA-87 private material from S. -/
def identityMl (sec : Bytes) : Bytes := Config.keyGen 0x52 0 (sec.drop 32)

/-- R368: the identity public keys. -/
def identityPub (sec : Bytes) : Bytes := fixLen 97 (Config.publicKey 0x21 (identityEc sec)) ++ fixLen 2592 (Config.publicKey 0x52 (identityMl sec))

/-- The identity's two signatures of a message, with their random bytes. -/
def identitySign (sec m rnd : Bytes) : Bytes × Bytes :=
  (fixLen 96 (Config.sign 0x21 (plainScheme 0x10 0x03) (identityEc sec) m (sub 0 48 rnd)),
   fixLen 4627 (Config.sign 0x52 (plainScheme 0x20 0) (identityMl sec) m (sub 48 32 rnd)))

/-- R365: the 64 bytes of a challenge. -/
def State.challengeBytes (s : State) (purpose : Nat) (nonce : Bytes) : Bytes :=
  leBytes 2 1 ++ leBytes 1 purpose ++ zeros 1 ++ leBytes 8 s.life.fuses.serial ++ leBytes 1 s.life.slot ++ leBytes 1 s.life.state ++
    zeros 2 ++ fixLen 32 nonce ++ leBytes 8 s.now ++ zeros 8

/-- R365, R366: a Kywell token answers a challenge: signatures under an unrevoked set 6 or 7, PURPOSE, SERIAL, SLOT and NONCE. -/
def State.tokenOk (s : State) (tok : Bytes) (purpose slot : Nat) : Bool :=
  match s.life.challenge with
  | none => false
  | some c =>
    let body := tok.take 64
    c.purpose == purpose && leAt 0 2 body == 1 && byteAt 2 body == purpose && byteAt 3 body == 0 &&
      leAt 4 8 body == s.life.fuses.serial && byteAt 12 body == slot && sub 13 3 body == sub 13 3 c.body && sub 16 32 body == c.nonce &&
      zeroAt 52 12 body &&
      [6, 7].any (fun k => !s.life.fuses.hyRevoke.getLsbD k && dualVerify (Config.romEc k) (Config.romMl k) (sha3_512 body) (tok.drop 64))

end Sys2Proof.Machine
end

