-- ==== Sys2Proof/Machine/Pins.lean ====
section
/-! DEFINITION. What the device drives on its pins (R275, R403, R471, R489): the features of the pin table, general use, and the
outputs that hold their last value during a switchover. -/

namespace Sys2Proof.Machine

/-- The highest die temperature (R406). -/
def Thermal.hottest (t : Thermal) : Int := t.die.foldl max (t.die.headD 0)

/-- R489: what an output feature of the pin table shows: HALT_OUT, SERVING_OUT, TAMPER_ALERT_B, THERM_ALERT, CARD_LED0 to CARD_LED3. -/
def State.featureLevel (s : State) (k : Nat) : Bool :=
  if k = 0 then s.power.mode == .halted
  else if k = 1 then s.power.mode == .serving
  else if k = 2 then s.guard.alertPin
  else if k = 3 then decide ((s.fld Reg.thgFan 15 8 : Int) < s.thermal.hottest)
  else s.io.ports.any (fun p => p.num + 4 == k && p.cmd.isSome)

/-- R489: the level the device drives on a GPIO pin, none where its driver is off: an output feature's, or that of general use as an
output. Before the kiln has resolved the pins none has an owner. -/
def State.pinNow (s : State) (p : Nat) : Option Bool :=
  let o := s.tabs.pins.getD p 15
  if o < 8 then some (s.featureLevel o)
  else if o = 14 ∧ bitOf p (s.reg Reg.lioGpioDir) then some (bitOf p (s.reg Reg.lioGpioOut))
  else none

/-- R403: the outputs as the state now drives them. -/
def State.outputsNow (s : State) : Outputs :=
  { pins := (List.range 32).map s.pinNow, alert := s.guard.alertPin, cardPower := (List.range 4).map (fun n => s.io.ports.any (fun p => p.num == n && p.power)),
    chPower := (List.range 8).map s.chPwrEn }

/-- R403: the outputs: from step 1 to step 5 of a switchover they hold the values they had before it. -/
def State.outputs (s : State) : Outputs := s.power.heldOut.getD s.outputsNow

/-- R403: the outputs from now on hold, unless they do already. -/
def State.holdOutputs (s : State) : State :=
  match s.power.heldOut with
  | some _ => s
  | none => { s with power := { s.power with heldOut := some s.outputsNow } }

/-- A bit vector of the numbers below `n` that satisfy a predicate. -/
def bitmap (n : Nat) (p : Nat → Bool) : Nat := sumOf (fun k => if p k then 2 ^ k else 0) (List.range n)

/-- R494: the input levels of the GPIO pins: what the device drives, and a free value on a pin that it does not. -/
def State.gpioIn (s : State) : Nat :=
  bitmap 32 (fun p => (s.outputs.pins.getD p none).getD (bitOf p (Config.freeNat s.free)))

end Sys2Proof.Machine
end

