-- ==== Sys2Proof/Machine/RegView.lean ====
section
/-! DEFINITION. The configuration space as software reads it (R437): the stored registers, and the Live fields computed from the
state (R84, R115, R153, R301, R321, R346, R347, R371, R372, R408, R409, R436, R455, R470, R493, R494). -/

namespace Sys2Proof.Machine

/-- R433: the pairing in the retained configuration. -/
def State.pairing (s : State) : Option Pairing := s.inForce.bind (fun x => x.pairing)

/-- R491: the IDCODE. -/
def jtagIdcode : Nat := 1 + 2 * (Config.jtagMaker % 2 ^ 11) + 0x4800 * 2 ^ 12 + 2 ^ 28 * (Config.siliconRev % 16)

/-- R84: a port's status. -/
def Port.status (p : Port) : Nat := p.linkUp.toNat + 2 ^ 4 * p.fecLock.toNat + 2 ^ 8 * min 255 p.linkDowns

/-- R109: the flows of a course that hold a flow-table entry. -/
def State.flowsIn (s : State) (c : Nat) : Nat :=
  ((s.jobs.filter (fun j => j.entry.isSome && j.course == c && j.desc.ctxId ≠ 0)).map (fun j => (j.queue, j.desc.ctxId))).dedup.length

/-- R115: words in a tile's hod. -/
def Tile.hodWords (t : Tile) : Nat := sumOf (fun p => p.words) t.hod

/-- R110, R115: the hod's packet counter. -/
def Tile.jobPackets (t : Tile) : Nat := countOf (fun p => p.kind == 0) t.hod

/-- R115: DSP_HOD_STAT's STATE of a tile. -/
def Tile.hodState (t : Tile) : Nat := if t.state ≤ 1 then t.state else if t.state = 4 then 3 else 2

/-- R337, R347: the partition a tile serves now. -/
def State.tenantOn (s : State) (t : Tile) : Nat :=
  match t.borrower with
  | some p => p
  | none => if (s.tileRec t.num).kind = 1 then (s.tileRec t.num).slots.getD t.slotNow 0 else (s.tileRec t.num).owner

/-- R153: key pages in use. -/
def State.keyPages (s : State) : Nat := sumOf (fun p => s.pagesOf p) (List.range 256)

/-- R153: committed pages not yet loaded. -/
def State.unloadedPages (s : State) : Nat :=
  countOf (fun e => e.obj.kind ≠ 3 && e.load ≠ .loaded) s.keys.objs +
    s.below (fun d => Config.ctxPagesBelow d + sumOf (fun p => Config.pagesBelow d p) (List.range 256))

/-- R153: committed pages remain unloaded; a tree page not yet loaded has some below it. -/
def State.pagesRemain (s : State) : Bool := s.keys.objs.any (fun e => (e.obj.kind ≠ 3 && e.load ≠ .loaded) || s.unknownTree e)

/-- R301: percent of the patrol pass done. -/
def State.scrubProgress (s : State) : Nat :=
  let cs := s.dram.channels.filter (fun c => c.state == 2)
  let all := sumOf (fun c => c.blocks + 1) cs
  if all = 0 then 0 else min 100 (100 * sumOf (fun c => c.scrubBlock) cs / all)

/-- R449, R455: a ceremony holds its M custodians. -/
def State.ceremonyMet (s : State) : Bool :=
  match s.mgmt.ceremony with
  | some c => s.ceremonyHolds c.queue
  | none => false

/-- R409: 8-bit two's complement of a temperature. -/
def tempBits (t : Int) : Nat := encSigned 8 (max (-128) (min 127 t))

/-- R397: an evidence counter is full. -/
def Fuses.full (f : Fuses) : Bool := f.evidence.any (fun n => decide (255 ≤ n))

/-- One byte or 4-bit field per element, lowest first. -/
def packed (w : Nat) (l : List Nat) : Nat := l.foldr (fun x n => x % 2 ^ w + 2 ^ w * n) 0

/-- The cell a register shows. -/
def Guard.cell (g : Guard) (n : Nat) : Cell := if n = 0 then g.cellA else g.cellB

/-- R381: the capacity CAP gives a cell, µAh. -/
def State.capOf (s : State) (n : Nat) : Nat := 10000 * bitsOf 31 18 (s.reg Reg.vltCellCfg n)

/-- R470: the ring an EVR_ register shows to a queue. -/
def State.shownRing (s : State) (q : Nat) : Ring := (s.ring? (s.selOf q Reg.evrRsel)).getD { num := 0, cap := 0 }

/-- R490: the class of a feature; 4 general use, 7 none. -/
def featureClass (k : Nat) : Nat := if k ≤ 1 then 0 else if k = 2 then 1 else if k = 3 then 2 else if k ≤ 11 then 3 else if k = 14 then 4 else 7

/-- R84, R115, R153: the Live fields of the HQI_, DSP_ and KST_ registers. -/
def State.liveFront (s : State) (q addr : Nat) : Nat :=
  let c := s.selOf q Reg.dspCsel
  let co := (s.course? c).getD { num := c }
  let n := s.selOf q Reg.dspQsel
  let p := s.selOf q Reg.dspPsel
  let t := (s.tile? (s.selOf q Reg.dspTsel)).getD { num := 0 }
  let kp := s.selOf q Reg.kstPsel
  if addr = Reg.hqiPortaStat then s.net.portA.status
  else if addr = Reg.hqiPortbStat then s.net.portB.status
  else if addr = Reg.hqiLevel then s.qps.length + 2 ^ 16 * s.readsOut
  else if addr = Reg.hqiLevelMax then max s.qpMax s.qps.length + 2 ^ 16 * max s.rdMax s.readsOut
  else if addr = Reg.dspMsLevel then s.inUse c + 2 ^ 16 * s.readyIn c
  else if addr = Reg.dspMsLevelMax then max co.inUseMax (s.inUse c) + 2 ^ 16 * max co.readyMax (s.readyIn c)
  else if addr = Reg.dspFlows then s.flowsIn c
  else if addr = Reg.dspCtxBound then sumOf (fun p => s.ctxsOf p) (List.range 256)
  else if addr = Reg.dspQcourse then ((s.qp? n).map (fun x => x.homeCourse + 8 * b2n x.newCourse.isSome)).getD 0
  else if addr = Reg.dspCredit then s.creditOf p c + 2 ^ 16 * countOf (fun j => j.entry.isSome && j.part == p && j.course == c) s.jobs
  else if addr = Reg.dspHodStat then t.hodWords + 2 ^ 6 * t.jobPackets + 2 ^ 12 * max t.hodMax t.hodWords + 2 ^ 18 * t.hodState
  else if addr = Reg.kstStatus then
    b2n s.keys.persistQ.isSome + 2 * s.keys.persistQ.getD 0 + 2 ^ 13 * b2n s.pagesRemain + 2 ^ 14 * b2n s.inService
  else if addr = Reg.kstEpochLo then s.vault.epoch % 2 ^ 32
  else if addr = Reg.kstEpochHi then s.vault.epoch / 2 ^ 32
  else if addr = Reg.kstPages then s.keyPages
  else if addr = Reg.kstUnloaded then s.unloadedPages
  else if addr = Reg.kstPartPages then s.pagesOf kp
  else if addr = Reg.kstCommit then s.commitLoad % 2 ^ 16 + 2 ^ 16 * s.keys.notices.length
  else if addr = Reg.kstCommitMax then max s.keys.commitMax s.commitLoad % 2 ^ 16 + 2 ^ 16 * max s.keys.noticeMax s.keys.notices.length
  else 0

/-- R347, R301, R321: the Live fields of the TIL_, SEM_ and ENT_ registers. -/
def State.liveBlocks (s : State) (q addr : Nat) : Nat :=
  let t := (s.tile? (s.selOf q Reg.tilTsel)).getD { num := 0 }
  let r := s.tileRec t.num
  let cs := s.selOf q Reg.tilCsel
  let co := (s.course? (bitsOf 2 0 cs)).getD { num := 0 }
  let ch := (s.chan? (s.selOf q Reg.semCsel)).getD { num := 0 }
  let src := (s.ent.sources.find? (fun x => x.num == s.selOf q Reg.entSsel)).getD { num := 0 }
  let dpc2 := s.dram.channels.any (fun c => c.dimms == 2)
  if addr = Reg.tilStat then s.tenantOn t + 2 ^ 8 * r.kind + 2 ^ 10 * t.state + 2 ^ 16 * t.freq
  else if addr = Reg.tilJobs then t.jobs.toNat
  else if addr = Reg.tilWipes then t.wipes.toNat
  else if addr = Reg.tilScrStat then co.scrState + 2 ^ 2 * co.repaired + 2 ^ 8 * co.failBanks.toNat
  else if addr = Reg.tilScrConf then (co.conflicts.getD (bitsOf 7 4 cs) 0).toNat
  else if addr = Reg.semStatus then
    bitmap 8 s.serving.contains + 2 ^ 8 * b2n dpc2 + 2 ^ 9 * b2n dpc2 + 2 ^ 10 * b2n s.dram.key.isSome + 2 ^ 11 * b2n s.dram.action.isSome
  else if addr = Reg.semChState then
    ch.state + 2 ^ 3 * b2n ch.degraded + 2 ^ 4 * ch.reason + 2 ^ 8 * ch.dimms + 2 ^ 12 * ch.capLog2 + 2 ^ 16 * tempBits ch.temp
  else if addr = Reg.semChFrames then ch.frames
  else if addr = Reg.semChFree then s.freeFrames ch.num
  else if addr = Reg.semChCe then ch.ce.toNat
  else if addr = Reg.semChUe then ch.ue.toNat
  else if addr = Reg.semChDevfail then
    bitmap 20 ch.failed.contains + 2 ^ 24 * bitmap 4 (fun r => ch.failed.any (fun x => x / 20 == r))
  else if addr = Reg.semChEcs then min 65535 ch.ecsMax + 2 ^ 16 * ch.ecsDev + 2 ^ 21 * ch.ecsRank
  else if addr = Reg.semScrub then s.scrubProgress + 2 ^ 8 * (s.dram.scrubPasses % 2 ^ 24)
  else if addr = Reg.semLevel then s.dram.reads + 2 ^ 16 * s.writesNow
  else if addr = Reg.semLevelMax then max s.dram.readsMax s.dram.reads + 2 ^ 16 * max s.dram.writesMax s.writesNow
  else if addr = Reg.entStatus then
    s.ent.state + 2 ^ 3 * b2n (s.ent.compat && s.ent.state == 2) + 2 ^ 4 * b2n (s.ent.instances.any (fun i => i.stretching)) +
      2 ^ 5 * b2n s.ent.action.isSome + 2 ^ 8 * min 255 (s.ent.rate / 4)
  else if addr = Reg.entSrcHealthy then bitmap 22 (fun n => s.ent.sources.any (fun x => x.num == n && x.state == 2))
  else if addr = Reg.entSrcStat then src.state + 2 ^ 2 * src.lastTest + 2 ^ 16 * src.intermittent
  else if addr = Reg.entLevel then s.ent.pool.length + 2 ^ 16 * s.ent.waiting.length
  else if addr = Reg.entLevelMax then min s.ent.poolMin s.ent.pool.length + 2 ^ 16 * max s.ent.waitMax s.ent.waiting.length
  else 0

/-- R346, R371: the values of the PRT_, LCY_ and ID_ registers that are no plain stored fields. -/
def State.liveTrust (s : State) (q addr : Nat) : Nat :=
  let l := s.life
  let m := s.selOf q Reg.lcyMsel
  if addr = Reg.prtCtrl then b2n s.tabs.table.strict + 2 * b2n s.tabs.sealed + 4 * b2n s.tabs.staged.isSome
  else if addr = Reg.prtSeq then s.tabs.table.seq
  else if 0x70010 ≤ addr ∧ addr < 0x70050 then prtWord (tableBytes s.tabs.table) addr
  else if addr = Reg.lcyState then
    l.state + 2 ^ 3 * l.slot + 2 ^ 5 * returnedLeft l.state l.slot + 2 ^ 7 * b2n l.dusBad + 2 ^ 8 * l.pendingTarget +
      2 ^ 11 * b2n (l.fuses.ownerSet l.slot) + 2 ^ 12 * l.debugCode + 2 ^ 14 * b2n l.erased + 2 ^ 15 * b2n l.fuses.full
  else if addr = Reg.lcyBoot then l.bank + 2 * b2n l.fallback + 4 * b2n l.fromCard + 2 ^ 8 * l.failA + 2 ^ 16 * l.failB
  else if addr = Reg.lcySvn then l.runSvn + 2 ^ 8 * l.fuses.minSvn + 2 ^ 16 * b2n (decide (255 ≤ l.fuses.minSvn))
  else if addr = Reg.lcyCold then min 65535 s.power.serviceMs + 2 ^ 16 * min 1023 s.power.kilnMs
  else if addr = Reg.lcyMeas then leAt (4 * bitsOf 6 3 m) 4 (l.meas.getD (bitsOf 2 0 m) [])
  else if addr = Reg.idPart then 2 ^ 24 * (Config.siliconRev % 16)
  else if addr = Reg.idJtag then jtagIdcode
  else if addr = Reg.idSerialLo then l.fuses.serial % 2 ^ 32
  else if addr = Reg.idSerialHi then l.fuses.serial / 2 ^ 32 % 2 ^ 32
  else 0

/-- R408, R409: the Live fields of the VLT_, PWR_ and THG_ registers. -/
def State.liveGuard (s : State) (q addr : Nat) : Nat :=
  let g := s.guard
  let src := s.selOf q Reg.vltSsel
  let cn := s.selOf q Reg.vltCsel
  let c := g.cell cn
  let p := s.power
  if addr = Reg.vltStatus then
    vaultState s.vault + 2 ^ 2 * g.supply + 2 ^ 3 * b2n g.freeze + 2 ^ 4 * b2n s.vault.episode + 2 ^ 5 * b2n s.vault.refresh.isSome +
      2 ^ 6 * ((s.vault.refresh.map Prod.fst).getD 0) + 2 ^ 13 * b2n s.life.fuses.full
  else if addr = Reg.vltSrcStat then b2n (g.active.getLsbD src) + 2 * b2n (armedOnCells src) + 2 ^ 16 * g.counts.getD src 0
  else if addr = Reg.vltActive then g.active.toNat
  else if addr = Reg.vltTemp then
    2 ^ 16 * tempBits (s.thermal.die.foldl min (s.thermal.die.headD 0)) + 2 ^ 24 * tempBits (s.thermal.die.foldl max (s.thermal.die.headD 0))
  else if addr = Reg.vltPhys then 2 ^ 16 * g.meshFault.toNat + 2 ^ 24 * g.encState.toNat
  else if addr = Reg.vltCellStat then min 8191 c.mv + 2 ^ 13 * c.state + 2 ^ 16 * b2n (g.supply == cn) + 2 ^ 18 * min 1023 c.rint
  else if addr = Reg.vltCellCharge then
    min (2 ^ 24 - 1) c.charge + 2 ^ 24 * (if s.capOf cn = 0 then 0 else min 255 (100 * c.charge / s.capOf cn))
  else if addr = Reg.vltLatch then packed 4 g.blown
  else if addr = Reg.vltEvidence then packed 8 s.life.fuses.evidence
  else if addr = Reg.pwrStatus then
    b2n p.goodA + 2 * b2n p.goodB + 2 ^ 2 * p.active + 2 ^ 3 * b2n p.gateA + 2 ^ 4 * b2n p.gateB + 2 ^ 5 * b2n p.paused +
      2 ^ 6 * b2n (p.mode == .standby)
  else if addr = Reg.pwrFeedMv then min 65535 p.mvA + 2 ^ 16 * min 65535 p.mvB
  else if addr = Reg.pwrLast then min 65535 p.lastSwitch + 2 ^ 16 * min 65535 p.lastPause
  else if addr = Reg.thgStatus then
    tempBits s.thermal.encA + 2 ^ 8 * tempBits s.thermal.encB + 2 ^ 16 * s.thermal.htrDuty + 2 ^ 23 * s.thermal.fanDuty +
      2 ^ 30 * (b2n s.thermal.faultA + 2 * b2n s.thermal.faultB)
  else if addr = Reg.thgTach then min 65535 s.thermal.rpm
  else 0

/-- R436, R470, R493, R494, R455: the Live fields of the MIR_, EVR_, CRD_, LIO_ and CFG_ registers. The input levels are free values. -/
def State.liveEdge (s : State) (q addr : Nat) : Nat :=
  let r := s.shownRing q
  let cp := (s.io.ports.find? (fun p => p.num == s.selOf q Reg.crdPsel)).getD { num := 0 }
  let seq := if s.pair.role = 2 then s.pair.applied else s.pair.acked
  let owner := s.tabs.pins.getD (s.selOf q Reg.lioPsel) 15
  let lag := countOf (fun b => b.step == 3) s.commit.batches
  if addr = Reg.mirStatus then
    s.pair.role + 2 ^ 2 * s.pair.sync + 2 ^ 4 * s.pair.peer + 2 ^ 6 * s.pair.path + 2 ^ 8 * ((s.pairing.map (fun p => p.member % 2)).getD 0) +
      2 ^ 9 * s.pair.lanes.toNat + 2 ^ 11 * b2n s.inService
  else if addr = Reg.mirSeqLo then seq % 2 ^ 32
  else if addr = Reg.mirSeqHi then seq / 2 ^ 32 % 2 ^ 32
  else if addr = Reg.mirTerm then s.pair.term
  else if addr = Reg.mirLag then min 127 lag + 2 ^ 16 * min 32767 s.pair.journal.length
  else if addr = Reg.mirLagMax then min 127 (max s.pair.lagMax lag) + 2 ^ 16 * min 32767 (max s.pair.journalMax s.pair.journal.length)
  else if addr = Reg.mirLast then min 65535 s.pair.toDecision + 2 ^ 16 * min 65535 s.pair.toResume
  else if addr = Reg.evrRingStat then r.cap + 2 ^ 22 * b2n r.queue.isSome + 2 ^ 23 * b2n r.markValid
  else if addr = Reg.evrLevel then r.unread
  else if addr = Reg.evrLevelMax then max r.levelMax r.unread
  else if addr = Reg.evrSeqLo then r.nextSeq % 2 ^ 32
  else if addr = Reg.evrSeqHi then r.nextSeq / 2 ^ 32 % 2 ^ 32
  else if addr = Reg.evrDrops then (r.drops.getD (s.selOf q Reg.evrVsel) 0).toNat
  else if addr = Reg.evrLost then r.lost.toNat
  else if addr = Reg.evrSuppressed then r.suppressed.toNat
  else if addr = Reg.crdPortStat then cp.state + 2 ^ 3 * cp.reason + 2 ^ 6 * cp.mode + 2 ^ 8 * cp.width + 2 ^ 10 * cp.tap
  else if addr = Reg.lioGpioIn then s.gpioIn
  else if addr = Reg.lioPinStat then owner + 2 ^ 4 * featureClass owner
  else if addr = Reg.cfgStatus then
    b2n s.mgmt.fallback + 2 * b2n s.tabs.list.isSome + 4 * b2n (s.mgmt.image.isSome && s.mgmt.claim == 1) + 8 * s.mgmt.claim +
      2 ^ 5 * b2n s.ceremonyMet + 2 ^ 6 * min 31 s.mgmt.sessions.length
  else if addr = Reg.cfgCseqLo then s.cseq % 2 ^ 32
  else if addr = Reg.cfgCseqHi then s.cseq / 2 ^ 32 % 2 ^ 32
  else if addr = Reg.cfgTilesOldLo then bitmap 32 (fun n => ((s.tile? n).map (fun t => t.oldUcode)).getD false)
  else if addr = Reg.cfgTilesOldHi then bitmap 16 (fun n => ((s.tile? (32 + n)).map (fun t => t.oldUcode)).getD false)
  else 0

/-- The Live fields of a register, by its block. -/
def State.live (s : State) (q addr : Nat) : Nat :=
  match addr / 0x10000 with
  | 1 | 2 | 3 => s.liveFront q addr
  | 4 | 5 | 6 => s.liveBlocks q addr
  | 0 | 7 | 8 => s.liveTrust q addr
  | 9 | 10 => s.liveGuard q addr
  | _ => s.liveEdge q addr

/-- R439, R443: the selector index under which a queue sees a register. -/
def State.shownIdx (s : State) (q addr : Nat) : Nat :=
  match (findReg addr).bind (fun r => r.sel) with
  | some x => s.selOf q x
  | none => 0

/-- A register whose value is wholly computed: nothing of it is stored. -/
def allComputed (addr : Nat) : Bool := decide (0x70004 ≤ addr ∧ addr < 0x80000) || addr == Reg.dspQcourse

/-- R437: what a register reads as on a queue. Reserved offsets read zero. -/
def State.view (s : State) (q addr : Nat) : BitVec 32 :=
  if (findReg addr).isNone then 0
  else if queueSelectors.contains addr then BitVec.ofNat 32 (s.selOf q addr)
  else BitVec.ofNat 32 ((if allComputed addr then 0 else s.reg addr (s.shownIdx q addr)) + s.live q addr)

/-- R11, R437: reading a register of highest levels sets it to the current levels. -/
def State.afterRead (s : State) (q addr : Nat) : State :=
  let c := s.selOf q Reg.dspCsel
  if addr = Reg.hqiLevelMax then { s with qpMax := s.qps.length, rdMax := s.readsOut }
  else if addr = Reg.dspMsLevelMax then s.modCourse c (fun x => { x with inUseMax := s.inUse c, readyMax := s.readyIn c })
  else if addr = Reg.dspHodStat then s.modTile (s.selOf q Reg.dspTsel) (fun t => { t with hodMax := t.hodWords })
  else if addr = Reg.kstCommitMax then { s with keys := { s.keys with commitMax := s.commitLoad, noticeMax := s.keys.notices.length } }
  else if addr = Reg.semLevelMax then { s with dram := { s.dram with readsMax := s.dram.reads, writesMax := s.writesNow } }
  else if addr = Reg.entLevelMax then { s with ent := { s.ent with poolMin := s.ent.pool.length, waitMax := s.ent.waiting.length } }
  else if addr = Reg.mirLagMax then
    { s with pair := { s.pair with lagMax := countOf (fun b => b.step == 3) s.commit.batches, journalMax := s.pair.journal.length } }
  else if addr = Reg.evrLevelMax then s.modRing (s.selOf q Reg.evrRsel) (fun r => { r with levelMax := r.unread })
  else if addr = Reg.lioGpioIn then { s with free := s.free + 1 }
  else s

end Sys2Proof.Machine
end

