-- ==== Sys2Proof/Machine/RestartOps.lean ====
section
/-! DEFINITION. The live control restart and the kiln pass (R25, R209, R240, R317, R327, R332, R333, R363, R441, R442, R454, R490):
what is staged and its checks, how a restart begins, and what the pass applies. -/

namespace Sys2Proof.Machine

/-! ### Pins (R454, R489, R490) -/

/-- R494: the LIO_ROUTE register of a feature. -/
def routeReg (k : Nat) : Nat := Reg.lioRoute0 + 4 * k

/-- R489: a feature (0 to 11, 14 general use) is enabled and claims a pin. -/
def State.claims (s : State) (p k : Nat) : Bool :=
  if k = 14 then bitOf p (s.reg Reg.lioGpioEn) else bitsOf 4 0 (s.reg (routeReg k)) == p && bitOf 5 (s.reg (routeReg k))

/-- R490: the claimants of a pin, in the pin table's order. -/
def State.claimants (s : State) (p : Nat) : List Nat := (List.range 12 ++ [14]).filter (s.claims p)

/-- R490: the owner of a pin: the first claimant of the highest class; 15 for none. -/
def State.pinOwner (s : State) (p : Nat) : Nat := (minBy featureClass (s.claimants p)).getD 15

/-- R454, R490: a claimant that loses a pin is disabled, with notice and record. The record's code is PRESUMED
(notes/assumptions/41.md). -/
def State.dropClaim (s : State) (p k : Nat) : State :=
  let s := if k = 14 then s.setReg Reg.lioGpioEn 0 (setBits p p 0 (s.reg Reg.lioGpioEn)) else s.setReg (routeReg k) 0 (setBits 5 5 0 (s.reg (routeReg k)))
  ((s.notice Reg.lioNotice 1).notice Reg.cfgNotice 3).devEvent 3 0x0E01 48 (leBytes 1 p ++ leBytes 1 k)

/-- R490: the kiln resolves the pin table. -/
def State.resolvePins (s : State) : State :=
  let owners := (List.range 32).map s.pinOwner
  let lose (p : Nat) : List (Nat × Nat) := ((s.claimants p).filter (fun k => k ≠ owners.getD p 15)).map (fun k => (p, k))
  let s : State := forEach ((List.range 32).flatMap lose) (fun e s => s.dropClaim e.1 e.2) s
  { s with tabs := { s.tabs with pins := owners } }

/-! ### Locked settings (R388, R389, R441) -/

/-- R388: ACTIONS with the bits it implies: LOG always, PURGE with ZEROIZE, both with HALT. -/
def impliedActions (a : Nat) : Nat :=
  let a := setBits 0 0 1 a
  let a := if bitOf 5 a then setBits 4 4 1 a else a
  if bitOf 4 a then setBits 3 3 1 a else a

/-- A register value as it is stored: VLT_SRC_CFG with its implied bits (R388). -/
def stored (addr v : Nat) : Nat := if addr = Reg.vltSrcCfg then setBits 5 0 (impliedActions (bitsOf 5 0 v)) v else v

/-- The bits of a field. -/
def RegField.mask (f : RegField) : Nat := (2 ^ (f.hi + 1 - f.lo) - 1) * 2 ^ f.lo

/-- R438: the value a register's word gives a field lies in the field's range. -/
def RegField.inRange (f : RegField) (w : Nat) : Bool :=
  let v := bitsOf f.hi f.lo w
  match f.range with
  | .any => true
  | .within lo hi => decide (lo ≤ v) && decide (v ≤ hi)
  | .signed lo hi => decide (lo ≤ signedOf (f.hi + 1 - f.lo) v) && decide (signedOf (f.hi + 1 - f.lo) v ≤ hi)

/-- R84, R303, R404, R406, R408, R409, R493: ranges that relate fields of one register. -/
def crossOk (addr w : Nat) : Bool :=
  if addr = Reg.hqiPortaCfg ∨ addr = Reg.hqiPortbCfg then decide (bitsOf 4 3 w < 2) || bitsOf 2 0 w == 4
  else if addr = Reg.thgFan then decide (bitsOf 7 0 w < bitsOf 15 8 w)
  else if addr = Reg.pwrFeedTh then decide (bitsOf 9 0 w < bitsOf 19 10 w)
  else if addr = Reg.vltRail then decide (bitsOf 5 0 w ≤ bitsOf 21 16 w) && decide (bitsOf 13 8 w ≤ bitsOf 21 16 w)
  else if addr = Reg.crdPort2Cfg ∨ addr = Reg.crdPort3Cfg then decide (bitsOf 2 1 w < 2)
  else if addr = Reg.entCtrl then !bitOf 0 w || decide (bitsOf 12 8 w ≤ 3)
  else true

/-- R441: the mask of a register's RWL fields. -/
def RegDef.rwlMask (r : RegDef) : Nat := sumOf (fun f => if f.acc = .rwl then f.mask else 0) r.fields

/-- An entry of a staged list: its register and selector index. -/
def entryAddr (e : BitVec 32 × BitVec 32 × BitVec 32) : Nat := e.1.toNat % 2 ^ 20
/-- R441: the selector index of an entry. -/
def entryIdx (e : BitVec 32 × BitVec 32 × BitVec 32) : Nat := e.1.toNat / 2 ^ 20

/-- R441: what a register holds once an entry is applied. -/
def State.entryValue (s : State) (e : BitVec 32 × BitVec 32 × BitVec 32) : Nat :=
  let old := BitVec.ofNat 32 (s.reg (entryAddr e) (entryIdx e))
  stored (entryAddr e) ((old &&& ~~~e.2.2) ||| (e.2.1 &&& e.2.2)).toNat

/-- R441: an entry addresses RWL fields only, at an index its register's selector has. -/
def entryForm (e : BitVec 32 × BitVec 32 × BitVec 32) : Bool :=
  match findReg (entryAddr e) with
  | none => false
  | some r =>
    r.rwlMask ≠ 0 && (e.2.2 &&& ~~~(BitVec.ofNat 32 r.rwlMask)) == 0 &&
      (match r.sel with | none => entryIdx e == 0 | some x => (selIndices x []).contains (entryIdx e))

/-- R438, R441: the RWL fields of an entry's register lie in their ranges. -/
def State.entryRange (s : State) (e : BitVec 32 × BitVec 32 × BitVec 32) : Bool :=
  let w := s.reg (entryAddr e) (entryIdx e)
  ((findReg (entryAddr e)).map (fun r => r.fields.all (fun f => f.acc ≠ .rwl || f.inRange w))).getD false && crossOk (entryAddr e) w

/-- R276, R441: the channels that become populated are OFF until they are restored (SEM_CH_CMD). -/
def State.populate (s : State) : State :=
  let on (c : Channel) : Bool := c.state == 0 && bitOf (24 + c.num) (s.reg Reg.semCtrl)
  { s with dram := { s.dram with channels := modWhere on (fun c => { c with state := 6 }) s.dram.channels } }

/-- R442: a list's entries take effect. -/
def State.applyEntries (s : State) (l : List (BitVec 32 × BitVec 32 × BitVec 32)) : State :=
  forEach l (fun e s => s.setReg (entryAddr e) (entryIdx e) (s.entryValue e)) s

/-- R389, R441: a list clears a bit of a source's ACTIONS, or an ENABLE. -/
def State.clearsGuard (s : State) (l : List (BitVec 32 × BitVec 32 × BitVec 32)) : Bool :=
  let w := s.applyEntries l
  (List.range 12).any (fun n =>
    let a := s.reg Reg.vltSrcCfg n
    let b := w.reg Reg.vltSrcCfg n
    (List.range 6).any (fun k => bitOf k a && !bitOf k b) || (bitOf 9 a && !bitOf 9 b))

/-- R441: the checks of a list: a status and DETAIL, or none. -/
def State.listRefusal (s : State) (ceremony : Bool) (l : List (BitVec 32 × BitVec 32 × BitVec 32)) : Option (Nat × Nat) :=
  let w := s.applyEntries l
  if l = [] ∨ 128 < l.length ∨ !l.all entryForm ∨ !l.all w.entryRange then some (Status.invalidInput, 0)
  else if s.clearsGuard l ∧ !ceremony then some (Status.attrDenied, 0x03)
  else none

/-! ### Beginning (R25, R209, R240, R333, R442) -/

/-- R359, R442: the check of a staged image. -/
def State.imageRefusal (s : State) : Option (Nat × Nat) :=
  match s.mgmt.image with
  | some img => if s.mgmt.claim = 1 ∧ imageReason s.life img ≠ 0 then some (Status.authFail, imageReason s.life img) else none
  | none => none

/-- R442: the checks of every staged item, before a restart begins. -/
def State.stagedRefusal (s : State) (ceremony : Bool) : Option (Nat × Nat) :=
  (s.tabs.staged.bind (fun b => s.tableCheck b ceremony)).or ((s.tabs.list.bind (s.listRefusal ceremony)).or s.imageRefusal)

/-- R333 steps 1 to 3: a restart begins: the staged items are locked, open component loads are lost, and the tiles a staged table
changes take no more jobs. -/
def State.restartBegin (s : State) (j : Job) : State :=
  match s.stagedRefusal j.ceremonyOk with
  | some (st, dt) => s.deny j st dt
  | none =>
    let changed := (s.tabs.staged.map (fun b => s.tilesChanged (parseTable b))).getD []
    let r : Restart := { job := some j.id, opcode := j.desc.opcode, step := 2, changed := changed, startedAt := s.clock.mono }
    let s : State := { s with tabs := { s.tabs with restart := some r }, mgmt := { s.mgmt with loads := [] } }
    forEach changed (fun t s => (s.dropRefs t).abortLong t 0x03) (s.block j)

/-! ### The pass (R333 steps 4 to 6, R363, R442) -/

/-- R344, R333 step 5: a scratchpad byte of a unit range. -/
def inUnits (r : Nat × Nat) (a : Nat) : Bool := decide (4096 * r.1 ≤ a) && decide (a < 4096 * (r.2 + 1))

/-- R333 step 5: the unit ranges of a course that a new table changes. -/
def changedUnits (old new : Table) (c : Nat) : List (Nat × Nat) :=
  let ranges (t : Table) : List (Nat × Nat × Nat) := (t.parts.filter (fun p => 0 < p.units c)).map (fun p => (p.num, p.scratch.getD c (1, 0)))
  ((ranges old).filter (fun e => !(ranges new).contains e) ++ (ranges new).filter (fun e => !(ranges old).contains e)).map Prod.snd

/-- R333 step 5: changed scratchpad regions are zeroed. -/
def State.clearUnits (s : State) (old new : Table) : State :=
  { s with courses := s.courses.map (fun c =>
      { c with scratch := c.scratch.filter (fun e => !(changedUnits old new c.num).any (fun r => inUnits r e.1)) }) }

/-- R459: a ring for a partition's region, or its new size; the oldest records go when it shrinks. -/
def Ring.resize (r : Ring) (cap : Nat) : Ring :=
  (List.range (r.recs.length - cap)).foldl (fun (r : Ring) _ => match r.recs with | e :: _ => r.evict e | [] => r) { r with cap := cap }

/-- R326, R459: the log regions follow the table: removed partitions lose theirs, new ones get one. -/
def State.tableRings (s : State) (t : Table) : State :=
  let frames (p : Nat) : Option Nat := (t.parts.find? (fun x => x.num == p)).map (fun x => x.logFrames)
  let had (p : Nat) : Bool := s.log.rings.any (fun r => r.num == p)
  let keep := (s.log.rings.filter (fun r => decide (256 ≤ r.num) || (frames r.num).isSome)).map (fun r =>
    match frames r.num with | some n => if r.cap = 2048 * n then r else r.resize (2048 * n) | none => r)
  let fresh : List Ring := (t.parts.filter (fun p => !had p.num)).map (fun p => { num := p.num, cap := 2048 * p.logFrames })
  let stays (w : WorkFrame) : Bool := w.kind ≠ 3 || w.ref == 256 || frames w.ref == some w.count
  let work := s.dram.work.filter stays
  let s : State := { s with log := { rings := fresh ++ keep, buckets := s.log.buckets.filter (fun b => decide (256 ≤ b.ring) || (frames b.ring).isSome) },
                            dram := { s.dram with work := work } }
  forEach (t.parts.filter (fun p => !work.any (fun w => w.kind == 3 && w.ref == p.num))) (fun p s => s.placeWork 3 p.num p.logFrames) s

/-- R211, R333 step 5: a tile that changed owner, kind or slots. -/
def Tile.reassigned (x : Tile) (r : TileRec) : Tile :=
  { x with borrower := none, slotNow := 0, state := if r.kind = 2 then (if x.state = 4 then 4 else 6) else if x.state = 6 then 5 else x.state }

/-- R333 steps 4 and 5: a table takes the place of the current one, with SEQ one higher. -/
def State.applyTable (s : State) (b : Bytes) (changed : List Nat) : State :=
  let old := s.tabs.table
  let new := { parseTable b with seq := old.seq + 1 }
  let used (p : Nat) : Bool := new.parts.any (fun x => x.num == p)
  let s : State := { s with tabs := { s.tabs with table := new }, ent := { s.ent with instances := s.ent.instances.filter (fun i => used i.part) } }
  let s : State := forEach changed (fun t s => ((s.wipeFor t (new.tiles.getD t {}).owner).dropLeases t).modTile t (fun x => x.reassigned (new.tiles.getD t {}))) s
  ((s.clearUnits old new).tableRings new).divideCtxCache

/-- R359, R363, R364, R451: an image is accepted by a live pass: a TYPE 1 image runs, and its port firmware is applied to port A; a TYPE 2
image revokes key sets. -/
def State.applyImage (s : State) (img : Bytes) : State :=
  if byteAt 6 img = 2 then { s with life := (s.life.revoke img).measureImage img }
  else { s with life := s.life.run img, tiles := s.tiles.map (fun x => { x with oldUcode := true }),
                net := { s.net with portA := { s.net.portA with fw := img.take 256 } } }

/-- R364: MEAS3 is extended at every seal. -/
def State.sealTables (s : State) : State :=
  { s with life := s.life.extend 3 (sha3_512 (tableBytes s.tabs.table)), tabs := { s.tabs with sealed := true } }

/-- R137, R442: the single snapshot write of a pass, over every change already made and the changes of batches past step 2. -/
def State.passSnapshot (s : State) : State :=
  let w := forEach (s.commit.batches.filter (fun b => decide (2 < b.step))) (fun b w => w.applyAll b) s
  s.writeSnapshot { w.snapshotBase with table := tableBytes s.tabs.table }

/-- R415: with a pair in service, what a pass changed in the retained configuration is mirrored. Its step 2 is the pass's own snapshot
write, so the batch starts at step 3. -/
def State.mirrorPass (s : State) (table : Bool) (l : List (BitVec 32 × BitVec 32 × BitVec 32)) : State :=
  let regs := l.map (fun e => Change.reg (entryAddr e) (entryIdx e) e.2.2 e.2.1)
  let changes := (if table then [Change.table (tableBytes s.tabs.table)] else []) ++ regs
  if !s.inService ∨ changes = [] then s
  else
    let b : Batch := { epoch := s.nextEpoch, step := 3, entries := [{ changes := changes, objs := [], job := none, res := {} }], objs := [] }
    ({ s with commit := { s.commit with batches := s.commit.batches ++ [b], lastEpoch := some b.epoch } } : State).mirrorSend

/-- R442: everything staged is applied; the image is checked once more. -/
def State.applyStaged (s : State) (changed : List Nat) : State :=
  let table := s.tabs.staged
  let list := s.tabs.list
  let img := if s.mgmt.claim = 1 ∧ s.imageRefusal.isNone then s.mgmt.image else none
  let any := table.isSome || list.isSome || img.isSome
  let s := match table with | some b => s.applyTable b changed | none => s
  let s := match list with | some l => (s.applyEntries l).populate | none => s
  let s := match img with | some b => s.applyImage b | none => s
  let mg := if s.mgmt.claim = 1 then { s.mgmt with image := none, claim := 0 } else s.mgmt
  let s : State := { s with tabs := { s.tabs with staged := none, list := none }, mgmt := mg }
  let before := s.regs
  let s := s.sealTables.resolvePins
  let write := table.isSome || list.isSome || s.regs ≠ before
  let s := if any then s.notice Reg.cfgNotice 1 else s
  if write then (s.passSnapshot).mirrorPass table.isSome (list.getD []) else s

/-- R333 step 6: DETAIL of the command that began the restart. -/
def State.restartResult (s : State) (r : Restart) (refused : Option (Nat × Nat)) : Result :=
  match refused with
  | some (st, dt) => if r.opcode = Op.fwActivate then fail st dt else {}
  | none => if r.opcode = Op.prtApply then { detail := s.tabs.table.seq } else {}

/-- R333: whether the hods of the changed tiles have run out. -/
def State.changedIdle (s : State) (r : Restart) : Bool :=
  r.changed.all (fun t => ((s.tile? t).map (fun x => x.hod.isEmpty && x.coming.isEmpty && x.job.isNone && x.held.isNone)).getD true)

/-- R333 steps 4 to 6: the pass applies everything staged, and the control cores are released. -/
def State.restartDone (s : State) : State :=
  match s.tabs.restart with
  | none => s
  | some r =>
    if !s.changedIdle r then s
    else
      let refused := s.imageRefusal
      let s := s.applyStaged r.changed
      let s : State := { s with tabs := { s.tabs with restart := none } }
      let s := match r.job with | some id => s.finish id (s.restartResult r refused) | none => s
      s.settle

end Sys2Proof.Machine
end

