-- ==== Sys2Proof/Machine/CfgOps.lean ====
section
/-! DEFINITION. A CFG_WRITE's checks and effects (R8, R9, R437 to R440, R454): which fields change, their ranges, the fields
writable only under a condition, pins another feature owns, and the batch that a Retained field's change enters. -/

namespace Sys2Proof.Machine

/-- R8: a field that a CFG_WRITE changes now. -/
def State.writable (s : State) (f : RegField) : Bool :=
  match f.acc with
  | .rw | .w1c | .w1s => true
  | .rwl => !s.tabs.sealed
  | .ro | .kw => false

/-- R9, R304, R383: the bits of a register whose condition does not hold: TYPE and CAP of a cell neither ABSENT nor OUT, TRIM of a
source neither OUT nor FAILED. -/
def State.unmetMask (s : State) (addr idx : Nat) : Nat :=
  if addr = Reg.vltCellCfg ∧ (s.guard.cell idx).state ≠ 0 ∧ (s.guard.cell idx).state ≠ 5 then 2 ^ 32 - 2 ^ 18 + 1
  else if addr = Reg.entSrcTrim ∧ s.ent.sources.any (fun x => x.num == idx && (x.state == 1 || x.state == 2)) then 0x3F
  else 0

/-- R8: the mask of a register's W1C fields. -/
def RegDef.w1cMask (r : RegDef) : Nat := sumOf (fun f => if f.acc = .w1c then f.mask else 0) r.fields

/-- Some bit of a mask is set in a word. -/
def meets (a b : Nat) : Bool := (BitVec.ofNat 32 a &&& BitVec.ofNat 32 b) ≠ 0

/-- R9: the mask of the fields of a register that are writable now, at a selector index. -/
def State.writeMask (s : State) (r : RegDef) (idx : Nat) : Nat :=
  sumOf (fun f => if s.writable f && !meets f.mask (s.unmetMask r.addr idx) then f.mask else 0) r.fields

/-- R9: the write covers a field whose condition does not hold. -/
def State.unmetField (s : State) (addr idx mask : Nat) : Bool := meets mask (s.unmetMask addr idx)

/-- R454: the write enables a feature on a pin that another feature owns. -/
def State.pinTaken (s : State) (addr old new : Nat) : Bool :=
  let owned (p k : Nat) : Bool := s.tabs.pins.getD p 15 ≠ 15 && s.tabs.pins.getD p 15 ≠ k
  if addr = Reg.lioGpioEn then (List.range 32).any (fun p => bitOf p new && !bitOf p old && owned p 14)
  else (List.range 12).any (fun k => addr == routeReg k && bitOf 5 new && !bitOf 5 old && owned (bitsOf 4 0 new) k)

/-- R438: why a register's write is refused: a status, or none. -/
def State.writeRefusal (s : State) (r : RegDef) (idx : Nat) (j : Job) : Option Nat :=
  let old := s.reg r.addr idx
  let m := BitVec.ofNat 32 j.cfgMask &&& BitVec.ofNat 32 (s.writeMask r idx)
  let new := ((BitVec.ofNat 32 old &&& ~~~m) ||| (BitVec.ofNat 32 j.cfgValue &&& m)).toNat
  let out (f : RegField) : Bool := s.writable f && f.acc ≠ .w1c && meets f.mask j.cfgMask && !f.inRange new
  if s.writeMask r idx = 0 then some Status.attrDenied
  else if r.fields.any out ∨ (m ≠ 0 ∧ !crossOk r.addr new) then some Status.invalidInput
  else if s.unmetField r.addr idx j.cfgMask then some Status.attrDenied
  else if s.pinTaken r.addr old new then some Status.pinConflict
  else none

/-- R8, R440: what an accepted write does. W1C bits clear at once; a Retained field's change enters a batch; a write that changes
nothing completes. -/
def State.writeTakes (s : State) (r : RegDef) (idx : Nat) (j : Job) : State :=
  let v := BitVec.ofNat 32 j.cfgValue
  let clear := BitVec.ofNat 32 j.cfgMask &&& v &&& BitVec.ofNat 32 r.w1cMask
  let s := if clear = 0 then s else s.setReg r.addr idx (BitVec.ofNat 32 (s.reg r.addr idx) &&& ~~~clear).toNat
  let m := BitVec.ofNat 32 j.cfgMask &&& BitVec.ofNat 32 (s.writeMask r idx) &&& ~~~(BitVec.ofNat 32 r.w1cMask)
  let old := BitVec.ofNat 32 (s.reg r.addr idx)
  let new := (old &&& ~~~m) ||| (v &&& m)
  if new = old then s.done j else s.bringCtl j [.reg r.addr idx m v] []

/-- R438: a write of a register at a selector index. -/
def State.regWrite (s : State) (r : RegDef) (idx : Nat) (j : Job) : State :=
  match s.writeRefusal r idx j with
  | some st => s.deny j st
  | none => s.writeTakes r idx j

end Sys2Proof.Machine
end

