-- ==== Sys2Proof/Machine/CardOps.lean ====
section
/-! DEFINITION. What custody cards hold (R478 to R482) and the vault items a backup carries (R400, R480): layouts, shares, and
opening and sealing them. -/

namespace Sys2Proof

/-- R479: the last good copy: the good copy with the higher SEQ. -/
def CardInfo.lastGood (c : CardInfo) : Option CardCopy :=
  (c.copies.filter (fun x => x.good)).foldl (fun (b : Option CardCopy) x =>
    match b with | some y => if y.seq < x.seq then some x else b | none => some x) none

end Sys2Proof

namespace Sys2Proof.Machine

/-! ### Vault items (R398, R480) -/

/-- R398 step 2: what an adoption obtains. Generation secrets are in clear. -/
structure VaultItems where
  root : Bytes × Nat
  gens : List (Nat × Bytes)
  campaign : Campaign
  hwms : List (Nat × Nat)
  stateful : List Stateful
  deriving DecidableEq, Repr

/-- R265, R266, R373: the campaign record of the vault. The counts `REPOINT_QUERY` computes are zero in it
(notes/assumptions/45.md). -/
def campaignBytes (c : Campaign) : Bytes :=
  leBytes 1 c.state ++ leBytes 1 c.suite ++ leBytes 2 c.fromGen ++ leBytes 2 c.toGen ++ zeros 2 ++ leBytes 8 c.cursor ++ zeros 24 ++
    leBytes 8 c.bytes ++ leBytes 8 c.openedAt ++ leBytes 4 c.sharesSeen.length ++ zeros 4

/-- A campaign record from its bytes. The record counts confirmed shares and does not name them. -/
def parseCampaign (b : Bytes) : Campaign :=
  { state := byteAt 0 b, suite := byteAt 1 b, fromGen := leAt 2 2 b, toGen := leAt 4 2 b, cursor := leAt 8 8 b, bytes := leAt 40 8 b,
    openedAt := leAt 48 8 b, sharesSeen := (List.range (min 16 (leAt 56 4 b))).map (fun k => 256 + k) }

/-- R169: the 1,536 high-water marks, course by course. -/
def hwmBytes (l : List (Nat × Nat)) : Bytes := (List.range 1536).flatMap (fun k => leBytes 8 ((alook k l).getD 0))

/-- High-water marks from their bytes. -/
def parseHwms (b : Bytes) : List (Nat × Nat) :=
  ((List.range 1536).map (fun k => (k, leAt (8 * k) 8 b))).filter (fun e => e.2 ≠ 0)

/-- R256: the stateful-key table's bytes. -/
def statefulBytes (l : List Stateful) : Bytes :=
  fixLen 16384 (l.flatMap (fun e => leBytes 8 e.handle ++ leBytes 8 e.hwm ++ leBytes 8 e.limit ++ zeros 8))

/-- A stateful-key table from its bytes. -/
def parseStateful (b : Bytes) : List Stateful :=
  ((List.range 512).map (fun k => { handle := leAt (32 * k) 8 b, hwm := leAt (32 * k + 8) 8 b, limit := leAt (32 * k + 16) 8 b })).filter
    (fun (e : Stateful) => e.handle ≠ 0)

/-- The items the vault holds now. -/
def State.vaultItems (s : State) : VaultItems :=
  { root := s.vault.root.getD ([], 0), gens := s.vault.gens.filterMap (fun g => (s.genSecret g.1).map (fun x => (g.1, x))),
    campaign := s.vault.campaign, hwms := s.vault.hwms, stateful := s.vault.stateful }

/-! ### Root backups (R480 KIND 2) -/

/-- R480: ESTATE_TAG. -/
def estateTag (key : Bytes) : Bytes := (sha3_256 key).take 8

/-- R480: the clear header of a root backup. -/
def backupHead (key nonce : Bytes) (epoch time : Nat) : Bytes := leBytes 8 epoch ++ leBytes 8 time ++ estateTag key ++ fixLen 12 nonce ++ zeros 28

/-- R480: what a root backup encrypts. -/
def VaultItems.bytes (v : VaultItems) : Bytes :=
  let slot (k : Nat) : Bytes := match v.gens[k]? with | some g => leBytes 2 g.1 ++ fixLen 32 g.2 | none => zeros 34
  fixLen 32 v.root.1 ++ leBytes 8 v.root.2 ++ slot 0 ++ slot 1 ++ campaignBytes v.campaign ++ hwmBytes v.hwms ++ statefulBytes v.stateful

/-- The items a root backup's plaintext holds. -/
def parseItems (b : Bytes) : VaultItems :=
  { root := (b.take 32, leAt 32 8 b), gens := [(leAt 40 2 b, sub 42 32 b), (leAt 74 2 b, sub 76 32 b)].filter (fun g => g.1 ≠ 0),
    campaign := parseCampaign (sub 108 64 b), hwms := parseHwms (sub 172 12288 b), stateful := parseStateful (sub 12460 16384 b) }

/-- R480: a root backup sealed under the estate custody key. -/
def sealBackup (key nonce : Bytes) (time : Nat) (v : VaultItems) : Bytes :=
  let h := backupHead key nonce v.root.2 time
  let (ct, tag) := aeadSeal 0x04 key (fixLen 12 nonce) h v.bytes
  h ++ ct ++ tag

/-- R480, R482: the plaintext of a root backup that the estate custody key opens. -/
def openBackup (key p : Bytes) : Option Bytes :=
  if p.length = 28924 ∧ sub 16 8 p = estateTag key then aeadOpen 0x04 key (sub 24 12 p) (p.take 64) (sub 64 28844 p) (sub 28908 16 p) else none

/-- R482: the good root backups of READY ports whose ESTATE_TAG matches. -/
def State.backups (s : State) (key : Bytes) : List Bytes :=
  (s.io.ports.filter (fun p => p.state == 2)).filterMap (fun p =>
    match p.card.bind (fun c => c.lastGood) with
    | some x => if x.kind = 2 ∧ sub 16 8 x.payload = estateTag key then some x.payload else none
    | none => none)

/-- R398, R482: the root backup with the highest EPOCH. -/
def State.newestBackup (s : State) (key : Bytes) : Option Bytes :=
  (s.backups key).foldl (fun (b : Option Bytes) p =>
    match b with | some x => if leAt 0 8 x < leAt 0 8 p then some p else b | none => some p) none

/-! ### Shares (R480 KIND 1, R481) -/

/-- R481: share `x` of a secret, threshold `m`: the coefficients come from SHAKE256 of the secret and the threshold. -/
def splitShare (m x : Nat) (secret : Bytes) : Bytes :=
  shareOf m x secret (shake256 (secret.length * (m - 1)) (ascii "QUILE-SPLIT-1" ++ secret ++ leBytes 1 m))

/-- R480: the head of a share entry: TYPE 1 the estate custody key, 2 a generation secret. -/
def shareHead (type share m n gen : Nat) : Bytes := leBytes 1 type ++ leBytes 1 share ++ leBytes 1 m ++ leBytes 1 n ++ leBytes 2 gen ++ zeros 10

/-- R480: the key and nonce of a share entry. -/
def shareKey (ss : Bytes) : Bytes := sha3_256 (ascii "QUILE-SHARE-1" ++ ss)
/-- R480: the nonce of entry `k`. -/
def shareNonce (k : Nat) : Bytes := leBytes 4 k ++ zeros 8

/-- R480: one sealed share entry. -/
def sealShare (ss : Bytes) (k : Nat) (head share : Bytes) : Bytes :=
  let (ct, tag) := aeadSeal 0x04 (shareKey ss) (shareNonce k) head (fixLen 32 share)
  head ++ ct ++ tag

/-- R480: a share set for one custodian: E, COUNT, and the entries. -/
def shareSet (e : Bytes) (entries : List Bytes) : Bytes := fixLen 97 e ++ zeros 3 ++ leBytes 4 entries.length ++ zeros 24 ++ entries.flatten

/-- R480: the entries of a share set. -/
def shareEntries (p : Bytes) : List Bytes := (List.range (min 3 (leAt 100 4 p))).map (fun k => sub (128 + 64 * k) 64 p)

/-! ### Adoption (R398, R400) -/

/-- R400: the marks an adoption from cards skips forward to. -/
def forwardHwms (l : List (Nat × Nat)) (sec : Nat) : List (Nat × Nat) :=
  ((List.range 1536).map (fun k => (k, ceilDiv ((alook k l).getD 0 + 2 ^ 27 * sec) (2 ^ 24) * 2 ^ 24))).filter (fun e => e.2 ≠ 0)

/-- R400: items from a card backup written at `time`, adopted `now`. -/
def VaultItems.forwarded (v : VaultItems) (time now : Nat) : VaultItems :=
  { v with hwms := forwardHwms v.hwms (ceilDiv (now - time) (10 ^ 9)), stateful := v.stateful.map (fun e => { e with hwm := e.limit }) }

/-- R398 step 4: the vault formed over a new seed. -/
def State.adopted (s : State) (seed : Bytes) (v : VaultItems) (fromCards : Bool) : State :=
  let vk := vaultKeyOf s.life.fuses.dus seed
  let w : Vault := { s.vault with lost := false, initTime := s.now, seed := fixLen 32 seed, gens := v.gens.map (fun g => (g.1, wrapGen vk g.1 g.2)),
                                  root0 := v.root, root1 := ([], 0), suiteArea := [], campaign := v.campaign, hwms := v.hwms,
                                  stateful := v.stateful, headsShut := fromCards, newHeads := [] }
  { s with vault := w, guard := { s.guard with vaultKey := vk }, keys := { s.keys with objs := w.rootObjs } }

/-- R398: the items of SOURCE 0: generation secret 1 and the empty root. -/
def newItems (secret : Bytes) : VaultItems :=
  { root := (emptyRoot, 0), gens := [(1, fixLen 32 secret)], campaign := { suite := 1, fromGen := 1 }, hwms := [], stateful := [] }

end Sys2Proof.Machine
end

