-- ==== Sys2Proof/Machine/PowerOps.lean ====
section
/-! DEFINITION. Shared operations on feeds, switchover, temperature and fan (R36, R401 to R406). -/

namespace Sys2Proof.Machine

/-! ### Temperature and fan (R405, R406) -/

/-- R406: the duty of FAN_PWM. -/
def State.fanDutyNow (s : State) : Nat :=
  let lo := s.fld Reg.thgFan 7 0
  let hi := s.fld Reg.thgFan 15 8
  let least := s.fld Reg.thgFan 22 16
  let t := s.thermal.hottest
  if s.fld Reg.thgCtrl 1 1 = 0 then 100
  else if (hi : Int) < t then 100
  else if 0 < s.thermal.htrDuty ∨ t < (lo : Int) then least
  else least + (100 - least) * (t - lo).toNat / (hi - lo)

/-- R403: from the low feed to the tiles' return, outputs hold their last value. -/
def State.outputsHeld (s : State) : Bool := s.power.switching.isSome

/-- R406: the fan follows the die temperature and the heater. -/
def State.fanControl (s : State) : State :=
  if s.outputsHeld then s else { s with thermal := { s.thermal with fanDuty := s.fanDutyNow } }

/-! ### Feeds (R401 to R404) -/

/-- A feed is good. Feed 0 is A, feed 1 is B. -/
def Power.good (p : Power) (n : Nat) : Bool := if n = 0 then p.goodA else p.goodB

/-- A feed lies below LOW. -/
def Power.low (p : Power) (n : Nat) : Bool := if n = 0 then p.lowA else p.lowB

/-- A feed's reading, and what it makes of the feed. -/
def Power.sense (p : Power) (n mv : Nat) (good low : Bool) : Power :=
  if n = 0 then { p with mvA := mv, goodA := good, lowA := low } else { p with mvB := mv, goodB := good, lowB := low }

/-- Drive a feed's gate. -/
def Power.gate (p : Power) (n : Nat) (on : Bool) : Power := if n = 0 then { p with gateA := on } else { p with gateB := on }

/-- R402: both feeds lie below LOW. -/
def Power.bothLow (p : Power) : Bool := p.lowA && p.lowB

/-- R409: LOW and HIGH of PWR_FEED_TH, in mV. -/
def State.feedLow (s : State) : Nat := 20 * s.fld Reg.pwrFeedTh 9 0
/-- R409: HIGH, in mV. -/
def State.feedHigh (s : State) : Nat := 20 * s.fld Reg.pwrFeedTh 19 10

/-- Change the feeds' state. -/
def State.setPower (s : State) (p : Power) : State := { s with power := p }

/-- R402 step 1: DEGLITCH starts. -/
def State.startDeglitch (s : State) : State :=
  let w : Switchover := { target := 1 - s.power.active, step := 1, bySelect := false, startedAt := s.clock.mono, pausedAt := 0 }
  let s := s.holdOutputs
  s.setPower { s.power with switching := some w }

/-- R402, R403: a switchover ends, or is called off: the outputs follow the state again. -/
def State.endSwitch (s : State) (p : Power) : State := s.setPower { p with switching := none, heldOut := none }

/-- R402 step 2: the active gate is off and every tile pauses; the incoming feed is `n`. -/
def State.pauseTiles (s : State) (n : Nat) (bySelect : Bool) (startedAt : Nat) : State :=
  let w : Switchover := { target := n, step := 2, bySelect := bySelect, startedAt := startedAt, pausedAt := s.clock.mono }
  let s := s.holdOutputs
  s.setPower { (s.power.gate s.power.active false) with switching := some w, paused := true, returnSince := none }

/-- The sources that detect nothing on cells (R384). -/
def mainOnly : List Nat := [0, 1, 2, 9, 10, 11]

/-- R36, R402: both feeds are lost, and the device enters VAULT; the sources not armed on cells fall silent. -/
def State.enterVault (s : State) : State :=
  let s := s.volatileLost
  let p := { s.power with gateA := false, gateB := false, switching := none, heldOut := none }
  forEach mainOnly (fun n s => s.calm n) (s.setPower p)

/-- R384: the island named in a record of a main-power source: the monitor. -/
def monitorIsland : Nat := 58

end Sys2Proof.Machine
end

