-- ==== Sys2Proof/Machine/Tamper.lean ====
section
/-! DEFINITION. The guard's rows (R376, R378, R384 to R400): what its monitors sense, episodes, the recovery after a purge, and
adoption of a vault. -/

namespace Sys2Proof.Machine

/-! ### Rails and clocks (R385, R387) -/

/-- R385: a rail glitch, named by its rail. -/
def execRailGlitch (rail : Nat) (s : State) : Host.Outcome State Fault Refusal :=
  .next (if rail < 8 then s.fire 0 monitorIsland rail else s)

/-- R385, R501: a rail has lain outside its window for 10 µs. While VDD_IO18 does, the fuse supply's generator fails its check; the
model has it so until the next cold start (notes/assumptions/77.md). -/
def State.railExcursion (s : State) (rail : Nat) : State :=
  if rail < 8 then
    let s : State := if rail = 6 then { s with guard := { s.guard with io18Out := true } } else s
    s.fire 1 monitorIsland rail
  else s

/-- R385 RAIL_EXCURSION -/
def execRailExcursion (rail : Nat) (s : State) : Host.Outcome State Fault Refusal :=
  .next (s.railExcursion rail)

/-- R387: an island's clock is outside its window, in percent of its set frequency. The vault's crystal is island 56. -/
def clockBad (island percent : Nat) (stopped byDesign : Bool) : Bool :=
  if stopped then !byDesign
  else if island < 48 then decide (percent < 40) || decide (110 < percent)
  else if island = 56 then percent ≠ 100
  else decide (percent < 95) || decide (105 < percent)

/-- R20, R23, R347, R387: a clock window closes; an island whose clock stopped takes no part in handshakes until it runs again; a tile's
measured frequency is what TIL_STAT shows. On cells only the vault's crystal
is watched. -/
def State.clockWindow (s : State) (island percent : Nat) (stopped byDesign : Bool) : State :=
  if 59 < island ∨ (s.power.mode = .vault ∧ ¬(island = 56 ∧ stopped)) then s
  else
    let s := if island < 48 ∧ s.power.mode ≠ .vault then s.modTile island (fun t => { t with freq := if stopped then 0 else 1600 * percent / 100 }) else s
    let others := s.guard.stopped.filter (· ≠ island)
    let s : State := { s with guard := { s.guard with stopped := if stopped then insertBy id island others else others } }
    let s := if stopped then s else (s.flowTile island).settle
    if clockBad island percent stopped byDesign then s.fire 6 monitorIsland island else s

/-- R387 CLOCK_WINDOW -/
def execClockWindow (island percent : Nat) (stopped byDesign : Bool) (s : State) : Host.Outcome State Fault Refusal :=
  .next (s.clockWindow island percent stopped byDesign)

/-! ### Mesh, enclosure, temperature, cells (R384, R386, R387) -/

/-- R386: the mesh is sampled: `rx` is what MESH_IN received from each pair. Each LFSR goes on. -/
def State.meshSample (s : State) (rx : List (BitVec 16)) : State :=
  let bad := bitmap 8 (fun k => rx.getD k 0 ≠ s.guard.lfsr.getD k 0)
  let hit := bad &&& s.fld Reg.vltPhys 7 0
  let s : State := { s with guard := { s.guard with meshFault := BitVec.ofNat 8 bad, lfsr := s.guard.lfsr.map Config.lfsrNext } }
  if hit = 0 then s else s.fire 4 monitorIsland hit

/-- R386 MESH_SAMPLE -/
def execMeshSample (rx : List (BitVec 16)) (s : State) : Host.Outcome State Fault Refusal := .next (s.meshSample rx)

/-- R386: the enclosure switches are sampled: `opened` is 1 for an open switch. -/
def State.enclosureSample (s : State) (opened : BitVec 4) : State :=
  let bad := opened ^^^ BitVec.ofNat 4 (s.fld Reg.vltPhys 15 12)
  let hit := bad &&& s.guard.encLast &&& BitVec.ofNat 4 (s.fld Reg.vltPhys 11 8)
  let s : State := { s with guard := { s.guard with encState := bad, encLast := bad } }
  if hit = 0 then s else s.fire 5 monitorIsland hit.toNat

/-- R386 ENCLOSURE_SAMPLE -/
def execEnclosureSample (opened : BitVec 4) (s : State) : Host.Outcome State Fault Refusal := .next (s.enclosureSample opened)

/-- R408: LOW and HIGH of VLT_TEMP. -/
def State.tempLow (s : State) : Int := signedOf 8 (s.fld Reg.vltTemp 7 0)
/-- R408: HIGH of VLT_TEMP. -/
def State.tempHigh (s : State) : Int := signedOf 8 (s.fld Reg.vltTemp 15 8)

/-- R387, R406: the ten die sensors are sampled, or on cells the vault's alone; the fan follows. -/
def State.dieTempSample (s : State) (temps : List Int) : State :=
  let cells := s.power.mode == .vault
  let read (k : Nat) : Int := if cells && k ≠ 9 then s.thermal.die.getD k 0 else temps.getD k (s.thermal.die.getD k 0)
  let die := (List.range 10).map read
  let live := if cells then [9] else List.range 10
  let s : State := { s with thermal := { s.thermal with die := die } }
  let s := if cells then s else s.fanControl
  let s := match live.find? (fun k => decide (die.getD k 0 < s.tempLow)) with | some k => s.fire 7 monitorIsland k | none => s
  match live.find? (fun k => decide (s.tempHigh < die.getD k 0)) with | some k => s.fire 8 monitorIsland k | none => s

/-- R387 DIE_TEMP_SAMPLE -/
def execDieTempSample (temps : List Int) (s : State) : Host.Outcome State Fault Refusal := .next (s.dieTempSample temps)

/-- Change one cell. -/
def State.modCell (s : State) (n : Nat) (f : Cell → Cell) : State :=
  if n = 0 then { s with guard := { s.guard with cellA := f s.guard.cellA } } else { s with guard := { s.guard with cellB := f s.guard.cellB } }

/-- R383: a cell's removal fires no source within 24 h of REMOVE. -/
def Cell.exempt (c : Cell) : Bool := c.holdUntil.isSome

/-- R383, R384: a cell above 4.3 V, or below 1.0 V without REMOVE. -/
def State.cellExcursion (s : State) (n mv : Nat) : State :=
  if 2 ≤ n then s
  else if 4300 < mv then (s.modCell n (fun c => { c with mv := mv, state := 6 })).fire 3 56 n
  else if mv < 1000 then
    let c := s.guard.cell n
    let s := s.modCell n (fun c => { c with mv := mv, state := if c.state = 5 then 5 else 0 })
    if c.exempt ∨ c.state = 0 then s else s.fire 3 56 n
  else s

/-- R384 CELL_EXCURSION -/
def execCellExcursion (cell mv : Nat) (s : State) : Host.Outcome State Fault Refusal := .next (s.cellExcursion cell mv)

/-! ### Episodes (R384, R390, R393) -/

/-- R384: whether what the state shows of a source's condition still lasts. -/
def State.conditionLasts (s : State) (src : Nat) : Bool :=
  if src = 2 then decide (s.feedHigh < s.power.mvA) || decide (s.feedHigh < s.power.mvB)
  else if src = 3 then s.guard.cellA.state == 6 || s.guard.cellB.state == 6
  else if src = 4 then s.guard.meshFault.toNat &&& s.fld Reg.vltPhys 7 0 ≠ 0
  else if src = 5 then s.guard.encState &&& s.guard.encLast &&& BitVec.ofNat 4 (s.fld Reg.vltPhys 11 8) ≠ 0
  else if src = 7 then (if s.power.mode = .vault then [9] else List.range 10).any (fun k => decide (s.thermal.die.getD k 0 < s.tempLow))
  else if src = 8 then (if s.power.mode = .vault then [9] else List.range 10).any (fun k => decide (s.tempHigh < s.thermal.die.getD k 0))
  else false

/-- R384 TAMPER_SOURCE_INACTIVE -/
def execTamperSourceInactive (src : Nat) (s : State) : Host.Outcome State Fault Refusal :=
  .next (if !s.guard.active.getLsbD src ∨ 12 ≤ src ∨ s.conditionLasts src then s else s.calm src)

/-- R390: the sources that fired are inactive; their second ends. -/
def State.episodeEnd (s : State) : State :=
  match s.guard.quietSince with
  | none => s
  | some t =>
    if !s.vault.episode ∨ s.guard.freeze ∨ (s.guard.active &&& s.vault.fired) ≠ 0 then s
    else
      let s := s.advanceTo (max s.clock.mono (t + 10 ^ 9))
      { s with vault := { s.vault with episode := false, fired := 0, performed := 0, counted := [] },
               guard := { s.guard with quietSince := none } }

/-- R390 EPISODE_END -/
def execEpisodeEnd (s : State) : Host.Outcome State Fault Refusal := .next s.episodeEnd

/-- R393: why TAMPER_CLEAR is refused. -/
def State.clearRefused (s : State) (j : Job) : Option Nat :=
  let acts (n : Nat) : Nat := s.actionsOf n
  if !s.guard.freeze then some 0x01
  else if (List.range 12).any (fun n => s.vault.fired.getLsbD n && s.guard.active.getLsbD n && bitOf 2 (acts n)) then some 0x02
  else if (List.range 12).any (fun n => s.vault.fired.getLsbD n && bitOf 8 (s.reg Reg.vltSrcCfg n)) ∧ !j.ceremonyOk then some 0x03
  else none

/-- R393: TAMPER_CLEAR: the freeze ends; its own completion leads the withheld ones. -/
def State.tamperClear (s : State) (j : Job) : State :=
  match s.clearRefused j with
  | some d => s.deny j Status.attrDenied d
  | none => ({ s with guard := { s.guard with freeze := false } } : State).done j

/-- R393 TAMPER_CLEAR -/
def execTamperClear (q i : Nat) (s : State) : Host.Outcome State Fault Refusal := .next (s.ctl q i Op.tamperClear State.tamperClear)

/-! ### Recovery (R363, R392) -/

/-- R116, R368: what the kiln computes from DUS and the vault seed, placed in the seal unit. -/
def State.placeSecrets (s : State) : State :=
  let dus := s.life.fuses.dus
  let vk := if vaultState s.vault = 0 ∧ !s.life.dusBad then vaultKeyOf dus s.vault.seed else []
  { s with guard := { s.guard with vaultKey := vk, identity := if s.life.dusBad then [] else identityOf dus } }

/-- R344, R363, R392: the recovery pass after a purge. `fails` is what March C- finds. -/
def State.recoveryPass (s : State) (fails : List RowFail) : State :=
  if !s.guard.recovering ∨ !s.power.coresUp then s
  else
    let s := (s.placeSecrets.marchAll fails).sealTables.resolvePins
    let s : State := { s with guard := { s.guard with recovering := false }, keys := { s.keys with objs := s.vault.rootObjs } }
    s.settle

/-- R392 PURGE_RECOVERY_PASS -/
def execPurgeRecoveryPass (fails : List RowFail) (s : State) : Host.Outcome State Fault Refusal := .next (s.recoveryPass fails)

/-! ### The vault SRAM (R376, R378) -/

/-- R376: the polarity refresh inverts its next block; 128 of these steps refresh the whole SRAM. The pointer stands across a change
between main power and cells. What the blocks hold is unchanged. -/
def State.polarityStep (s : State) : State :=
  let b := (s.vault.refresh.map Prod.fst).getD 0
  let v := { s.vault with polarity := s.vault.polarity ^^^ BitVec.ofNat 128 (2 ^ b), refresh := if b = 127 then none else some (b + 1, 0) }
  { s with vault := v }

/-- R376 VAULT_POLARITY_REFRESH -/
def execVaultPolarityRefresh (s : State) : Host.Outcome State Fault Refusal := .next s.polarityStep

/-- R378, R395: the cells fall below the retention level: everything the vault holds is lost, with both copies of the retained
configuration, the ring, the latch and secure time. -/
def State.vaultLost (s : State) : State :=
  if s.power.mode ≠ .vault then s
  else
    let mg := { s.mgmt with cseqA := 0, cseqB := 0, goodA := false, goodB := false }
    let g := { s.guard with quietSince := none }
    let c := { s.clock with state := .unset, secure := 0, calibratedAt := none, correction := 0, errBase := 0, utcOffset := 0, lastLock := 0 }
    { s with vault := {}, copyA := none, copyB := none, regs := [], mgmt := mg, guard := g, clock := c, pair := { s.pair with secret := [] },
             log := { s.log with rings := s.log.rings.filter (fun r => r.num ≠ 257) } }

/-- R378 VAULT_SUPPLY_BELOW_RETENTION -/
def execVaultSupplyBelowRetention (s : State) : Host.Outcome State Fault Refusal := .next s.vaultLost

/-! ### Re-adoption (R398 to R400) -/

/-- R399: why VAULT_ADOPT is refused. -/
def State.adoptRefused (s : State) (j : Job) : Option (Nat × Nat) :=
  let src := j.desc.p8 48
  if s.eol then some (Status.attrDenied, 0x20)
  else if vaultState s.vault = 0 then some (Status.attrDenied, 0x01)
  else if !j.ceremonyOk then some (Status.attrDenied, 0x03)
  else if src = 2 ∧ s.clock.state ≠ .locked then some (Status.attrDenied, 0x04)
  else if src = 1 ∧ (s.pairing.isNone ∨ s.pair.role = 0 ∨ s.pair.peer = 2 ∨ s.pair.peerRole ≠ 1) then some (Status.busy, 0)
  else if 2 < src then some (Status.invalidInput, 0)
  else none

/-- R271: the campaign an adoption obtains resumes with CURSOR 0. -/
def VaultItems.restarted (v : VaultItems) : VaultItems := { v with campaign := { v.campaign with cursor := 0 } }

/-- R398: an adoption ends: the vault is VALID. -/
def State.adoptDone (s : State) (j : Job) (seed : Bytes) (v : VaultItems) (fromCards : Bool) : State :=
  (s.adopted seed v fromCards).done j { detail := v.root.2 }

/-- R398 SOURCE 2: an opened backup with an empty root needs no page; any other is checked against the level-4 page in host memory. A job
that waits holds the seed and the opened backup. -/
def State.adoptBackup (s : State) (j : Job) (seed b : Bytes) (time : Nat) : State :=
  let v := (parseItems b).forwarded time s.now |>.restarted
  let o := treeObj 4 0
  if v.root = (emptyRoot, 0) then s.adoptDone j seed v true
  else if (s.regionFor o).isNone ∨ s.keys.persistQ.isNone then s.deny j Status.verifyFail
  else ((s.modJob j.id (fun k => { k with entropy := seed, input := leBytes 8 time ++ b })).block j).readFrame o 0

/-- R398 SOURCE 2: the newest valid backup, opened with the estate custody key of the ceremony. -/
def State.adoptCards (s : State) (j : Job) (seed : Bytes) : State :=
  match s.mgmt.ceremony.bind (fun c => c.estateKey) with
  | none => s.deny j Status.attrDenied 0x40
  | some key =>
    match s.newestBackup key with
    | none => s.deny j Status.verifyFail
    | some p => match openBackup key p with
      | none => s.deny j Status.authFail
      | some b => s.adoptBackup j seed b (leAt 8 8 p)

/-- R398: VAULT_ADOPT. With SOURCE 1 the job waits for what the peer sends (R430). -/
def State.vaultAdopt (s : State) (j : Job) : State :=
  match s.adoptRefused j with
  | some (st, dt) => s.deny j st dt
  | none => s.withRandom j 64 (fun s b =>
      match j.desc.p8 48 with
      | 0 => s.adoptDone j (b.take 32) (newItems (b.drop 32)) false
      | 1 => (s.modJob j.id (fun k => { k with entropy := b.take 32 })).block j
      | _ => s.adoptCards j (b.take 32))

/-- R398 VAULT_ADOPT -/
def execVaultAdopt (q i : Nat) (s : State) : Host.Outcome State Fault Refusal := .next (s.ctl q i Op.vaultAdopt State.vaultAdopt)

/-- R398: the VAULT_ADOPT job that waits, by its SOURCE. -/
def State.adopting (s : State) (src : Nat) : Option Job :=
  s.jobs.find? (fun j => j.desc.opcode == Op.vaultAdopt && j.phase == .blocked && j.desc.p8 48 == src)

/-- R398 step 3, SOURCE 2: the level-4 page arrives from one of its frames. -/
def State.adoptPage (s : State) (j : Job) (o : Obj) (frame : Nat) (img : Bytes) : State :=
  let b := j.input.drop 8
  let v := (parseItems b).forwarded (leAt 0 8 j.input) s.now |>.restarted
  let s := match s.keys.persistQ with | some q => s.readDone q (fun r => r.kind == ReqKind.readPage) | none => s
  let w := s.adopted j.entropy v true
  let good := ((w.obj? o).bind (fun e => w.imageGood e img)).isSome
  if good then s.adoptDone j j.entropy v true
  else if frame = 0 then s.readFrame o 1
  else s.deny j Status.verifyFail

/-- R141, R398: a page image arrives for an adoption that waits for it, or for a load. -/
def State.pageArrival (s : State) (o : Obj) (frame : Nat) (img : Bytes) : State :=
  match s.adopting 2 with
  | some j => if o = treeObj 4 0 ∧ frame < 2 then s.adoptPage j o frame img else s
  | none => s.pageImage o frame img

/-- R141 PAGE_IMAGE_ARRIVAL -/
def execPageImageArrival (o : Obj) (frame : Nat) (image : Bytes) (s : State) : Host.Outcome State Fault Refusal :=
  .next (s.pageArrival o frame image)

end Sys2Proof.Machine
end

