-- ==== Sys2Proof/Machine/Cells.lean ====
section
/-! DEFINITION. The backup cells' rows (R379 to R383). -/

namespace Sys2Proof.Machine

/-- R408: TYPE of a cell: RECHARGEABLE. -/
def State.rechargeable (s : State) (n : Nat) : Bool := bitOf 0 (s.reg Reg.vltCellCfg n)

/-- A cell that is connected: neither ABSENT nor OUT. -/
def Cell.connected (c : Cell) : Bool := c.state ≠ 0 && c.state ≠ 5

/-- A cell's voltage at the vault supply. -/
def Cell.atSupply (c : Cell) : Nat := if c.connected then c.mv else 0

/-! ### The coulomb counters (R381) -/

/-- R381: charge of a current in mA over nanoseconds, in µAh. -/
def microAh (ma ns : Nat) : Nat := ma * ns / 3600000000

/-- R381: a charging current of `ma` measured at time `now`: the counter adds what flowed since its last reading. -/
def Cell.charged (c : Cell) (ma now : Nat) : Cell :=
  match c.gaugedAt with
  | some t => { c with charge := c.charge + microAh ma (now - t), gaugedAt := some now }
  | none => { c with gaugedAt := some now }

/-- R381: a discharge the guard itself draws: a load of `ma` for `ns`. -/
def Cell.drawn (c : Cell) (ma ns : Nat) : Cell := { c with charge := c.charge - microAh ma ns }

/-- R377, R381: while no feed is good the vault's own draw discharges the cell that holds it. What it draws between two readings is a
free value (notes/assumptions/83.md). -/
def State.drawSupply (s : State) : State :=
  if s.power.mode = .vault then
    let k := Config.freeNat s.free
    { (s.modCell s.guard.supply (fun c => { c with charge := c.charge - k })) with free := s.free + 1 }
  else s

/-- R379: the vault changes to the other cell when it is higher by more than 50 mV. -/
def State.pickSupply (s : State) : State :=
  let n := s.guard.supply
  if (s.guard.cell n).atSupply + 50 < (s.guard.cell (1 - n)).atSupply then { s with guard := { s.guard with supply := 1 - n } } else s

/-- R379: the cells' voltages at rest, and the supply they choose. -/
def State.supplySwitch (s : State) (a b : Nat) : State :=
  ((s.drawSupply.modCell 0 (fun c => { c with mv := a })).modCell 1 (fun c => { c with mv := b })).pickSupply

/-- R379 CELL_SUPPLY_SWITCH -/
def execCellSupplySwitch (mvA mvB : Nat) (s : State) : Host.Outcome State Fault Refusal := .next (s.supplySwitch mvA mvB)

/-! ### Charging (R380) -/

/-- R380: both enclosure sensors read 0 to 45 °C. -/
def Thermal.chargeWindow (t : Thermal) : Bool :=
  !t.faultA && !t.faultB && decide (0 ≤ t.encA) && decide (t.encA ≤ 45) && decide (0 ≤ t.encB) && decide (t.encB ≤ 45)

/-- R380: CV in mV. -/
def State.cellCv (s : State) (n : Nat) : Nat := 3000 + 10 * bitsOf 13 7 (s.reg Reg.vltCellCfg n)

/-- R380: charging on main power: constant current up to CV, constant voltage until the current falls below TERM_MA, and a pause
outside the temperature window. `mv` and `ma` are the cell's voltage and its charging current. -/
def State.chargeControl (s : State) (n mv ma : Nat) : State :=
  if 2 ≤ n ∨ s.power.mode = .vault ∨ !s.rechargeable n ∨ !(s.guard.cell n).connected then s
  else
    let s := s.modCell n (fun c => { (if c.state = 4 then c.charged ma s.clock.mono else { c with gaugedAt := some s.clock.mono }) with mv := mv })
    let c := s.guard.cell n
    let stop (c : Cell) : Cell := { c with state := if c.state = 4 then 1 else c.state, constVolt := false, gaugedAt := none }
    if bitsOf 1 1 (s.reg Reg.vltCellCfg n) = 0 ∨ c.state = 3 ∨ c.state = 6 ∨ 4300 < mv then s.modCell n stop
    else if !s.thermal.chargeWindow then (s.modCell n stop).notice Reg.thgNotice 3
    else if c.constVolt ∧ ma < bitsOf 17 14 (s.reg Reg.vltCellCfg n) then s.modCell n stop
    else s.modCell n (fun c => { c with state := 4, constVolt := c.constVolt || decide (s.cellCv n ≤ mv) })

/-- R380 CELL_CHARGE_CONTROL -/
def execCellChargeControl (cell mv ma : Nat) (s : State) : Host.Outcome State Fault Refusal := .next (s.chargeControl cell mv ma)

/-! ### Load tests and depassivation (R381, R382) -/

/-- R383: a test or pulse runs on a cell. -/
def Cell.underTest (c : Cell) : Bool := c.testing || c.pulses.isSome

/-- R383: a test or pulse runs on either cell. -/
def State.cellBusy (s : State) : Bool := s.guard.cellA.underTest || s.guard.cellB.underTest

/-- R381, R382: a load test begins: a PRIMARY cell is depassivated first. -/
def State.beginTest (s : State) (n : Nat) : State :=
  if !(s.guard.cell n).connected then s
  else if s.rechargeable n then s.modCell n (fun c => { c with testing := true })
  else s.modCell n (fun c => { c with pulses := some 0, testAfter := true })

/-- R381 CELL_PERIODIC_LOAD_TEST -/
def execCellPeriodicLoadTest (cell : Nat) (s : State) : Host.Outcome State Fault Refusal :=
  .next (if 2 ≤ cell ∨ s.power.mode = .vault ∨ s.cellBusy then s else s.beginTest cell)

/-- A cell becomes WEAK. -/
def State.weaken (s : State) (n : Nat) : State :=
  if (s.guard.cell n).state = 3 then s else (s.modCell n (fun c => { c with state := 3, constVolt := false })).notice Reg.vltNotice 6

/-- R381: the load ends: the internal resistance follows from the drop under 10 mA; below 2.8 V the cell is WEAK. -/
def State.testDone (s : State) (n mv : Nat) : State :=
  if 2 ≤ n ∨ !(s.guard.cell n).testing then s
  else
    let s := s.modCell n (fun c => { (c.drawn 10 (10 ^ 9)) with testing := false, rint := (c.mv - mv) / 10 })
    if mv < 2800 then s.weaken n else s

/-- R381 LOAD_TEST_DONE -/
def execLoadTestDone (cell mv : Nat) (s : State) : Host.Outcome State Fault Refusal := .next (s.testDone cell mv)

/-- R382: a pulse ends: at 2.9 V or more under 10 mA the cell is depassivated; after five pulses below it the cell is WEAK. -/
def State.pulse (s : State) (n mv : Nat) : State :=
  match (s.guard.cell n).pulses with
  | none => s
  | some k =>
    let finish (c : Cell) : Cell := { (c.drawn 20 (10 ^ 8)) with pulses := none, testing := c.testAfter, testAfter := false }
    if 2 ≤ n then s
    else if 2900 ≤ mv then s.modCell n finish
    else if 4 ≤ k then (s.modCell n finish).weaken n
    else s.modCell n (fun c => { (c.drawn 20 (10 ^ 8)) with pulses := some (k + 1) })

/-- R382 DEPASSIVATION_PULSE -/
def execDepassivationPulse (cell mv : Nat) (s : State) : Host.Outcome State Fault Refusal := .next (s.pulse cell mv)

/-- R381: a cell at rest below 3.0 V, or below 10 % of CAP. -/
def State.cellLow (s : State) (n mv : Nat) : State :=
  if 2 ≤ n then s
  else
    let s := s.drawSupply.modCell n (fun c => { c with mv := mv })
    let c := s.guard.cell n
    if c.state = 1 ∧ (mv < 3000 ∨ 10 * c.charge < s.capOf n) then (s.modCell n (fun c => { c with state := 2 })).notice Reg.vltNotice 5 else s

/-- R381 CELL_LOW -/
def execCellLow (cell mv : Nat) (s : State) : Host.Outcome State Fault Refusal := .next (s.cellLow cell mv)

/-! ### VLT_CELL_CMD (R383) -/

/-- R383: an action on the cell the write names. -/
def State.cellAction (s : State) (q i act : Nat) (f : State → Job → Nat → State) : State :=
  s.cfgAction q i Reg.vltCellCmd 2 0 act (fun s j => f (s.keepTarget j Reg.vltCellCmd) j (s.targetOf j Reg.vltCellCmd))

/-- R383: REMOVE. -/
def State.cellRemove (s : State) (j : Job) (n : Nat) : State :=
  let other := (s.guard.cell (1 - n)).state
  if ¬(other = 1 ∨ other = 4) then s.deny j Status.attrDenied
  else
    let out (c : Cell) : Cell :=
      { c with state := 5, holdUntil := some (s.clock.mono + 24 * 3600 * 10 ^ 9), pulses := none, testAfter := false, testing := false,
               constVolt := false }
    let s := s.modCell n out
    ({ s with guard := { s.guard with supply := 1 - n } } : State).done j

/-- R383 REMOVE -/
def execRemove (q i : Nat) (s : State) : Host.Outcome State Fault Refusal := .next (s.cellAction q i 1 State.cellRemove)

/-- R383: LOAD_TEST. -/
def State.cellLoadTest (s : State) (j : Job) (n : Nat) : State := if s.cellBusy then s.deny j Status.busy else (s.beginTest n).done j

/-- R381 LOAD_TEST -/
def execLoadTest (q i : Nat) (s : State) : Host.Outcome State Fault Refusal := .next (s.cellAction q i 2 State.cellLoadTest)

/-- R383: DEPASSIVATE. -/
def State.cellDepassivate (s : State) (j : Job) (n : Nat) : State :=
  if s.rechargeable n then s.deny j Status.attrDenied
  else if s.cellBusy then s.deny j Status.busy
  else (if (s.guard.cell n).connected then s.modCell n (fun c => { c with pulses := some 0, testAfter := false }) else s).done j

/-- R382 DEPASSIVATE -/
def execDepassivate (q i : Nat) (s : State) : Host.Outcome State Fault Refusal := .next (s.cellAction q i 3 State.cellDepassivate)

/-- R383: GAUGE_RESET. -/
def State.gaugeReset (s : State) (j : Job) (n : Nat) : State := (s.modCell n (fun c => { c with charge := s.capOf n })).done j

/-- R383 GAUGE_RESET -/
def execGaugeReset (q i : Nat) (s : State) : Host.Outcome State Fault Refusal := .next (s.cellAction q i 4 State.gaugeReset)

/-- R383: a cell seen above 2.5 V for 1 s after its removal: GOOD, its gauge at CAP, and a load test. -/
def State.cellInserted (s : State) (n mv : Nat) : State :=
  if 2 ≤ n ∨ (s.guard.cell n).connected ∨ mv ≤ 2500 then s
  else
    let put (c : Cell) : Cell := { c with mv := mv, state := 1, charge := s.capOf n, holdUntil := none, pulses := none, testing := false }
    ((s.modCell n put).pickSupply).beginTest n

/-- R383 CELL_INSERTED -/
def execCellInserted (cell mv : Nat) (s : State) : Host.Outcome State Fault Refusal := .next (s.cellInserted cell mv)

/-- R383: the exemption of a removed cell ends; one that is still gone fires its source. -/
def State.holdExpiry (s : State) (n : Nat) : State :=
  match (s.guard.cell n).holdUntil with
  | none => s
  | some t =>
    let s := (s.advanceTo (max s.clock.mono t)).modCell n (fun c => { c with holdUntil := none })
    if (s.guard.cell n).state = 5 ∧ (s.guard.cell n).mv < 1000 then s.fire 3 56 n else s

/-- R383 CELL_REMOVE_HOLD_EXPIRY -/
def execCellRemoveHoldExpiry (cell : Nat) (s : State) : Host.Outcome State Fault Refusal :=
  .next (if 2 ≤ cell then s else s.holdExpiry cell)

end Sys2Proof.Machine
end

