-- ==== Sys2Proof/Machine/Feeds.lean ====
section
/-! DEFINITION. The power feeds' and the thermal guard's rows (R401 to R406). -/

namespace Sys2Proof.Machine

/-- The device draws from a feed: any mode but VAULT. -/
def State.powered (s : State) : Bool := s.power.mode ≠ .vault

/-- R409: FEED_LOST when a feed that was good is no longer. -/
def State.feedGone (s : State) (n : Nat) : State := if s.power.good n then s.notice Reg.pwrNotice 1 else s

/-! ### A feed falls (R401, R402) -/

/-- R402 step 1: the active feed falls below LOW. -/
def State.feedBelowLow (s : State) (mv : Nat) : State :=
  let n := s.power.active
  if s.feedLow ≤ mv then s
  else
    let was := s.power.low n
    let s := s.feedGone n
    let s := s.setPower (s.power.sense n mv false true)
    if s.powered ∧ !was ∧ s.power.switching.isNone then s.startDeglitch else s

/-- R402 FEED_BELOW_LOW -/
def execFeedBelowLow (mv : Nat) (s : State) : Host.Outcome State Fault Refusal := .next (s.feedBelowLow mv)

/-- R401: the other feed falls below LOW; with both low, DEGLITCH runs from now. -/
def State.feedLost (s : State) (n mv : Nat) : State :=
  if 2 ≤ n ∨ s.feedLow ≤ mv ∨ (s.powered ∧ n = s.power.active) then s
  else
    let s := s.feedGone n
    let s := s.setPower { (s.power.sense n mv false true) with returnSince := none }
    let step1 := (s.power.switching.map (fun w => w.step == 1)).getD true
    if s.powered ∧ s.power.bothLow ∧ step1 then s.startDeglitch else s

/-- R401 FEED_LOST -/
def execFeedLost (feed mv : Nat) (s : State) : Host.Outcome State Fault Refusal := .next (s.feedLost feed mv)

/-- R402 step 2: DEGLITCH expires: VAULT with both feeds low, a switchover with the other feed good, else the device stays. -/
def State.deglitchExpiry (s : State) : State :=
  match s.power.switching with
  | none => s
  | some w =>
    if w.step = 1 then
      let s := s.advanceTo (max s.clock.mono (w.startedAt + 1000 * s.fld Reg.pwrCtrl 6 2))
      if s.power.bothLow then s.enterVault
      else if s.power.good w.target ∧ s.power.low s.power.active then s.pauseTiles w.target false w.startedAt
      else s.endSwitch s.power
    else if s.power.bothLow then s.enterVault
    else s

/-- R402 DEGLITCH_EXPIRY -/
def execDeglitchExpiry (s : State) : Host.Outcome State Fault Refusal := .next s.deglitchExpiry

/-! ### The switchover (R402, R404) -/

/-- R402 steps 3 and 4: the incoming feed carries the load. -/
def State.switchComplete (s : State) : State :=
  match s.power.switching with
  | none => s
  | some w =>
    if w.step ≠ 2 ∨ !s.power.good w.target then s
    else
      let s := s.advanceTo (max s.clock.mono (w.pausedAt + 1000))
      let p := { (s.power.gate w.target true) with active := w.target, lastSwitch := (s.clock.mono - w.startedAt) / 100,
                                                   switching := some { w with step := 4 } }
      let s := ((s.setPower p).bump Reg.pwrSwitches).notice Reg.pwrNotice 0
      if w.bySelect then s.notice Reg.pwrNotice 4 else s

/-- R402 SWITCHOVER_COMPLETE -/
def execSwitchoverComplete (s : State) : Host.Outcome State Fault Refusal := .next s.switchComplete

/-- R402 step 5, R458: the tiles resume; the record carries the pause. -/
def State.resumeTiles (s : State) : State :=
  match s.power.switching with
  | none => s
  | some w =>
    if w.step ≠ 4 then s
    else
      let pause := (s.clock.mono - w.pausedAt) / 100
      let s := s.endSwitch { s.power with paused := false, lastPause := pause }
      let s := s.devEvent 2 0x0A01 monitorIsland (leBytes 1 s.power.active ++ zeros 3 ++ leBytes 4 pause)
      let s := forEach (List.range 48) (fun t s => s.flowTile t) s
      if s.power.low s.power.active then s.startDeglitch else s

/-- R402 TILE_RESUME -/
def execTileResume (s : State) : Host.Outcome State Fault Refusal := .next s.resumeTiles

/-! ### A feed above HIGH, or good again (R404) -/

/-- R404: a feed above HIGH: its gate turns off at once, and FEED_EXCURSION fires. The load moves to the other feed if that is good. -/
def State.feedAboveHigh (s : State) (n mv : Nat) : State :=
  if 2 ≤ n ∨ mv ≤ s.feedHigh then s
  else
    let s := (s.feedGone n).notice Reg.pwrNotice 3
    let s := s.setPower { ((s.power.sense n mv false false).gate n false) with
      returnSince := if n = s.power.active then s.power.returnSince else none }
    let s := s.fire 2 monitorIsland n
    if !s.powered ∨ n ≠ s.power.active then s
    else if s.power.good (1 - n) then
      (if (s.power.switching.map (fun w => w.step == 1)).getD true then s.pauseTiles (1 - n) false s.clock.mono else s)
    else s.enterVault

/-- R404 FEED_ABOVE_HIGH -/
def execFeedAboveHigh (feed mv : Nat) (s : State) : Host.Outcome State Fault Refusal := .next (s.feedAboveHigh feed mv)

/-- R404: a feed lies between LOW and HIGH again. The preferred feed's second begins; a low active feed switches to it. -/
def State.feedGood (s : State) (n mv : Nat) : State :=
  if 2 ≤ n ∨ mv < s.feedLow ∨ s.feedHigh < mv then s
  else
    let was := s.power.good n
    let s := if was then s else s.notice Reg.pwrNotice 2
    let p := s.power.sense n mv true false
    let returned := !was && s.powered && n ≠ s.power.active && n == s.fld Reg.pwrCtrl 0 0
    let cancel := n == s.power.active && (s.power.switching.map (fun w => w.step == 1)).getD false
    let s := s.setPower { p with returnSince := if returned then some s.clock.mono else p.returnSince,
                                 switching := if cancel then none else p.switching,
                                 heldOut := if cancel then none else p.heldOut }
    if s.powered ∧ n ≠ s.power.active ∧ s.power.low s.power.active ∧ s.power.switching.isNone then s.startDeglitch else s

/-- R404 FEED_GOOD -/
def execFeedGood (feed mv : Nat) (s : State) : Host.Outcome State Fault Refusal := .next (s.feedGood feed mv)

/-- R404: AUTO_RETURN: the preferred feed has been good for 1 s. -/
def State.autoReturn (s : State) : State :=
  match s.power.returnSince with
  | none => s
  | some t =>
    let pref := s.fld Reg.pwrCtrl 0 0
    if s.fld Reg.pwrCtrl 1 1 = 0 ∨ pref = s.power.active ∨ !s.power.good pref ∨ s.power.switching.isSome ∨ !s.powered then s
    else
      let s := s.advanceTo (max s.clock.mono (t + 10 ^ 9))
      s.pauseTiles pref false s.clock.mono

/-- R404 AUTO_RETURN_EXPIRY -/
def execAutoReturnExpiry (s : State) : Host.Outcome State Fault Refusal := .next s.autoReturn

/-- R404: SELECT of a feed. While a switchover runs the command waits. -/
def State.selectFeed (s : State) (j : Job) (n : Nat) : State :=
  if !s.power.good n then s.deny j Status.attrDenied
  else if s.power.active = n ∧ s.power.switching.isNone then s.done j
  else if s.power.switching.isSome then s
  else (s.pauseTiles n true s.clock.mono).done j

/-- R404 SELECT_A -/
def execSelectA (q i : Nat) (s : State) : Host.Outcome State Fault Refusal :=
  .next (s.cfgAction q i Reg.pwrCmd 1 0 1 (fun s j => s.selectFeed j 0))

/-- R404 SELECT_B -/
def execSelectB (q i : Nat) (s : State) : Host.Outcome State Fault Refusal :=
  .next (s.cfgAction q i Reg.pwrCmd 1 0 2 (fun s j => s.selectFeed j 1))

/-- R384 FEED_GLITCH -/
def execFeedGlitch (s : State) : Host.Outcome State Fault Refusal := .next (s.fire 2 monitorIsland s.power.active)

/-! ### The thermal guard (R405, R406) -/

/-- R405: T, the lower reading of the enabled sensors that are not faulted. -/
def State.enclosureTemp (s : State) : Option Int :=
  let a := if bitOf 2 (s.reg Reg.thgCtrl) && !s.thermal.faultA then [s.thermal.encA] else []
  let b := if bitOf 3 (s.reg Reg.thgCtrl) && !s.thermal.faultB then [s.thermal.encB] else []
  match a ++ b with
  | [] => none
  | x :: xs => some (xs.foldl min x)

/-- R405: the heater's loop: the duty in percent and the integrator. -/
def State.heaterLoop (s : State) (t : Int) : Nat × Int :=
  let e : Int := signedOf 8 (s.fld Reg.thgCtrl 11 4) - t
  let kp : Int := s.fld Reg.thgPi 15 0
  let ki : Int := s.fld Reg.thgPi 31 16
  let cand := 100 * kp * e + ki * (s.thermal.integ + e)
  let integ := if 0 ≤ cand ∧ cand ≤ 1000000 then s.thermal.integ + e else s.thermal.integ
  let u := (100 * kp * e + ki * integ) / 10000
  ((max 0 (min 100 u)).toNat, integ)

/-- R405: the duty of HTR_PWM for the coming second, and the integrator. -/
def State.heaterNow (s : State) : Nat × Int :=
  if s.fld Reg.thgCtrl 0 0 = 0 then (0, s.thermal.integ)
  else match s.enclosureTemp with
    | none => (s.fld Reg.thgCtrl 18 12, s.thermal.integ)
    | some t =>
      let r := s.heaterLoop t
      if 85 < s.thermal.hottest then (0, r.2) else r

/-- R405, R409: the sensors are read; a sensor that reads nothing is faulted. -/
def State.readSensors (s : State) (a b : Option Int) : State :=
  let t := s.thermal
  let newFault := (a.isNone && !t.faultA && bitOf 2 (s.reg Reg.thgCtrl)) || (b.isNone && !t.faultB && bitOf 3 (s.reg Reg.thgCtrl))
  let s : State := { s with thermal := { t with encA := a.getD t.encA, encB := b.getD t.encB, faultA := a.isNone, faultB := b.isNone } }
  if newFault then s.notice Reg.thgNotice 0 else s

/-- R409: BELOW_SETPOINT after 10 minutes more than 5 °C below. -/
def State.noteBelow (s : State) : State :=
  let below := match s.enclosureTemp with | some t => decide (t < signedOf 8 (s.fld Reg.thgCtrl 11 4) - 5) | none => false
  let n := if below then s.thermal.belowFor + 1 else 0
  let s : State := { s with thermal := { s.thermal with belowFor := n } }
  if n = 600 then s.notice Reg.thgNotice 2 else s

/-- R403, R405, R406: one second of the thermal guard, on main power; during a switchover the outputs and the integrator hold. -/
def State.thermalTick (s : State) (a b : Option Int) : State :=
  if !s.powered then s
  else
    let s := (s.readSensors a b).noteBelow
    if s.outputsHeld then s
    else
      let r := s.heaterNow
      ({ s with thermal := { s.thermal with htrDuty := r.1, integ := r.2 } } : State).fanControl

/-- R405 THERMAL_TICK -/
def execThermalTick (a b : Option Int) (s : State) : Host.Outcome State Fault Refusal := .next (s.thermalTick a b)

/-- R406: the fan has turned at `rpm` for 5 s. -/
def State.fanStall (s : State) (rpm : Nat) : State :=
  let stalled := s.powered && decide (rpm < 100 * s.fld Reg.thgFan 31 23) && decide (30 < s.thermal.fanDuty)
  let was := s.thermal.stalled
  let s : State := { s with thermal := { s.thermal with rpm := rpm, stalled := stalled } }
  if stalled ∧ !was then (s.notice Reg.thgNotice 1).devEvent 5 0x0A02 55 (leBytes 2 rpm) else s

/-- R406 FAN_STALL -/
def execFanStall (rpm : Nat) (s : State) : Host.Outcome State Fault Refusal := .next (s.fanStall rpm)

end Sys2Proof.Machine
end

