-- ==== Sys2Proof/Machine/Net.lean ====
section
/-! DEFINITION. The ports' rows (R37 to R40, R84, R246 to R248): link, port settings, address resolution, priority flow control,
congestion control, and PTP with its discipline of secure time. -/

namespace Sys2Proof.Machine

/-! ### Ports and links (R37, R84) -/

/-- A port. -/
def State.port (s : State) (n : Nat) : Port := if n = 0 then s.net.portA else s.net.portB

/-- R84: the settings register of a port. -/
def portCfg (n : Nat) : Nat := if n = 0 then Reg.hqiPortaCfg else Reg.hqiPortbCfg

/-- R37: the interfaces of a port's MODE. -/
def State.ifaceCount (s : State) (n : Nat) : Nat :=
  match s.fld (portCfg n) 2 0 with
  | 1 => 1
  | 2 => 2
  | 3 | 4 => 4
  | _ => 0

/-- R37, R84: the interfaces of a port run with FEC: MODE 4 may run with none. -/
def State.fecRuns (s : State) (n : Nat) : Bool := s.fld (portCfg n) 4 3 ≠ 3

/-- R360, R362: the ports are dark until the control cores run. An interface of a port, of those its MODE gives, may have link. -/
def State.linkMay (s : State) (n k : Nat) : Bool := s.coresRun && decide (n < 2) && decide (k < s.ifaceCount n)

/-- R37: an interface gains link. -/
def State.linkUp (s : State) (n k : Nat) : State :=
  let bit : BitVec 4 := BitVec.ofNat 4 (2 ^ k)
  s.modPort n (fun p => { p with linkUp := p.linkUp ||| bit, retraining := false,
                                 fecLock := if s.fecRuns n then p.fecLock ||| bit else p.fecLock })

/-- R451: once every interface of port A has link, port B takes the port firmware that port A runs. -/
def State.portFirmware (s : State) : State :=
  if (List.range (s.ifaceCount 0)).all (fun k => s.net.portA.linkUp.getLsbD k) then
    { s with net := { s.net with portB := { s.net.portB with fw := s.net.portA.fw } } }
  else s

/-- R362 step 11: every interface of both ports has link. A port in MODE 0 is disabled. -/
def State.allLinked (s : State) : Bool :=
  [0, 1].all (fun n => (List.range (s.ifaceCount n)).all (fun k => (s.port n).linkUp.getLsbD k)) &&
    decide (0 < s.ifaceCount 0 + s.ifaceCount 1)

/-- R48: CHECK of a bootstrap record matches. -/
def bootOk (b : Bytes) : Bool := b.length == 64 && sub 60 4 b == crcBytes (b.take 60)

/-- R48: queue 0's record from the bootstrap record: rings of 64 entries, path MTU 4,096 B, RD_DEPTH 16. -/
def bootQueue (b : Bytes) : QpRec :=
  { queue := 0, part := 0, iface := byteAt 24 b, flags := (b.getD 25 0 &&& 0x0C) ||| 1, pmtu := 5, rdDepth := 16, sqLog2 := 6, cqLog2 := 6,
    pcp := bitsOf 14 12 (leAt 26 2 b), vlan := bitsOf 11 0 (leAt 26 2 b), hostQpn := leAt 0 4 b % 2 ^ 24, hostPsn := leAt 4 4 b % 2 ^ 24,
    hostAddr := sub 8 16 b, sqAddr := leAt 32 8 b, sqRkey := leAt 40 4 b, cqRkey := leAt 40 4 b, cqAddr := leAt 32 8 b + 0x1000,
    sqWm := 0, cqWm := 0, refuseWm := 0, hostKey := 0 }

/-- R48: queue 0, with its region 0. -/
def State.queueZero (s : State) : State :=
  let b := s.boot
  if !bootOk b then s.devEvent 4 0x0F03 51 (zeros 8)
  else
    let r : Region := { num := 0, read := true, write := true, rkey := leAt 40 4 b, base := leAt 32 8 b, len := leAt 44 4 b }
    let q : Qp := { (s.newQp (bootQueue b) 0 (leAt 28 4 b)) with regions := [r] }
    ({ s with qps := insertBy (fun x => x.cfg.queue) q s.qps } : State).askHost (bootQueue b)

/-- R444: a retained queue record is created anew with device PSN 0; its doorbell rkey is a free value. -/
def State.queueAgain (s : State) (r : QpRec) : State :=
  let q := s.newQp r 0 (Config.freeNat s.free % 2 ^ 32)
  ({ s with free := s.free + 1, qps := insertBy (fun x => x.cfg.queue) q s.qps } : State).askHost r

/-- R96, R443: a retained home course, where the partition may still have it. -/
def State.retainedCourse (s : State) (q : Qp) : Qp :=
  match alook (regKey Reg.dspQcourse q.cfg.queue) s.regs with
  | none => q
  | some w => let c := w.toNat % 8
    if (s.homeCourses q.cfg.part).contains c then { q with homeCourse := c } else q

/-- R48, R362 step 11, R444: queue 0 and the retained queues are created, and service has begun. -/
def State.serviceBegins (s : State) : State :=
  let kept : List QpRec := (s.inForce.map (fun x => x.qps)).getD []
  let s := forEach kept (fun r s => s.queueAgain r) s.queueZero
  let s : State := { s with qps := s.qps.map s.retainedCourse, keys := { s.keys with persistQ := s.inForce.bind (fun x => x.persistQ) } }
  let p := { s.power with serviceBegun := true, serviceMs := (s.clock.mono - s.power.coldAt) / 10 ^ 6 }
  ({ s with power := p } : State).noteHqi

/-- R37, R362: PORT_LINK_UP. -/
def State.portUp (s : State) (n k : Nat) : State :=
  if !s.linkMay n k then s
  else
    let s := (s.linkUp n k).portFirmware
    if s.allLinked ∧ !s.power.serviceBegun then s.serviceBegins else s

/-- R37 PORT_LINK_UP -/
def execPortLinkUp (port iface : Nat) (s : State) : Host.Outcome State Fault Refusal := .next (s.portUp port iface)

/-- R37: PORT_LINK_DOWN: the link-down count saturates at 255. -/
def State.portDown (s : State) (n k : Nat) : State :=
  if 2 ≤ n ∨ !(s.port n).linkUp.getLsbD k then s
  else
    let bit : BitVec 4 := BitVec.ofNat 4 (2 ^ k)
    s.modPort n (fun p => { p with linkUp := p.linkUp &&& ~~~bit, fecLock := p.fecLock &&& ~~~bit, linkDowns := min 255 (p.linkDowns + 1) })

/-- R37 PORT_LINK_DOWN -/
def execPortLinkDown (port iface : Nat) (s : State) : Host.Outcome State Fault Refusal := .next (s.portDown port iface)

/-- R84: a write of a port's settings; the port retrains when the write takes effect. -/
def State.portCfgWrite (s : State) (j : Job) : State :=
  match findReg j.cfgAddr with
  | none => s
  | some r =>
    if r.addr ≠ Reg.hqiPortaCfg ∧ r.addr ≠ Reg.hqiPortbCfg then s
    else if j.cfgMask = 0 then s.deny j Status.invalidInput
    else s.regWrite r 0 j

/-- R84 PORT_CFG_WRITE -/
def execPortCfgWrite (q i : Nat) (s : State) : Host.Outcome State Fault Refusal := .next (s.ctl q i Op.cfgWrite State.portCfgWrite)

/-! ### Addresses (R38, R412) -/

/-- R38, R412: an interface answers for its station address, and for its service addresses when this device announces them. -/
def State.answersFor (s : State) (n k : Nat) (a : Bytes) : Bool :=
  s.net.ifaces.any (fun f => f.port == n && f.num == k && ((f.station ≠ [] && f.station == a) || (s.net.announces && f.service.contains a)))

/-- R38: an ARP or Neighbour Discovery request is answered for the interface's own addresses only. -/
def State.arpRequest (s : State) (n k : Nat) (target asker : Bytes) : State :=
  if s.coresRun ∧ s.answersFor n k target then s.send (.arpReply n k target asker) else s

/-- R38 ARP_ND_REQUEST_RX -/
def execArpNdRequestRx (port iface : Nat) (target asker : Bytes) (s : State) : Host.Outcome State Fault Refusal :=
  .next (s.arpRequest port iface target asker)

/-- R38: a reply resolves a host address. Addresses are kept in ascending order. -/
def State.arpReply (s : State) (addr mac : Bytes) : State :=
  let a := fixLen 16 addr
  { s with net := { s.net with arp := insertBy (fun e => leAt 0 16 e.1) (a, fixLen 6 mac) s.net.arp } }

/-- R38 ARP_ND_REPLY_RX -/
def execArpNdReplyRx (addr mac : Bytes) (s : State) : Host.Outcome State Fault Refusal := .next (s.arpReply addr mac)

/-! ### Priority flow control and congestion (R39) -/

/-- R39: a priority is lossless: priority flow control is enabled on it. -/
def State.lossless (s : State) (prio : Nat) : Bool := bitOf prio (s.fld Reg.hqiQos 7 0)

/-- R39: a received pause frame pauses its priority; one with a time of zero ends the pause. -/
def State.pauseFrame (s : State) (n prio time : Nat) : State :=
  if 2 ≤ n ∨ !s.lossless prio then s
  else
    let bit : BitVec 8 := BitVec.ofNat 8 (2 ^ prio)
    s.modPort n (fun p => { p with paused := if time = 0 then p.paused &&& ~~~bit else p.paused ||| bit })

/-- R39 PAUSE_FRAME_RX -/
def execPauseFrameRx (port prio time : Nat) (s : State) : Host.Outcome State Fault Refusal := .next (s.pauseFrame port prio time)

/-- R39: the pause time runs out. -/
def State.pauseEnds (s : State) (n prio : Nat) : State :=
  if 2 ≤ n then s else s.modPort n (fun p => { p with paused := p.paused &&& ~~~(BitVec.ofNat 8 (2 ^ prio)) })

/-- R39 PAUSE_TIME_EXPIRY -/
def execPauseTimeExpiry (port prio : Nat) (s : State) : Host.Outcome State Fault Refusal := .next (s.pauseEnds port prio)

/-- R39: 75 % of a port's 2 MiB receive buffer. -/
def rxLimit : Nat := 1572864

/-- R39: the receive buffer's level with a packet in it: above 75 % on a lossless priority pause frames are sent; at or below it
those sent are withdrawn. -/
def State.rxLevel (s : State) (n prio len : Nat) : State :=
  let lvl := min (2 ^ 21) len
  let bit : BitVec 8 := BitVec.ofNat 8 (2 ^ prio)
  let s := s.modPort n (fun p => { p with rxLevel := lvl })
  if rxLimit < lvl ∧ s.lossless prio ∧ !(s.port n).pauseSent.getLsbD prio then
    (s.modPort n (fun p => { p with pauseSent := p.pauseSent ||| bit })).send (.pause n prio true)
  else if lvl ≤ rxLimit ∧ (s.port n).pauseSent.getLsbD prio then
    (s.modPort n (fun p => { p with pauseSent := p.pauseSent &&& ~~~bit })).send (.pause n prio false)
  else s

/-- R39, R84: a CE mark on a packet of a queue is answered with a CNP, at least CNP_GAP after the last one. -/
def State.ceMark (s : State) (q : Nat) : State :=
  match s.qp? q with
  | none => s
  | some x =>
    let due := match x.cnpSentAt with
      | some t => decide (t + 1000 * s.fld Reg.hqiCc 11 0 ≤ s.clock.mono)
      | none => true
    if s.fld Reg.hqiQos 14 14 = 0 ∨ !due then s
    else (s.modQp q (fun x => { x with cnpSentAt := some s.clock.mono })).send (.cnp q)

/-- R39: INBOUND_PACKET_RX. `len` is the bytes in the port's receive buffer, this packet's among them. -/
def State.packetIn (s : State) (n prio q len : Nat) (ce : Bool) : State :=
  if 2 ≤ n then s
  else
    let s := s.rxLevel n prio len
    if ce then s.ceMark q else s

/-- R39 INBOUND_PACKET_RX -/
def execInboundPacketRx (port prio q len : Nat) (ce : Bool) (s : State) : Host.Outcome State Fault Refusal :=
  .next (s.packetIn port prio q len ce)

/-- R39, R84: a CNP lowers its queue's send rate, to no less than RATE_MIN. The size of the cut is not stated: the new rate is a
free value between the floor and the old rate (notes/assumptions/3.md). -/
def State.cnpIn (s : State) (q : Nat) : State :=
  match s.qp? q with
  | none => s
  | some x =>
    let lo := s.fld Reg.hqiCc 31 24
    if x.rate ≤ lo then s
    else
      let r := lo + Config.freeNat s.free % (x.rate - lo)
      ({ s with free := s.free + 1 } : State).modQp q (fun x => { x with rate := r })

/-- R39 CNP_RX -/
def execCnpRx (q : Nat) (s : State) : Host.Outcome State Fault Refusal := .next (s.cnpIn q)

/-- The send rate, in units of 100 Mbit/s, at which congestion control holds a queue back no more: that of both ports. -/
def rateTop : Nat := 4000

/-- R39, R84: after RECOVER one increase step, of a size that is not stated (notes/assumptions/3.md). -/
def State.rateStep (s : State) (q : Nat) : State :=
  match s.qp? q with
  | none => s
  | some x =>
    if rateTop ≤ x.rate then s
    else
      let r := x.rate + 1 + Config.freeNat s.free % (rateTop - x.rate)
      let s := s.advanceTo (s.clock.mono + 1000 * s.fld Reg.hqiCc 23 12)
      ({ s with free := s.free + 1 } : State).modQp q (fun x => { x with rate := r })

/-- R39 RATE_RECOVER_TICK -/
def execRateRecoverTick (q : Nat) (s : State) : Host.Outcome State Fault Refusal := .next (s.rateStep q)

/-! ### PTP (R40, R246 to R248) -/

/-- R40, R84: PTP runs on this interface of a port, in this domain, over this transport: 0 Layer 2, 1 UDP/IPv4, 2 UDP/IPv6. -/
def State.ptpOn (s : State) (n k dom tr : Nat) : Bool :=
  decide (n < 2) && s.fld Reg.hqiPtp 3 2 == tr && bitOf n (s.fld Reg.hqiPtp 1 0) && s.fld Reg.hqiPtp 13 12 == k && s.fld Reg.hqiPtp 11 4 == dom && s.coresRun

/-- R247: the Sync intervals a port has counted towards its lock: 16 lock it. -/
def Clock.run (c : Clock) (n : Nat) : Nat := if n = 0 then c.runA else c.runB

/-- Set a port's count. -/
def Clock.setRun (c : Clock) (n v : Nat) : Clock := if n = 0 then { c with runA := v } else { c with runB := v }

/-- A PTP message arrives on a port. -/
def Clock.heard (c : Clock) (n : Nat) : Clock := if n = 0 then { c with lastPtpA := c.mono } else { c with lastPtpB := c.mono }

/-- R247: the mean path delay last measured on a port. -/
def Clock.delay (c : Clock) (n : Nat) : Nat := if n = 0 then c.delayA else c.delayB

/-- Set a port's mean path delay. -/
def Clock.setDelay (c : Clock) (n v : Nat) : Clock := if n = 0 then { c with delayA := v } else { c with delayB := v }

/-- R248: the offset last measured on a port while UNSET. -/
def Clock.prov (c : Clock) (n : Nat) : Int := if n = 0 then c.provA else c.provB

/-- R247, R248: the offset a Sync interval is judged by: what is left of it, while UNSET against the offset measured before. -/
def Clock.judged (c : Clock) (n : Nat) (offset : Int) : Nat :=
  if c.state = .unset then (offset - c.prov n).natAbs else offset.natAbs

/-- R247: one Sync interval counted on a port: below 1 µs it counts, otherwise the count starts again; a port that is locked stays so. -/
def Clock.count (c : Clock) (n : Nat) (offset : Int) : Clock :=
  let r := c.run n
  let c' := c.setRun n (if r = 16 then 16 else if c.judged n offset < 1000 then r + 1 else 0)
  if c.state ≠ .unset then c' else if n = 0 then { c' with provA := offset } else { c' with provB := offset }

/-- R247: the source: the interface on port A while it is locked, otherwise port B. -/
def Clock.sourceNow (c : Clock) : Nat := if c.runA = 16 then 1 else if c.runB = 16 then 2 else 0

/-- R247, R248: the source locks or disciplines secure time: UNSET steps at the first lock, otherwise the offset is slewed. -/
def Clock.lock (c : Clock) (offset : Int) (delay : Nat) : Clock :=
  let sec := if c.state = .unset then ((c.secure : Int) + offset).toNat else c.secure
  { c with secure := sec, slew := if c.state = .unset then 0 else offset, errBase := delay,
           calibratedAt := some sec, correction := offset, state := .locked, source := c.sourceNow }

/-- R248: a correction larger than ERR is logged with both values, in ns and limited to 32 bits, once when it begins. The record's code is
PRESUMED (notes/assumptions/41.md). -/
def State.logCorrection (s : State) (offset : Int) : State :=
  let err := s.clock.err
  if s.clock.state ≠ .unset ∧ err < offset.natAbs ∧ s.clock.slew.natAbs ≤ err then
    s.devEvent 3 0x0105 51 (leBytes 4 (encSigned 32 (max (-2 ^ 31) (min (2 ^ 31 - 1) offset))) ++ leBytes 4 (min (2 ^ 32 - 1) err))
  else s

/-- R40, R247, R248: an event message closes a Sync interval: `offset` is the time transmitter's time less secure time, ns. In HOLDOVER
with no port locked the offset is slewed as well, or secure time could never come within 1 µs: DEDUCED (notes/assumptions/81.md). -/
def State.ptpEvent (s : State) (n k dom tr : Nat) (offset : Int) (delay : Nat) : State :=
  if !s.ptpOn n k dom tr then s
  else
    let c := ((s.clock.heard n).count n offset).setDelay n delay
    let s : State := { s with clock := c }
    if c.sourceNow = 0 ∧ c.state = .holdover then
      let s := s.logCorrection offset
      { s with clock := { s.clock with slew := offset } }
    else if c.sourceNow ≠ n + 1 then s
    else
      let s := s.logCorrection offset
      { s with clock := s.clock.lock offset delay }

/-- R40 PTP_EVENT_MESSAGE_RX -/
def execPtpEventMessageRx (port iface dom tr : Nat) (offset : Int) (pathDelay : Nat) (s : State) : Host.Outcome State Fault Refusal :=
  .next (s.ptpEvent port iface dom tr offset pathDelay)

/-- R40, R246: a general message; an Announce brings currentUtcOffset. -/
def State.ptpGeneral (s : State) (n k dom tr : Nat) (utc : Option Int) : State :=
  if !s.ptpOn n k dom tr then s
  else
    let c := s.clock.heard n
    { s with clock := { c with utcOffset := utc.getD c.utcOffset } }

/-- R40 PTP_GENERAL_MESSAGE_RX -/
def execPtpGeneralMessageRx (port iface dom tr : Nat) (utc : Option Int) (s : State) : Host.Outcome State Fault Refusal :=
  .next (s.ptpGeneral port iface dom tr utc)

/-- R247, R248, R261: no PTP message on a port for 2 s: the port's lock is lost. The other port becomes the source if it is locked, with its
own mean path delay in ERR; else secure time leaves LOCKED, and enters HOLDOVER. A correction under way is slewed to its end. -/
def State.ptpLoss (s : State) (n : Nat) : State :=
  if 2 ≤ n ∨ s.clock.run n = 0 then s
  else
    let last := if n = 0 then s.clock.lastPtpA else s.clock.lastPtpB
    let s := s.advanceTo (max s.clock.mono (last + 2 * 10 ^ 9))
    let c := s.clock.setRun n 0
    if c.state ≠ .locked then { s with clock := c }
    else if c.sourceNow ≠ 0 then { s with clock := { c with source := c.sourceNow, errBase := c.delay (c.sourceNow - 1) } }
    else { s with clock := { c with state := .holdover, errBase := s.clock.err, holdFrom := s.clock.mono, source := 0,
                                    lastLock := s.clock.secure } }

/-- R247 PTP_LOSS_TIMEOUT -/
def execPtpLossTimeout (port : Nat) (s : State) : Host.Outcome State Fault Refusal := .next (s.ptpLoss port)

end Sys2Proof.Machine
end

