-- ==== Sys2Proof/Machine/Boot.lean ====
section
/-! DEFINITION. The cold start and the power modes' rows (R29 to R36, R48, R344, R351 to R364, R378, R395, R396, R444, R445). -/

namespace Sys2Proof.Machine

/-! ### Steps 1 and 2: the feed, the clock, evidence (R247, R362, R395) -/

/-- R362 step 1: the feed that carries the load: the preferred one when it is good. -/
def State.startFeed (s : State) : Nat :=
  let n := s.fld Reg.pwrCtrl 0 0
  if s.power.good n then n else 1 - n

/-- R247: on cells secure time's bound has grown at 50 ppm. -/
def Clock.fromCells (c : Clock) : Clock :=
  if c.state = .unset then c else { c with state := .holdover, errBase := c.drifted 50, holdFrom := c.mono }

/-- R362 steps 1 and 2: volatile state is at its reset values, the feed carries the load, and the latch is blown into the fuses. -/
def State.coldBegin (s : State) : State :=
  let s : State := State.volatileLost { s with clock := s.clock.fromCells }
  let n := s.startFeed
  let p := { ((s.power.gate n true).gate (1 - n) false) with mode := .serving, active := n, coldAt := s.clock.mono, switching := none }
  let latch := s.vault.latch
  let s := s.setPower p
  let s := forEach (List.range 4) (fun k s => s.blow k (latch.getD k 0)) s
  { s with guard := { s.guard with blown := latch }, vault := { s.vault with latch := [0, 0, 0, 0] } }

/-! ### Steps 3 and 4: the life cycle and the secrets (R351, R356, R362, R378, R396) -/

/-- R356: what a completed transition to RETURNED or SCRAPPED erases. -/
def State.transitionErase (s : State) : State :=
  let v := { s.vault with seed := zeros 32, root0 := ([], 0), root1 := ([], 0), gens := [], hwms := [], stateful := [] }
  { s with vault := v, log := { s.log with rings := s.log.rings.filter (fun r => r.num ≠ 257) } }

/-- R351, R353, R356, R357: the fuses are read, the life cycle is decoded, and a pending target completed. -/
def State.coldLife (s : State) (cut : Option Nat) : State :=
  let r := decodeLife s.life.fuses cut
  let st := r.2.2.1
  let fuses := if st = 5 ∧ r.2.2.2 then { r.1 with dus := List.replicate 64 0xFF } else r.1
  let s : State := { s with life := { s.life with fuses := fuses, slot := r.2.1, state := st } }
  let s := if r.2.2.2 then s.notice Reg.lcyNotice 1 else s
  let s := if st = 7 then s.notice Reg.lcyNotice 5 else s
  if r.2.2.2 ∧ (st = 4 ∨ st = 5) then s.transitionErase else s

/-- R378, R396: the kiln reads and clears the supply flag. A vault found LOST blows a bit of EVIDENCE0, except in BLANK and
FACTORY_TEST. -/
def State.coldVault (s : State) : State :=
  let was := s.vault.supplyLost
  let s : State := { s with vault := { s.vault with supplyLost := false, lost := was } }
  if !was then s
  else
    let s := s.notice Reg.vltNotice 7
    if s.life.state = 0 ∨ s.life.state = 1 then s else s.blow 0 1

/-- R348, R362 step 4: DUS_CHECK and CERT_DIGEST are checked, and what the kiln derives is placed. -/
def State.coldSecrets (s : State) : State :=
  let f := s.life.fuses
  let bad := sub 0 8 (sha3_256 (f.dus ++ ascii "DUS-CHECK")) ≠ f.dusCheck
  let s : State := { s with life := { s.life with dusBad := bad, certOk := sha3_256 s.io.flash.chain == f.certDigest } }
  { s.placeSecrets with keys := { s.keys with objs := s.vault.rootObjs } }

/-! ### Step 5: the image (R359, R360, R364) -/

/-- R360: one source's image is tried: a TYPE 1 image that passes runs, a TYPE 2 image that passes revokes key sets, and the search
goes on. The Bool is whether an image runs. -/
def Life.tryImage (l : Life) (img : Bytes) : Life × Nat × Bool :=
  let r := imageReason l img
  if r ≠ 0 then (l, r, false)
  else if byteAt 6 img = 2 then ((l.revoke img).measureImage img, 0, false)
  else (l.run img, 0, true)

/-- R360: bank `n`: 0 A, 1 B. -/
def Life.tryBank (l : Life) (f : Flash) (n : Nat) : Life × Bool :=
  let r := l.tryImage (if n = 0 then f.bankA else f.bankB)
  let l := r.1
  ({ l with bank := n, failA := if n = 0 then r.2.1 else l.failA, failB := if n = 0 then l.failB else r.2.1 }, r.2.2)

/-- R360: the image a card in port 0 carries. -/
def State.cardImage (s : State) : Option Bytes :=
  ((s.io.ports.find? (fun p => p.num == 0)).bind (fun p => p.card.bind (fun c => c.lastGood))).bind
    (fun x => if x.kind = 3 then some x.payload else none)

/-- R360: the preferred bank, the other, then the card. -/
def State.findImage (s : State) : Life × Bool :=
  let pref := s.fld Reg.lcyBank 0 0
  let a := s.life.tryBank s.io.flash pref
  if a.2 then a
  else
    let b := ({ a.1 with fallback := true } : Life).tryBank s.io.flash (1 - pref)
    if b.2 then b
    else match s.cardImage with
      | none => b
      | some img => let c := b.1.tryImage img
        ({ c.1 with fromCard := c.2.2 }, c.2.2)

/-- R362 step 5, R364: MEAS0 and MEAS1; the image runs if one passes. -/
def State.coldImage (s : State) : State × Bool :=
  let s : State := { s with life := s.life.extend 0 (fixLen 64 Config.romDigest) }
  let r := s.findImage
  let s : State := { s with life := r.1, net := { s.net with portA := { s.net.portA with fw := r.1.running },
                                                             portB := { s.net.portB with fw := r.1.running } } }
  (if r.1.fallback then s.notice Reg.lcyNotice 2 else s, r.2)

/-! ### Steps 6 and 7: the retained configuration and the tables (R330, R444, R445) -/

/-- R445: why no snapshot is in force: 1 absent, 2 its checks fail, 3 the vault is LOST. -/
def State.fallbackCause (s : State) : Nat :=
  if s.vault.lost then 3 else if s.copyA.isNone ∧ s.copyB.isNone then 1 else 2

/-- R444: the snapshot is restored. -/
def State.coldRestore (s : State) (x : Snapshot) : State :=
  let ignored := x.regs.filter (fun e => !keyRetained e.1)
  let boot := if bootOk x.boot then x.boot else s.io.flash.boot0
  let mg := { s.mgmt with actors := x.actors, m := x.m, n := x.n, sessionIdle := x.sessionIdle, fallback := false }
  let s : State := { s with regs := x.regs.filter (fun e => keyRetained e.1) ++ s.regs.filter (fun e => !keyRetained e.1), boot := boot, mgmt := mg,
                            tabs := { s.tabs with table := if x.table = [] then defaultTable else parseTable x.table } }
  if ignored = [] then s else s.notice Reg.cfgNotice 2

/-- R445: the fall-back. -/
def State.coldFallback (s : State) : State :=
  let mg := { s.mgmt with actors := [], m := 2, n := 3, sessionIdle := 600, fallback := true }
  ({ s with regs := s.regs.filter (fun e => !keyRetained e.1), boot := s.io.flash.boot0, mgmt := mg,
            tabs := { s.tabs with table := defaultTable } } : State).notice Reg.cfgNotice 0

/-- R38, R48, R362 step 6, R364: the configuration is restored and measured, and the interfaces have their addresses; the boot record comes from flash where the snapshot holds no
valid one. The two flash copies are tried in order. -/
def State.coldConfig (s : State) : State :=
  let s := match s.inForce, s.vault.lost with
    | some x, false => s.coldRestore x
    | _, _ => s.coldFallback
  let boot := if bootOk s.boot then s.boot else if bootOk s.io.flash.boot0 then s.io.flash.boot0 else s.io.flash.boot1
  { s with boot := boot, life := s.life.extend 2 (sha3_512 s.copyBytes), net := { s.net with ifaces := s.net.ifaces.map Iface.configured } }

/-- R362 step 7, R364: the tables are sealed, pins are resolved, and state and owner measured. -/
def State.coldTables (s : State) : State :=
  let s := s.sealTables.resolvePins
  let own := s.life.fuses.owner s.life.slot ++ leBytes 1 s.life.fuses.hyRevoke.toNat
  { s with life := (s.life.measureState (Config.debugEvent 0)).extend 5 (sha3_512 own) }

/-! ### Step 8: the control cores are released (R276, R344, R382, R395, R410, R459) -/

/-- R459: the rings: the vault ring survives, every other is new. -/
def State.coldRings (s : State) : State :=
  let old := (s.log.rings.filter (fun r => r.num == 257)).head?
  let vault : Ring := old.getD { num := 257, cap := 64 }
  let device : Ring := { num := 256, cap := 2097152 }
  let parts : List Ring := s.tabs.table.parts.map (fun p => { num := p.num, cap := 2048 * p.logFrames })
  { s with log := { rings := parts ++ [device, vault], buckets := [] } }

/-- R276: the populated channels train. -/
def State.coldChannels (s : State) : State :=
  let one (c : Channel) : Channel := { c with state := if bitOf (24 + c.num) (s.reg Reg.semCtrl) then 1 else 0 }
  { s with dram := { s.dram with channels := s.dram.channels.map one } }

/-- R382: a connected PRIMARY cell is depassivated at every cold start. -/
def State.coldCells (s : State) : State :=
  forEach [0, 1] (fun n s => if (s.guard.cell n).connected && !s.rechargeable n then s.modCell n (fun c => { c with pulses := some 0 }) else s) s

/-- R395: the records marked on cells are delivered: the alert is raised, and they are queued for the logs. -/
def State.coldMarked (s : State) : State :=
  let m := s.vault.marked
  if m = [] then s
  else
    let s := (s.notice Reg.vltNotice 0).notice Reg.vltNotice 4
    { s with guard := { s.guard with alertPin := true, queued := s.guard.queued ++ m }, vault := { s.vault with marked := [] } }

/-- R410, R430, R431: a paired device joins again as an incomplete standby, and asks for its peer (notes/assumptions/46.md). -/
def State.coldPair (s : State) : State :=
  match s.pairing with
  | none => s
  | some _ =>
    let p := { s.pair with role := 2, sync := 1, peer := 1, probing := true, lastBeat := s.clock.mono }
    ({ s with pair := p, net := { s.net with announces := false } } : State).send (.mirror 7 0)

/-- R477, R493: card ports that are not enabled are OFF. -/
def State.coldCards (s : State) : State :=
  let one (p : CardPort) : CardPort := { p with state := if s.fld (Reg.crdPort0Cfg + 4 * p.num) 0 0 = 0 then 6 else 0 }
  { s with io := { s.io with ports := s.io.ports.map one } }

/-- R362 step 8: the control cores are released, at most 0.6 s from step 1; entropy starts and the channels train. -/
def State.coldRelease (s : State) (fails : List RowFail) : State :=
  let ms := Config.freeNat s.free % 601
  let s : State := State.advanceTo { s with free := s.free + 1 } (s.power.coldAt + ms * 10 ^ 6)
  let s := s.setPower { s.power with coresUp := true, kilnMs := ms }
  let s := s.coldRings.coldChannels.coldCells.coldMarked.coldPair.coldCards
  let s := (s.marchAll fails).entRestart
  let cause := s.fallbackCause
  if s.mgmt.fallback then s.devEvent 5 0x0F01 48 (leBytes 1 cause) else s

/-- R362: COLD_START: steps 1 to 8. Power-on reset is released when a feed is good; a SCRAPPED device and one without an image keep
their cores in reset. -/
def State.coldStart (s : State) (fails : List RowFail) (cut : Option Nat) : State :=
  if s.power.mode ≠ .vault ∨ !(s.power.goodA || s.power.goodB) then s
  else
    let s := s.coldBegin.coldLife cut
    if s.life.state = 5 then s
    else
      let r := s.coldVault.coldSecrets.coldImage
      if r.2 then (r.1.coldConfig.coldTables.coldRelease fails) else r.1

/-- R362 COLD_START -/
def execColdStart (fails : List RowFail) (cut : Option Nat) (s : State) : Host.Outcome State Fault Refusal := .next (s.coldStart fails cut)

/-- R355: 10 ms after the completion of an LCY_TRANSITION with RESET_NOW the device is reset; COLD_START follows. -/
def State.resetNow (s : State) : State :=
  match s.power.resetAt with
  | none => s
  | some t => (s.advanceTo (max s.clock.mono t)).volatileLost

/-- R355 RESET_NOW_EXPIRY -/
def execResetNowExpiry (s : State) : Host.Outcome State Fault Refusal := .next s.resetNow

/-! ### STANDBY and SERVING (R30 to R33) -/

/-- R30 to R33: POWER_MODE_SET. While another request drains, or an exit from STANDBY runs, a second one of the same kind completes with
BUSY: DESIGN CHOICE (notes/assumptions/72.md). -/
def State.powerModeSet (s : State) (j : Job) : State :=
  match j.desc.p8 48 with
  | 0 =>
    if s.power.mode = .serving then s.done j
    else if s.power.standbyExit.isSome then s.deny j Status.busy
    else
      let s := s.resetTiles
      let s : State := { s with dram := { s.dram with selfRefresh := false } }
      (s.setPower { s.power with standbyExit := some (some j.id) }).block j
  | 1 =>
    if s.power.mode = .standby then s.done j
    else if (s.pair.role = 1 ∧ !s.inService) ∨ s.power.standbyReq.isSome then s.deny j Status.busy
    else (s.setPower { s.power with standbyReq := some j.id }).block j
  | _ => s.deny j Status.invalidInput

/-- R30 POWER_MODE_SET -/
def execPowerModeSet (q i : Nat) (s : State) : Host.Outcome State Fault Refusal := .next (s.ctl q i Op.powerModeSet State.powerModeSet)

/-- R31 steps 1 and 2: every job in flight has completed, and its completion is written. -/
def State.standbyIdle (s : State) (id : JobId) : Bool :=
  s.jobs.all (fun j => j.id == id || j.phase == .done) && s.qps.all (fun q => q.cpls.isEmpty && q.fetches.isEmpty)

/-- R31 steps 3 to 6: tiles are wiped and powered down, the caches are written back, and the modules refresh themselves. -/
def State.standbyDrained (s : State) : State :=
  match s.power.standbyReq.bind s.job? with
  | none => s
  | some j =>
    if !s.standbyIdle j.id ∨ s.guard.freeze ∨ s.power.mode ≠ .serving then s
    else
      let s := s.resetTiles
      let s : State := { s with dram := { s.dram with ctrCache := [], macCache := [], selfRefresh := true } }
      (s.setPower { s.power with mode := .standby, standbyReq := none }).done j

/-- R31 STANDBY_DRAINED -/
def execStandbyDrained (s : State) : Host.Outcome State Fault Refusal := .next s.standbyDrained

/-- R179, R213: the verdicts of the self-tests the tiles of an exit ran: a tile named with an engine failed and is quarantined; every other
in self-test is eligible, or out of service by the table. -/
def State.testTiles (s : State) (bad : List (Nat × Nat)) : State :=
  let tested (x : Tile) : Bool := x.state == 5 && !x.action
  let hit := bad.filter (fun e => ((s.tile? e.1).map tested).getD false)
  let one (x : Tile) : Tile :=
    if tested x ∧ !hit.any (fun e => e.1 == x.num) then { x with state := if (s.tileRec x.num).kind = 2 then 6 else 0, slotNow := 0 } else x
  forEach hit (fun e s => (s.quarantine e.1).devEvent 5 0x0401 e.1 (leBytes 1 e.1 ++ leBytes 1 e.2))
    { s with tiles := s.tiles.map one }

/-- R33, R34, R179, R344: the exit from STANDBY ends: scratchpads and tiles are tested, and fetching resumes. A freeze holds the device in
STANDBY. -/
def State.standbyExitDone (s : State) (fails : List RowFail) (bad : List (Nat × Nat)) : State :=
  match s.power.standbyExit with
  | none => s
  | some who =>
    if s.guard.freeze ∨ s.power.mode ≠ .standby then s
    else
      let s := (s.marchAll fails).testTiles bad
      let s := s.setPower { s.power with mode := .serving, standbyExit := none }
      match who.bind s.job? with
      | some j => s.done j
      | none => s.settle

/-- R33 STANDBY_EXIT_DONE -/
def execStandbyExitDone (fails : List RowFail) (bad : List (Nat × Nat)) (s : State) : Host.Outcome State Fault Refusal :=
  .next (s.standbyExitDone fails bad)

end Sys2Proof.Machine
end

