-- ==== Sys2Proof/Machine/PairOps.lean ====
section
/-! DEFINITION. Shared operations of the pair (R410 to R432): the path, suspicion, the witness, becoming ACTIVE, STANDBY or
FENCED, and taking over. -/

namespace Sys2Proof.Machine

/-! ### Frames and paths (R413, R414, R420, R421) -/

/-- R414: the path frames take when the link may not: Ethernet, when it is enabled. -/
def State.ethPath (s : State) : Nat := if s.fld Reg.mirCtrl 1 1 = 1 then 2 else 0

/-- Change the pair's state. -/
def State.modPair (s : State) (f : Pair → Pair) : State := { s with pair := f s.pair }

/-- R420: an interface that carries service addresses has link: every interface of a port's MODE does (notes/assumptions/47.md). -/
def State.svcLink (s : State) : Bool := s.net.portA.linkUp ≠ 0 || s.net.portB.linkUp ≠ 0

/-- R420: the heartbeat this device sends. -/
def State.heartbeat (s : State) : Heartbeat :=
  { member := s.member, role := s.pair.role, sync := s.pair.sync, sent := s.pair.sent, applied := s.pair.applied, term := s.pair.term,
    svcLink := s.svcLink, failing := s.pair.failing }

/-- R421: frames move to another path. -/
def State.setPath (s : State) (n : Nat) : State :=
  let s := if n = 2 ∧ s.pair.path ≠ 2 then s.notice Reg.mirNotice 1 else s
  s.modPair (fun p => { p with path := n })

/-- R420: PEER becomes SUSPECT, and a PROBE leaves on the Ethernet path. -/
def State.suspect (s : State) : State :=
  ((s.modPair (fun p => { p with peer := 1, probing := true })).notice Reg.mirNotice 0).send (.mirror 7 0)

/-- R421: the peer is ALIVE; batches that waited for that go on. -/
def State.peerAlive (s : State) : State :=
  (s.modPair (fun p => { p with peer := 0, probing := false, missed := 0, lastBeat := s.clock.mono })).mirrorSend

/-! ### The witness (R422, R423) -/

/-- R422: a value of the witness word. -/
def witnessWord (term holder pairId : Nat) : Nat := term % 2 ^ 32 + 2 ^ 32 * (holder % 256) + 2 ^ 40 * (pairId % 2 ^ 24)

/-- R45: a queue is in a state. -/
def State.qpIn (s : State) (q state : Nat) : Bool := ((s.qp? q).map (fun x => x.state == state)).getD false

/-- R41, R71, R422: an atomic compare-and-swap leaves on the witness queue; none does while that is in ERROR, and its timeout follows. -/
def State.issueCas (s : State) (p : Pairing) (cmp swp : Nat) (job : Option JobId) : State :=
  let s := if s.qpIn p.witnessQ 4 then s else s.issue p.witnessQ .cas p.witnessAddr p.witnessRkey 8 (leBytes 8 cmp ++ leBytes 8 swp)
  s.modPair (fun x => { x with cas := some (cmp, swp, job) })

/-- A CAS ends. -/
def State.casEnds (s : State) : State :=
  let s := match s.pairing with | some p => s.readDone p.witnessQ (fun r => r.kind == ReqKind.cas) | none => s
  s.modPair (fun x => { x with cas := none })

/-- The mark of a CAS that `PAIR_UNFENCE` writes with; no queue has this number. -/
def overrideId : JobId := (4096, 0)

/-- The mark of a planned switch that no command asked for. -/
def autoSwitchId : JobId := (4096, 1)

/-! ### Roles (R139, R421 to R425) -/

/-- R139, R421, R424: the batches that wait at step 3 reach their commit point without it. -/
def State.commitHeld (s : State) : State := forEach (s.commit.batches.filter (fun b => b.step == 3)) (fun b s => s.commitBatch b) s

/-- R423, R424: the device becomes FENCED. -/
def State.fence (s : State) (keep : Bool) : State :=
  let s : State := (s.modPair (fun p => { p with role := 3, switching := none })).dropAllLeases
  ({ s with net := { s.net with announces := keep && s.net.announces } } : State).notice Reg.mirNotice 3

/-- R139, R425: batches that will not commit here complete with FENCED. -/
def State.fenceBatches (s : State) : State :=
  let bs := s.commit.batches
  let es := bs.flatMap (fun b => b.entries) ++ s.commit.waiting
  let s := forEach bs (fun b s => s.dropSpares (b.images.map Prod.fst)) s
  let s : State := { s with commit := { s.commit with waiting := [], batches := [] } }
  forEach es (fun e s => s.failEntry e Status.fenced 0) s

/-- R411: a queue this device does not fetch as a standby: neither queue 0 nor a management queue of its own. -/
def Qp.mirrored (q : Qp) : Bool := q.cfg.queue ≠ 0 && !(q.cfg.flags.getLsbD 0 && q.cfg.part == 0)

/-- R425, R430: the device joins a peer that is ACTIVE, as an incomplete standby. -/
def State.joinPeer (s : State) (member term : Nat) : State :=
  let s := s.fenceBatches.dropAllLeases
  let s := s.modPair (fun p => { p with role := 2, sync := 1, term := term, holder := member, cas := none, wasActive := false, journal := [],
                                        switching := none, sent := 0, acked := 0 })
  let s : State := { s with net := { s.net with announces := false }, qps := modWhere Qp.mirrored (fun q => { q with resumed := false }) s.qps }
  s.notice Reg.mirNotice 4

/-- R38, R426 step 3: the service addresses are announced. -/
def State.announceAll (s : State) : State :=
  let s : State := { s with net := { s.net with announces := true } }
  forEach s.net.ifaces (fun f s => forEach f.service (fun a s => s.send (.announce f.port f.num a)) s) s

/-- R32, R33: a takeover from STANDBY includes the exit to SERVING. -/
def State.wake (s : State) : State :=
  if s.power.mode ≠ .standby ∨ s.power.standbyExit.isSome then s
  else
    let s := s.resetTiles
    let s : State := { s with dram := { s.dram with selfRefresh := false } }
    s.setPower { s.power with standbyExit := some none }

/-- R426: the takeover: ROLE ACTIVE, the next epoch E + 2^32, the addresses, and every queue to be resumed. Tiles take fresh leases. -/
def State.takeOver (s : State) (term : Nat) : State :=
  let us := (s.clock.mono - s.pair.lastBeat) / 1000
  let s := s.modPair (fun p => { p with role := 1, sync := 1, term := term, holder := s.member, cas := none, failing := false, wasActive := true,
                                        tookOverAt := s.now, toDecision := min 65535 us, toResume := 0, sent := p.applied, acked := p.applied,
                                        dirty := [], switching := none })
  let s : State := { s with commit := { s.commit with lastEpoch := s.commit.lastEpoch.map (fun e => e + 2 ^ 32 - 1) } }
  let s := forEach (s.tiles.map (fun t => t.num)) (fun t s => s.dropLeases t) s
  let s : State := { s with qps := modWhere Qp.mirrored (fun q => { q with resumed := false }) s.qps }
  let s := (s.announceAll.wake.notice Reg.mirNotice 2).bump Reg.mirTakeovers
  s.devEvent 5 0x0B01 54 (leBytes 4 term ++ leBytes 4 (countOf (fun q => !q.resumed) s.qps))

/-- R423, R425: the device holds the witness: it is, or becomes, ACTIVE. One that was ACTIVE leaves service with its peer LOST, and its
waiting batches commit; another takes over. -/
def State.winWitness (s : State) (term : Nat) : State :=
  let s := if s.pair.role = 3 then s.notice Reg.mirNotice 4 else s
  if s.pair.wasActive then
    let s := s.modPair (fun p => { p with role := 1, sync := 1, term := term, holder := s.member, cas := none })
    (({ s with net := { s.net with announces := true } } : State).commitHeld)
  else s.takeOver term

/-- R421, R423, R431: the witness decision. An incomplete standby is FENCED; at the last TERM no win completes (R435). -/
def State.decideRole (s : State) : State :=
  let was := s.pair.role == 1
  if s.pair.role = 0 ∨ s.pair.role = 3 ∨ s.pair.cas.isSome then s
  else if s.pair.role = 2 ∧ s.pair.sync ≠ 2 then (s.modPair (fun p => { p with wasActive := false })).fence false
  else if s.pair.term + 1 = 2 ^ 32 then (s.modPair (fun p => { p with wasActive := was })).fence was
  else match s.pairing with
    | none => s
    | some p =>
      let s := s.modPair (fun x => { x with wasActive := was })
      s.issueCas p (witnessWord s.pair.term s.pair.holder p.pairId) (witnessWord (s.pair.term + 1) p.member p.pairId) none

/-! ### A planned switch (R432) -/

/-- R432 steps 1 to 3: every job has completed, every batch is acknowledged and every completion is confirmed. -/
def State.switchReady (s : State) (id : JobId) : Bool :=
  s.jobs.all (fun j => j.id == id || j.phase == .done) && s.commit.waiting.isEmpty && s.commit.batches.isEmpty &&
    s.pair.sent == s.pair.acked && s.qps.all (fun q => q.cpls.isEmpty && q.fetches.isEmpty && q.cqConfirmed == q.cqPosted)

/-- R432 step 5: the witness is handed to the peer. -/
def State.switchCas (s : State) : State :=
  match s.pair.switching, s.pairing with
  | some id, some p =>
    if s.pair.cas.isSome ∨ !s.switchReady id ∨ s.pair.term + 1 = 2 ^ 32 then s
    else
      s.issueCas p (witnessWord s.pair.term p.member p.pairId) (witnessWord (s.pair.term + 1) (1 - p.member) p.pairId) (some id)
  | _, _ => s

/-- R432: the old active becomes STANDBY and stays IN_SYNC. -/
def State.switched (s : State) (swp : Nat) : State :=
  let s := s.modPair (fun p => { p with role := 2, term := swp % 2 ^ 32, holder := swp / 2 ^ 32 % 256, switching := none, applied := p.sent,
                                        wasActive := false, journal := [] })
  let s := s.dropAllLeases
  { s with net := { s.net with announces := false }, qps := modWhere Qp.mirrored (fun q => { q with resumed := false }) s.qps }

end Sys2Proof.Machine
end

