-- ==== Sys2Proof/Machine/Pair.lean ====
section
/-! DEFINITION. The pair's rows (R141, R413 to R434): heartbeats and probes, the witness, takeover and resume, mirror batches,
transport records, page requests, resync, pairing and its commands. -/

namespace Sys2Proof.Machine

/-! ### Heartbeats (R420, R421) -/

/-- R420, R421: a HEARTBEAT leaves. An active device notes since when it reports no service link. -/
def State.heartbeatOut (s : State) : State :=
  if s.pair.role = 0 ∨ s.pair.path = 0 ∨ !s.power.coresUp then s
  else
    let since := if s.pair.role ≠ 1 then s.pair.svcLostAt else if s.svcLink then none else some (s.pair.svcLostAt.getD s.clock.mono)
    (s.modPair (fun p => { p with svcLostAt := since })).send (.heartbeat s.heartbeat)

/-- R420 HEARTBEAT_SEND -/
def execHeartbeatSend (s : State) : Host.Outcome State Fault Refusal := .next s.heartbeatOut

/-- R420: what a heartbeat reports of the peer. -/
def Pair.note (p : Pair) (hb : Heartbeat) (mono : Nat) : Pair :=
  { p with peerRole := hb.role, peerSync := hb.sync, peerSvc := hb.svcLink, lastBeat := mono, missed := 0,
           term := if p.role = 2 ∧ hb.role = 1 then max p.term hb.term else p.term,
           holder := if p.role = 2 ∧ hb.role = 1 then hb.member else p.holder,
           svcLostAt := if p.role = 1 then p.svcLostAt else if hb.role = 1 ∧ !hb.svcLink then some (p.svcLostAt.getD mono) else none }

/-- R410, R430: an active device follows its standby: one that is INCOMPLETE is sent the state it lacks; one that has applied every
batch is IN_SYNC. -/
def State.followStandby (s : State) (hb : Heartbeat) : State :=
  if s.pair.role ≠ 1 ∨ hb.role ≠ 2 then s
  else if hb.sync = 2 ∧ s.pair.sync ≠ 2 ∧ hb.applied = s.pair.sent then
    ((s.modPair (fun p => { p with sync := 2, acked := p.sent })).notice Reg.mirNotice 6)
  else if hb.sync = 1 then
    let s := if s.pair.sync = 2 then (s.modPair (fun p => { p with sync := 1 })).commitHeld else s
    (s.modPair (fun p => { p with journal := [] })).send (.mirror 9 s.pair.sent)
  else s

/-- R420, R421, R425, R432: a HEARTBEAT arrives. -/
def State.heartbeatIn (s : State) (hb : Heartbeat) : State :=
  if s.pair.role = 0 ∨ hb.member = s.member then s
  else
    let taken := s.pair.role == 2 && s.pair.sync == 2 && hb.role == 2 && hb.sync == 2 && !hb.failing && decide (s.pair.term < hb.term)
    let join := s.pair.role == 3 && hb.role == 1 && decide (s.pair.term < hb.term)
    let s := (s.modPair (fun p => p.note hb s.clock.mono)).followStandby hb
    let s := s.peerAlive
    if taken then s.takeOver hb.term
    else if join then s.joinPeer hb.member hb.term
    else if s.pair.role = 2 ∧ s.pair.sync = 2 ∧ hb.failing then s.decideRole
    else s

/-- R420 HEARTBEAT_RX -/
def execHeartbeatRx (hb : Heartbeat) (s : State) : Host.Outcome State Fault Refusal := .next (s.heartbeatIn hb)

/-- R420: a heartbeat is overdue by 50 µs; after four in a row PEER becomes SUSPECT. -/
def State.heartbeatMiss (s : State) : State :=
  if s.pair.role = 0 ∨ s.pair.peer = 2 then s
  else
    let n := s.pair.missed + 1
    let s := s.advanceTo (max s.clock.mono (s.pair.lastBeat + 50000 * (n + 1)))
    let s := (s.modPair (fun p => { p with missed := n })).bump Reg.mirHbMisses
    if 4 ≤ n ∧ s.pair.peer = 0 then s.suspect else s

/-- R420 HEARTBEAT_MISS -/
def execHeartbeatMiss (s : State) : Host.Outcome State Fault Refusal := .next s.heartbeatMiss

/-- R421: a PROBE is answered. -/
def State.probeIn (s : State) : State := if s.pair.role = 0 then s else s.send (.mirror 8 0)

/-- R421 PROBE_RX -/
def execProbeRx (s : State) : Host.Outcome State Fault Refusal := .next s.probeIn

/-- R421: a PROBE is answered in time: PEER is ALIVE, and mirroring moves to the Ethernet path. -/
def State.probeAck (s : State) : State := if s.pair.probing then (s.setPath s.ethPath).peerAlive else s

/-- R421 PROBE_ACK_RX -/
def execProbeAckRx (s : State) : Host.Outcome State Fault Refusal := .next s.probeAck

/-- R421: no answer within 100 µs: PEER is LOST, and the witness decides. -/
def State.probeTimeout (s : State) : State :=
  if !s.pair.probing then s
  else
    let s := s.advanceTo (s.clock.mono + 100000)
    ((s.modPair (fun p => { p with peer := 2, probing := false })).notice Reg.mirNotice 5).decideRole

/-- R421 PROBE_TIMEOUT -/
def execProbeTimeout (s : State) : Host.Outcome State Fault Refusal := .next s.probeTimeout

/-- R421: the active has reported SVC_LINK 0 for 2 ms while the standby has service link: the active, which sees the standby's report,
performs a planned switch (notes/assumptions/47.md). -/
def State.svcLinkLoss (s : State) : State :=
  match s.pair.svcLostAt with
  | none => s
  | some t =>
    let s := s.advanceTo (max s.clock.mono (t + 2 * 10 ^ 6))
    if s.inService ∧ s.pair.peerSvc ∧ s.pair.switching.isNone then s.modPair (fun p => { p with switching := some autoSwitchId }) else s

/-- R421 SVC_LINK_LOSS_EXPIRY -/
def execSvcLinkLossExpiry (s : State) : Host.Outcome State Fault Refusal := .next s.svcLinkLoss

/-! ### The witness (R422 to R425) -/

/-- R433 step 3: the FORM device holds the witness: it is ACTIVE, and the pairing enters a batch. -/
def State.formed (s : State) (j : Job) : State :=
  let p := parsePairing j.input
  let s := s.modPair (fun x => { x with role := 1, sync := 1, peer := 0, term := 1, holder := p.member, secret := j.entropy, missed := 0,
                                        lastBeat := s.clock.mono, wasActive := true, path := if x.lanes ≠ 0 then 1 else s.ethPath })
  s.bringCtl j [.pairing (some p)] []

/-- R423, R425, R432, R433: a witness CAS returns a value. -/
def State.casResult (s : State) (v : Nat) : State :=
  match s.pair.cas with
  | none => s
  | some (cmp, swp, job) =>
    let s := s.casEnds
    match job with
    | none => if v = cmp then s.winWitness (swp % 2 ^ 32) else s.fence false
    | some id =>
      if id = overrideId then
        (if v = cmp then s.modPair (fun p => { p with term := swp % 2 ^ 32 })
         else match s.pairing with
          | some p => s.issueCas p v (witnessWord (v + 1) p.member p.pairId) (some id)
          | none => s)
      else if s.pair.switching = some id then
        let s := if v = cmp then s.switched swp else s.fence false
        match s.job? id with
        | some j => if v = cmp then s.done j else s.deny j Status.fenced
        | none => s
      else match s.job? id with
        | some j => if v = cmp then s.formed j else s.deny j Status.busy
        | none => s

/-- R423 WITNESS_CAS_RESULT -/
def execWitnessCasResult (value : Nat) (s : State) : Host.Outcome State Fault Refusal := .next (s.casResult value)

/-- R423: a CAS is not completed within 200 µs: the device is FENCED, and keeps the service addresses only if it was ACTIVE. A planned
switch or a pairing that cannot reach the witness ends with BUSY; `PAIR_UNFENCE`'s write waits (notes/assumptions/48.md). -/
def State.casTimeout (s : State) : State :=
  match s.pair.cas with
  | none => s
  | some (_, _, job) =>
    let s := s.advanceTo (s.clock.mono + 200000)
    match job with
    | none => s.casEnds.fence s.pair.wasActive
    | some id =>
      if id = overrideId then s
      else
        let s := s.casEnds.modPair (fun p => { p with switching := if p.switching = some id then none else p.switching })
        match s.job? id with
        | some j => s.deny j Status.busy
        | none => s

/-- R423 WITNESS_TIMEOUT -/
def execWitnessTimeout (s : State) : Host.Outcome State Fault Refusal := .next s.casTimeout

/-- R425: every 10 ms a FENCED device repeats its CAS, with the same compare value; an incomplete one that was not ACTIVE does not. -/
def State.casRetry (s : State) : State :=
  match s.pair.cas, s.pairing with
  | some (cmp, swp, some id), some p => if id = overrideId then s.issueCas p cmp swp (some id) else s
  | none, some p =>
    if s.pair.role ≠ 3 ∨ s.pair.term + 1 = 2 ^ 32 ∨ !(s.pair.wasActive || s.pair.sync == 2) then s
    else
      let s := s.advanceTo (s.clock.mono + 10 ^ 7)
      s.issueCas p (witnessWord s.pair.term s.pair.holder p.pairId) (witnessWord (s.pair.term + 1) p.member p.pairId) none
  | _, _ => s

/-- R425 WITNESS_RETRY -/
def execWitnessRetry (s : State) : Host.Outcome State Fault Refusal := .next s.casRetry

/-! ### Resuming queues (R427, R428) -/

/-- R75, R427: the ring positions of a sealed queue's sequences: entry `idx` and completion `pos`. -/
def Session.at_ (k : Session) (idx pos : BitVec 32) : Session :=
  { k with descSeq := (idx - BitVec.ofNat 32 k.descSeq).toNat, cplSeq := (pos - BitVec.ofNat 32 k.cplSeq).toNat }

/-- R427 step 1: a completion slot at a ring position holds a completion of the expected PHASE. -/
def Qp.slotLanded (q : Qp) (pos : BitVec 32) (slot : Bytes) : Bool :=
  slot.length == q.cqStride && byteAt (if q.cfg.flags.getLsbD 1 then 48 else 10) slot % 2 == phaseOf pos.toNat q.cfg.cqLog2

/-- R75, R427 step 1: the JOB_TAG a landed slot carries, opened with the session key on a sealed queue. A mirrored session's sequences are
the ring positions at which they began. -/
def Qp.slotTag (q : Qp) (state : Nat) (pos : BitVec 32) (slot : Bytes) : Option Nat :=
  match q.session, state == 3 with
  | some k, true =>
    (aeadOpen 0x04 k.toHost (sealNonce (pos - BitVec.ofNat 32 k.cplSeq).toNat q.cfg.queue 0x81) [] (slot.take 32) (sub 32 16 slot)).map (leAt 0 8)
  | _, _ => some (leAt 0 8 slot)

/-- R427 step 1: the slots from CQ_CONFIRMED onwards, each with its ring position. -/
def readSlots (first : BitVec 32) (slots : List Bytes) : List (BitVec 32 × Bytes) :=
  (List.range slots.length).map (fun k => (first + BitVec.ofNat 32 k, slots.getD k []))

/-- R427 step 1: the slots read that have landed. -/
def Qp.landedSlots (q : Qp) (t : TransportRec) (slots : List Bytes) : List (BitVec 32 × Bytes) :=
  (readSlots t.cqConfirmed (slots.take (ringSize q.cfg.cqLog2))).filter (fun e => q.slotLanded e.1 e.2)

/-- R427 step 4: how far beyond CQ_CONFIRMED the first slot after the last landed one lies. -/
def Qp.landedCount (q : Qp) (t : TransportRec) (slots : List Bytes) : Nat :=
  (q.landedSlots t slots).foldl (fun n e => max n ((e.1 - t.cqConfirmed).toNat + 1)) 0

/-- R427 step 1: the JOB_TAGs marked completed. -/
def Qp.landedTags (q : Qp) (t : TransportRec) (slots : List Bytes) : List Nat :=
  (q.landedSlots t slots).filterMap (fun e => q.slotTag t.state e.1 e.2)

/-- R427, R428: a queue takes the mirrored transport state; completions follow the last landed one. -/
def Qp.resume (q : Qp) (t : TransportRec) (first : BitVec 32) (landed : Nat) : Qp :=
  let pos := t.cqConfirmed + BitVec.ofNat 32 landed
  { q with state := t.state, sqDoorbell := t.sqDoorbell, cqDoorbell := t.cqDoorbell, fetchIndex := t.sqDoorbell, cqPosted := pos,
           cqConfirmed := t.cqConfirmed, devicePsn := t.sendPsn + 0x400000, hostPsn := t.recvPsn, reqs := [], waitReads := [], fetches := [],
           held := none, cpls := [], inFlight := 0, resumed := true, session := q.session.map (fun k => k.at_ first pos) }

/-- R427 step 3: one descriptor read back: landed ones are skipped, journalled ones are written from their entries, any other is
executed afresh. -/
def State.resumeEntry (s : State) (n : Nat) (landed : List Nat) (e : Held) : State :=
  let d := match e.bytes with | some b => parseDesc b | none => ({} : Desc)
  if e.bytes.isSome ∧ landed.contains d.tag then s
  else
    let s := s.modQp n (fun q => { q with inFlight := q.inFlight + 1 })
    match s.pair.journal.find? (fun x => x.queue == n && x.idx == e.idx.toNat && x.tag == d.tag) with
    | some x => s.modQp n (fun q => { q with cpls := q.cpls ++ [x.cpl] })
    | none => s.createEntry n e false true

/-- R81, R427, R429: QUEUE_RESUME: the new active reconciles a queue, and compares the levels that changed. -/
def State.queueResume (s : State) (n : Nat) (r : ResumeRead) : State :=
  match s.qp? n with
  | none => s
  | some q =>
    if s.pair.role ≠ 1 ∨ q.resumed ∨ s.power.mode ≠ .serving then s
    else
      let old : TransportRec := { queue := n, state := q.state, sqDoorbell := q.sqDoorbell, cqDoorbell := q.cqDoorbell, fetchIndex := q.fetchIndex,
                                  cqConfirmed := q.cqConfirmed, sendPsn := q.devicePsn, recvPsn := q.hostPsn }
      let t := (s.pair.transport.find? (fun x => x.queue == n)).getD old
      let ds := r.descs.take (ringSize q.cfg.sqLog2)
      let first := t.sqDoorbell - BitVec.ofNat 32 ds.length
      let tags := q.landedTags t r.slots
      let s := ((s.modQp n (fun q => q.resume t first (q.landedCount t r.slots))).queueWatermark n 0).queueWatermark n 1
      if t.state = 4 then s
      else match s.qp? n with
        | none => s
        | some q =>
          let (q', got) := openEntries q q.sqStride first ds.length (ds.flatMap (fixLen q.sqStride)) []
          let s := s.modQp n (fun x => { x with session := q'.session })
          let s := (forEach got (fun e s => s.resumeEntry n tags e) s).settle
          let us := (s.clock.secure - s.pair.tookOverAt) / 1000
          if s.qps.all (fun x => x.resumed) then s.modPair (fun p => { p with toResume := min 65535 us, journal := [] }) else s

/-- R427 QUEUE_RESUME -/
def execQueueResume (q : Nat) (r : ResumeRead) (s : State) : Host.Outcome State Fault Refusal := .next (s.queueResume q r)

/-! ### Mirror batches (R415, R416) -/

/-- R416 step 1: a mirrored image is installed. Its frame is the one that the last version was not in. -/
def State.installImage (s : State) (e : Obj × Bytes) : State :=
  let frame := ((s.obj? e.1).map (fun o => 1 - o.frame)).getD 0
  let o : ObjState := { obj := e.1, version := leAt 8 8 e.2, kekGen := leAt 16 2 e.2, frame := frame, digest := imageDigest e.2, load := .unloaded }
  let s : State := { s with keys := { s.keys with objs := s.keys.objs.filter (fun x => x.obj ≠ e.1) ++ [o] } }
  match openImage s e.1 e.2 with
  | some plain => (s.install e.1 frame e.2 plain).placeFrame e.1
  | none => s

/-- R416 step 2: a mirrored partition table is applied by this device's own live control restart. -/
def State.mirrorTable (s : State) (cs : List Change) : State :=
  match cs.findSome? (fun c => match c with | .table img => some img | _ => none) with
  | none => s
  | some img =>
    let changed := s.tilesChanged (parseTable img)
    let r : Restart := { job := none, opcode := Op.prtApply, step := 2, changed := changed, startedAt := s.clock.mono }
    let s : State := { s with tabs := { s.tabs with staged := some img, restart := some r }, mgmt := { s.mgmt with loads := [] } }
    forEach changed (fun t s => (s.dropRefs t).abortLong t 0x03) s

/-- R411: queues that mirrored changes create are not fetched before a takeover. -/
def State.holdQueues (s : State) (cs : List Change) : State :=
  let new := cs.filterMap (fun c => match c with | .qpAdd r _ _ => some r.queue | _ => none)
  { s with qps := modWhere (fun q => new.contains q.cfg.queue) (fun q => { q with resumed := false }) s.qps }

/-- R415, R443: mirrored changes of the retained configuration reach this device's own copies. -/
def State.mirrorSnapshot (s : State) (cs : List Change) : State :=
  if cs.any Change.isConfig then
    s.writeSnapshot (forEach (cs.filter (fun c => match c with | .pairing _ => false | _ => true)) (fun c x => x.note c) s.snapshotBase)
  else s

/-- R416: a complete batch is applied in order and acknowledged. -/
def State.applyMirror (s : State) (b : MirBatch) : State :=
  let cs := b.changes.filter (fun c => match c with | .pairing _ => false | _ => true)
  let s := forEach cs (fun c s => s.applyChange c) s
  let s := (s.mirrorSnapshot cs).holdQueues cs
  let s := forEach b.images (fun e s => s.installImage e) (s.mirrorTable cs)
  let s := s.modPair (fun p => { p with journal := p.journal ++ b.journal, applied := b.seq })
  let v := if b.root = [] then s.vault else s.vault.putRoot b.root b.epoch
  let s : State := { s with vault := v, commit := { s.commit with lastEpoch := some b.epoch } }
  s.journalWatermark.send (.batchAck b.seq)

/-- R413, R416: a mirror batch arrives. One with a gap, a missing END or a failed tag is discarded, and the acknowledgement names the SEQ
expected next, marked by 2^64 (notes/assumptions/49.md). -/
def State.mirrorBatchIn (s : State) (b : MirBatch) : State :=
  if s.pair.role ≠ 2 ∨ s.pair.sync ≠ 2 then s
  else
    let s := if b.tagsOk then s else s.notice Reg.mirNotice 8
    if !b.hasEnd ∨ !b.tagsOk ∨ b.seq ≠ s.pair.applied + 1 then s.send (.batchAck (2 ^ 64 + s.pair.applied + 1))
    else s.applyMirror b

/-- R416 MIRROR_BATCH_RX -/
def execMirrorBatchRx (b : MirBatch) (s : State) : Host.Outcome State Fault Refusal := .next (s.mirrorBatchIn b)

/-- R137, R416: every batch up to a SEQ is acknowledged, and reaches its commit point. -/
def State.ackBatches (s : State) (seq : Nat) : State :=
  let got := s.commit.batches.filter (fun b => b.step == 3 && b.seq ≠ 0 && decide (b.seq ≤ seq))
  (forEach got (fun b s => s.commitBatch b) (s.modPair (fun p => { p with acked := max p.acked seq }))).mirrorSend

/-- R416: BATCH_ACK arrives: the batch commits, or every unacknowledged batch from the SEQ named is sent again. -/
def State.batchAckIn (s : State) (n : Nat) : State :=
  if s.pair.role ≠ 1 then s
  else if n < 2 ^ 64 then (if s.pair.acked < n ∧ n ≤ s.pair.sent then s.ackBatches n else s)
  else
    let x := n - 2 ^ 64
    if x ≤ s.pair.acked ∨ s.pair.sent < x then s
    else
      let s := s.ackBatches (x - 1)
      forEach ((List.range (s.pair.sent + 1 - x)).map (fun k => x + k)) (fun k s => s.send (.mirror 2 k)) s

/-- R416 BATCH_ACK_RX -/
def execBatchAckRx (seq : Nat) (s : State) : Host.Outcome State Fault Refusal := .next (s.batchAckIn seq)

/-! ### Transport records (R417, R418) -/

/-- R418: the transport record of a queue. -/
def Qp.transport (q : Qp) : TransportRec :=
  { queue := q.cfg.queue, state := q.state, sqDoorbell := q.sqDoorbell, cqDoorbell := q.cqDoorbell, fetchIndex := q.fetchIndex,
    cqConfirmed := q.cqConfirmed, sendPsn := q.devicePsn, recvPsn := q.hostPsn }

/-- R418: TRANSPORT frames of up to 64 records. -/
def State.sendRecords : Nat → List TransportRec → State → State
  | 0, _, s => s
  | _ + 1, [], s => s
  | n + 1, r :: rs, s => State.sendRecords n (rs.drop 63) (s.send (.transport ((r :: rs).take 64)))

/-- R417: journal entries whose completion the host has acknowledged are dropped. -/
def State.pruneJournal (s : State) : State :=
  let landed (e : JEntry) : Bool :=
    match e.posted, s.qp? e.queue with
    | some p, some q => decide ((q.cqConfirmed - BitVec.ofNat 32 (p + 1)).toNat < 2 ^ 31)
    | some _, none => true
    | none, _ => false
  ((s.modPair (fun p => { p with journal := p.journal.filter (fun e => !landed e) })).journalWatermark).mirrorSend

/-- R418, R432: every 50 µs the active sends the records of changed queues, at most 1,024; a planned switch that is ready goes on. -/
def State.transportSend (s : State) : State :=
  if s.pair.role ≠ 1 ∨ s.pair.path = 0 then s
  else
    let now := s.pair.dirty.take 1024
    let recs := now.filterMap (fun n => (s.qp? n).map Qp.transport)
    let s := State.sendRecords 16 recs (s.modPair (fun p => { p with dirty := p.dirty.drop 1024 }))
    (s.pruneJournal).switchCas

/-- R418 TRANSPORT_SEND -/
def execTransportSend (s : State) : Host.Outcome State Fault Refusal := .next s.transportSend

/-- R417, R418: the standby keeps the latest record of a queue. Once every completion of what was fetched is confirmed, its journal
entries have landed. -/
def State.transportIn (s : State) (r : TransportRec) : State :=
  if s.pair.role ≠ 2 then s
  else
    let done (e : JEntry) : Bool := e.queue == r.queue && r.cqConfirmed == r.fetchIndex && decide ((r.fetchIndex - BitVec.ofNat 32 (e.idx + 1)).toNat < 2 ^ 31)
    s.modPair (fun p => { p with transport := insertBy (fun x => x.queue) r p.transport, journal := p.journal.filter (fun e => !done e) })

/-- R418 TRANSPORT_RX -/
def execTransportRx (r : TransportRec) (s : State) : Host.Outcome State Fault Refusal := .next (s.transportIn r)

/-! ### Page requests (R141, R419) -/

/-- R419: a page request is answered with an image this device holds. -/
def State.pageReq (s : State) (o : Obj) : State :=
  if s.pair.role = 0 then s
  else s.send (.pageData o (((s.obj? o).map (fun e => e.load == .loaded)).getD false))

/-- R419 PAGE_REQ_RX -/
def execPageReqRx (o : Obj) (s : State) : Host.Outcome State Fault Refusal := .next (s.pageReq o)

/-- R141: the peer's image arrives. One that matches is installed and written to the host again; otherwise the object is
unavailable. -/
def State.pageData (s : State) (o : Obj) (img : Bytes) : State :=
  match s.obj? o with
  | none => s
  | some e =>
    if e.load ≠ .fromPeer then s
    else match s.imageGood e img with
      | none => s.lose o
      | some plain =>
        let s := (((s.install o 0 img plain).placeFrame o).notice Reg.kstNotice 1).devEvent 3 0x0301 59 (objBytes o)
        match s.keys.persistQ, s.regionFor o with
        | some q, some r => s.issue q .write (r.base + frameOffset r o 0) r.rkey 65664 img
        | _, _ => s

/-- R141 PAGE_DATA_RX -/
def execPageDataRx (o : Obj) (image : Bytes) (s : State) : Host.Outcome State Fault Refusal := .next (s.pageData o image)

/-! ### Resync (R430, R431) -/

/-- R430: the items a resync brings, with the campaign as it stands on the active. -/
def resyncItems (r : Resync) : VaultItems :=
  { root := (r.root, r.epoch), gens := r.gens, campaign := r.campaign, hwms := r.hwms, stateful := r.stateful }

/-- R430: the vault takes the items; pages load again from the host. -/
def State.resyncVault (s : State) (r : Resync) : State :=
  let wrap (g : Nat × Bytes) : Nat × Bytes := (g.1, wrapGen s.guard.vaultKey g.1 g.2)
  let v := { s.vault with root0 := (r.root, r.epoch), root1 := ([], 0), gens := r.gens.map wrap, campaign := r.campaign, hwms := r.hwms,
                          stateful := r.stateful }
  { s with vault := v, keys := { s.keys with pages := [], objs := v.rootObjs }, ctxs := {} }

/-- R430: the queue records: queues the active does not have end; those it has are kept, or made anew, and wait for a takeover. -/
def State.resyncQueues (s : State) (qs : List QpRec) : State :=
  let has (n : Nat) : Bool := qs.any (fun r => r.queue == n)
  let gone := (s.qps.filter (fun q => q.mirrored && !has q.cfg.queue)).map (fun q => q.cfg.queue)
  let s := forEach gone (fun n s => s.enterError n 0) s
  let s : State := { s with qps := s.qps.filter (fun q => !(gone.contains q.cfg.queue && s.liveJobs q.cfg.queue == 0)) }
  let put (r : QpRec) (s : State) : State :=
    if (s.qp? r.queue).isSome then s.modQp r.queue (fun q => { q with cfg := r, resumed := false })
    else { s with qps := insertBy (fun q => q.cfg.queue) { (s.newQp r 0 (Config.freeNat s.free % 2 ^ 32)) with resumed := false } s.qps, free := s.free + 1 }
  forEach (qs.filter (fun r => r.queue ≠ 0)) put s

/-- R430: everything a resync brings is applied, and the device is IN_SYNC. -/
def State.resyncApply (s : State) (r : Resync) : State :=
  let cs := r.changes.filter (fun c => match c with | .pairing _ => false | .qpAdd .. => false | _ => true)
  let s := (s.resyncVault r).resyncQueues r.qps
  let s := forEach cs (fun c s => s.applyChange c) s
  let s := (s.mirrorSnapshot cs).mirrorTable cs
  let s := s.modPair (fun p => { p with sync := 2, applied := r.seq, journal := r.journal, failing := false })
  ({ s with commit := { s.commit with lastEpoch := some r.epoch } } : State).notice Reg.mirNotice 6

/-- R142, R430: the root a state holds matches the level-4 tree page read from host memory; the empty root needs none. -/
def State.rootChecks (w : State) (page : Bytes) : Bool :=
  w.vault.rootObjs.isEmpty || ((w.obj? (treeObj 4 0)).bind (fun e => w.imageGood e page)).isSome

/-- R398, R430: RESYNC arrives. An adoption from the peer takes its items; the root must match the level-4 page in host memory. A vault
that holds nothing resyncs only once adopted. -/
def State.resyncIn (s : State) (r : Resync) : State :=
  match s.adopting 1 with
  | some j => if (s.adopted j.entropy (resyncItems r).restarted false).rootChecks r.page then s.adoptDone j j.entropy (resyncItems r).restarted false else s.deny j Status.verifyFail
  | none =>
    if s.pair.role ≠ 2 ∨ s.pair.sync ≠ 1 ∨ vaultState s.vault ≠ 0 ∨ s.guard.recovering ∨ !(s.resyncVault r).rootChecks r.page then s else s.resyncApply r

/-- R430 RESYNC_RX -/
def execResyncRx (r : Resync) (s : State) : Host.Outcome State Fault Refusal := .next (s.resyncIn r)

/-! ### The mirror link (R413, R420, R421, R433) -/

/-- R433: the link key of a link-up: this device's nonce and the peer's, the lower MEMBER's first (notes/assumptions/48.md). -/
def linkKeyOf (secret : Bytes) (member : Nat) (own peer : Bytes) : Bytes :=
  (sha3_512 (secret ++ (if member = 0 then own ++ peer else peer ++ own))).take 32

/-- R413: the lanes train, and a link key is derived afresh. A pair without a path takes the link at once. -/
def State.mirrorUp (s : State) (nonce : Bytes) : State :=
  if s.fld Reg.mirCtrl 0 0 = 0 ∨ !s.power.coresUp then s
  else
    let (own, s) := s.draw 32
    let key := if s.pair.role = 0 then [] else linkKeyOf s.pair.secret s.member own nonce
    s.modPair (fun p => { p with lanes := 3, lanesAt := if p.path = 2 then some s.clock.mono else none, linkKey := key, fseq := 0,
                                 path := if p.path = 0 ∧ p.role ≠ 0 then 1 else p.path })

/-- R413 MIRROR_LINK_UP -/
def execMirrorLinkUp (nonce : Bytes) (s : State) : Host.Outcome State Fault Refusal := .next (s.mirrorUp nonce)

/-- R420, R421: the lanes lose training; frames move to the Ethernet path, when it is enabled. -/
def State.mirrorDown (s : State) : State :=
  let s := s.modPair (fun p => { p with lanes := 0, lanesAt := none })
  if s.pair.role = 0 then s.modPair (fun p => { p with path := 0 }) else s.setPath s.ethPath

/-- R420 MIRROR_LINK_DOWN -/
def execMirrorLinkDown (s : State) : Host.Outcome State Fault Refusal := .next s.mirrorDown

/-- R421: 1 s after the lanes train frames return to the link. -/
def State.pathReturn (s : State) : State :=
  match s.pair.lanesAt with
  | none => s
  | some t =>
    let s := s.advanceTo (max s.clock.mono (t + 10 ^ 9))
    s.modPair (fun p => { p with path := 1, lanesAt := none })

/-- R421 MIRROR_PATH_RETURN -/
def execMirrorPathReturn (s : State) : Host.Outcome State Fault Refusal := .next s.pathReturn

/-! ### Pairing commands (R425, R432 to R434) -/

/-- R433: the layout of PAIR_BIND's input: MEMBER is one bit (R436), MODE 1 or 2, PEER_IFACE a port and an interface. -/
def pairFormOk (b : Bytes) : Bool :=
  b.length == 96 && decide (byteAt 8 b < 2) && (byteAt 9 b == 1 || byteAt 9 b == 2) && decide (byteAt 72 b < 8) && zeroAt 73 23 b

/-- R433: PAIR_BIND. The exchange of offers gives whether the peer's verifies against PEER_ID, the secret, and the peer's PAIR_ID and
MEMBER. -/
def State.pairBind (offerOk : Bool) (secret : Bytes) (peer : Nat × Nat) (s : State) (j : Job) : State :=
  let b := j.input
  let p := parsePairing b
  if !pairFormOk b ∨ peer.1 ≠ p.pairId ∨ peer.2 = p.member then s.deny j Status.invalidInput
  else if !j.ceremonyOk then s.deny j Status.attrDenied 0x03
  else if !offerOk then s.deny j Status.authFail
  else if p.mode = 2 ∧ vaultState s.vault ≠ 1 ∧ s.pairing.map (fun x => x.pairId) ≠ some p.pairId then s.deny j Status.attrDenied
  else if s.pair.cas.isSome then s.deny j Status.busy
  else if p.mode = 1 then
    let s := s.modJob j.id (fun k => { k with entropy := secret })
    (s.block j).issueCas p 0 (witnessWord 1 p.member p.pairId) (some j.id)
  else
    let s := s.bringCtl j [.pairing (some p)] []
    let s := s.modPair (fun x => { x with role := 2, sync := 1, peer := 0, term := 1, holder := 1 - p.member, secret := secret, missed := 0,
                                          lastBeat := s.clock.mono, wasActive := false, path := if x.lanes ≠ 0 then 1 else s.ethPath })
    { s with net := { s.net with announces := false } }

/-- R433 PAIR_BIND -/
def execPairBind (q i : Nat) (offerOk : Bool) (secret : Bytes) (peer : Nat × Nat) (s : State) : Host.Outcome State Fault Refusal :=
  .next (s.ctl q i Op.pairBind (State.pairBind offerOk secret peer))

/-- R434: the 64 B of PAIR_QUERY. -/
def State.pairRecord (s : State) : Bytes :=
  let seq := if s.pair.role = 2 then s.pair.applied else s.pair.acked
  let p : Pairing := s.pairing.getD (parsePairing [])
  leBytes 8 p.pairId ++ leBytes 1 p.member ++ leBytes 1 s.pair.role ++ leBytes 1 s.pair.sync ++ leBytes 1 s.pair.peer ++ leBytes 1 s.pair.path ++
    zeros 3 ++ leBytes 4 s.pair.term ++ zeros 4 ++ leBytes 8 seq ++ leBytes 8 s.pair.tookOverAt ++ leBytes 2 p.witnessQ ++ zeros 6 ++
    leBytes 8 p.witnessAddr ++ leBytes 4 p.witnessRkey ++ zeros 4

/-- R434: PAIR_QUERY. -/
def State.pairQuery (s : State) (j : Job) : State := s.done j (okOut s.pairRecord)

/-- R434 PAIR_QUERY -/
def execPairQuery (q i : Nat) (s : State) : Host.Outcome State Fault Refusal := .next (s.ctl q i Op.pairQuery State.pairQuery)

/-- R434: PAIR_UNBIND: the device is UNPAIRED, its waiting batches commit, the secret is erased; a STANDBY also performs ZEROIZE. -/
def State.pairUnbind (s : State) (j : Job) : State :=
  if !j.ceremonyOk then s.deny j Status.attrDenied 0x03
  else if s.pair.role = 0 then s.deny j Status.invalidInput
  else
    let standby := s.pair.role = 2
    let s := if standby then s.zeroize else s
    let s : State := { s with pair := { lanes := s.pair.lanes }, net := { s.net with announces := true } }
    let s : State := { s with qps := s.qps.map (fun q => { q with resumed := true }) }
    s.commitHeld.bringCtl j [.pairing none] []

/-- R434 PAIR_UNBIND -/
def execPairUnbind (q i : Nat) (s : State) : Host.Outcome State Fault Refusal := .next (s.ctl q i Op.pairUnbind State.pairUnbind)

/-- R425: PAIR_UNFENCE: a FENCED device is ACTIVE at once, and writes the witness when it is reached. -/
def State.pairUnfence (s : State) (j : Job) : State :=
  if !j.ceremonyOk then s.deny j Status.attrDenied 0x03
  else if s.pair.role ≠ 3 then s.deny j Status.invalidInput
  else
    let known := s.pair.holder
    let s := s.casEnds.winWitness s.pair.term
    let s := match s.pairing with
      | some p => s.issueCas p (witnessWord s.pair.term known p.pairId) (witnessWord (s.pair.term + 1) p.member p.pairId) (some overrideId)
      | none => s
    s.done j

/-- R425 PAIR_UNFENCE -/
def execPairUnfence (q i : Nat) (s : State) : Host.Outcome State Fault Refusal := .next (s.ctl q i Op.pairUnfence State.pairUnfence)

/-- R432: PAIR_SWITCH begins: tenant fetching stops. -/
def State.pairSwitch (s : State) (j : Job) : State :=
  if !s.inService ∨ s.pair.switching.isSome then s.deny j Status.busy
  else (s.modPair (fun p => { p with switching := some j.id })).block j

/-- R432 PAIR_SWITCH -/
def execPairSwitch (q i : Nat) (s : State) : Host.Outcome State Fault Refusal := .next (s.ctl q i Op.pairSwitch State.pairSwitch)

end Sys2Proof.Machine
end

