-- ==== Sys2Proof/Machine/CfgSpace.lean ====
section
/-! DEFINITION. The configuration space's rows (R8, R9, R437 to R442): `CFG_READ`, `CFG_WRITE`, `CFG_STAGE`, `CFG_APPLY`. -/

namespace Sys2Proof.Machine

/-! ### CFG_READ (R437) -/

/-- R437: a range of registers that lies in one block. -/
def rangeOk (addr count : Nat) : Bool :=
  addr % 4 == 0 && decide (1 ≤ count) && decide (count ≤ 256) && decide (addr < 0x100000) && decide (addr % 0x10000 + 4 * count ≤ 0x10000)

/-- R437: CFG_READ: the registers in order, then what reading them resets. -/
def State.cfgRead (s : State) (j : Job) : State :=
  let addr := j.desc.pLe 48 4
  let n := j.desc.pLe 52 2
  if !rangeOk addr n then s.deny j Status.invalidInput
  else
    let at_ := (List.range n).map (fun k => addr + 4 * k)
    let out := at_.flatMap (fun a => wordBytes (s.view j.queue a))
    (forEach at_ (fun a s => s.afterRead j.queue a) s).done j (okOut out)

/-- R437 CFG_READ -/
def execCfgRead (q i : Nat) (s : State) : Host.Outcome State Fault Refusal := .next (s.ctl q i Op.cfgRead State.cfgRead)

/-! ### CFG_WRITE (R8, R9, R438 to R440) -/

/-- The action registers, with the bits of their ACTION field. A write whose ACTION is not 0 is a row of its own. -/
def actionRegs : List (Nat × Nat × Nat) :=
  [(Reg.tilCmd, 1, 0), (Reg.semChCmd, 6, 4), (Reg.entCmd, 2, 0), (Reg.vltCellCmd, 2, 0), (Reg.pwrCmd, 1, 0)]

/-- The actions a row of its own takes: 1 up to the highest of the register. -/
def topAction (addr : Nat) : Nat :=
  if addr = Reg.tilCmd then 3 else if addr = Reg.semChCmd then 5 else if addr = Reg.pwrCmd then 2 else 4

/-- A write of an action register with no action a row takes: action 0 only gives the other field its value, any other is outside
its range. -/
def State.noAction (s : State) (j : Job) (act : Nat) : State :=
  if act = 0 then (if j.cfgAddr = Reg.entCmd ∧ 22 ≤ s.targetOf j Reg.entCmd then s.deny j Status.invalidInput else (s.keepTarget j j.cfgAddr).done j)
  else if act ≤ topAction j.cfgAddr then s else s.deny j Status.invalidInput

/-- The registers whose every write is a row of its own. -/
def ownRows : List Nat := [Reg.hqiPortaCfg, Reg.hqiPortbCfg, Reg.dspQcourse]

/-- R439: a selector of the posting queue is set. -/
def State.selWrite (s : State) (j : Job) (r : RegDef) : State :=
  let new := j.merge (s.selOf j.queue r.addr)
  let v := (BitVec.ofNat 32 new &&& BitVec.ofNat 32 (s.writeMask r 0)).toNat
  if r.fields.any (fun f => s.writable f && !f.inRange v) then s.deny j Status.invalidInput
  else (s.setSel j.queue r.addr v).done j

/-- R438, R9: CFG_WRITE. -/
def State.cfgWrite (s : State) (j : Job) : State :=
  let a := j.cfgAddr
  if j.cfgMask = 0 ∨ a % 4 ≠ 0 ∨ 0x100000 ≤ a then s.deny j Status.invalidInput
  else if ownRows.contains a then s
  else match findReg a, actionRegs.find? (fun e => e.1 == a) with
    | none, _ => s.deny j Status.attrDenied
    | some _, some (_, hi, lo) => s.noAction j (bitsOf hi lo (j.merge 0))
    | some r, none =>
      if queueSelectors.contains a then s.selWrite j r else s.regWrite r (s.shownIdx j.queue a) j

/-- R438 CFG_WRITE -/
def execCfgWrite (q i : Nat) (s : State) : Host.Outcome State Fault Refusal := .next (s.ctl q i Op.cfgWrite State.cfgWrite)

/-! ### Locked settings (R441, R442) -/

/-- R441: the entries of a list. -/
def parseList (b : Bytes) : List (BitVec 32 × BitVec 32 × BitVec 32) :=
  (List.range (b.length / 12)).map (fun k =>
    (BitVec.ofNat 32 (leAt (12 * k) 4 b), BitVec.ofNat 32 (leAt (12 * k + 4) 4 b), BitVec.ofNat 32 (leAt (12 * k + 8) 4 b)))

/-- R441: CFG_STAGE: a valid list replaces any list already staged. -/
def State.cfgStage (s : State) (j : Job) : State :=
  let l := parseList j.input
  if j.input.length % 12 ≠ 0 ∨ l = [] ∨ 128 < l.length then s.deny j Status.invalidInput
  else match s.listRefusal j.ceremonyOk l with
    | some (st, dt) => s.deny j st dt
    | none => ({ s with tabs := { s.tabs with list := some l } } : State).done j

/-- R441 CFG_STAGE -/
def execCfgStage (q i : Nat) (s : State) : Host.Outcome State Fault Refusal := .next (s.ctl q i Op.cfgStage State.cfgStage)

/-- R441, R442: CFG_APPLY: the staged list is applied by a live control restart. -/
def State.cfgApply (s : State) (j : Job) : State := if s.tabs.list.isNone then s.deny j Status.invalidInput else s.restartBegin j

/-- R441 CFG_APPLY -/
def execCfgApply (q i : Nat) (s : State) : Host.Outcome State Fault Refusal := .next (s.ctl q i Op.cfgApply State.cfgApply)

end Sys2Proof.Machine
end

