-- ==== Sys2Proof/Machine/Contexts.lean ====
section
/-! DEFINITION. The rows of flow contexts and home courses (R85 to R93, R96): binding, replacing, unbinding, querying, and a
queue's move to another course. -/

namespace Sys2Proof.Machine

/-- R448: the partition a session may manage contexts of: 0 for the device administrator, its own for a partition
administrator, any for queue 0 of a device without an administrator. -/
def Job.manages (j : Job) (p : Nat) : Bool :=
  (j.actor.1 == 4) || (j.actor.1 == 1 && p == 0) || (j.actor.1 == 2 && p == j.actor.2)

/-- R85, R86: order 1 of R88. `bind` says that CONTEXT_ID and GENERATION must be zero. -/
def State.ctxRangeOk (s : State) (b : Bytes) (bind : Bool) : Bool :=
  let c := parseCtx b
  let n := c.ops.length
  let fam := (c.ops.filter (fun o => decide (o < 0x7000))).map (fun o => o / 0x1000)
  b.length == 128 && decide (leAt 0 4 b < 2 ^ 22) && decide (c.order ≤ 1) && decide (1 ≤ n) && decide (n ≤ 12) && zeroAt 7 1 b &&
  (!bind || (leAt 0 4 b == 0 && c.gen == 0)) && zeroAt (16 + 2 * n) (24 - 2 * n) b && decide (c.qpFirst ≤ c.qpLast) &&
  (match s.part? c.part with | some p => decide (p.qpFirst ≤ c.qpFirst) && decide (c.qpLast ≤ p.qpLast) | none => false) &&
  c.ops.all (fun o => definedOps.contains o && usesCtx o) && decide (fam.dedup.length ≤ 1)

/-- What checking one handle of a record answers. -/
inductive HandleCheck where
  | ok (r : KeyRec) | wait | bad (st : Nat)
  deriving DecidableEq, Repr

/-- R86, R88 order 3: a handle names an existing key of the partition. -/
def State.handleExists (s : State) (p h : Nat) : HandleCheck :=
  match s.findKey p h with
  | .rec_ _ r => if s.erasePending h then .bad Status.keyAbsent else .ok r
  | .wait _ => .wait
  | .status st => .bad (if st = Status.pageUnavailable then st else Status.keyAbsent)

/-- R86, R88 order 4: a usage class permits one of the listed opcodes. -/
def usagePermits (ops : List Nat) (usage : Nat) : Bool := ops.any (fun o => (opUsages o).contains usage)

/-- R88 orders 3 to 5: the first failing check of a record's handles and family rules, or that a page must load first. -/
def State.ctxKeyCheck (s : State) (c : CtxRec) : HandleCheck :=
  let hs := (c.keys.filter (fun h => h ≠ 0)).map (s.handleExists c.part)
  match hs.find? (fun x => match x with | .ok _ => false | _ => true) with
  | some x => x
  | none =>
    if hs.any (fun x => match x with | .ok r => !usagePermits c.ops r.usage | _ => false) then .bad Status.attrDenied
    else if !s.familyOk c then .bad Status.invalidInput
    else .ok { slot := 0, cls := 0, revoked := false, depth := 0, usage := 0, attr := 0, alg := 0, kekGen := 0, gen := 0,
               parent := 0, domain := 0, len := 0, body := [] }

/-- R150, R153: a command completes with QUOTA_EXCEEDED. -/
def State.quotaDeny (s : State) (j : Job) : State := (s.notice Reg.kstNotice 5).deny j Status.quotaExceeded

/-- R88: the 16 B result of CTX_BIND and CTX_REPLACE. -/
def ctxResult (id gen : Nat) : Bytes := leBytes 4 id ++ leBytes 4 gen ++ zeros 8

/-- R88: IDs of bindings on their way to a commit point. -/
def State.bindingIds (s : State) : List Nat :=
  (s.commit.waiting ++ s.commit.batches.flatMap (fun b => b.entries)).flatMap (fun e =>
    e.changes.filterMap (fun c => match c with | .ctxPut r => some r.id | _ => none))

/-- R88: the lowest context ID that is neither bound nor retired nor being bound; none when there is none. -/
def State.freeCtxId (s : State) : Option Nat :=
  let used := s.ctxs.bound.map (fun c => c.id) ++ s.bindingIds ++ (s.ctxs.last.filter (fun e => e.2 == 0xFFFFFFFF)).map Prod.fst ++
    s.ctxs.unbinding.map Prod.fst
  (((List.range (used.length + 1)).map (· + 1)).find? (fun n => !used.contains n)).filter (fun n => decide (n < 2 ^ 22))

/-- R88 orders 1 and 3 to 7: CTX_BIND. -/
def State.ctxBind (s : State) (j : Job) : State :=
  let c := parseCtx j.input
  if !j.manages c.part then s.deny j Status.attrDenied 0x30
  else if s.life.erased then s.deny j Status.attrDenied
  else if !s.ctxRangeOk j.input true then s.deny j Status.invalidInput
  else match s.ctxKeyCheck c with
    | .wait => s
    | .bad st => s.deny j st
    | .ok _ =>
      if s.quotaOf c.part < s.quotaUsed c.part + 128 then s.quotaDeny j
      else match s.freeCtxId with
        | none => s.deny j Status.refusedFull
        | some id => match s.stand (ctxPageObj id) with
          | .load _ => s
          | .unavailable => s.deny j Status.pageUnavailable
          | _ =>
            let gen := (alook id s.ctxs.last).getD 0 + 1
            s.bringCtl j [.ctxPut { c with id := id, gen := gen }] [ctxPageObj id] (okOut (ctxResult id gen))

/-- R88 CTX_BIND -/
def execCtxBind (q i : Nat) (s : State) : Host.Outcome State Fault Refusal := .next (s.ctl q i Op.ctxBind State.ctxBind)

/-- The context a CTX_REPLACE or CTX_UNBIND names. -/
def Job.namedCtx (j : Job) : Option Nat :=
  if j.desc.opcode = Op.ctxReplace then some (leAt 0 4 j.input) else if j.desc.opcode = Op.ctxUnbind then some (j.desc.pLe 48 4 % 2 ^ 22) else none

/-- R89: an earlier replacement or unbinding of the same ID has not committed or failed; one whose record is still to come may name it. -/
def State.ctxBusy (s : State) (j : Job) (id : Nat) : Bool :=
  s.jobs.any (fun k => k.phase ≠ .done && k.phase ≠ .blocked && decide (k.seq < j.seq) && k.err.isNone &&
    (k.namedCtx == some id || (k.desc.opcode == Op.ctxReplace && k.wants .payload)))

/-- R88, R89: CTX_REPLACE. -/
def State.ctxReplace (s : State) (j : Job) : State :=
  let c := parseCtx j.input
  if !j.manages c.part then s.deny j Status.attrDenied 0x30
  else if !s.ctxRangeOk j.input false then s.deny j Status.invalidInput
  else if s.ctxBusy j c.id then s
  else match s.stand (ctxPageObj c.id) with
    | .load _ => s
    | .unavailable => s.deny j Status.pageUnavailable
    | _ => match s.ctxs.bound.find? (fun x => x.id == c.id && x.part == c.part) with
      | none => s.deny j Status.contextAbsent
      | some cur =>
        if cur.gen = 0xFFFFFFFF then (s.notice Reg.dspNotice 1).deny j Status.contextRetired
        else if c.gen ≠ cur.gen then s.deny j Status.generationStale
        else match s.ctxKeyCheck c with
          | .wait => s
          | .bad st => s.deny j st
          | .ok _ => s.bringCtl j [.ctxPut { c with gen := cur.gen + 1 }] [ctxPageObj c.id] (okOut (ctxResult c.id (cur.gen + 1)))

/-- R89 CTX_REPLACE -/
def execCtxReplace (q i : Nat) (s : State) : Host.Outcome State Fault Refusal := .next (s.ctl q i Op.ctxReplace State.ctxReplace)

/-- R92: CTX_UNBIND. -/
def State.ctxUnbind (s : State) (j : Job) : State :=
  let id := j.desc.pLe 48 4 % 2 ^ 22
  if s.ctxBusy j id then s
  else match s.stand (ctxPageObj id) with
    | .load _ => s
    | .unavailable => s.deny j Status.pageUnavailable
    | _ => match s.ctxs.bound.find? (fun x => x.id == id && j.manages x.part) with
      | none => s.deny j Status.contextAbsent
      | some cur => s.bringCtl j [.ctxUnbind id cur.gen] [ctxPageObj id]

/-- R92 CTX_UNBIND -/
def execCtxUnbind (q i : Nat) (s : State) : Host.Outcome State Fault Refusal := .next (s.ctl q i Op.ctxUnbind State.ctxUnbind)

/-- R93: jobs that hold any generation of a context. -/
def State.ctxPins (s : State) (id : Nat) : Nat :=
  countOf (fun j => j.phase ≠ .done && (match j.ctx with | some c => c.id == id | none => false)) s.jobs

/-- R92: no job holds any generation of an unbound context any more, and CTX_UNBIND completes. -/
def State.ctxUnbindDrained (s : State) (id : Nat) : State :=
  match s.ctxs.unbinding.find? (fun e => e.1 == id) with
  | none => s
  | some (_, job) =>
    if s.ctxPins id ≠ 0 then s
    else
      let s := { s with ctxs := { s.ctxs with unbinding := s.ctxs.unbinding.filter (fun e => e.1 ≠ id) } }
      match s.job? job with
      | none => s
      | some j => s.finish job (j.result.getD {}) 0xFF true

/-- R92 CTX_UNBIND_DRAINED -/
def execCtxUnbindDrained (id : Nat) (s : State) : Host.Outcome State Fault Refusal := .next (s.ctxUnbindDrained id)

/-- R93: CTX_QUERY. -/
def State.ctxQuery (s : State) (j : Job) : State :=
  let id := j.desc.pLe 48 4 % 2 ^ 22
  match s.stand (ctxPageObj id) with
  | .load _ => s
  | .unavailable => s.deny j Status.pageUnavailable
  | _ => match s.ctxs.bound.find? (fun x => x.id == id && j.manages x.part) with
    | none => s.deny j Status.contextAbsent
    | some c => s.done j (okOut (ctxBytes c ++ leBytes 4 (s.ctxPins id) ++ zeros 12))

/-- R93 CTX_QUERY -/
def execCtxQuery (q i : Nat) (s : State) : Host.Outcome State Fault Refusal := .next (s.ctl q i Op.ctxQuery State.ctxQuery)

/-! ### Home courses (R96) -/

/-- R96, R115: a write of DSP_QCOURSE for the queue that the posting queue's DSP_QSEL selects. -/
def State.qcourseWrite (s : State) (j : Job) : State :=
  let n := s.selOf j.queue Reg.dspQsel
  match s.qp? n with
  | none => s.deny j Status.invalidInput
  | some q =>
    let c := bitsOf 2 0 (j.merge q.homeCourse)
    if 6 ≤ c then s.deny j Status.invalidInput
    else if !(s.homeCourses q.cfg.part).contains c then s.deny j Status.attrDenied
    else s.bringCtl j [.qcourse n c] []

/-- R96 QCOURSE_WRITE -/
def execQcourseWrite (q i : Nat) (s : State) : Host.Outcome State Fault Refusal := .next (s.cfgRow q i Reg.dspQcourse State.qcourseWrite)

/-- R96: every job already fetched of a queue has completed, and the queue moves to its new course. An entry held back for its
successor keeps its credit in the old course until the fetcher takes it in the new one. -/
def State.qcourseDrained (s : State) (n : Nat) : State :=
  match (s.qp? n).bind (fun q => q.newCourse) with
  | none => s
  | some c =>
    if s.jobs.any (fun j => j.queue == n) ∨ ((s.qp? n).map (fun q => !q.fetches.isEmpty)).getD false then s
    else s.modQp n (fun q => { q with homeCourse := c, newCourse := none,
                                      heldIn := if q.held.isSome ∧ q.heldIn.isNone then some q.homeCourse else q.heldIn })

/-- R96 QCOURSE_DRAINED -/
def execQcourseDrained (q : Nat) (s : State) : Host.Outcome State Fault Refusal := .next (s.qcourseDrained q)

end Sys2Proof.Machine
end

