-- ==== Sys2Proof/Machine/Components.lean ====
section
/-! DEFINITION. The rows of dual-controlled loading (R238 to R240). -/

namespace Sys2Proof.Machine

/-- R240: seconds an open load lives. -/
def loadLife : Nat := 900 * 10 ^ 9

/-- R154, R238: COMPONENT_BEGIN. A USAGE that ALG 0x01 to 0x04 does not take is ATTR_DENIED. -/
def State.componentBegin (s : State) (j : Job) : State :=
  let b := j.input
  let p := byteAt 0 b
  let alg := byteAt 1 b
  let usage := byteAt 2 b
  let attr := byteAt 3 b
  let count := byteAt 10 b
  if !j.manages p then s.deny j Status.attrDenied 0x30
  else if b.length ≠ 32 ∨ (s.part? p).isNone ∨ alg = 0 ∨ 4 < alg ∨ usage < 3 ∨ 8 < usage ∨ 16 ≤ attr ∨
      count < 2 ∨ 3 < count ∨ !zeroAt 11 1 b ∨ !zeroAt 16 16 b then s.deny j Status.invalidInput
  else if bitOf 3 attr ∨ usage = 5 ∨ usage = 6 then s.deny j Status.attrDenied
  else if 8 ≤ s.mgmt.loads.length then s.deny j Status.busy
  else
    let id := (s.mgmt.loadCount + 1) % 2 ^ 32
    let l : CompLoad := { id := id, part := p, alg := alg, usage := usage, attr := BitVec.ofNat 8 attr, domain := byteAt 4 b, parent := leAt 5 5 b,
                          count := count, expect := sub 12 4 b, comps := [], begunAt := s.clock.mono }
    ({ s with mgmt := { s.mgmt with loads := s.mgmt.loads ++ [l], loadCount := id } } : State).done j (okOut (leBytes 4 id ++ zeros 4))

/-- R238 COMPONENT_BEGIN -/
def execComponentBegin (q i : Nat) (s : State) : Host.Outcome State Fault Refusal :=
  .next (s.ctl q i Op.componentBegin State.componentBegin)

/-- The open load a command names. -/
def State.loadOf (s : State) (j : Job) : Option CompLoad := s.mgmt.loads.find? (fun l => l.id == j.desc.pLe 48 4)

/-- R447: the session on a queue. -/
def State.session? (s : State) (q : Nat) : Option MgmtSession := s.mgmt.sessions.find? (fun x => x.queue == q)

/-- R238: COMPONENT_ADD. -/
def State.componentAdd (s : State) (j : Job) : State :=
  match s.session? j.queue with
  | none => s.deny j Status.attrDenied
  | some ses =>
    if ses.ctk = [] then s.deny j Status.attrDenied
    else match s.loadOf j with
      | none => s.deny j Status.invalidInput
      | some l =>
        if l.comps.any (fun c => c.2.1 == ses.actor) then s.deny j Status.attrDenied
        else match openKb 0x02 ses.ctk j.input true with
          | .bad st => s.deny j st
          | .ok _ alg len mat _ =>
            match (parseKb j.input).bind kbComponent with
            | none => s.deny j Status.invalidInput
            | some n =>
              if l.count < n ∨ l.comps.any (fun c => c.1 == n) ∨ alg ≠ l.alg then s.deny j Status.invalidInput
              else
                let add (x : CompLoad) : CompLoad := { x with comps := x.comps ++ [(n, ses.actor, mat)] }
                ({ s with mgmt := { s.mgmt with loads := modWhere (fun x => x.id == l.id) add s.mgmt.loads } } : State).done j
                  (okOut (checkValue alg len mat))

/-- R238 COMPONENT_ADD -/
def execComponentAdd (q i : Nat) (s : State) : Host.Outcome State Fault Refusal :=
  .next (s.ctl q i Op.componentAdd State.componentAdd)

/-- R239: a byte with odd parity in its lowest bit. -/
def oddParity (b : Byte) : Byte :=
  let ones := countOf (fun k => b.getLsbD (k + 1)) (List.range 7)
  if ones % 2 = 0 then b ||| 1 else b &&& 0xFE

/-- R239 step 2: the components combined. -/
def CompLoad.combined (l : CompLoad) : Bytes :=
  let n := (genLen l.alg 0).getD 0
  let x := l.comps.foldl (fun acc c => xorBytes acc (fixLen n c.2.2)) (zeros n)
  if l.alg = 3 ∨ l.alg = 4 then x.map oddParity else x

/-- R239 step 3: a TDES result with two neighbouring halves equal. -/
def weakTdes (alg : Nat) (m : Bytes) : Bool :=
  (alg == 3 || alg == 4) && (m.take 8 == sub 8 8 m || (alg == 4 && sub 8 8 m == sub 16 8 m))

/-- R239, R240: close a load. -/
def State.closeLoad (s : State) (id : Nat) : State :=
  { s with mgmt := { s.mgmt with loads := s.mgmt.loads.filter (fun l => l.id ≠ id) } }

/-- R239: COMPONENT_COMMIT: whether it succeeds or fails, the load is closed. -/
def State.componentCommit (s : State) (j : Job) : State :=
  match s.loadOf j with
  | none => s.deny j Status.invalidInput
  | some l =>
    let m := l.combined
    let len := (genLen l.alg 0).getD 0
    let check := checkValue l.alg len m
    let shut (st dt : Nat) : State := (s.closeLoad l.id).deny j st dt
    if !j.manages l.part then s.deny j Status.attrDenied 0x30
    else match s.keyStoreShut true true with
      | some (st, dt) => shut st dt
      | none =>
        if l.comps.length ≠ l.count ∨ weakTdes l.alg m then shut Status.invalidInput 0
        else if !allZero l.expect ∧ l.expect ≠ check then shut Status.verifyFail 0
        else if !(algUsages l.alg).contains l.usage then shut Status.attrDenied 0
        else
          let k : NewKey := { alg := l.alg, usage := l.usage, attr := l.attr.toNat + 8, domain := l.domain, parent := l.parent, len := len, mat := m }
          match s.makeRec l.part k with
          | .wait => s
          | .bad st dt => if st = Status.quotaExceeded then (s.closeLoad l.id).quotaDeny j else shut st dt
          | .ok h n r s' =>
            match s'.ownKey l.part r with
            | none => shut Status.verifyFail 0
            | some wk =>
              if (openRec wk h r).isNone then shut Status.verifyFail 0
              else (s'.closeLoad l.id).bringCtl j [.keyPut l.part n r true] [keyPageObj l.part n] (okOut (leBytes 8 h ++ check))

/-- R239 COMPONENT_COMMIT -/
def execComponentCommit (q i : Nat) (s : State) : Host.Outcome State Fault Refusal :=
  .next (s.ctl q i Op.componentCommit State.componentCommit)

/-- R240: COMPONENT_LOAD_EXPIRY: 900 s after its COMPONENT_BEGIN a load is lost. -/
def State.componentLoadExpiry (s : State) (load : Nat) : State :=
  match s.mgmt.loads.find? (fun l => l.id == load) with
  | none => s
  | some l => (s.advanceTo (l.begunAt + loadLife)).closeLoad load

/-- R240 COMPONENT_LOAD_EXPIRY -/
def execComponentLoadExpiry (load : Nat) (s : State) : Host.Outcome State Fault Refusal := .next (s.componentLoadExpiry load)

end Sys2Proof.Machine
end

