-- ==== Sys2Proof/Machine/Sessions.lean ====
section
/-! DEFINITION. Actors, sessions and ceremonies (R446 to R450). -/

namespace Sys2Proof.Machine

/-! ### Sessions (R447) -/

/-- R447: SESSION_CHALLENGE: a challenge of PURPOSE 3, a fresh ephemeral P-384 key, and the identity's signatures over both. -/
def State.sessionChallenge (s : State) (j : Job) : State :=
  s.withRandom j 160 (fun s b =>
    let body := s.challengeBytes 3 (b.take 32)
    let eph := Config.keyGen 0x21 0 (sub 32 48 b)
    let msg := body ++ fixLen 97 (Config.publicKey 0x21 eph)
    let sg := identitySign s.guard.identity msg (b.drop 80)
    let c : Challenge := { purpose := 3, slot := s.life.slot, nonce := b.take 32, body := body, ephKey := eph }
    let s : State := { s with mgmt := { s.mgmt with challenges := aput j.queue c s.mgmt.challenges } }
    s.done j (okOut (msg ++ sg.1 ++ sg.2)))

/-- R447 SESSION_CHALLENGE -/
def execSessionChallenge (q i : Nat) (s : State) : Host.Outcome State Fault Refusal :=
  .next (s.ctl q i Op.sessionChallenge State.sessionChallenge)

/-- R447: the component transport key of a custodian's session. -/
def ctkOf (x : Bytes) : Bytes := sha3_256 (ascii "QUILE-CTK-1" ++ fixLen 48 x)

/-- R447: the actor whose keys and signatures a SESSION_OPEN's input carries. -/
def State.openingActor (s : State) (b : Bytes) (c : Challenge) : Option Actor :=
  match s.mgmt.actors.find? (fun a => a.idx == byteAt 0 b) with
  | none => none
  | some a => if sha3_256 (sub 8 2689 b) = a.digest ∧ dualVerify (sub 8 97 b) (sub 105 2592 b) (sha3_512 c.body) (b.drop 2697) then some a else none

/-- R447: the session opens on its queue, in the place of any other there; the challenge is used up. -/
def State.openSession (s : State) (q : Nat) (a : Actor) (ec ctk : Bytes) : State :=
  let s := s.sessionEnds q
  let n : MgmtSession := { queue := q, actor := a.idx, ecKey := ec, ctk := ctk, lastUse := s.clock.mono }
  { s with mgmt := { s.mgmt with sessions := s.mgmt.sessions ++ [n], challenges := adrop q s.mgmt.challenges } }

/-- R447: SESSION_OPEN. -/
def State.sessionOpen (s : State) (j : Job) : State :=
  let b := j.input
  if b.length ≠ 7420 ∨ !zeroAt 1 7 b then s.deny j Status.invalidInput
  else match alook j.queue s.mgmt.challenges with
    | none => s.deny j Status.authFail
    | some c => match s.openingActor b c with
      | none => s.deny j Status.authFail
      | some a =>
        if a.role ≠ 3 then (s.openSession j.queue a (sub 8 97 b) []).done j
        else match ecdhOf 0x21 c.ephKey (sub 8 97 b) with
          | none => s.deny j Status.authFail
          | some x => (s.openSession j.queue a (sub 8 97 b) (ctkOf x)).done j

/-- R447 SESSION_OPEN -/
def execSessionOpen (q i : Nat) (s : State) : Host.Outcome State Fault Refusal := .next (s.ctl q i Op.sessionOpen State.sessionOpen)

/-- R447: SESSION_CLOSE. -/
def State.sessionClose (s : State) (j : Job) : State := (s.sessionEnds j.queue).done j

/-- R447 SESSION_CLOSE -/
def execSessionClose (q i : Nat) (s : State) : Host.Outcome State Fault Refusal := .next (s.ctl q i Op.sessionClose State.sessionClose)

/-- R447: SESSION_IDLE passes without a command on a session's queue. -/
def State.sessionIdle (s : State) (q : Nat) : State :=
  match s.session? q with
  | none => s
  | some x =>
    let s := s.advanceTo (max s.clock.mono (x.lastUse + s.mgmt.sessionIdle * 10 ^ 9))
    (s.sessionEnds q).notice Reg.cfgNotice 4

/-- R447 SESSION_IDLE_EXPIRY -/
def execSessionIdleExpiry (q : Nat) (s : State) : Host.Outcome State Fault Refusal := .next (s.sessionIdle q)

/-! ### Ceremonies (R449) -/

/-- R449: CEREMONY_BEGIN: at most one ceremony is open. -/
def State.ceremonyBegin (s : State) (j : Job) : State :=
  if s.mgmt.ceremony.isSome then s.deny j Status.busy
  else
    let n := (s.mgmt.ceremonies + 1) % 2 ^ 32
    let c : Ceremony := { num := n, queue := j.queue, dual := if bitOf 0 (j.desc.p8 48) then some (j.desc.p8 49) else none, joined := [],
                          begunAt := s.clock.mono }
    ({ s with mgmt := { s.mgmt with ceremony := some c, ceremonies := n } } : State).done j (okOut (leBytes 4 n))

/-- R449 CEREMONY_BEGIN -/
def execCeremonyBegin (q i : Nat) (s : State) : Host.Outcome State Fault Refusal := .next (s.ctl q i Op.ceremonyBegin State.ceremonyBegin)

/-- R449: CEREMONY_JOIN: a custodian's session joins with its SHARE. -/
def State.ceremonyJoin (s : State) (j : Job) : State :=
  match s.mgmt.ceremony, (s.session? j.queue).bind (fun x => s.mgmt.actors.find? (fun a => a.idx == x.actor)) with
  | some c, some a =>
    if c.num ≠ j.desc.pLe 48 4 then s.deny j Status.invalidInput
    else
      let c' := { c with joined := c.joined.filter (fun e => e.1 ≠ j.queue) ++ [(j.queue, a.share)] }
      ({ s with mgmt := { s.mgmt with ceremony := some c' } } : State).done j
  | none, some _ => s.deny j Status.invalidInput
  | _, none => s.deny j Status.attrDenied 0x30

/-- R449 CEREMONY_JOIN -/
def execCeremonyJoin (q i : Nat) (s : State) : Host.Outcome State Fault Refusal := .next (s.ctl q i Op.ceremonyJoin State.ceremonyJoin)

/-- R449: CEREMONY_END. -/
def State.ceremonyEnd (s : State) (j : Job) : State :=
  if s.mgmt.ceremony.isNone then s.deny j Status.invalidInput
  else ({ s with mgmt := { s.mgmt with ceremony := none } } : State).done j

/-- R449 CEREMONY_END -/
def execCeremonyEnd (q i : Nat) (s : State) : Host.Outcome State Fault Refusal := .next (s.ctl q i Op.ceremonyEnd State.ceremonyEnd)

/-- R449: 900 s after it began the ceremony ends. -/
def State.ceremonyExpiry (s : State) : State :=
  match s.mgmt.ceremony with
  | none => s
  | some c =>
    let s := s.advanceTo (max s.clock.mono (c.begunAt + 900 * 10 ^ 9))
    { s with mgmt := { s.mgmt with ceremony := none } }

/-- R449 CEREMONY_EXPIRY -/
def execCeremonyExpiry (s : State) : Host.Outcome State Fault Refusal := .next s.ceremonyExpiry

/-! ### Actors (R446, R450) -/

/-- R450: a change of a device administrator or a custodian needs a ceremony once a custodian is enrolled. -/
def State.needsCeremony (s : State) (role : Nat) : Bool := s.mgmt.actors.any (fun a => a.role == 3) && (role == 1 || role == 3)

/-- R446: the layout of an actor entry. -/
def State.actorForm (s : State) (b : Bytes) : Bool :=
  let role := byteAt 0 b
  b.length == 64 && decide (1 ≤ role) && decide (role ≤ 3) && zeroAt 3 5 b && zeroAt 40 24 b && (role == 2 || byteAt 1 b == 0) &&
    (if role = 3 then decide (1 ≤ byteAt 2 b) && decide (byteAt 2 b ≤ s.mgmt.n) else byteAt 2 b == 0)

/-- Entries on their way to their commit points count as there. -/
def State.actorsComing (s : State) : List Actor :=
  let es := s.commit.waiting ++ s.commit.batches.flatMap (fun b => b.entries)
  s.mgmt.actors ++ (es.flatMap (fun e => e.changes)).filterMap (fun c => match c with | .actorPut a => some a | _ => none)

/-- R450: ACTOR_ENROL. -/
def State.actorEnrol (s : State) (j : Job) : State :=
  let i := j.desc.p8 48
  let a := parseActor i j.input
  let all := s.actorsComing
  if !s.actorForm j.input ∨ 32 ≤ i then s.deny j Status.invalidInput
  else if 32 ≤ (all.map (fun x => x.idx)).dedup.length then s.deny j Status.refusedFull
  else if all.any (fun x => x.idx == i || (a.role == 3 && x.role == 3 && x.share == a.share)) then s.deny j Status.invalidInput
  else if s.needsCeremony a.role ∧ !j.ceremonyOk then s.deny j Status.attrDenied 0x03
  else s.bringCtl j [.actorPut a] []

/-- R450 ACTOR_ENROL -/
def execActorEnrol (q i : Nat) (s : State) : Host.Outcome State Fault Refusal := .next (s.ctl q i Op.actorEnrol State.actorEnrol)

/-- R450: ACTOR_REMOVE. An index that is not occupied is INVALID_INPUT. -/
def State.actorRemove (s : State) (j : Job) : State :=
  match s.mgmt.actors.find? (fun a => a.idx == j.desc.p8 48) with
  | none => s.deny j Status.invalidInput
  | some a =>
    let going (k : Nat) : Bool := s.changesPending (fun c => match c with | .actorDel m => m == k | _ => false)
    if a.role = 1 ∧ s.mgmt.actors.all (fun x => x.role ≠ 1 || x.idx == a.idx || going x.idx) then s.deny j Status.attrDenied
    else if s.needsCeremony a.role ∧ !j.ceremonyOk then s.deny j Status.attrDenied 0x03
    else s.bringCtl j [.actorDel a.idx] []

/-- R450 ACTOR_REMOVE -/
def execActorRemove (q i : Nat) (s : State) : Host.Outcome State Fault Refusal := .next (s.ctl q i Op.actorRemove State.actorRemove)

end Sys2Proof.Machine
end

