-- ==== Sys2Proof/Machine/Firmware.lean ====
section
/-! DEFINITION. Firmware staging and the boot flash (R48, R452, R453, R487). -/

namespace Sys2Proof.Machine

/-- R452: the firmware path holds the staging buffer with an image. -/
def State.staged (s : State) : Option Bytes := if s.mgmt.claim = 1 then s.mgmt.image else none

/-- Set the claim of the staging buffer and what it holds. -/
def State.setClaim (s : State) (n : Nat) (img : Option Bytes) : State := { s with mgmt := { s.mgmt with claim := n, image := img } }

/-- R452, R453: FW_STAGE: an image is read into the claimed buffer and checked; DETAIL carries its SVN. A second FW_STAGE meets the
first one's claim. -/
def State.fwStage (s : State) (j : Job) : State :=
  let r := imageReason s.life j.input
  if s.mgmt.claim ≠ 0 then s.deny j Status.busy
  else if j.input.length < 256 ∨ 2 ^ 24 < j.input.length then s.deny j Status.invalidInput
  else if r ≠ 0 then s.deny j Status.authFail r
  else (s.setClaim 1 (some j.input)).done j { detail := byteAt 12 j.input }

/-- R453 FW_STAGE -/
def execFwStage (q i : Nat) (s : State) : Host.Outcome State Fault Refusal := .next (s.ctl q i Op.fwStage State.fwStage)

/-- R453, R487: FW_WRITE_BANK: the staged image is being written. One write of the flash runs at a time (notes/assumptions/50.md). -/
def State.fwWriteBank (s : State) (j : Job) : State :=
  let n := j.desc.p8 48
  match s.staged with
  | none => s.deny j Status.invalidInput
  | some img =>
    if 1 < n then s.deny j Status.invalidInput
    else if s.life.bank = n ∧ !s.life.fromCard then s.deny j Status.attrDenied
    else if s.io.flash.writing.isSome then s.deny j Status.busy
    else (({ s with io := { s.io with flash := { s.io.flash with writing := some (j.id, n, img) } } } : State).block j)

/-- R453 FW_WRITE_BANK -/
def execFwWriteBank (q i : Nat) (s : State) : Host.Outcome State Fault Refusal := .next (s.ctl q i Op.fwWriteBank State.fwWriteBank)

/-- R48, R453, R487: what a finished write leaves: a bank's image; or the two bootstrap copies, one after the other. -/
def Flash.put (f : Flash) (what : Nat) (b : Bytes) : Flash :=
  match what with
  | 0 => { f with bankA := b }
  | 1 => { f with bankB := b }
  | _ => { f with boot0 := b, boot1 := b }

/-- R453, R487: the write has ended and been read back. A write that does not verify completes with ENGINE_FAULT, and leaves the bank
with bytes that are free values (notes/assumptions/50.md). -/
def State.flashDone (s : State) (verified : Bool) : State :=
  match s.io.flash.writing with
  | none => s
  | some (id, what, b) =>
    let (junk, s) := if verified then (b, s) else s.draw b.length
    let f := { (s.io.flash.put what junk) with writing := none }
    let s : State := { s with io := { s.io with flash := f } }
    let s := if verified then s.notice Reg.lioNotice 2 else s
    match s.job? id with
    | none => s
    | some j => if verified then s.done j else s.deny j Status.engineFault

/-- R453 FLASH_WRITE_DONE -/
def execFlashWriteDone (verified : Bool) (s : State) : Host.Outcome State Fault Refusal := .next (s.flashDone verified)

/-- R453: FW_ACTIVATE: a live control restart onto the staged image. -/
def State.fwActivate (s : State) (j : Job) : State := if s.staged.isNone then s.deny j Status.invalidInput else s.restartBegin j

/-- R453 FW_ACTIVATE -/
def execFwActivate (q i : Nat) (s : State) : Host.Outcome State Fault Refusal := .next (s.ctl q i Op.fwActivate State.fwActivate)

/-- R453: FW_RELEASE. -/
def State.fwRelease (s : State) (j : Job) : State :=
  if s.staged.isNone then s.deny j Status.invalidInput else (s.setClaim 0 none).done j

/-- R453 FW_RELEASE -/
def execFwRelease (q i : Nat) (s : State) : Host.Outcome State Fault Refusal := .next (s.ctl q i Op.fwRelease State.fwRelease)

end Sys2Proof.Machine
end

