-- ==== Sys2Proof/Machine/Recorder.lean ====
section
/-! DEFINITION. The event recorder's rows (R463 to R468): the end of a flood, delivery by SEND, the event queues and the
rewind marks. -/

namespace Sys2Proof.Machine

/-- R463: a bucket is full again: a SUPPRESSED record of the code's severity carries the count, which is cleared. -/
def State.floodEnd (s : State) (ring code : Nat) : State :=
  let isB (b : Bucket) : Bool := b.ring == ring && b.code == code
  match s.log.buckets.find? isB with
  | none => s
  | some b =>
    let rate := s.fld Reg.evrFlood 15 0
    let full := s.fld Reg.evrFlood 31 16 * 10 ^ 9
    if b.held = 0 then s
    else
      let s := s.advanceTo (b.at_ + ceilDiv (full - b.tokens) (max 1 rate))
      let clear (x : Bucket) : Bucket := { x with tokens := full, at_ := s.clock.mono, held := 0 }
      let s : State := { s with log := { s.log with buckets := modWhere isB clear s.log.buckets } }
      s.writeRec ring b.last.sev 0x0C01 b.last.part b.last.island (leBytes 2 code ++ zeros 2 ++ leBytes 4 b.held)

/-- R463 FLOOD_END -/
def execFloodEnd (ring code : Nat) (s : State) : Host.Outcome State Fault Refusal := .next (s.floodEnd ring code)

/-- R465: the records of a ring that wait for delivery. -/
def Ring.waiting (r : Ring) : List Event := r.recs.filter (fun e => decide (max r.next r.reader ≤ e.seq))

/-- R463, R468: the GAP records that precede a ring record. -/
def Ring.gaps (r : Ring) (now seq : Nat) : List Event :=
  let one (n : Nat) : List Event :=
    if n = 0 then []
    else [{ seq := seq, sev := 5, time := now, code := 0x0C02, part := ringPart r.num, island := 48, payload := leBytes 8 n }]
  one r.rewindGap ++ one r.gap

/-- R72, R465: what a SEND of records carries: on a sealed queue ciphertext and tag, KIND 0x83, at the ring's event sequence. -/
def Qp.eventData (q : Qp) (evSeq : Nat) (b : Bytes) : Bytes :=
  match q.session, q.state == 3 with
  | some k, true => let (ct, tag) := aeadSeal 0x04 k.toHost (sealNonce evSeq q.cfg.queue 0x83) [] b
                    ct ++ tag
  | _, _ => b

/-- R463, R465: a SEND of up to 128 records, GAP records first. Several fetches of one ring never overlap: what it sends is no
longer waiting. -/
def State.eventSend (s : State) (ring : Nat) : State :=
  match s.ring? ring with
  | none => s
  | some r => match r.queue.bind (fun n => s.qp? n), r.waiting with
    | some q, e :: _ =>
      if q.state ≠ 1 ∧ q.state ≠ 3 then s
      else
        let due := (r.waitSince.getD s.clock.mono) + 20000
        let s := if 128 ≤ r.waiting.length then s else s.advanceTo due
        let gaps := r.gaps s.clock.secure e.seq
        let now := r.waiting.take (128 - gaps.length)
        let last := (now.getLast?.map (fun x => x.seq)).getD e.seq
        let rest : Bool := r.waiting.any (fun x => decide (last < x.seq))
        let b := (gaps ++ now).flatMap eventBytes
        let upd (x : Ring) : Ring :=
          { x with next := last + 1, gap := 0, rewindGap := 0, evSeq := x.evSeq + 1, waitSince := if rest then x.waitSince else none }
        let data := q.eventData r.evSeq b
        (s.modRing ring upd).issue q.cfg.queue .send 0 0 data.length data last
    | _, _ => s

/-- R465 EVENT_SEND_TIMER -/
def execEventSendTimer (ring : Nat) (s : State) : Host.Outcome State Fault Refusal := .next (s.eventSend ring)

/-- A SEND still outstanding on a queue no longer marks records of a ring as read when it is acknowledged: the reader has moved. -/
def State.voidSends (s : State) (q : Nat) : State :=
  s.modQp q (fun x => { x with reqs := x.reqs.map (fun r => if r.kind = .send then { r with rkey := 1 } else r) })

/-- R464: the ring whose event queue a queue is. -/
def State.ringOf (s : State) (q : Nat) : Option Ring := s.log.rings.find? (fun r => r.queue == some q)

/-- R464: a queue becomes a ring's event queue. The reader is kept, and starts at the oldest record. -/
def State.attachRing (s : State) (q ring : Nat) : State :=
  let off (r : Ring) : Ring := if r.queue = some q then { r with queue := none, next := r.reader } else r
  let on (r : Ring) : Ring :=
    let first := match r.recs with | e :: _ => max r.reader e.seq | [] => max r.reader r.nextSeq
    let r := { r with queue := some q, reader := first, next := first, evSeq := 0 }
    { r with waitSince := if r.waiting.isEmpty then none else some s.clock.mono }
  let old := (s.ring? ring).bind (fun r => r.queue)
  let s : State := { s with log := { s.log with rings := s.log.rings.map off } }
  let s := (match old with | some n => s.voidSends n | none => s).voidSends q
  (s.modRing ring on).ringLevel ring

/-- R464: the ring an `EVQ_ATTACH` names. -/
def evqRing (j : Job) : Nat :=
  match j.desc.p8 48 with
  | 0 => j.part
  | 1 => 256
  | _ => 257

/-- R464: EVQ_ATTACH. -/
def State.evqAttach (s : State) (j : Job) : State :=
  let k := j.desc.p8 48
  if 2 < k then s.answer j (fail Status.invalidInput)
  else if k ≠ 0 ∧ j.part ≠ 0 then s.answer j (fail Status.attrDenied)
  else (s.attachRing j.queue (evqRing j)).answer j (okOut [])

/-- R464 EVQ_ATTACH -/
def execEvqAttach (t : Nat) (s : State) : Host.Outcome State Fault Refusal := .next (s.onTile t Op.evqAttach State.evqAttach)

/-- R467: the mark is set on the next record to be delivered. -/
def Ring.setMark (r : Ring) : Ring × Nat :=
  let seq := match r.waiting with | e :: _ => e.seq | [] => r.nextSeq
  ({ r with mark := some seq, markValid := true }, seq)

/-- R467: EVQ_MARK. -/
def State.evqMark (s : State) (j : Job) : State :=
  match s.ringOf j.queue with
  | none => s.answer j (fail Status.invalidInput)
  | some r => (s.modRing r.num (fun _ => r.setMark.1)).answer j (okOut (leBytes 8 r.setMark.2))

/-- R467 EVQ_MARK -/
def execEvqMark (t : Nat) (s : State) : Host.Outcome State Fault Refusal := .next (s.onTile t Op.evqMark State.evqMark)

/-- R468: the reader goes to a record, and delivery goes on from there. -/
def Ring.rewindTo (r : Ring) (seq now : Nat) : Ring :=
  let r := { r with reader := seq, next := seq }
  { r with waitSince := if r.waiting.isEmpty then none else some now }

/-- R468: with the mark invalid, the reader goes to the oldest surviving record; a GAP counts the records from the mark's SEQ up to
the first surviving one at or above it. -/
def Ring.markLost (r : Ring) (mark now : Nat) : Ring :=
  let oldest := match r.recs with | e :: _ => e.seq | [] => r.nextSeq
  let above := match r.recs.find? (fun e => decide (mark ≤ e.seq)) with | some e => e.seq | none => r.nextSeq
  { (r.rewindTo oldest now) with rewindGap := above - mark, mark := none, markValid := false }

/-- R11, R466, R468: EVQ_REWIND, which changes the ring's level. -/
def State.evqRewind (s : State) (j : Job) : State :=
  match s.ringOf j.queue with
  | none => s.answer j (fail Status.invalidInput)
  | some r => match r.mark with
    | none => s.answer j (fail Status.invalidInput)
    | some m =>
      let s := s.voidSends j.queue
      if r.markValid then ((s.modRing r.num (fun r => r.rewindTo m s.clock.mono)).ringLevel r.num).answer j (okOut [])
      else
        let s := (s.modRing r.num (fun r => r.markLost m s.clock.mono)).ringLevel r.num
        (s.notice Reg.evrNotice 3).answer j (fail Status.markLost)

/-- R468 EVQ_REWIND -/
def execEvqRewind (t : Nat) (s : State) : Host.Outcome State Fault Refusal := .next (s.onTile t Op.evqRewind State.evqRewind)

end Sys2Proof.Machine
end

