-- ==== Sys2Proof/Machine/Cards.lean ====
section
/-! DEFINITION. The card ports and the card commands (R471 to R486, R500), and the bootstrap record (R485). -/

namespace Sys2Proof.Machine

/-- A card port. -/
def State.card (s : State) (n : Nat) : CardPort := (s.io.ports.find? (fun p => p.num == n)).getD { num := n, state := 6 }

/-- Change one card port. -/
def State.modCard (s : State) (n : Nat) (f : CardPort → CardPort) : State :=
  { s with io := { s.io with ports := modWhere (fun p => p.num == n) f s.io.ports } }

/-- A field of a port's CFG register. -/
def State.cardCfg (s : State) (n hi lo : Nat) : Nat := s.fld (Reg.crdPort0Cfg + 4 * n) hi lo

/-- R493: a port becomes FAILED with a REASON, and is not driven. -/
def State.cardFailed (s : State) (n reason : Nat) : State :=
  (s.modCard n (fun p => { p with state := 5, reason := reason, power := false, step := 0 })).notice Reg.crdNotice 3

/-! ### Bringing a card into service (R472, R473) -/

/-- R472: CARD_DET has been low for 1 ms: the card is powered, and its reset released after 10 ms. -/
def State.cardDetect (s : State) (n : Nat) : State :=
  if (s.card n).state ≠ 0 ∨ s.power.mode = .vault then s
  else
    let s := s.advanceTo (s.clock.mono + 10 * 10 ^ 6)
    (s.modCard n (fun p => { num := p.num, state := 1, power := true })).notice Reg.crdNotice 0

/-- R472 CARD_DETECT -/
def execCardDetect (n : Nat) (s : State) : Host.Outcome State Fault Refusal := .next (s.cardDetect n)

/-- R472: a CMD1, sent every 10 ms. A card not ready 1 s after the first leaves its port FAILED with reason 1. -/
def State.cardPoll (s : State) (n : Nat) (ready : Bool) : State :=
  let p := s.card n
  if p.state ≠ 1 ∨ p.step ≠ 0 then s
  else
    let s := if p.polls = 0 then s else s.advanceTo (s.clock.mono + 10 * 10 ^ 6)
    let s := s.modCard n (fun p => { p with polls := p.polls + 1, trailing := 8, step := if ready then 1 else 0 })
    if !ready ∧ 100 ≤ p.polls then s.cardFailed n 1 else s

/-- R472 CARD_CMD1_POLL -/
def execCardCmd1Poll (n : Nat) (ready : Bool) (s : State) : Host.Outcome State Fault Refusal := .next (s.cardPoll n ready)

/-- R473: the widest run of passing taps: its first tap and length; of two as wide the lower. -/
def widestRun (ok : List Nat) : Nat × Nat :=
  let runAt (a : Nat) : Nat := ((List.range 64).map (· + a)).takeWhile (fun t => decide (t < 64) && ok.contains t) |>.length
  (List.range 64).foldl (fun (b : Nat × Nat) a => if b.2 < runAt a then (a, runAt a) else b) (0, 0)

/-- R473: the sampling tap, when the widest run has at least 8 taps. -/
def tunedTap (info : CardInfo) : Option Nat :=
  let r := widestRun info.okTaps
  if r.2 < 8 then none else some (r.1 + (r.2 - 1) / 2)

/-- R473: the choices tried in turn until one switches; the Bool is whether a step down was taken. -/
def stepDown (works : Nat → Bool) : List Nat → Option (Nat × Bool)
  | [] => none
  | c :: rest => if works c then some (c, false) else (stepDown works rest).map (fun r => (r.1, true))

/-- R472 step 6: the widths that MAX_WIDTH allows, the widest first. -/
def State.cardWidths (s : State) (n : Nat) : List Nat := [8, 4, 1].drop (2 - min 2 (s.cardCfg n 4 3))

/-- R471, R472 step 7: the modes that MAX_MODE, the port, its signalling and the width allow, the highest first. -/
def State.cardModes (s : State) (n width : Nat) : List Nat :=
  [2, 1, 0].filter (fun m => decide (m ≤ s.cardCfg n 2 1) && (m != 2 || (decide (n < 2) && s.cardCfg n 5 5 == 1 && width != 1)))

/-- R472 steps 6 to 8, R473: width, mode and tuning; a card that no choice of the table suits leaves its port FAILED. -/
def State.cardSwitch (s : State) (n : Nat) (info : CardInfo) : State :=
  match stepDown (fun w => info.okWidths.contains w) (s.cardWidths n) with
  | none => s.cardFailed n 3
  | some (w, fellW) =>
    let works (m : Nat) : Bool := info.okModes.contains m && (m != 2 || (tunedTap info).isSome)
    match stepDown works (s.cardModes n w) with
    | none => s.cardFailed n 3
    | some (m, fellM) =>
      let width := if w = 8 then 2 else if w = 4 then 1 else 0
      let tap := if m = 2 then (tunedTap info).getD 0 else 0
      let s := s.modCard n (fun p => { p with state := 2, reason := 0, mode := m, width := width, tap := tap, step := 0 })
      if fellW ∨ fellM then s.notice Reg.crdNotice 4 else s

/-- R472 steps 3 to 8, R500: a card that has reported ready is identified, selected, switched and tuned. `mv` is what the port's
card I/O supply reads. -/
def State.cardIdentify (s : State) (n : Nat) (info : CardInfo) (mv : Nat) : State :=
  let p := s.card n
  let v18 := s.cardCfg n 5 5 == 1
  if p.state ≠ 1 ∨ p.step ≠ 1 then s
  else if (v18 ∧ 2500 < mv) ∨ (!v18 ∧ mv < 2500) then s.cardFailed n 3
  else
    let s := s.modCard n (fun p => { p with card := some info, trailing := 8 })
    if info.byteMode then s.cardFailed n 2
    else if info.locked then s.modCard n (fun p => { p with state := 3, step := 0 })
    else s.cardSwitch n info

/-- R472 CARD_IDENTIFY -/
def execCardIdentify (n : Nat) (info : CardInfo) (mv : Nat) (s : State) : Host.Outcome State Fault Refusal :=
  .next (s.cardIdentify n info mv)

/-! ### A command on a port (R474, R475, R482) -/

/-- R476, R477, R479: the phases of a card command in order: 1 command, 2 data, 3 busy. -/
def cardPhases (op : Nat) : List Nat :=
  if op = Op.cardWrite then [1, 2, 3, 1, 1, 2, 3, 1, 1, 2]
  else if op = Op.cardLock ∨ op = Op.cardUnlock then [1, 1, 2, 3, 1]
  else if op = Op.cardForceErase then [1, 1, 2, 3]
  else [1, 2]

/-- R482: a command begins on a port. -/
def State.cardBegin (s : State) (n : Nat) (j : Job) (w : Option CardCopy) : State :=
  (s.modCard n (fun p => { p with state := 4, cmd := some j.id, cmdOp := j.desc.opcode, step := 0, phase := 1, retries := 0,
                                  copy := (w.map (fun c => c.copy)).getD 0, writing := w })).block j

/-- The port once its command has ended: in the state given, or OFF when it is no longer enabled. -/
def State.cardFree (s : State) (n st : Nat) : State :=
  let off := s.cardCfg n 0 0 = 0
  s.modCard n (fun p =>
    if off then { num := p.num, state := 6, card := p.card }
    else { p with cmd := none, cmdOp := 0, phase := 0, step := 0, copy := 0, writing := none, retries := 0, trailing := 8, state := st })

/-- R484: the claim of a KIND 3 write ends with it. -/
def State.cardClaimEnds (s : State) (p : CardPort) : State :=
  if (p.writing.map (fun w => w.kind)) = some 3 ∧ s.mgmt.claim = 2 then s.setClaim 0 none else s

/-- A card command completes. -/
def State.cardEnd (s : State) (n : Nat) (p : CardPort) (r : Result) (st : Nat) : State :=
  let s := (s.cardClaimEnds p).cardFree n st
  match p.cmd.bind (fun id => s.job? id) with
  | some j => s.done j r
  | none => s

/-- Put a copy on a port's card. -/
def CardPort.putCopy (p : CardPort) (w : CardCopy) : CardPort :=
  { p with card := p.card.map (fun c => { c with copies := c.copies.filter (fun x => x.copy ≠ w.copy) ++ [w] }) }

/-- R479, R486: what a write that stops before its end leaves in the copy it writes: what was there, until its payload begins;
the new copy or one that fails its checks, once the header is being written; else one that fails its checks. -/
def State.cardBroken (s : State) (n : Nat) (p : CardPort) : State :=
  match p.writing with
  | none => s
  | some w =>
    if p.step = 0 then s
    else
      let (b, s) := s.draw 1
      let whole : Bool := decide (4 < p.step) && (b.getD 0 0).getLsbD 0
      s.modCard n (fun x => x.putCopy { w with good := whole })

/-- R475: the command completes with CARD_FAULT. -/
def State.cardFault (s : State) (n : Nat) : State :=
  let p := s.card n
  let back := if p.cmdOp = Op.cardUnlock then 3 else 2
  (((s.cardBroken n p).notice Reg.crdNotice 5).cardEnd n p (fail Status.cardFault) back)

/-- R476: what a lock or an unlock that the card carried out leaves. -/
def State.cardLocked (s : State) (n : Nat) (p : CardPort) : State :=
  let lock : Bool := p.cmdOp == Op.cardLock
  let upd (x : CardPort) : CardPort :=
    { x with card := x.card.map (fun c => { c with locked := lock, hasPwd := if lock then true else c.hasPwd }) }
  let s := (s.modCard n upd).cardEnd n p {} (if lock then 3 else 2)
  match (s.card n).card, lock with
  | some c, false => if (s.card n).state = 2 then s.cardSwitch n c else s
  | _, _ => s

/-- R477: the erased card holds no copy and no password. -/
def State.cardErased (s : State) (n : Nat) (p : CardPort) : State :=
  let upd (x : CardPort) : CardPort := { x with card := x.card.map (fun c => { c with locked := false, hasPwd := false, copies := [] }) }
  let s := (s.modCard n upd).cardEnd n p {} 2
  match (s.card n).card with
  | some c => if (s.card n).state = 2 then s.cardSwitch n c else s
  | none => s

/-- R266, R482: a share of TO_GEN read back raises SHARES once for each distinct SHARE. -/
def State.shareSeen (s : State) (w : CardCopy) : State :=
  let c := s.vault.campaign
  let gens := (shareEntries w.payload).filter (fun e => byteAt 0 e == 2 && leAt 4 2 e == c.toGen)
  let new := ((gens.map (fun e => byteAt 1 e)).filter (fun k => !c.sharesSeen.contains k)).dedup
  if w.kind ≠ 1 ∨ c.state = 0 ∨ c.toGen = 0 ∨ c.toGen = c.fromGen then s
  else { s with vault := { s.vault with campaign := { c with sharesSeen := c.sharesSeen ++ new } } }

/-- R479, R482: the read-back has passed: the new copy is the last good one, and DETAIL holds its SEQ. -/
def State.cardWritten (s : State) (n : Nat) (p : CardPort) : State :=
  match p.writing with
  | none => s
  | some w => ((s.modCard n (fun x => x.putCopy w)).shareSeen w).cardEnd n p { detail := w.seq % 2 ^ 32 } 2

/-! ### Shares (R480 to R482) -/

/-- The shares of one secret that a ceremony holds, one for each SHARE. -/
def addShare (l : List (Nat × Bytes)) (x : Nat) (b : Bytes) : List (Nat × Bytes) := if l.any (fun e => e.1 == x) then l else l ++ [(x, b)]

/-- R482: a generation secret rebuilt from the M shares a ceremony holds of it. -/
def Ceremony.genSecret (c : Ceremony) (m g : Nat) : Option Bytes :=
  let l := (c.genShares.filter (fun e => e.1 == g)).map (fun e => e.2)
  if m ≤ l.length then some (joinShares 32 (l.take m)) else none

/-- R482: a generation secret whose M shares are held is rebuilt once. -/
def Ceremony.rebuild (c : Ceremony) (m g : Nat) : Ceremony :=
  match alook g c.rebuilt, c.genSecret m g with
  | none, some b => { c with rebuilt := c.rebuilt ++ [(g, b)] }
  | _, _ => c

/-- R482: one opened entry joins the ceremony's shares; with M of the estate custody key, or of a generation secret, it is rebuilt. -/
def Ceremony.take (c : Ceremony) (m : Nat) (entry share : Bytes) : Ceremony :=
  let x := byteAt 1 entry
  if byteAt 0 entry = 1 then
    let l := addShare c.shares x share
    { c with shares := l, estateKey := if c.estateKey.isNone ∧ m ≤ l.length then some (joinShares 32 (l.take m)) else c.estateKey }
  else
    let g := leAt 4 2 entry
    if c.genShares.any (fun e => e.1 == g && e.2.1 == x) then c else Ceremony.rebuild { c with genShares := c.genShares ++ [(g, x, share)] } m g

/-- R480, R482: the entries of a share set opened for one SHARE: none when a tag fails. -/
def openShares (ss payload : Bytes) (share : Nat) : Option (List (Bytes × Bytes)) :=
  let mine := ((shareEntries payload).zipIdx).filter (fun e => byteAt 1 e.1 == share)
  mine.foldr (fun e acc =>
    match aeadOpen 0x04 (shareKey ss) (shareNonce e.2) (e.1.take 16) (sub 16 32 e.1) (sub 48 16 e.1), acc with
    | some pt, some l => some ((e.1, pt) :: l)
    | _, _ => none) (some [])

/-- The open session of an actor that has joined the ceremony. -/
def State.joinedSession (s : State) (c : Ceremony) (actor : Nat) : Option MgmtSession :=
  s.mgmt.sessions.find? (fun x => x.actor == actor && c.joined.any (fun e => e.1 == x.queue))

/-- R482: the port's share set has been read: the ACTOR's entries are opened. -/
def State.sharesRead (s : State) (n : Nat) (p : CardPort) (j : Job) : State :=
  let actor := j.desc.p8 49
  match s.mgmt.ceremony, s.mgmt.actors.find? (fun a => a.idx == actor) with
  | some c, some a => match s.joinedSession c actor with
    | none => s.cardEnd n p (fail Status.attrDenied 0x03) 2
    | some ses =>
      let b := j.input
      match aeadOpen 0x04 ses.ctk (b.take 12) [] (sub 12 48 b) (sub 60 16 b), p.card.bind (fun x => x.lastGood) with
      | some ss, some w => match openShares ss w.payload a.share with
        | none => s.cardEnd n p (fail Status.authFail) 2
        | some l =>
          let c' := l.foldl (fun c e => Ceremony.take c s.mgmt.m e.1 e.2) c
          let s : State := { s with mgmt := { s.mgmt with ceremony := some c' } }
          s.cardEnd n p { detail := c'.shares.length } 2
      | _, _ => s.cardEnd n p (fail Status.authFail) 2
  | _, _ => s.cardEnd n p (fail Status.attrDenied 0x03) 2

/-! ### What cards answer (R475) -/

/-- The last phase of a port's command has ended. -/
def State.cardDone (s : State) (n : Nat) (p : CardPort) : State :=
  if p.cmdOp = Op.cardWrite then s.cardWritten n p
  else if p.cmdOp = Op.cardForceErase then s.cardErased n p
  else if p.cmdOp = Op.cardShareOpen then
    (match p.cmd.bind (fun id => s.job? id) with
     | some j => s.sharesRead n p j
     | none => s.cardFree n 2)
  else s.cardLocked n p

/-- R473, R475: a CRC error is retried up to 3 times, after a new tuning in HS200; the next one is a CARD_FAULT. -/
def State.cardCrc (s : State) (n : Nat) : State :=
  let p := s.card n
  if 3 ≤ p.retries then s.cardFault n
  else
    let s := s.modCard n (fun x => { x with retries := x.retries + 1, trailing := 8 })
    if p.mode ≠ 2 ∨ p.phase ≠ 2 then s
    else match p.card.bind tunedTap with
      | some t => s.modCard n (fun x => { x with tap := t })
      | none => (s.modCard n (fun x => { x with mode := 1, tap := 0 })).notice Reg.crdNotice 4

/-- R475 to R479: a response or a busy phase of a port's command ends. A lock the card refuses completes with AUTH_FAIL; a read-back that
fails completes with CARD_FAULT (notes/assumptions/51.md). -/
def State.cardResponse (s : State) (n : Nat) (a : CardAnswer) : State :=
  let p := s.card n
  let phases := cardPhases p.cmdOp
  let last : Bool := decide (phases.length ≤ p.step + 1)
  if p.cmd.isNone ∨ p.state ≠ 4 then s
  else match a with
    | .crcError => s.cardCrc n
    | .switchError => s
    | .lockFailed =>
      if (p.cmdOp = Op.cardLock ∨ p.cmdOp = Op.cardUnlock) ∧ last then
        s.cardEnd n p (fail Status.authFail) (if p.cmdOp = Op.cardUnlock then 3 else 2)
      else s
    | .verifyBad => if p.cmdOp = Op.cardWrite ∧ last then s.cardFault n else s
    | .phaseDone =>
      if last then s.cardDone n p
      else s.modCard n (fun x => { x with step := x.step + 1, phase := phases.getD (x.step + 1) 1, retries := 0, trailing := 8 })

/-- R475 CARD_RESPONSE -/
def execCardResponse (n : Nat) (a : CardAnswer) (s : State) : Host.Outcome State Fault Refusal := .next (s.cardResponse n a)

/-- R475, R477: a busy phase lasts too long: 250 ms for a write block, the EXT_CSD timeout for an erase. -/
def State.cardBusy (s : State) (n : Nat) : State := if (s.card n).cmd.isSome ∧ (s.card n).phase = 3 then s.cardFault n else s

/-- R475 CARD_BUSY_TIMEOUT -/
def execCardBusyTimeout (n : Nat) (s : State) : Host.Outcome State Fault Refusal := .next (s.cardBusy n)

/-- R486: CARD_DET rises: a running command completes with CARD_REMOVED, and the card's supply is dropped. -/
def State.cardRemove (s : State) (n : Nat) : State :=
  let p := s.card n
  let gone (x : CardPort) : CardPort := { num := x.num, state := if x.state = 6 then 6 else 0, trailing := 8 }
  if p.state = 0 then s
  else
    let s := s.notice Reg.crdNotice 1
    let s := if p.cmd.isNone then s
             else (s.notice Reg.crdNotice 2).cardEnd n p { status := Status.cardRemoved, detail := p.phase + 2 ^ 8 * p.copy } 0
    s.modCard n gone

/-- R486 CARD_REMOVE -/
def execCardRemove (n : Nat) (s : State) : Host.Outcome State Fault Refusal := .next (s.cardRemove n)

/-! ### The card commands (R476, R477, R479, R482, R483) -/

/-- R489: whether the write-protect pin of a port is high: its pin's level is a free value. -/
def State.cardProtected (s : State) (n : Nat) : Bool × State :=
  if s.tabs.pins.contains (8 + n) then
    let (b, s) := s.draw 1
    ((b.getD 0 0).getLsbD 0, s)
  else (false, s)

/-- R482: what every card command checks first. -/
def State.onCard (s : State) (j : Job) (f : State → Nat → CardPort → State) : State :=
  let n := j.desc.p8 48
  if 3 < n then s.deny j Status.invalidInput
  else if (s.card n).cmd.isSome then s.deny j Status.busy
  else f s n (s.card n)

/-- R483: the output of `CARD_QUERY`. -/
def cardRecord (p : CardPort) : Bytes :=
  let width := if p.width = 2 then 8 else if p.width = 1 then 4 else 1
  let head := leBytes 1 p.state ++ leBytes 1 p.reason ++ leBytes 1 p.mode ++ leBytes 1 width
  let info := p.card.map (fun c => fixLen 16 c.cid ++ leBytes 4 c.secCount)
  let copy := match p.card.bind (fun c => c.lastGood) with
    | none => leBytes 1 0xFF ++ zeros 135
    | some w =>
      let e := if w.kind = 1 then fixLen 97 w.payload else zeros 97
      leBytes 1 w.copy ++ leBytes 1 w.kind ++ zeros 6 ++ leBytes 8 w.seq ++ leBytes 8 w.writtenAt ++ e ++ zeros 15
  head ++ info.getD (zeros 20) ++ copy

/-- R483: CARD_QUERY. -/
def State.cardQuery (s : State) (j : Job) : State := s.onCard j (fun s _ p => s.done j (okOut (cardRecord p)))

/-- R483 CARD_QUERY -/
def execCardQuery (q i : Nat) (s : State) : Host.Outcome State Fault Refusal := .next (s.ctl q i Op.cardQuery State.cardQuery)

/-- R476: the password in a command's input. -/
def passwordOk (b : Bytes) : Bool := decide (1 ≤ byteAt 0 b) && decide (byteAt 0 b ≤ 16) && b.length == 1 + byteAt 0 b

/-- R476: CARD_LOCK. A card that is not READY answers ATTR_DENIED (notes/assumptions/51.md). -/
def State.cardLock (s : State) (j : Job) : State :=
  s.onCard j (fun s n p =>
    let (wp, s) := s.cardProtected n
    if !passwordOk j.input then s.deny j Status.invalidInput
    else if wp then s.deny j Status.attrDenied 0x04
    else if p.state ≠ 2 ∨ ((p.card.map (fun c => c.hasPwd)).getD false) then s.deny j Status.attrDenied
    else s.cardBegin n j none)

/-- R476 CARD_LOCK -/
def execCardLock (q i : Nat) (s : State) : Host.Outcome State Fault Refusal := .next (s.ctl q i Op.cardLock State.cardLock)

/-- R476: CARD_UNLOCK. -/
def State.cardUnlock (s : State) (j : Job) : State :=
  s.onCard j (fun s n p =>
    if !passwordOk j.input then s.deny j Status.invalidInput
    else if p.state ≠ 3 then s.deny j Status.attrDenied
    else s.cardBegin n j none)

/-- R476 CARD_UNLOCK -/
def execCardUnlock (q i : Nat) (s : State) : Host.Outcome State Fault Refusal := .next (s.ctl q i Op.cardUnlock State.cardUnlock)

/-- R477: CARD_FORCE_ERASE. -/
def State.cardForceErase (s : State) (j : Job) : State :=
  s.onCard j (fun s n p =>
    let (wp, s) := s.cardProtected n
    if wp then s.deny j Status.attrDenied 0x04
    else if !j.ceremonyOk then s.deny j Status.attrDenied 0x03
    else if p.state ≠ 2 ∧ p.state ≠ 3 then s.deny j Status.attrDenied
    else s.cardBegin n j none)

/-- R477 CARD_FORCE_ERASE -/
def execCardForceErase (q i : Nat) (s : State) : Host.Outcome State Fault Refusal :=
  .next (s.ctl q i Op.cardForceErase State.cardForceErase)

/-- R479: the copy a `CARD_WRITE` writes, with SEQ one above that of the last good copy. -/
def State.newCopy (s : State) (c : CardInfo) (kind : Nat) (payload : Bytes) : CardCopy :=
  { copy := match c.lastGood with | some w => 1 - w.copy | none => 0, good := true, kind := kind,
    seq := ((c.lastGood.map (fun w => w.seq)).getD 0) + 1, pairId := (s.pairing.map (fun p => p.pairId)).getD 0, writtenAt := s.now,
    payload := payload }

/-- R480 to R482: the share set for one custodian: its SHARE of the estate custody key and of each generation secret, sealed to its
P-384 key. -/
def State.shareSetFor (s : State) (key : Bytes) (x : Nat) (ec rnd : Bytes) : Option Bytes :=
  let eph := Config.keyGen 0x21 0 rnd
  let m := s.mgmt.m
  let heads := (shareHead 1 x m s.mgmt.n 0, splitShare m x key) ::
    s.vaultItems.gens.map (fun g => (shareHead 2 x m s.mgmt.n g.1, splitShare m x g.2))
  (ecdhOf 0x21 eph ec).map (fun z =>
    shareSet (Config.publicKey 0x21 eph) ((heads.zipIdx).map (fun e => sealShare (fixLen 48 z) e.2 e.1.1 e.1.2)))

/-- R482: a KIND 1 or KIND 2 payload is made within the ceremony that holds the estate custody key. -/
def State.cardSealed (s : State) (j : Job) (n kind : Nat) (c : CardInfo) : State :=
  let key := (s.mgmt.ceremony.bind (fun x => x.estateKey)).getD []
  if kind = 2 then
    s.withRandom j 12 (fun s b => s.cardBegin n j (some (s.newCopy c 2 (sealBackup key b s.now s.vaultItems))))
  else match s.mgmt.sessions.find? (fun x => x.actor == j.desc.p8 50),
      s.mgmt.actors.find? (fun a => a.idx == j.desc.p8 50 && a.role == 3) with
    | some ses, some a =>
      s.withRandom j 48 (fun s b => match s.shareSetFor key a.share ses.ecKey b with
        | some p => s.cardBegin n j (some (s.newCopy c 1 p))
        | none => s.deny j Status.invalidInput)
    | _, _ => s.deny j Status.invalidInput

/-- R482, R484: KIND 3 claims the staging buffer and writes an image that passes checks 1 to 5 of R359. -/
def State.cardImageWrite (s : State) (j : Job) (n : Nat) (c : CardInfo) : State :=
  let r := imageReason s.life j.input
  if s.mgmt.claim ≠ 0 then s.deny j Status.busy
  else if j.input = [] ∨ 2 ^ 24 < j.input.length then s.deny j Status.invalidInput
  else if 1 ≤ r ∧ r ≤ 5 then s.deny j Status.authFail
  else (s.setClaim 2 (some j.input)).cardBegin n j (some (s.newCopy c 3 j.input))

/-- R478, R479, R482: CARD_WRITE. -/
def State.cardWrite (s : State) (j : Job) : State :=
  let kind := j.desc.p8 49
  s.onCard j (fun s n p =>
    let (wp, s) := s.cardProtected n
    if kind = 0 ∨ 3 < kind ∨ (kind ≠ 1 ∧ j.desc.p8 50 ≠ 0) then s.deny j Status.invalidInput
    else if wp then s.deny j Status.attrDenied 0x04
    else if kind ≠ 3 ∧ !j.ceremonyOk then s.deny j Status.attrDenied 0x03
    else if kind ≠ 3 ∧ (s.mgmt.ceremony.bind (fun x => x.estateKey)).isNone then s.deny j Status.attrDenied 0x40
    else match p.card, p.state == 2 with
      | some c, true =>
        if c.secCount < 71680 then s.deny j Status.invalidInput 0x01
        else if c.lastGood.any (fun w => w.kind ≠ kind) then s.deny j Status.attrDenied 0x02
        else if kind = 3 then s.cardImageWrite j n c
        else s.cardSealed j n kind c
      | _, _ => s.deny j Status.attrDenied)

/-- R479 CARD_WRITE -/
def execCardWrite (q i : Nat) (s : State) : Host.Outcome State Fault Refusal := .next (s.ctl q i Op.cardWrite State.cardWrite)

/-- R482: CARD_SHARE_OPEN: the port's share set is read. -/
def State.cardShareOpen (s : State) (j : Job) : State :=
  let joined : Bool := (s.mgmt.ceremony.bind (fun c => s.joinedSession c (j.desc.p8 49))).isSome
  s.onCard j (fun s n p =>
    if j.input.length ≠ 76 then s.deny j Status.invalidInput
    else if !j.ceremonyOk ∨ !joined then s.deny j Status.attrDenied 0x03
    else if p.state ≠ 2 then s.deny j Status.attrDenied
    else if (p.card.bind (fun c => c.lastGood)).map (fun w => w.kind) ≠ some 1 then s.deny j Status.invalidInput
    else s.cardBegin n j none)

/-- R482 CARD_SHARE_OPEN -/
def execCardShareOpen (q i : Nat) (s : State) : Host.Outcome State Fault Refusal := .next (s.ctl q i Op.cardShareOpen State.cardShareOpen)

/-- R482: ESTATE_CREATE: a new estate custody key from partition 0's DRBG instance. -/
def State.estateCreate (s : State) (j : Job) : State :=
  match s.mgmt.ceremony with
  | some c =>
    if !j.ceremonyOk then s.deny j Status.attrDenied 0x03
    else if c.estateKey.isSome then s.deny j Status.attrDenied 0x40
    else s.withRandom j 32 (fun s b =>
      ({ s with mgmt := { s.mgmt with ceremony := some { c with estateKey := some (fixLen 32 b) } } } : State).done j)
  | none => s.deny j Status.attrDenied 0x03

/-- R482 ESTATE_CREATE -/
def execEstateCreate (q i : Nat) (s : State) : Host.Outcome State Fault Refusal := .next (s.ctl q i Op.estateCreate State.estateCreate)

/-- R48, R485, R487: BOOT_RECORD_WRITE: the record is being written to both places, one after the other. -/
def State.bootRecordWrite (s : State) (j : Job) : State :=
  if !bootOk j.input then s.deny j Status.invalidInput
  else if s.io.flash.writing.isSome then s.deny j Status.busy
  else ({ s with io := { s.io with flash := { s.io.flash with writing := some (j.id, 2, j.input) } } } : State).block j

/-- R485 BOOT_RECORD_WRITE -/
def execBootRecordWrite (q i : Nat) (s : State) : Host.Outcome State Fault Refusal :=
  .next (s.ctl q i Op.bootRecordWrite State.bootRecordWrite)

end Sys2Proof.Machine
end

