-- ==== Sys2Proof/Machine/Keys.lean ====
section
/-! DEFINITION. The rows of the key-store family (R143 to R151, R189, R241, R242, R244, R256). -/

namespace Sys2Proof.Machine

/-- The handle in PARAM bytes 48 to 55. -/
def Job.target (j : Job) : Nat := j.desc.pLe 48 8

/-- R241: a DUAL record is released only by a qualifying ceremony found open at fetch. -/
def Job.dualShut (j : Job) (r : KeyRec) : Bool := r.attr.getLsbD 3 && !j.dualOk

/-! ### KEY_GENERATE (R149, R151, R154, R188, R190, R244, R256) -/

/-- R143, R154, R188, R244: the material of a generated key from random bits: of LEN `bits` for a replaced HMAC key. A chain head starts
at SEQ 0 with a zero HEAD. How a token of 64 B gives a longer HMAC key is not stated, and is left open. -/
def generated (alg bits : Nat) (seed : Bytes) : Bytes :=
  if alg = 0x68 then zeros 72
  else if alg = 0x08 ∧ 64 < bits then fixLen bits (Config.keyGen alg bits seed)
  else if alg < 0x10 then fixLen (if alg = 0x08 ∧ bits ≠ 0 then bits else (genLen alg 0).getD 0) seed
  else fitSet alg (fixLen (matLen alg ((genLen alg bits).getD 0)) (Config.keyGen alg bits seed))

/-- R256: entries of the stateful-key table in use, with those on their way to a commit point. -/
def State.statefulUsed (s : State) : Nat :=
  s.vault.stateful.length + countOf (fun c => match c with | .statefulNew _ => true | _ => false)
    ((s.commit.waiting ++ s.commit.batches.flatMap (fun b => b.entries)).flatMap (fun e => e.changes))

/-- R149, R150, R244: what stops a generation before anything is made. -/
def State.generateBad (s : State) (j : Job) : Option (Nat × Nat) :=
  let d := j.desc
  let alg := d.p8 48
  let usage := d.p8 49
  let attr := d.p8 50
  let bits := d.pLe 58 2
  (s.keyStoreShut true true).or
    (if d.inLen ≠ 0 ∨ d.p8 57 ≠ 0 ∨ !d.pZero 60 4 then some (Status.invalidInput, 0)
     else match keyFieldsBad alg usage attr with
      | some st => some (st, 0)
      | none =>
        if (if alg = 0x10 ∨ alg = 0x11 then !keyLenOk alg bits else bits ≠ 0) then some (Status.invalidInput, 0)
        else if 0x60 ≤ alg ∧ bitOf 0 attr then some (Status.attrDenied, 0)
        else if isStateful alg ∧ 512 ≤ s.statefulUsed then some (Status.refusedFull, 0)
        else none)

/-- R149: KEY_GENERATE. -/
def State.keyGenerate (s : State) (j : Job) : State :=
  let d := j.desc
  let alg := d.p8 48
  let bits := d.pLe 58 2
  match s.generateBad j with
  | some (st, dt) => s.answer j (fail st dt)
  | none =>
    let len := (genLen alg bits).getD 0
    let mat := generated alg bits j.entropy
    let attr := if 0x60 ≤ alg then setBits 1 1 1 (d.p8 50) else d.p8 50
    if !materialOk alg len mat then s.answer j (fail Status.invalidInput)
    else
      let pub := if (pubAlg alg).isSome then publicOf alg len mat else []
      s.storeKey j { alg := alg, usage := d.p8 49, attr := attr, domain := d.p8 51, parent := d.pLe 52 5, len := len, mat := mat } [] pub
        (fun h => if isStateful alg then [.statefulNew { handle := h, hwm := 0, limit := leafLimit alg mat }] else [])

/-- R149 KEY_GENERATE -/
def execKeyGenerate (t : Nat) (s : State) : Host.Outcome State Fault Refusal := .next (s.onTile t Op.keyGenerate State.keyGenerate)

/-! ### KEY_IMPORT and KEY_EXPORT (R149, R234 to R237, R242) -/

/-- The key slot that unwraps an imported block: the PARAM handle, or KEY0. -/
def Job.unwrapSlot (j : Job) : Nat := if j.target = 0 then 0 else 4

/-- R149, R235, R242, R244: KEY_IMPORT. -/
def State.keyImport (t : Nat) (s : State) (j : Job) : State :=
  let d := j.desc
  match s.keyStoreShut true true with
  | some (st, dt) => s.answer j (fail st dt)
  | none =>
    if d.p8 56 ≠ 0 ∨ d.p8 63 ≠ 0 then s.answer j (fail Status.invalidInput)
    else s.withKey t j j.unwrapSlot (fun s w wk =>
      match openKb w.alg wk j.input false with
      | .bad st => s.answer j (fail st)
      | .ok cls alg len mat exp =>
        if kbDualUsage (sub 5 2 j.input) ∧ !w.attr.getLsbD 3 then s.answer j (fail Status.attrDenied)
        else match keyFieldsBad alg cls (4 + b2n exp) with
          | some st => s.answer j (fail st)
          | none =>
            if !materialOk alg len mat then s.answer j (fail Status.invalidInput)
            else s.storeKey j { alg := alg, usage := cls, attr := 4 + b2n exp, domain := d.p8 57, parent := d.pLe 58 5, len := len, mat := mat }
              [] [])

/-- R149 KEY_IMPORT -/
def execKeyImport (t : Nat) (s : State) : Host.Outcome State Fault Refusal := .next (s.onTile t Op.keyImport (State.keyImport t))

/-- R149, R236, R237, R241: KEY_EXPORT. -/
def State.keyExport (t : Nat) (s : State) (j : Job) : State :=
  match s.keyStoreShut false false with
  | some (st, dt) => s.answer j (fail st dt)
  | none =>
    if j.desc.inLen ≠ 0 then s.answer j (fail Status.invalidInput)
    else s.withKey t j 4 (fun s r m =>
      if j.dualShut r then s.answer j (fail Status.attrDenied 0x03)
      else match r.attr.getLsbD 0, kbExport r.usage r.alg with
        | true, some (usage, mode, letter) =>
          s.withKey t j 5 (fun s w wk =>
            s.answer j (okOut (makeKb w.alg wk usage mode letter r.alg r.len m [] j.entropy (j.entropy.drop 32))))
        | _, _ => s.answer j (fail Status.attrDenied))

/-- R149 KEY_EXPORT -/
def execKeyExport (t : Nat) (s : State) : Host.Outcome State Fault Refusal := .next (s.onTile t Op.keyExport (State.keyExport t))

/-! ### KEY_REPLACE (R143, R145, R148) -/

/-- R148: a replacement of the record waits for its commit point. -/
def State.replacePending (s : State) (h : Nat) : Bool := s.keys.replacing.any (fun p => p.handle == h)

/-- R143: what the new material of a replacement is: a status, or the material. DESIGN CHOICE (notes/assumptions/70.md): a key block whose
length is not the record's LEN is refused as one whose ALG or USAGE differs. -/
def replaceBlock (r : KeyRec) (walg : Nat) (wk inp : Bytes) : Nat × Bytes :=
  match openKb walg wk inp false with
  | .bad st => (st, [])
  | .ok cls alg len mat _ =>
    if cls ≠ r.usage ∨ alg ≠ r.alg ∨ len ≠ r.len then (Status.attrDenied, [])
    else if materialOk alg len mat then (0, mat) else (Status.invalidInput, [])

/-- R143 step 3: a tile other than `t` that can unwrap the pending record again. -/
def State.otherTile (s : State) (t : Nat) : Bool := s.tiles.any (fun x => x.num ≠ t && x.state ≠ 4 && x.state ≠ 6)

/-- R143 step 3: the known-answer check of a new material: EXPECT_CHECK, or the pairwise consistency of a key pair. -/
def replaceKnown (r : KeyRec) (mat expect : Bytes) : Bool :=
  if r.alg < 0x10 ∨ r.alg = 0x68 then allZero expect || expect == checkValue r.alg r.len mat
  else pubAlg r.alg == some r.alg || Config.pairwise r.alg mat

/-- R143 steps 2 to 4: wrap, verify and bring the pending record. DESIGN CHOICE (notes/assumptions/70.md): with no other tile in service
the job waits. -/
def State.putReplacement (t : Nat) (s : State) (j : Job) (page : Nat) (r : KeyRec) (mat : Bytes) : State :=
  let h := j.target
  let expect := sub 12 4 j.desc.param
  match s.ownKey j.part r with
  | none => (s.tagFault t j.part h).answer j (fail Status.engineFault 0x04)
  | some k =>
    let x := wrapRec k h r mat
    let check := checkValue r.alg r.len mat
    if !s.otherTile t then s
    else if (openRec k h x).isNone ∨ !replaceKnown r mat expect then s.answer j (fail Status.verifyFail)
    else
      let s : State := { s with keys := { s.keys with replacing := s.keys.replacing ++ [{ handle := h, queue := j.queue, idx := j.idx }] } }
      s.answerBring j [.keyPut j.part page x false] [keyPageObj j.part page] (okOut check)

/-- R143, R148, R149: KEY_REPLACE. -/
def State.keyReplace (t : Nat) (s : State) (j : Job) : State :=
  let d := j.desc
  let h := j.target
  match s.keyStoreShut true true with
  | some (st, dt) => s.answer j (fail st dt)
  | none =>
    if 1 < d.p8 56 ∨ !d.pZero 57 3 ∨ (d.p8 56 = 0 ∧ d.inLen ≠ 0) then s.answer j (fail Status.invalidInput)
    else match s.lookup j.part h [] with
      | .wait _ => s
      | .status st => s.answer j (fail st)
      | .rec_ page r =>
        if r.attr.getLsbD 3 then s.answer j (fail Status.attrDenied)
        else if s.replacePending h then s.answer j (fail Status.replacePending)
        else if d.p8 56 = 0 then
          let mat := generated r.alg r.len j.entropy
          if materialOk r.alg r.len mat then s.putReplacement t j page r mat else s.answer j (fail Status.invalidInput)
        else s.withKey t j 0 (fun s w wk =>
          match replaceBlock r w.alg wk j.input with
          | (0, mat) => s.putReplacement t j page r mat
          | (st, _) => s.answer j (fail st))

/-- R149 KEY_REPLACE -/
def execKeyReplace (t : Nat) (s : State) : Host.Outcome State Fault Refusal := .next (s.onTile t Op.keyReplace (State.keyReplace t))

/-! ### KEY_REVOKE and KEY_ERASE (R146 to R148) -/

/-- R146, R241: KEY_REVOKE: the revocation point. -/
def State.keyRevoke (s : State) (j : Job) : State :=
  let h := j.target
  match s.keyStoreShut true false with
  | some (st, dt) => s.answer j (fail st dt)
  | none =>
    if !j.desc.pZero 56 8 ∨ j.desc.inLen ≠ 0 then s.answer j (fail Status.invalidInput)
    else match s.lookup j.part h [] with
      | .wait _ => s
      | .status st => s.answer j (fail st)
      | .rec_ page r =>
        if j.dualShut r then s.answer j (fail Status.attrDenied 0x03)
        else
          let s := s.cancelReplace h Status.keyRevoked
          let s := (s.setRevoked h true).dropFamily h
          let s : State := { s with keys := { s.keys with revoking := s.keys.revoking ++ [(h, j.id, false, 0)] } }
          s.answerBring j [.keyRevoke h] [keyPageObj j.part page] {}

/-- R149 KEY_REVOKE -/
def execKeyRevoke (t : Nat) (s : State) : Host.Outcome State Fault Refusal := .next (s.onTile t Op.keyRevoke State.keyRevoke)

/-- R147, R241: KEY_ERASE: new uses are refused from now; while a job pins the record the command leaves its tile and waits. Lookup
orders 1 to 4 and the pending-erase check apply. -/
def State.keyErase (t : Nat) (s : State) (j : Job) : State :=
  let h := j.target
  match s.keyStoreShut true false with
  | some (st, dt) => s.answer j (fail st dt)
  | none =>
    if !j.desc.pZero 56 8 ∨ j.desc.inLen ≠ 0 then s.answer j (fail Status.invalidInput)
    else match s.findKey j.part h with
      | .wait _ => s
      | .status st => s.answer j (fail st)
      | .rec_ page r =>
        if s.erasePending h then s.answer j (fail Status.keyAbsent)
        else if j.dualShut r then s.answer j (fail Status.attrDenied 0x03)
        else
          let s := s.cancelReplace h Status.keyAbsent
          let s : State := { s with keys := { s.keys with erasing := s.keys.erasing ++ [(h, j.id)] } }
          let e : Entry := { changes := [.keyErase h], objs := [keyPageObj j.part page], job := some j.id, res := {} }
          if s.pins h = 0 then s.answerBring j e.changes e.objs e.res
          else (s.leaveTile t).modJob j.id (fun k => { k with phase := .blocked, brings := some e })

/-- R149 KEY_ERASE -/
def execKeyErase (t : Nat) (s : State) : Host.Outcome State Fault Refusal := .next (s.onTile t Op.keyErase (State.keyErase t))

/-- R145 to R147: KEY_PIN_RELEASE: a record's last pin has ended: superseded cache entries are wiped, a revocation past its commit
point completes, and a deferred wipe enters a batch. -/
def State.keyPinRelease (s : State) (h : Nat) : State :=
  let s := s.sweepCaches.finishRevokes
  if s.pins h ≠ 0 then s
  else forEach (s.keys.erasing.filter (fun e => e.1 == h)) (fun (e : Nat × JobId) (s : State) =>
    match s.job? e.2 with
    | none => s
    | some k => match k.phase == .blocked, k.brings with
      | true, some b => (s.modJob k.id (fun k => { k with brings := none })).bring b
      | _, _ => s) s

/-- R146 KEY_PIN_RELEASE -/
def execKeyPinRelease (handle : Nat) (s : State) : Host.Outcome State Fault Refusal := .next (s.keyPinRelease handle)

/-! ### KEY_QUERY and KEY_PUBLIC (R149, R189, R245) -/

/-- R143, R149: the CHECK of a record, drawn free where an erased ancestor leaves its material unreadable; none when a tag fails
(R159). -/
def State.checkOf (s : State) (p h : Nat) (r : KeyRec) : Option (Bytes × State) :=
  if (s.ancestors p r).any (fun a => a.isNone) then some (s.draw 4)
  else (s.material p h r).map (fun m => (checkValue r.alg r.len m, s))

/-- R149: KEY_QUERY. -/
def State.keyQuery (t : Nat) (s : State) (j : Job) : State :=
  let h := j.target
  match s.keyStoreShut false false with
  | some (st, dt) => s.answer j (fail st dt)
  | none =>
    if !j.desc.pZero 56 8 ∨ j.desc.inLen ≠ 0 then s.answer j (fail Status.invalidInput)
    else match s.findKey j.part h with
      | .wait _ => s
      | .status st => s.answer j (fail st)
      | .rec_ page r =>
        if s.erasePending h then s.answer j (fail Status.keyAbsent)
        else match s.ancestorLoad j.part r, s.checkOf j.part h r with
          | some (.load _), _ => s
          | _, none => (s.tagFault t j.part h).answer j (fail Status.engineFault 0x04)
          | _, some (check, s') =>
            let v := ((s.obj? (keyPageObj j.part page)).map (fun e => e.version)).getD 0
            s'.answer j (okOut (recHeader r ++ leBytes 8 v ++ leBytes 4 (s.pins h) ++ check))

/-- R149 KEY_QUERY -/
def execKeyQuery (t : Nat) (s : State) : Host.Outcome State Fault Refusal := .next (s.onTile t Op.keyQuery (State.keyQuery t))

/-- R189, R245: KEY_PUBLIC. -/
def State.keyPublic (t : Nat) (s : State) (j : Job) : State :=
  match s.keyStoreShut false false with
  | some (st, dt) => s.answer j (fail st dt)
  | none =>
    if !j.desc.pZero 56 8 ∨ j.desc.inLen ≠ 0 then s.answer j (fail Status.invalidInput)
    else s.withKey t j 4 (fun s r m =>
      if (pubAlg r.alg).isNone then s.answer j (fail Status.attrDenied) else s.answer j (okOut (publicOut r.alg r.len m)))

/-- R189 KEY_PUBLIC -/
def execKeyPublic (t : Nat) (s : State) : Host.Outcome State Fault Refusal := .next (s.onTile t Op.keyPublic (State.keyPublic t))

end Sys2Proof.Machine
end

