-- ==== Sys2Proof/Machine/Parts.lean ====
section
/-! DEFINITION. The partition tables' and the tiles' rows (R179, R331 to R334, R347). -/

namespace Sys2Proof.Machine

/-! ### Tables (R331 to R334) -/

/-- R331: PRT_STAGE. -/
def State.prtStage (s : State) (j : Job) : State :=
  match tableRefusal j.input with
  | some d => s.deny j Status.invalidInput d
  | none =>
    if (parseTable j.input).seq ≠ s.tabs.table.seq then s.deny j Status.generationStale
    else ({ s with tabs := { s.tabs with staged := some j.input } } : State).done j

/-- R331 PRT_STAGE -/
def execPrtStage (q i : Nat) (s : State) : Host.Outcome State Fault Refusal := .next (s.ctl q i Op.prtStage State.prtStage)

/-- R332: PRT_APPLY. -/
def State.prtApply (s : State) (j : Job) : State :=
  if s.tabs.staged.isNone then s.deny j Status.invalidInput else s.restartBegin j

/-- R333 PRT_APPLY -/
def execPrtApply (q i : Nat) (s : State) : Host.Outcome State Fault Refusal := .next (s.ctl q i Op.prtApply State.prtApply)

/-- R333 step 3: at the bound, what still runs on the changed tiles ends, and their hods are discarded. -/
def State.hodBound (s : State) : State :=
  match s.tabs.restart with
  | none => s
  | some r =>
    let s := s.advanceTo (max s.clock.mono (r.startedAt + 10 * 10 ^ 6))
    forEach r.changed (fun t s => (s.endRunning t (fail Status.aborted 0x03)).discardHod t) s

/-- R333 LIVE_RESTART_HOD_BOUND -/
def execLiveRestartHodBound (s : State) : Host.Outcome State Fault Refusal := .next s.hodBound

/-- R333 LIVE_RESTART_DONE -/
def execLiveRestartDone (s : State) : Host.Outcome State Fault Refusal := .next s.restartDone

/-- R334: PRT_QUERY. -/
def State.prtQuery (s : State) (j : Job) : State :=
  match j.desc.p8 48, s.tabs.staged with
  | 0, _ => s.done j (okOut (tableBytes s.tabs.table))
  | 1, some b => s.done j (okOut b)
  | _, _ => s.deny j Status.invalidInput

/-- R334 PRT_QUERY -/
def execPrtQuery (q i : Nat) (s : State) : Host.Outcome State Fault Refusal := .next (s.ctl q i Op.prtQuery State.prtQuery)

/-! ### Tiles (R179, R347) -/

/-- R347: an action of TIL_CMD on the tile the posting queue's TIL_TSEL shows. -/
def State.tileAction (s : State) (q i act : Nat) (f : State → Job → Tile → State) : State :=
  s.cfgAction q i Reg.tilCmd 1 0 act (fun s j =>
    match s.tile? (s.selOf j.queue Reg.tilTsel) with
    | none => s.deny j Status.invalidInput
    | some t => if t.action ∨ t.state = 2 then s.deny j Status.busy else f s j t)

/-- R347: DRAIN. -/
def State.tileDrain (s : State) (j : Job) (t : Tile) : State :=
  if t.state = 3 then s.done j
  else if t.state ≤ 1 then ((s.dropRefs t.num).modTile t.num (fun x => { x with state := 2, action := true })).done j
  else s.deny j Status.invalidInput

/-- R347 DRAIN -/
def execDrain (q i : Nat) (s : State) : Host.Outcome State Fault Refusal := .next (s.tileAction q i 1 State.tileDrain)

/-- A tile's action ends. -/
def State.tileActionDone (s : State) (t : Nat) : State :=
  match s.tile? t with
  | none => s
  | some x => if x.action then (s.modTile t (fun x => { x with action := false })).notice Reg.tilNotice 1 else s

/-- R347: a draining tile's hod has run out. -/
def State.tileDrained (s : State) (t : Nat) : State :=
  match s.tile? t with
  | none => s
  | some x =>
    if x.state ≠ 2 ∨ !x.hod.isEmpty ∨ x.job.isSome ∨ x.held.isSome then s
    else (s.modTile t (fun x => { x with state := 3 })).tileActionDone t

/-- R347 TILE_DRAINED -/
def execTileDrained (t : Nat) (s : State) : Host.Outcome State Fault Refusal := .next (s.tileDrained t)

/-- R347, R451: RETURN: the self-tests begin, and the running image's microcode is loaded. -/
def State.tileReturn (s : State) (j : Job) (t : Tile) : State :=
  if t.state = 3 ∨ t.state = 4 then (s.modTile t.num (fun x => { x with state := 5, action := true, oldUcode := false })).done j
  else s.deny j Status.invalidInput

/-- R347 RETURN -/
def execReturn (q i : Nat) (s : State) : Host.Outcome State Fault Refusal := .next (s.tileAction q i 2 State.tileReturn)

/-- R179, R213, R335, R344: a tile's self-tests end: it becomes eligible, or is quarantined. The record's code is PRESUMED
(notes/assumptions/41.md). -/
def State.tileTested (s : State) (t : Nat) (failed : Option Nat) : State :=
  match s.tile? t with
  | none => s
  | some x =>
    if x.state ≠ 5 ∨ ((s.course? (courseOf t)).map (fun c => c.scrState)).getD 0 = 0 then s
    else match failed with
      | some e => ((s.tileActionDone t).quarantine t).devEvent 5 0x0401 t (leBytes 1 t ++ leBytes 1 e)
      | none => (s.modTile t (fun x => { x with state := if (s.tileRec t).kind = 2 then 6 else 0, slotNow := 0 })).tileActionDone t

/-- R179 TILE_SELF_TEST_DONE -/
def execTileSelfTestDone (t : Nat) (failed : Option Nat) (s : State) : Host.Outcome State Fault Refusal := .next (s.tileTested t failed)

/-- R113, R209, R210, R347: RESET. -/
def State.tileReset (s : State) (j : Job) (t : Tile) : State :=
  let s := (s.endRunning t.num (fail Status.aborted 0x04)).discardHod t.num
  let s := ((s.dropRefs t.num).wipeTile t.num).dropLeases t.num
  (s.modTile t.num (fun x => { x with state := 5, action := true, borrower := none })).done j

/-- R347 TIL_RESET -/
def execTilReset (q i : Nat) (s : State) : Host.Outcome State Fault Refusal := .next (s.tileAction q i 3 State.tileReset)

end Sys2Proof.Machine
end

