-- ==== Sys2Proof/Machine/Sealing.lean ====
section
/-! DEFINITION. Sealed queues and attestation (R73, R74, R78, R369, R370): the COSE and CBOR forms, `QP_SEAL_OFFER`,
`QP_SEAL_ESTABLISH` and `ATTEST`. -/

namespace Sys2Proof.Machine

/-! ### CBOR (RFC 8949, deterministic) -/

/-- The head of an item: its major type and argument, in the shortest form. -/
def cborHead (major n : Nat) : Bytes :=
  let h (k : Nat) : Bytes := leBytes 1 (32 * major + k)
  if n < 24 then h n
  else if n < 2 ^ 8 then h 24 ++ beBytes 1 n
  else if n < 2 ^ 16 then h 25 ++ beBytes 2 n
  else if n < 2 ^ 32 then h 26 ++ beBytes 4 n
  else h 27 ++ beBytes 8 n

/-- An unsigned integer. -/
def cborUint (n : Nat) : Bytes := cborHead 0 n

/-- A byte string. -/
def cborBstr (b : Bytes) : Bytes := cborHead 2 b.length ++ b

/-- A text string of ASCII. -/
def cborText (t : String) : Bytes := cborHead 3 (ascii t).length ++ ascii t

/-- An array of encoded items. -/
def cborArr (l : List Bytes) : Bytes := cborHead 4 l.length ++ l.flatten

/-- A map of encoded keys and values, its keys in order. -/
def cborMap (l : List (Bytes × Bytes)) : Bytes := cborHead 5 l.length ++ l.flatMap (fun e => e.1 ++ e.2)

/-- A truth value. -/
def cborBool (b : Bool) : Bytes := leBytes 1 (if b then 0xF5 else 0xF4)

/-! ### COSE_Sign (RFC 9052) -/

/-- The protected header of a signature: its alg, −1 − `n` (R369). The untagged structure, alg in the protected and kid in the
unprotected header are DEDUCED (notes/assumptions/42.md). -/
def coseProtected (n : Nat) : Bytes := cborMap [(cborUint 1, cborHead 1 n)]

/-- RFC 9052: the bytes a signature is over. -/
def coseToSign (prot payload : Bytes) : Bytes :=
  cborArr [cborText "Signature", cborBstr [], cborBstr prot, cborBstr [], cborBstr payload]

/-- R369: the kid of a public key. -/
def coseKid (pub : Bytes) : Bytes := (sha3_256 pub).take 8

/-- One signature of the structure. -/
def coseSignature (alg : Nat) (pub sig : Bytes) : Bytes :=
  cborArr [cborBstr (coseProtected alg), cborMap [(cborUint 4, cborBstr (coseKid pub))], cborBstr sig]

/-- R73, R369: a COSE_Sign structure under both identity keys. -/
def coseSign (sec payload rnd : Bytes) : Bytes :=
  let pub := identityPub sec
  let ec := (identitySign sec (coseToSign (coseProtected 34) payload) rnd).1
  let ml := (identitySign sec (coseToSign (coseProtected 49) payload) rnd).2
  cborArr [cborBstr [], cborMap [], cborBstr payload,
    cborArr [coseSignature 34 (pub.take 97) ec, coseSignature 49 (pub.drop 97) ml]]

/-! ### Sealing a queue (R73, R74, R78) -/

/-- R73: the offer's payload. -/
def offerPayload (q id : Nat) (kemKey ecKey : Bytes) : Bytes :=
  leBytes 2 q ++ zeros 2 ++ leBytes 4 id ++ fixLen 1184 (Config.publicKey 0x41 kemKey) ++ fixLen 97 (Config.publicKey 0x21 ecKey)

/-- R73: QP_SEAL_OFFER. OFFER_ID is a free value (notes/assumptions/3.md); a queue created without SEAL_REQUIRED is not sealed
(notes/assumptions/43.md). -/
def State.sealOffer (s : State) (j : Job) : State :=
  match s.qp? j.queue with
  | none => s
  | some q =>
    if !q.cfg.flags.getLsbD 1 then s.answer j (fail Status.attrDenied)
    else if j.desc.inLen ≠ 0 then s.answer j (fail Status.invalidInput)
    else
      let rnd := shake256 192 j.entropy
      let kem := Config.keyGen 0x41 0 (sub 0 64 rnd)
      let ec := Config.keyGen 0x21 0 (sub 64 48 rnd)
      let id := Config.freeNat s.free % 2 ^ 32
      let payload := offerPayload j.queue id kem ec
      let o : Offer := { id := id, payload := payload, kemKey := kem, ecKey := ec }
      let s : State := ({ s with free := s.free + 1 } : State).modQp j.queue (fun q => { q with offer := some o })
      s.answer j (okOut (coseSign s.guard.identity payload (sub 112 80 rnd)))

/-- R73 QP_SEAL_OFFER -/
def execQpSealOffer (t : Nat) (s : State) : Host.Outcome State Fault Refusal := .next (s.onTile t Op.qpSealOffer State.sealOffer)

/-- R74: K. -/
def sessionSecret (q : Qp) (payload ct kem ecdh : Bytes) : Bytes :=
  sha3_512 (ascii "ASLYS-SEAL-1" ++ leBytes 2 q.cfg.queue ++ leBytes 4 (0x400000 + q.cfg.queue) ++ leBytes 4 q.cfg.hostQpn ++
    sha3_256 payload ++ sha3_256 ct ++ fixLen 32 kem ++ fixLen 48 ecdh)

/-- R73, R74: the keys are derived against HOST_KEY's public point (a HOST_KEY that holds no P-384 point gives INVALID_INPUT: DESIGN
CHOICE, notes/assumptions/73.md), both ephemeral keys are erased, and the job ends with the key
confirmation in DETAIL. The keys come into force with its completion. -/
def State.sealKeys (s : State) (j : Job) (q : Qp) (o : Offer) (host : Bytes) : State :=
  let ct := sub 8 1088 j.input
  match ecdhOf 0x21 o.ecKey host with
  | none => s.answer j (fail Status.invalidInput)
  | some x =>
    let k := sessionSecret q o.payload ct (Config.kemDecap 0x41 o.kemKey ct) x
    let n : Session := { toDevice := k.take 32, toHost := k.drop 32, descSeq := 0, cplSeq := 0 }
    let s := s.modQp j.queue (fun q => { q with offer := none, nextSession := some n })
    s.answer j { detail := leNat ((sha3_256 (k ++ ascii "CONFIRM")).take 8) }

/-- R73: QP_SEAL_ESTABLISH. -/
def State.sealEstablish (s : State) (j : Job) : State :=
  match s.qp? j.queue with
  | none => s
  | some q => match q.offer with
    | none => s.answer j (fail Status.invalidInput)
    | some o =>
      if j.input.length ≠ 1096 ∨ leAt 0 4 j.input ≠ o.id ∨ !zeroAt 4 4 j.input then s.answer j (fail Status.invalidInput)
      else match s.lookup q.cfg.part q.cfg.hostKey [4] with
        | .wait _ => s
        | .status st => s.answer j (fail st)
        | .rec_ _ r => match s.material q.cfg.part q.cfg.hostKey r with
          | none => s.answer j (fail Status.engineFault 0x04)
          | some m => s.sealKeys j q o m

/-- R73 QP_SEAL_ESTABLISH -/
def execQpSealEstablish (t : Nat) (s : State) : Host.Outcome State Fault Refusal := .next (s.onTile t Op.qpSealEstablish State.sealEstablish)

/-! ### Attestation (R369, R370) -/

/-- R370: the DER certificates of a chain, leaf first. -/
def derChain : Nat → Bytes → List Bytes
  | 0, _ => []
  | n + 1, b => match derTake b with
    | some (_, _, rest) => b.take (b.length - rest.length) :: derChain n rest
    | none => []

/-- R370: the certificates attestation carries: none when CERT_DIGEST failed. -/
def State.attestChain (s : State) : List Bytes := if s.life.certOk then derChain s.io.flash.chain.length s.io.flash.chain else []

/-- R370: the payload of a statement. -/
def State.attestMap (s : State) (part : Nat) (nonce : Bytes) : Bytes :=
  let l := s.life
  let c := s.clock
  let member := (s.pairing.map (fun p => p.member)).getD 0
  let fields : List Bytes := [
    cborUint 1,
    cborBstr (leBytes 8 l.fuses.serial),
    cborArr (s.attestChain.map cborBstr),
    cborArr [cborUint l.state, cborUint l.slot, cborUint (returnedLeft l.state l.slot), cborBool l.dusBad],
    cborArr (l.meas.map cborBstr),
    cborBstr (sha3_256 s.copyBytes),
    cborBstr s.tableDigest,
    cborArr (l.fuses.evidence.map cborUint ++ [cborBool l.fuses.full]),
    cborBstr nonce,
    cborArr [cborUint s.now, cborUint c.err, cborUint c.state.code],
    cborUint part,
    cborUint l.debugCode,
    cborArr [cborUint l.runSvn, cborUint l.fuses.minSvn],
    cborArr [cborUint member, cborUint s.pair.role, cborUint s.pair.sync, cborUint s.pair.peer]]
  cborMap ((List.range fields.length).map (fun i => (cborUint (i + 1), fields.getD i [])))

/-- R369: ATTEST. A statement that its certificates make longer than the extent is OUTPUT_SHORT (notes/assumptions/42.md). -/
def State.attest (s : State) (j : Job) : State :=
  if j.input.length < 8 ∨ 64 < j.input.length then s.answer j (fail Status.invalidInput)
  else
    let out := coseSign s.guard.identity (s.attestMap j.part j.input) (shake256 80 j.entropy)
    if j.desc.outLen < out.length then s.answer j (fail Status.outputShort) else s.answer j (okOut out)

/-- R369 ATTEST -/
def execAttest (t : Nat) (s : State) : Host.Outcome State Fault Refusal := .next (s.onTile t Op.attest State.attest)

end Sys2Proof.Machine
end

