-- ==== Sys2Proof/Machine/LifeCycle.lean ====
section
/-! DEFINITION. The life-cycle rows (R354 to R356, R361, R365, R366). -/

namespace Sys2Proof.Machine

/-! ### Transitions (R354, R355) -/

/-- R354: a transition the table permits, the slot of RETURNED apart (R355 refuses that by its own DETAIL). -/
def transitionListed (state slot target : Nat) : Bool :=
  (state == 4 && target == 2 && decide (slot ≤ 2)) || ((state == 2 || state == 3) && target == 4) || mayFollow state slot target

/-- R354: FACTORY_TEST to PROVISIONED needs DUS, DUS_CHECK, SERIAL and CERT_DIGEST blown and checked. -/
def Life.provisioned (l : Life) : Bool := !l.dusBad && l.fuses.serial ≠ 0 && !allZero l.fuses.certDigest && l.certOk

/-- R357: OWNER of the slot can still be blown to a digest. -/
def Fuses.ownerTakes (f : Fuses) (k : Nat) (d : Bytes) : Bool := List.zipWith (· ||| ·) (f.owner k) d == d

/-- R354: some bank holds an image that passes its checks under an owner key set. -/
def State.countersigned (s : State) (d : Bytes) : Bool :=
  let l : Life := { s.life with state := 3, fuses := { s.life.fuses with owner0 := d, owner1 := d, owner2 := d, owner3 := d } }
  imageReason l s.io.flash.bankA == 0 || imageReason l s.io.flash.bankB == 0

/-- R355: the input length of a TARGET from a state. -/
def transitionLen (state target : Nat) : Nat := if target = 3 then 2697 else if state = 4 ∧ target = 2 then 4795 else 8

/-- R354: the ceremony a transition needs. -/
def State.transitionHeld (s : State) (j : Job) (target : Nat) : Bool :=
  if target = 4 then j.ceremonyOk
  else if target = 5 ∧ (s.life.state = 2 ∨ s.life.state = 3 ∨ s.life.state = 7) then
    j.ceremonyOk || !s.mgmt.actors.any (fun a => a.role == 3)
  else true

/-- R355: the refusals, in the table's order. -/
def State.transitionRefusal (s : State) (j : Job) : Option (Nat × Nat) :=
  let target := byteAt 0 j.input
  let l := s.life
  let owner := sha3_256 (j.input.drop 8)
  if j.input.length ≠ transitionLen l.state target ∨ !zeroAt 2 6 j.input ∨ 5 < target then some (Status.invalidInput, 0)
  else if !transitionListed l.state l.slot target ∨ byteAt 1 j.input ≠ l.slot ∨ (l.state = 1 ∧ target = 2 ∧ !l.provisioned) ∨
      (target = 3 ∧ !l.fuses.ownerTakes l.slot owner) then some (Status.attrDenied, 0x01)
  else if target = 4 ∧ !l.erased then some (Status.attrDenied, 0x02)
  else if !s.transitionHeld j target then some (Status.attrDenied, 0x03)
  else if target = 4 ∧ 2 < l.slot then some (Status.attrDenied, 0x04)
  else if target = 3 ∧ !s.countersigned owner then some (Status.attrDenied, 0x05)
  else if l.state = 4 ∧ target = 2 ∧ !s.tokenOk (j.input.drop 8) 2 (l.slot + 1) then some (Status.authFail, 0)
  else if target ≠ 5 ∧ l.pendingTarget ≠ 6 then some (Status.busy, 0)
  else none

/-- R355: the fuses a transition blows: OWNER, TARGET_A, TARGET_B. A transition to PROVISIONED from RETURNED names the next slot. -/
def Fuses.request (f : Fuses) (state slot target : Nat) (owner : Bytes) : Fuses :=
  let k := if state = 4 ∧ target = 2 then slot + 1 else slot
  let f := if target = 3 then f.setOwner slot owner else f
  let w := codewords.getD target 0
  let x := f.lc k
  f.setLc k { x with targetA := x.targetA ||| w, targetB := x.targetB ||| w }

/-- R355: the bits of OWNER, TARGET_A and TARGET_B a transition has still to blow. -/
def Fuses.requestBits (f : Fuses) (state slot target : Nat) (owner : Bytes) : Nat × Nat × Nat :=
  let x := f.lc (if state = 4 ∧ target = 2 then slot + 1 else slot)
  let w := (codewords.getD target 0).toNat
  (if target = 3 then (newBits 256 (leNat (f.owner slot)) (leNat owner)).length else 0, (newBits 64 x.targetA.toNat w).length,
   (newBits 64 x.targetB.toNat w).length)

/-- R357, R501: the fuses of a transition whose blow fails after `n` bits. -/
def Fuses.requestCut (f : Fuses) (state slot target : Nat) (owner : Bytes) (n : Nat) : Fuses :=
  let k := if state = 4 ∧ target = 2 then slot + 1 else slot
  let c := f.requestBits state slot target owner
  let f := if target = 3 then f.setOwner slot (cutOwner (f.owner slot) owner n) else f
  let w := codewords.getD target 0
  let x := f.lc k
  f.setLc k { x with targetA := cutWord x.targetA w (n - c.1), targetB := cutWord x.targetB w (n - c.1 - c.2.1) }

/-- R501: the number of bits after which a blow fails: at once while VDD_IO18 is out of its window, else as given. -/
def State.cutAt (s : State) (cut : Option Nat) : Option Nat := if s.guard.io18Out then some 0 else cut

/-- R355, R357, R501: LCY_TRANSITION. `cut` is the number of bits after which a blow fails its read-back, as when power is lost during the
write: the command then gets no completion (notes/assumptions/77.md). -/
def State.lcyTransition (cut : Option Nat) (s : State) (j : Job) : State :=
  match s.transitionRefusal j with
  | some (st, dt) => s.deny j st dt
  | none =>
    let l := s.life
    let owner := sha3_256 (j.input.drop 8)
    let c := l.fuses.requestBits l.state l.slot (byteAt 0 j.input) owner
    match (s.cutAt cut).filter (fun n => decide (n < c.1 + c.2.1 + c.2.2)) with
    | some n => ({ s with life := { l with fuses := l.fuses.requestCut l.state l.slot (byteAt 0 j.input) owner n } } : State).block j
    | none =>
    let f := l.fuses.request l.state l.slot (byteAt 0 j.input) owner
    let s := ({ s with life := { l with fuses := f } } : State).notice Reg.lcyNotice 0
    let s : State := if bitOf 0 (j.desc.p8 48) then { s with power := { s.power with resetBy := some j.id } } else s
    s.done j

/-- R355 LCY_TRANSITION -/
def execLcyTransition (q i : Nat) (cut : Option Nat) (s : State) : Host.Outcome State Fault Refusal :=
  .next (s.ctl q i Op.lcyTransition (State.lcyTransition cut))

/-- R356: USER_ERASE. Its own job completes with DONE; every other ends as under PURGE (notes/assumptions/44.md). -/
def State.userErase (s : State) (j : Job) : State :=
  if !j.ceremonyOk then s.deny j Status.attrDenied 0x03
  else
    let s := (s.done j).purge.zeroize
    { s with life := { s.life with erased := true } }

/-- R356 USER_ERASE -/
def execUserErase (q i : Nat) (s : State) : Host.Outcome State Fault Refusal := .next (s.ctl q i Op.userErase State.userErase)

/-- R361, R501: LCY_SVN_ADVANCE. A blow that fails after `cut` bits leaves those bits blown, and the command without completion. -/
def State.svnAdvance (cut : Option Nat) (s : State) (j : Job) : State :=
  let v := j.desc.p8 48
  let old := s.life.fuses.minSvn
  if s.life.runSvn < v ∨ v ≤ old then s.deny j Status.attrDenied
  else match (s.cutAt cut).filter (fun n => decide (n < v - old)) with
  | some n => ({ s with life := { s.life with fuses := { s.life.fuses with minSvn := old + n } } } : State).block j
  | none => (({ s with life := { s.life with fuses := { s.life.fuses with minSvn := v } } } : State).notice Reg.lcyNotice 3).done j

/-- R361 LCY_SVN_ADVANCE -/
def execLcySvnAdvance (q i : Nat) (cut : Option Nat) (s : State) : Host.Outcome State Fault Refusal :=
  .next (s.ctl q i Op.lcySvnAdvance (State.svnAdvance cut))

/-! ### Debug (R365 to R367) -/

/-- R365: DEBUG_CHALLENGE. -/
def State.debugChallenge (s : State) (j : Job) : State :=
  let purpose := j.desc.p8 48
  if purpose ≠ 1 ∧ purpose ≠ 2 then s.deny j Status.invalidInput
  else s.withRandom j 112 (fun s b =>
    let c := s.challengeBytes purpose (b.take 32)
    let (ec, ml) := identitySign s.guard.identity c (b.drop 32)
    let s : State := { s with life := { s.life with challenge := some { purpose := purpose, slot := s.life.slot, nonce := b.take 32, body := c } } }
    s.done j (okOut (c ++ ec ++ ml)))

/-- R365 DEBUG_CHALLENGE -/
def execDebugChallenge (q i : Nat) (s : State) : Host.Outcome State Fault Refusal :=
  .next (s.ctl q i Op.debugChallenge State.debugChallenge)

/-- R365: DEBUG_OPEN. -/
def State.debugOpen (s : State) (j : Job) : State :=
  if j.input.length ≠ 4787 then s.deny j Status.invalidInput
  else if ¬(s.life.state = 2 ∨ s.life.state = 3) ∨ !s.development then s.deny j Status.attrDenied
  else if !s.tokenOk j.input 1 s.life.slot then s.deny j Status.authFail
  else
    let scopes := leAt 48 4 j.input % 8
    let l := { s.life with debug := 1, scopes := scopes }
    (({ s with life := l.measureState (Config.debugEvent scopes) } : State).notice Reg.lcyNotice 4).done j

/-- R365 DEBUG_OPEN -/
def execDebugOpen (q i : Nat) (s : State) : Host.Outcome State Fault Refusal := .next (s.ctl q i Op.debugOpen State.debugOpen)

end Sys2Proof.Machine
end

