-- ==== Sys2Proof/Machine/LocalIo.lean ====
section
/-! DEFINITION. The PMBus masters (R488) and the JTAG port (R491). -/

namespace Sys2Proof.Machine

/-! ### PMBus -/

/-- R494: the regulator that LIO_VRM maps to a rail: [6:0] its address, 0 when unmapped; [7] its master. -/
def State.vrmMap (s : State) (rail : Nat) : Nat :=
  let r := s.reg (if rail < 4 then Reg.lioVrmLo else Reg.lioVrmHi)
  bitsOf (8 * (rail % 4) + 7) (8 * (rail % 4)) r

/-- R488: a regulator's fault raises VRM_FAULT and a record of severity 5, whose code is PRESUMED (notes/assumptions/41.md). -/
def State.vrmFault (s : State) (rail status : Nat) : State :=
  (s.notice Reg.lioNotice 0).devEvent 5 0x0E02 55 (leBytes 1 rail ++ zeros 1 ++ leBytes 2 status)

/-- R488: a STATUS_WORD has been read: a fault it reports is logged, and then CLEAR_FAULTS is written. -/
def State.vrmStatus (s : State) (rail : Nat) (status : BitVec 16) : State :=
  if status = 0 then s else (s.vrmFault rail status.toNat).send (.clearFaults rail)

/-- Change one regulator's readings. -/
def State.modVrm (s : State) (rail : Nat) (f : Vrm → Vrm) : State := { s with io := { s.io with vrms := s.io.vrms.modify rail f } }

/-- R488: a regulator is read; with no answer a read is missed, and the third in a row is a fault. -/
def State.pmbusPoll (s : State) (rail : Nat) (status : Option (BitVec 16)) (vout iout temp : Nat) : State :=
  let misses := ((s.io.vrms[rail]?).map (fun v => v.misses)).getD 0
  if 7 < rail ∨ s.vrmMap rail % 128 = 0 ∨ s.power.mode = .vault then s
  else match status with
    | some w => (s.modVrm rail (fun _ => { status := w, vout := vout, iout := iout, temp := temp, misses := 0 })).vrmStatus rail w
    | none =>
      let s := s.modVrm rail (fun v => { v with misses := v.misses + 1 })
      if misses = 2 then s.vrmFault rail 0 else s

/-- R488 PMBUS_POLL -/
def execPmbusPoll (rail : Nat) (status : Option (BitVec 16)) (vout iout temp : Nat) (s : State) : Host.Outcome State Fault Refusal :=
  .next (s.pmbusPoll rail status vout iout temp)

/-- R488: ALERT_N of a master has fallen: STATUS_WORD of the regulator that alerts is read. -/
def State.pmbusAlert (s : State) (master addr : Nat) (status : BitVec 16) : State :=
  match (List.range 8).find? (fun r => s.vrmMap r == addr % 128 + 128 * (master % 2)), addr % 128 == 0 || s.power.mode == .vault with
  | some rail, false => (s.modVrm rail (fun v => { v with status := status })).vrmStatus rail status
  | _, _ => s

/-- R488 PMBUS_ALERT -/
def execPmbusAlert (master addr : Nat) (status : BitVec 16) (s : State) : Host.Outcome State Fault Refusal :=
  .next (s.pmbusAlert master addr status)

/-! ### JTAG -/

/-- R491: an instruction is in force, with the data register it selects. The port needs the device's supply. -/
def State.jtagSet (s : State) (i : JtagInstr) (data : Bytes) : State :=
  if s.power.mode = .vault then s else { s with io := { s.io with jtag := i, jtagData := data } }

/-- R491: the one-bit bypass register captures 0. -/
def State.jtagBypass (s : State) : State := s.jtagSet .bypass [0]

/-- R491: what an instruction that selects the boundary-scan register shifts: the levels of the pins, which are free values. -/
def State.jtagBoundary (s : State) (i : JtagInstr) : State :=
  let (b, s) := s.draw Config.boundaryBytes
  s.jtagSet i b

/-- R491 BYPASS -/
def execBypass (s : State) : Host.Outcome State Fault Refusal := .next s.jtagBypass

/-- R491: the IDCODE register. -/
def idcodeWord : Nat := 1 + 2 * (Config.jtagMaker % 2 ^ 11) + 0x4800 * 2 ^ 12 + Config.siliconRev % 16 * 2 ^ 28

/-- R491 IDCODE -/
def execIdcode (s : State) : Host.Outcome State Fault Refusal := .next (s.jtagSet .idcode (leBytes 4 idcodeWord))

/-- R491 SAMPLE_PRELOAD -/
def execSamplePreload (s : State) : Host.Outcome State Fault Refusal := .next (s.jtagBoundary .samplePreload)

/-- R353, R491 IDENTITY: SERIAL, LCY_STATE and LCY_BOOT. -/
def execIdentity (s : State) : Host.Outcome State Fault Refusal :=
  .next (s.jtagSet .identity (leBytes 8 s.life.fuses.serial ++ leBytes 4 (s.view 0 Reg.lcyState).toNat ++ leBytes 4 (s.view 0 Reg.lcyBoot).toNat))

/-- R491: an instruction used outside its states acts as BYPASS. -/
def State.jtagWhen (s : State) (ok : Bool) (f : State → State) : State := if ok then f s else s.jtagBypass

/-- R491 EXTEST -/
def execExtest (s : State) : Host.Outcome State Fault Refusal :=
  .next (s.jtagWhen (debugByState s.life.state) (fun s => s.jtagBoundary .extest))

/-- R491 CLAMP: the pins hold what the boundary-scan register holds; the bypass register is selected. -/
def execClamp (s : State) : Host.Outcome State Fault Refusal :=
  .next (s.jtagWhen (debugByState s.life.state) (fun s => s.jtagSet .clamp [0]))

/-- R491 HIGHZ: no pin is driven; the bypass register is selected. -/
def execHighz (s : State) : Host.Outcome State Fault Refusal :=
  .next (s.jtagWhen (debugByState s.life.state) (fun s => s.jtagSet .highz [0]))

/-- R491 DEBUG_ACCESS: the scopes that R352 or a token has opened. -/
def execDebugAccess (s : State) : Host.Outcome State Fault Refusal :=
  .next (s.jtagWhen (s.life.debugCode == 1 || s.life.debugCode == 2) (fun s => s.jtagSet .debugAccess (leBytes 4 s.life.scopes)))

end Sys2Proof.Machine
end

