-- ==== Sys2Proof/Machine/Payment.lean ====
section
/-! DEFINITION. The rows of the payment family (R215 to R230). -/

namespace Sys2Proof.Machine

/-! ### Nibbles, PAN fields and PIN blocks (R218 to R220) -/

/-- The nibbles of a byte string, most significant first. -/
def nibbles (b : Bytes) : List Nat := b.flatMap (fun x => [x.toNat / 16, x.toNat % 16])

/-- Bytes of nibbles, two a byte. -/
def ofNibbles : List Nat → Bytes
  | a :: b :: l => BitVec.ofNat 8 (16 * (a % 16) + b % 16) :: ofNibbles l
  | _ => []

/-- R218: the number of PAN digits of a PAN field. -/
def panDigits (pan : Bytes) : Nat := (nibbles pan).getD 0 0 + 12

/-- R218: a well-formed PAN field. -/
def panOk (pan : Bytes) : Bool :=
  let n := nibbles pan
  let d := panDigits pan
  decide (n.getD 0 0 ≤ 7) && ((n.drop 1).take d).all (fun x => decide (x ≤ 9)) && (n.drop (1 + d)).all (fun x => x == 0)

/-- R218: the PAN block of formats 0 and 3: the 12 rightmost digits but the check digit, after zero nibbles. -/
def panBlock (pan : Bytes) : Bytes :=
  let d := ((nibbles pan).drop 1).take (panDigits pan)
  let l := (d.take (d.length - 1)).drop (d.length - 13)
  ofNibbles (List.replicate (16 - l.length) 0 ++ l)

/-- R219, R221: a PIN field of a block: decrypted, and unbound from its PAN. -/
def pinField (fmt alg : Nat) (key pan block : Bytes) : Bytes :=
  if fmt = 4 then decBlock alg key (xorBytes (decBlock alg key block) pan)
  else
    let c := decBlock alg key block
    if fmt = 1 then c else xorBytes c (panBlock pan)

/-- R219, R220: a fill nibble meets a format's rule. -/
def fillOk (fmt n : Nat) : Bool :=
  if fmt = 0 then n == 15 else if fmt = 3 then decide (10 ≤ n) else if fmt = 4 then n == 10 else true

/-- R220: every check of a PIN field; the PIN digits, none when any fails. -/
def readPin (x : PayParams) (field : Bytes) : Option (List Nat) :=
  let n := (nibbles field).take 16
  let len := n.getD 1 0
  let pin := (n.drop 2).take len
  if n.getD 0 0 = x.inFmt ∧ x.pinMin ≤ len ∧ len ≤ x.pinMax ∧ pin.all (fun d => decide (d ≤ 9)) ∧
      (n.drop (2 + len)).all (fillOk x.inFmt) then some pin else none

/-- R219: a PIN field of a format: control, length, digits and fill; `rnd` gives the random nibbles and bytes. -/
def makeField (fmt : Nat) (pin : List Nat) (rnd : Bytes) : Bytes :=
  let fill := (List.range (14 - pin.length)).map (fun k =>
    if fmt = 0 then 15 else if fmt = 4 then 10 else if fmt = 3 then 10 + byteAt k rnd % 6 else byteAt k rnd % 16)
  ofNibbles ([fmt, pin.length] ++ pin ++ fill) ++ (if fmt = 4 then fixLen 8 rnd else [])

/-- R219, R221: a PIN block of a format under a key. -/
def makeBlock (fmt alg : Nat) (key pan : Bytes) (pin : List Nat) (rnd : Bytes) : Bytes :=
  let f := makeField fmt pin rnd
  if fmt = 4 then encBlock alg key (xorBytes (encBlock alg key f) pan)
  else encBlock alg key (if fmt = 1 then f else xorBytes f (panBlock pan))

/-! ### DUKPT (R223, R224, R226) -/

/-- Ones among the low bits of a number. -/
def onesIn (n v : Nat) : Nat := countOf (fun k => bitOf k v) (List.range n)

/-- R223: the transaction counter of a KSN. -/
def ksnCounter (keyMode : Nat) (ksn : Bytes) : Nat := beNat ksn % 2 ^ (if keyMode = 1 then 21 else 32)

/-- R223: a counter a transaction can use. -/
def counterOk (keyMode : Nat) (ksn : Bytes) : Bool :=
  let c := ksnCounter keyMode ksn
  decide (0 < c) && decide (onesIn 32 c ≤ (if keyMode = 1 then 10 else 16))

/-- R223: a job's KSN is good, or it uses none. -/
def Job.ksnOk (j : Job) : Bool := (j.pay.keyMode ≠ 1 && j.pay.keyMode ≠ 2) || counterOk j.pay.keyMode j.ksn

/-- R223: the initial KSN of a KSN: its counter bits zero; with KEYMODE 2 the initial key ID. -/
def initialKsn (keyMode : Nat) (ksn : Bytes) : Bytes :=
  if keyMode = 1 then beBytes 10 (beNat ksn / 2 ^ 21 * 2 ^ 21) else ksn.take 8

/-- R224, R226: the initial key of a BDK and a KSN, with its ALG. -/
def initialKey (keyMode alg : Nat) (bdk ksn : Bytes) : Nat × Bytes :=
  let (a, l) := initialAlg keyMode alg bdk.length
  (a, fixLen (matLen a l) (Config.dukptInit keyMode alg bdk (initialKsn keyMode ksn)))

/-- R224: the variant of X9.24-1 that a DK_USAGE names, for each half of a key: PIN, MAC request, MAC response. -/
def dukptVariant (usage : Nat) : Bytes :=
  if usage = 1 then zeros 7 ++ [0xFF] else if usage = 2 then zeros 6 ++ [0xFF, 0] else zeros 4 ++ [0xFF] ++ zeros 3

/-- R224: the working key of a job: KEY0 itself, or what DUKPT derives from it: the initial key, then the transaction key, then its variant
or what X9.24-3 derives for DK_ALG and DK_USAGE. -/
def Job.workKey (j : Job) (alg : Nat) (key : Bytes) : Nat × Bytes :=
  let x := j.pay
  let w := x.workAlg alg
  if x.keyMode = 1 ∨ x.keyMode = 2 then
    let ik := initialKey x.keyMode alg key j.ksn
    let tk := fixLen ik.2.length (Config.dukptTxn x.keyMode ik.1 ik.2 j.ksn)
    let n := (genLen w 0).getD 0
    if x.keyMode = 1 then (w, fixLen n (xorBytes tk (dukptVariant x.dkUsage ++ dukptVariant x.dkUsage)))
    else (w, fixLen n (Config.dukptDerive w x.dkUsage tk j.ksn))
  else (alg, key)

/-! ### MACs and verification values (R227 to R229) -/

/-- R229: the whole MAC of MAC_ALG and MAC_PAD. -/
def payMac (x : PayParams) (alg : Nat) (key m : Bytes) : Bytes :=
  if x.macAlg = 0x05 then cmacOf alg key m
  else
    let p := padMsg x.macPad (blockLen alg) m
    if x.macAlg = 0x03 then macAlg3 key p else cbcLast alg key p

/-- R227: `value`. -/
def valueOf (x : PayParams) (alg : Nat) (key data : Bytes) : List Nat :=
  let n := nibbles (payMac x alg key data)
  (n.filter (fun d => decide (d ≤ 9)) ++ (n.filter (fun d => decide (10 ≤ d))).map (fun d => d - 10)).take x.digits

/-- R216: a DECTAB entry. -/
def decEntry (x : PayParams) (n : Nat) : Nat :=
  let b := byteAt (n / 2) x.dectab
  if n % 2 = 0 then b % 16 else b / 16

/-- R227: `natural`. -/
def naturalOf (x : PayParams) (alg : Nat) (key data : Bytes) : List Nat :=
  ((nibbles (payMac x alg key data)).take x.digits).map (decEntry x)

/-- Digits as ASCII. -/
def digitBytes (d : List Nat) : Bytes := d.map (fun n => BitVec.ofNat 8 (48 + n))

/-- R222: a reference's digits; none when a byte lies outside 0x30 to 0x39. -/
def refDigits (b : Bytes) : Option (List Nat) :=
  if b.all (fun c => decide (0x30 ≤ c.toNat) && decide (c.toNat ≤ 0x39)) then some (b.map (fun c => c.toNat - 0x30)) else none

/-- R228: DATA with nibbles replaced by PIN digits. -/
def dataPrime (x : PayParams) (data : Bytes) (pin : List Nat) : Bytes :=
  let n := nibbles data
  ofNibbles (n.take x.pinPos ++ pin.take x.pinCount ++ n.drop (x.pinPos + x.pinCount))

/-- R228: the value or offset of a PIN. -/
def pinValue (x : PayParams) (alg : Nat) (key data : Bytes) (pin : List Nat) : List Nat :=
  if x.method = 0x01 then valueOf x alg key (dataPrime x data pin)
  else (List.range x.digits).map (fun i => (pin.getD i 0 + 10 - (naturalOf x alg key data).getD i 0) % 10)

/-! ### The PIN opcodes (R221, R222, R228) -/

/-- R218, R220: run on a PIN block at the head of the input and the PAN field after it: INVALID_INPUT for a bad PAN field,
PIN_BLOCK_INVALID for a bad block. -/
def State.withPin (s : State) (t : Nat) (j : Job) (f : State → Bytes → List Nat → State) : State :=
  s.withKey t j 0 (fun s r m =>
    let x := j.pay
    let n := pinBlockLen x.inFmt
    let pan := sub n 16 j.input
    let bound := panBound x.inFmt || (j.desc.opcode == Op.pinTranslate && panBound x.outFmt)
    if bound ∧ !panOk pan then s.answer j (fail Status.invalidInput)
    else
      let (alg, key) := j.workKey r.alg m
      match readPin x (pinField x.inFmt alg key pan (j.input.take n)) with
      | none => s.answer j (fail Status.pinBlockInvalid)
      | some pin => f s pan pin)

/-- R221: PIN_TRANSLATE. -/
def State.pinTranslate (t : Nat) (s : State) (j : Job) : State :=
  let x := j.pay
  let n := pinBlockLen x.inFmt + (if panBound x.inFmt ∨ panBound x.outFmt then 16 else 0)
  if j.input.length ≠ n ∨ !j.ksnOk then s.answer j (fail Status.invalidInput)
  else s.withPin t j (fun s pan pin =>
    s.withKey t j 1 (fun s r key => s.answer j (okOut (makeBlock x.outFmt r.alg key pan pin j.entropy))))

/-- R221 PIN_TRANSLATE -/
def execPinTranslate (t : Nat) (s : State) : Host.Outcome State Fault Refusal :=
  .next (s.onTile t Op.pinTranslate (State.pinTranslate t))

/-- R222: where DATA lies in a PIN value opcode's input. -/
def Job.dataAt (j : Job) : Nat := pinBlockLen j.pay.inFmt + (if panBound j.pay.inFmt then 16 else 0)

/-- R222, R223, R228: the length, counter and DATA checks of the PIN value opcodes, with the reference's length. -/
def Job.pinValueOk (j : Job) (ref : Nat) : Bool :=
  let x := j.pay
  decide (1 ≤ j.dataLen) && decide (j.dataLen ≤ 64) && j.input.length == j.dataAt + j.dataLen + ref && j.ksnOk &&
    (x.method ≠ 1 || decide (x.pinPos + x.pinCount ≤ 2 * j.dataLen))

/-- R228: PIN_VERIFY. -/
def State.pinVerify (t : Nat) (s : State) (j : Job) : State :=
  let x := j.pay
  if !j.pinValueOk x.digits then s.answer j (fail Status.invalidInput)
  else match refDigits (j.input.drop (j.dataAt + j.dataLen)) with
    | none => s.answer j (fail Status.invalidInput)
    | some ref => s.withPin t j (fun s _ pin =>
        s.withKey t j 1 (fun s r key =>
          s.answer j (if pinValue x r.alg key (sub j.dataAt j.dataLen j.input) pin = ref then {} else fail Status.authFail)))

/-- R228 PIN_VERIFY -/
def execPinVerify (t : Nat) (s : State) : Host.Outcome State Fault Refusal := .next (s.onTile t Op.pinVerify (State.pinVerify t))

/-- R228: PIN_VALUE_GENERATE. -/
def State.pinValueGenerate (t : Nat) (s : State) (j : Job) : State :=
  if !j.pinValueOk 0 then s.answer j (fail Status.invalidInput)
  else s.withPin t j (fun s _ pin =>
    s.withKey t j 1 (fun s r key =>
      s.answer j (okOut (digitBytes (pinValue j.pay r.alg key (sub j.dataAt j.dataLen j.input) pin)))))

/-- R228 PIN_VALUE_GENERATE -/
def execPinValueGenerate (t : Nat) (s : State) : Host.Outcome State Fault Refusal :=
  .next (s.onTile t Op.pinValueGenerate (State.pinValueGenerate t))

/-! ### MACs (R229) -/

/-- R229: PAY_MAC_GENERATE. -/
def State.payMacGenerate (t : Nat) (s : State) (j : Job) : State :=
  if !j.ksnOk then s.answer j (fail Status.invalidInput)
  else s.withKey t j 0 (fun s r m =>
    let (alg, key) := j.workKey r.alg m
    s.answer j (okOut ((payMac j.pay alg key j.input).take j.pay.macLen)))

/-- R229 PAY_MAC_GENERATE -/
def execPayMacGenerate (t : Nat) (s : State) : Host.Outcome State Fault Refusal :=
  .next (s.onTile t Op.payMacGenerate (State.payMacGenerate t))

/-- R229: PAY_MAC_VERIFY. -/
def State.payMacVerify (t : Nat) (s : State) (j : Job) : State :=
  let n := j.pay.macLen
  if !j.ksnOk ∨ j.input.length < n then s.answer j (fail Status.invalidInput)
  else s.withKey t j 0 (fun s r m =>
    let (alg, key) := j.workKey r.alg m
    let msg := j.input.take (j.input.length - n)
    s.answer j (if (payMac j.pay alg key msg).take n = j.input.drop msg.length then {} else fail Status.authFail))

/-- R229 PAY_MAC_VERIFY -/
def execPayMacVerify (t : Nat) (s : State) : Host.Outcome State Fault Refusal :=
  .next (s.onTile t Op.payMacVerify (State.payMacVerify t))

/-! ### Verification values (R227) -/

/-- R222, R227: VALUE_GENERATE. -/
def State.valueGenerate (t : Nat) (s : State) (j : Job) : State :=
  if j.dataLen = 0 ∨ 64 < j.dataLen ∨ j.input.length ≠ j.dataLen then s.answer j (fail Status.invalidInput)
  else s.withKey t j 0 (fun s r key => s.answer j (okOut (digitBytes (valueOf j.pay r.alg key j.input))))

/-- R227 VALUE_GENERATE -/
def execValueGenerate (t : Nat) (s : State) : Host.Outcome State Fault Refusal :=
  .next (s.onTile t Op.valueGenerate (State.valueGenerate t))

/-- R222, R227: VALUE_VERIFY. -/
def State.valueVerify (t : Nat) (s : State) (j : Job) : State :=
  if j.dataLen = 0 ∨ 64 < j.dataLen ∨ j.input.length ≠ j.dataLen + j.pay.digits then s.answer j (fail Status.invalidInput)
  else match refDigits (j.input.drop j.dataLen) with
    | none => s.answer j (fail Status.invalidInput)
    | some ref => s.withKey t j 0 (fun s r key =>
        s.answer j (if valueOf j.pay r.alg key (j.input.take j.dataLen) = ref then {} else fail Status.authFail))

/-- R227 VALUE_VERIFY -/
def execValueVerify (t : Nat) (s : State) : Host.Outcome State Fault Refusal :=
  .next (s.onTile t Op.valueVerify (State.valueVerify t))

/-! ### EMV (R230) -/

/-- R222, R230: the checks of an EMV input that need no key: lengths and reserved bytes. -/
def Job.emvOk (j : Job) : Bool :=
  let m := j.pay.arpc
  decide (32 ≤ j.input.length) && decide (j.input.length ≤ 32 + 1024) && decide (j.desc.p8 56 ≤ 8) && byteAt 17 j.input == 0 &&
    (if m = 1 then zeroAt 30 2 j.input else if m = 0 then zeroAt 28 4 j.input else true)

/-- R230: EMV_ARQC_VERIFY. -/
def State.emvArqcVerify (t : Nat) (s : State) (j : Job) : State :=
  let x := j.pay
  let pan := j.input.take 16
  if !j.emvOk ∨ !panOk pan ∨ (x.mkd = 0 ∧ 17 ≤ panDigits pan) then s.answer j (fail Status.invalidInput)
  else s.withKey t j 0 (fun s r m =>
    let n := matLen r.alg r.len
    let icc := fixLen n (Config.emvIcc x.mkd r.alg m pan (sub 16 1 j.input))
    let sk := if x.skd = 1 then icc else fixLen n (Config.emvSession r.alg icc (sub 18 2 j.input))
    let arqc := sub 20 8 j.input
    if (payMac x r.alg sk (j.input.drop 32)).take 8 ≠ arqc then s.answer j (fail Status.authFail)
    else if x.arpc = 0 then s.answer j {}
    else
      let arc := sub 28 (if x.arpc = 1 then 2 else 4) j.input
      let prop := if x.arpc = 2 then j.desc.param.take (j.desc.p8 56) else []
      s.answer j (okOut (fixLen (if x.arpc = 1 then 8 else 4) (Config.emvArpc x.arpc r.alg sk arqc arc prop))))

/-- R230 EMV_ARQC_VERIFY -/
def execEmvArqcVerify (t : Nat) (s : State) : Host.Outcome State Fault Refusal :=
  .next (s.onTile t Op.emvArqcVerify (State.emvArqcVerify t))

/-! ### DUKPT_INIT_EXPORT (R226) -/

/-- R223, R226: DUKPT_INIT_EXPORT: the counter bits of the initial KSN are zero. -/
def State.dukptInitExport (t : Nat) (s : State) (j : Job) : State :=
  let x := j.pay
  if j.desc.inLen ≠ 0 ∨ ksnCounter x.keyMode j.ksn ≠ 0 then s.answer j (fail Status.invalidInput)
  else s.withKey t j 0 (fun s r m =>
    s.withKey t j 1 (fun s w wk =>
      let (alg, key) := initialKey x.keyMode r.alg m j.ksn
      let letter : Byte := if isAes r.alg then 0x41 else 0x54
      s.answer j (okOut (makeKb w.alg wk (ascii "B1") 0x58 letter alg key.length key (dukptOpts x.keyMode j.ksn) j.entropy
        (j.entropy.drop 32)))))

/-- R226 DUKPT_INIT_EXPORT -/
def execDukptInitExport (t : Nat) (s : State) : Host.Outcome State Fault Refusal :=
  .next (s.onTile t Op.dukptInitExport (State.dukptInitExport t))

end Sys2Proof.Machine
end

