-- ==== Sys2Proof/Machine/Repoint.lean ====
section
/-! DEFINITION. The rows of repointing (R265 to R271). -/

namespace Sys2Proof

/-- R268, R270: the generation a campaign re-wraps to. -/
def Campaign.target (c : Campaign) : Nat := if c.state = 3 then c.fromGen else c.toGen

/-- R268, R270: the generation a campaign takes objects from. -/
def Campaign.source (c : Campaign) : Nat := if c.state = 3 then c.toGen else c.fromGen

/-- R265, R269, R270: a campaign has ended with a generation in force. -/
def Campaign.idle (c : Campaign) (g : Nat) : Campaign := { suite := c.suite, fromGen := g }

end Sys2Proof

namespace Sys2Proof.Machine

/-! ### What a campaign shows (R266) -/

/-- The campaign record as the latest waiting change leaves it. -/
def State.campaignNext (s : State) : Campaign :=
  ((s.commit.batches.flatMap (fun b => b.entries) ++ s.commit.waiting).flatMap (fun e => e.changes)).foldl
    (fun c x => match x with | .campaign d => d | _ => c) s.vault.campaign

/-- R266 AT_OLD: objects still sealed under the old generation, with those not loaded yet. -/
def State.atOld (s : State) : Nat :=
  countOf (fun e => e.load ≠ .unavailable && (e.load ≠ .loaded || e.kekGen == s.vault.campaign.source)) s.keys.objs

/-- R266 UNAVAILABLE: objects without a verifiable copy. -/
def State.unavailable (s : State) : Nat := countOf (fun e => e.load == .unavailable) s.keys.objs

/-- R266 HELD: records of REPOINTABLE 0 under the old generation. -/
def State.held (s : State) : Nat :=
  sumOf (fun g => countOf (fun r => !r.attr.getLsbD 2 && r.kekGen == s.vault.campaign.source) g.recs) s.keys.pages

/-- R268: partition 0's tiles and slots are its repointing share. -/
def State.repointShare (s : State) : Bool := (List.range 6).any (s.holdsIn 0)

/-- R266: a pair resync is incomplete. -/
def State.resyncing (s : State) : Bool := s.pair.role ≠ 0 && s.pair.sync == 1

/-! ### REPOINT_OPEN, REPOINT_QUERY (R266, R267) -/

/-- R266, R267: REPOINT_OPEN. -/
def State.repointOpen (s : State) (j : Job) : State :=
  let b := j.input
  let suite := byteAt 0 b
  let g := s.kekNow
  if !j.ceremonyOk then s.deny j Status.attrDenied
  else if b.length ≠ 8 ∨ !zeroAt 1 7 b then s.deny j Status.invalidInput
  else if s.campaignNext.state ≠ 0 ∨ s.resyncing then s.deny j Status.busy
  else if g = 0 ∨ g = 0xFFFF ∨ !s.repointShare ∨ 32 ≤ suite ∨ !bitOf suite s.life.suites then s.deny j Status.attrDenied
  else s.withRandom j 32 (fun s secret =>
    s.bringCtl j [.generation (g + 1) secret,
      .campaign { state := 1, suite := suite, fromGen := g, toGen := g + 1, openedAt := s.now }] [] (okOut (leBytes 2 (g + 1) ++ zeros 6)))

/-- R267 REPOINT_OPEN -/
def execRepointOpen (q i : Nat) (s : State) : Host.Outcome State Fault Refusal := .next (s.ctl q i Op.repointOpen State.repointOpen)

/-- R266: REPOINT_QUERY. -/
def State.repointQuery (s : State) (j : Job) : State :=
  let c := s.vault.campaign
  let fromGen := if c.state = 0 then s.kekNow else c.fromGen
  s.done j (okOut (leBytes 1 c.state ++ leBytes 1 c.suite ++ leBytes 2 fromGen ++ leBytes 2 c.toGen ++ zeros 2 ++ leBytes 8 c.cursor ++
    leBytes 8 (if c.state = 0 then 0 else s.atOld) ++ leBytes 8 (if c.state = 0 then 0 else s.held) ++ leBytes 8 s.unavailable ++
    leBytes 8 c.bytes ++ leBytes 8 c.openedAt ++ leBytes 4 c.sharesSeen.length ++ leBytes 4 s.life.suites))

/-- R266 REPOINT_QUERY -/
def execRepointQuery (q i : Nat) (s : State) : Host.Outcome State Fault Refusal := .next (s.ctl q i Op.repointQuery State.repointQuery)

/-! ### REPOINT_COMMIT, REPOINT_ABANDON (R269, R270) -/

/-- R269: why a commit is refused. -/
def State.commitRefused (s : State) : Option Nat :=
  let c := s.vault.campaign
  if c.state ≠ 2 then some 0x01
  else if s.unavailable ≠ 0 then some 0x02
  else if c.sharesSeen.length < s.mgmt.n then some 0x03
  else if s.held ≠ 0 then some 0x04
  else none

/-- R269 step 1: a job holds a wrapped record, or a cached key, of a generation. -/
def State.holdsGen (s : State) (g : Nat) : Bool :=
  s.jobs.any (fun j => j.phase ≠ .done && j.keys.any (fun k => k.kr.kekGen == g || k.chain.any (fun e => e.2.kekGen == g)))

/-- R269: REPOINT_COMMIT: it waits until no job holds the old generation. -/
def State.repointCommit (s : State) (j : Job) : State :=
  if !j.ceremonyOk then s.deny j Status.attrDenied
  else match s.commitRefused with
    | some dt => s.deny j Status.attrDenied dt
    | none => if s.resyncing then s.deny j Status.busy else if s.pair.role = 3 then s.deny j Status.fenced else s.block j

/-- R269 REPOINT_COMMIT -/
def execRepointCommit (q i : Nat) (s : State) : Host.Outcome State Fault Refusal := .next (s.ctl q i Op.repointCommit State.repointCommit)

/-- R269 steps 1 and 2: REPOINT_COMMIT_DRAINED: the erase of the old generation enters a batch. -/
def State.repointCommitDrained (s : State) : State :=
  let c := s.vault.campaign
  match s.jobs.find? (fun j => j.phase == .blocked && j.desc.opcode == Op.repointCommit) with
  | none => s
  | some j =>
    if s.holdsGen c.fromGen ∨ c.state ≠ 2 then s
    else s.bringCtl j [.generationErase c.fromGen, .campaign (c.idle c.toGen)] []

/-- R269 REPOINT_COMMIT_DRAINED -/
def execRepointCommitDrained (s : State) : Host.Outcome State Fault Refusal := .next s.repointCommitDrained

/-- R270: REPOINT_ABANDON. -/
def State.repointAbandon (s : State) (j : Job) : State :=
  let c := s.campaignNext
  if !j.ceremonyOk ∨ ¬(c.state = 1 ∨ c.state = 2) then s.deny j Status.attrDenied
  else s.bringCtl j [.campaign { c with state := 3, cursor := 0 }] []

/-- R270 REPOINT_ABANDON -/
def execRepointAbandon (q i : Nat) (s : State) : Host.Outcome State Fault Refusal :=
  .next (s.ctl q i Op.repointAbandon State.repointAbandon)

/-! ### CAMPAIGN_STEP (R268, R270, R271) -/

/-- R268: re-wraps already waiting. -/
def State.rewrapping (s : State) : List Obj :=
  (s.commit.waiting ++ s.commit.batches.flatMap (fun b => b.entries)).flatMap (fun e => e.changes.filterMap (fun c =>
    match c with | .rewrap o _ => some o | _ => none))

/-- R268, R271: the next object a campaign visits: an unloaded tree page first, since its children are not known; then the leaf of the
least position from CURSOR on that is old or not loaded; then one behind CURSOR; then tree pages. -/
def State.campaignObj (s : State) : Option ObjState :=
  let c := s.vault.campaign
  let busy := s.rewrapping
  let todo (e : ObjState) : Bool := e.load ≠ .unavailable && (e.load ≠ .loaded || e.kekGen == c.source) && !busy.contains e.obj
  let leaves := s.keys.objs.filter (fun e => e.obj.kind ≠ 3 && todo e)
  (s.keys.objs.find? (fun e => e.obj.kind == 3 && e.load ≠ .loaded && e.load ≠ .unavailable)).or
    (((minBy (fun e => leafPos e.obj) (leaves.filter (fun e => decide (c.cursor ≤ leafPos e.obj)))).or
      (minBy (fun e => leafPos e.obj) leaves)).or
        (s.keys.objs.find? (fun e => e.obj.kind == 3 && todo e)))

/-- R268, R270: nothing is left for a campaign: it becomes COMPLETE, or an abandoned one erases the new generation. -/
def State.campaignEnd (s : State) : State :=
  let c := s.vault.campaign
  if s.rewrapping ≠ [] ∨ s.atOld ≠ 0 ∨ s.campaignNext ≠ c then s
  else if c.state = 1 then s.bring { changes := [.campaign { c with state := 2 }], objs := [], job := none, res := {}, rewrap := true }
  else s.bring { changes := [.generationErase c.toGen, .campaign (c.idle c.fromGen)], objs := [], job := none, res := {}, rewrap := true }

/-- R268: CAMPAIGN_STEP: the next object is loaded, or its re-wrap enters a batch. -/
def State.campaignStep (s : State) : State :=
  let c := s.vault.campaign
  if ¬(c.state = 1 ∨ c.state = 3) ∨ s.guard.freeze ∨ s.power.mode ≠ .serving ∨ (s.tabs.table.strict ∧ !s.repointShare) ∨ s.noPersist ∨
      s.pair.role = 2 ∨ s.pair.role = 3 then s
  else match s.campaignObj with
    | none => s.campaignEnd
    | some e =>
      if e.load = .unloaded then s.pageLoadStart e.obj
      else if e.load ≠ .loaded then s
      else s.bring { changes := [.rewrap e.obj c.target], objs := [e.obj], job := none, res := {}, rewrap := true }

/-- R268 CAMPAIGN_STEP -/
def execCampaignStep (s : State) : Host.Outcome State Fault Refusal := .next s.campaignStep

end Sys2Proof.Machine
end

