-- ==== Sys2Proof/Machine/SealedMemory.lean ====
section
/-! DEFINITION. The rows of sealed memory (R275, R276, R281 to R298). -/

namespace Sys2Proof.Machine

/-! ### Findings (R280, R286, R289 to R291) -/

/-- R291: the key of a device position on its rank: position 10 × subchannel + device. -/
def posKey (rank pos : Nat) : Nat := rank * 20 + pos

/-- R291: the failed devices of the subchannel and rank a line lies on. -/
def Channel.failedAt (c : Channel) (line : Nat) : List Nat :=
  (List.range 10).filter (fun d => c.failed.contains (posKey (c.rankOf line) (10 * (line % 2) + d)))

/-- R291: two failed positions of one subchannel and rank. -/
def Channel.doubleFail (c : Channel) : Bool :=
  c.failed.any (fun a => c.failed.any (fun b => a ≠ b && a / 10 == b / 10))

/-- R295, R297: the number of channels that would remain SERVING without one. -/
def State.othersServing (s : State) (ch : Nat) : Nat := (s.serving.filter (fun c => c ≠ ch)).length

/-- R297 step 1: an evacuation starts. -/
def State.startEvacuate (s : State) (ch : Nat) : State :=
  let s := { s with dram := { s.dram with action := some (2, ch) } }
  s.modChan ch (fun c => { c with state := 4 })

/-- R291: the channel raises DEGRADED once, and with AUTO_EVAC its evacuation starts, when R295 allows. -/
def State.degrade (s : State) (ch : Nat) : State :=
  match s.chan? ch with
  | none => s
  | some c =>
    if c.degraded ∨ !(c.doubleFail || decide (s.fld Reg.semCtrl 23 16 ≤ c.uePass)) then s
    else
      let s := (s.modChan ch (fun c => { c with degraded := true })).notice Reg.semNotice 1
      let s := s.devEvent 4 0x0505 (memIsland ch) (leBytes 1 ch)
      if s.fld Reg.semCtrl 5 5 = 1 ∧ s.dram.action.isNone ∧ (c.state = 2 ∨ c.state = 3) ∧ 2 ≤ s.othersServing ch then s.startEvacuate ch
      else s

/-- R280, R291: a corrected error counts against its device; on 16 distinct lines within a pass the position fails. -/
def State.countCe (s : State) (ch line device : Nat) : State :=
  match s.chan? ch with
  | none => s
  | some c =>
    let k := posKey (c.rankOf line) (10 * (line % 2) + device)
    let lines := if c.ceLines.contains (k, line) then c.ceLines else c.ceLines ++ [(k, line)]
    let bad := decide (16 ≤ countOf (fun e => e.1 == k) lines) && !c.failed.contains k
    let s := s.modChan ch (fun c => { c with ce := c.ce + 1, ceLines := lines, failed := if bad then c.failed ++ [k] else c.failed })
    if bad then s.degrade ch else s

/-- R458: the payload of MEM_UE and MEM_MAC_FAIL. -/
def memPayload (ch kind line : Nat) : Bytes := leBytes 1 ch ++ leBytes 1 kind ++ [0] ++ leBytes 5 line

/-- R289: an uncorrectable error is counted, and logged. -/
def State.countUe (s : State) (ch kind line : Nat) : State :=
  let s := (s.modChan ch (fun c => { c with ue := c.ue + 1, uePass := c.uePass + 1 })).notice Reg.semNotice 2
  (s.devEvent 4 0x0501 (memIsland ch) (memPayload ch kind line)).degrade ch

/-- R289, R290: a MAC mismatch is counted and logged. -/
def State.countMac (s : State) (ch kind line : Nat) : State :=
  ((s.bump Reg.semMacFails).notice Reg.semNotice 3).devEvent 6 0x0502 59 (memPayload ch kind line)

/-- R290: the memory-integrity source raises one event for each failing line. -/
def State.integrity (s : State) (ch kind line : Nat) : State := s.fire 9 59 (ch + 2 ^ 8 * kind + 2 ^ 16 * (line % 2 ^ 16))

/-- R287: the CACHE frame a data line lies in. -/
def State.cacheAt (s : State) (ch line : Nat) : Option CacheFrame :=
  s.dram.cacheFrames.find? (fun f => f.ch == ch && f.frame == line / 1024)

/-- R287: the WORK frames a data line lies in, and whether in the first copy. -/
def State.workAt (s : State) (ch line : Nat) : Option (WorkFrame × Bool) :=
  let f := line / 1024
  let inA (w : WorkFrame) : Bool := w.chA == ch && decide (w.frameA ≤ f) && decide (f < w.frameA + w.count)
  let inB (w : WorkFrame) : Bool := w.chB == ch && decide (w.frameB ≤ f) && decide (f < w.frameB + w.count)
  match s.dram.work.find? (fun w => inA w || inB w) with
  | none => none
  | some w => some (w, inA w)

/-- Change one WORK frame. -/
def State.modWork (s : State) (w : WorkFrame) (f : WorkFrame → WorkFrame) : State :=
  { s with dram := { s.dram with work := modWhere (fun x => x == w) f s.dram.work } }

/-- R289: both copies of a WORK frame are damaged. -/
def State.loseWork (s : State) (w : WorkFrame) : State :=
  let s := s.modWork w (fun x => { x with bad := 0 })
  if w.kind = 0 then
    (if s.commit.batches.any (fun b => b.step == 1 && b.images.any (fun e => objRef e.1 == w.ref)) then s.failBatch else s)
  else if w.kind = 1 then forEach (s.dram.cacheFrames.map (fun f => f.obj)) (fun o s => s.dropFrame o) s
  else if w.kind = 2 then
    let hit := s.jobs.filter (fun j => j.phase ≠ .done && (match j.ctx with | some c => s.ctxs.old.contains c | none => false))
    forEach hit (fun j s => (s.release j).finish j.id (fail Status.engineFault 0x08) j.tile) s
  else
    let lose (r : Ring) : Ring :=
      { r with recs := [], markValid := false, waitSince := none,
               drops := r.recs.foldl (fun l e => l.modify e.sev (· + 1)) r.drops, lost := r.lost + BitVec.ofNat 32 r.unread,
               gap := r.gap + r.unread }
    (s.modRing w.ref lose).notice Reg.evrNotice 1

/-- R289: a WORK frame's copy is damaged: the other copy is used and the damaged one rewritten from it; with both damaged what
it held is lost. -/
def State.workDamaged (s : State) (w : WorkFrame) (first : Bool) : State :=
  let bit := if first then 1 else 2
  if w.bad = 3 - bit then s.loseWork w else s.modWork w (fun x => { x with bad := bit })

/-- R289: a WORK line read sound: a damaged other copy is rewritten from it. -/
def State.workSound (s : State) (w : WorkFrame) (first : Bool) : State :=
  let other := if first then 2 else 1
  if w.bad = other then
    let s := s.modWork w (fun x => { x with bad := 0 })
    if first then s.writeFrameLines w.chB w.frameB else s.writeFrameLines w.chA w.frameA
  else if w.bad ≠ 0 then s.modWork w (fun x => { x with bad := 0 }) else s

/-- R286: the frames a lost counter line or stored node governed are dropped. -/
def State.dropGoverned (s : State) (ch level n : Nat) : State :=
  let per := if level = 0 then 1 else 4 * 64 ^ (level - 1)
  let lo := if level = 0 then n / 16 else n * per
  let inside (f : Nat) : Bool := decide (lo ≤ f) && decide (f < lo + per)
  let gone := s.dram.cacheFrames.filter (fun f => f.ch == ch && inside f.frame)
  let s := forEach gone (fun f s => s.dropFrame f.obj) s
  let hitA (w : WorkFrame) : Bool := w.chA == ch && decide (w.frameA < lo + per) && decide (lo < w.frameA + w.count)
  let hitB (w : WorkFrame) : Bool := w.chB == ch && decide (w.frameB < lo + per) && decide (lo < w.frameB + w.count)
  let ws := s.dram.work.filter (fun w => hitA w || hitB w)
  forEach ws (fun w s => if hitA w && hitB w then s.loseWork w else s.workDamaged w (hitA w)) s

/-- R286: a lost counter line or stored node is written afresh above MAJOR_HWM. -/
def State.recoverNode (s : State) (ch level n : Nat) : State :=
  match s.chan? ch with
  | none => s
  | some c =>
    let m := c.majorHwm + 1
    let x : CtrLine := { level := level, num := n, major := m, minors := List.replicate 64 0 }
    let (c', retired) := ({ c.putCtr x with majorHwm := m } : Channel).retire x
    let s := s.modChan ch (fun _ => c')
    let s := if retired then s.notice Reg.semNotice 5 else s
    let s := s.raiseMinors ch (level + 1) (n / 64) [n % 64]
    ((s.touchCtr ch level n false).touchCtr ch (level + 1) (n / 64) true).dropGoverned ch level n

/-! ### Reads (R285, R289) -/

/-- R289: what a failed data line does, by the kind of its frame. -/
def State.dataFailed (s : State) (ch line : Nat) : State :=
  match s.cacheAt ch line with
  | some f => s.dropFrame f.obj
  | none => match s.workAt ch line with
    | some (w, first) => s.workDamaged w first
    | none => s

/-- R299: bring a MAC line into the MAC cache. -/
def State.cacheMacLine (s : State) (ch line : Nat) (b : Bytes) : State :=
  let rest := s.dram.macCache.filter (fun e => !(e.1 == ch && e.2.1 == line))
  { s with dram := { s.dram with macCache := ((ch, line, b) :: rest).take macCacheLines } }

/-- The bytes of a MAC line in the MAC cache. -/
def State.macBytes (s : State) (ch line : Nat) : Option Bytes :=
  (s.dram.macCache.find? (fun e => e.1 == ch && e.2.1 == line)).map (fun e => e.2.2)

/-- R284: a counter line or node from its 64 bytes. -/
def parseCtr (level n : Nat) (b : Bytes) : CtrLine :=
  let bits := leAt 8 56 b
  { level := level, num := n, major := leAt 0 8 b, minors := (List.range 64).map (fun i => bits / 2 ^ (7 * i) % 128) }

/-- R285: steps 2 to 4 of a decoded line with a MAC. It waits for governing counters or a MAC line not yet in a cache. -/
def State.checkLine (s : State) (c : Channel) (line : Nat) (k : LineKind) (b : Bytes) : State :=
  match c.governor line, s.dram.key with
  | some (lv, n, i), some key =>
    let (ml, mi) := c.macLine line
    let ready := s.ctrCached c.num lv n
    let s := if k = .data then s.bump (if ready then Reg.semCacheHits else Reg.semCacheMisses) else s
    match ready, s.macBytes c.num ml with
    | true, some macs =>
      let g := c.ctr lv n
      let cb := counterBlock g.major (g.minors.getD i 0) 0 k.code c.num line
      let s := s.touchCtr c.num lv n false
      let good := lineMac (key.drop 32) cb b == sub (8 * mi) 8 macs
      (match k with
      | .data =>
        if good then
          let plain := cryptLine (key.take 32) g.major (g.minors.getD i 0) c.num line b
          let s : State := { s with dram := { s.dram with lastLine := some (c.num, line, plain) } }
          (match s.workAt c.num line with | some (w, first) => s.workSound w first | none => s)
        else ((s.countMac c.num 0 line).dataFailed c.num line).integrity c.num 0 line
      | .node level n =>
        if good then ((s.modChan c.num (fun c => c.putCtr (parseCtr level n b))).touchCtr c.num level n false).evictCtrs 4
        else ((s.countMac c.num k.code line).recoverNode c.num level n).integrity c.num k.code line
      | _ => s)
    | _, _ => s
  | _, _ => s

/-- R285, R289: a burst read from a line is decoded, and checked by what the line holds. -/
def State.readLine (s : State) (ch line : Nat) (burst : Bytes) : State :=
  match s.chan? ch with
  | none => s
  | some c =>
    let k := c.lineKind line
    let free := k == .data && (s.cacheAt ch line).isNone && (s.workAt ch line).isNone
    if s.dram.key.isNone ∨ !(c.state = 2 ∨ c.state = 4) ∨ k = .unused ∨ free then s
    else
      let good (s : State) (b : Bytes) : State :=
        match k with
        | .mac _ _ => s.cacheMacLine ch line b
        | .node level n => if s.dram.ctrCache.any (fun e => e.1 == ch && e.2.1 == level && e.2.2.1 == n) then s else s.checkLine c line k b
        | _ => s.checkLine c line k b
      match decodeBurst (c.failedAt line) burst with
      | .clean b => good s b
      | .corrected b d => good (s.countCe ch line d) b
      | .lost =>
        let s := s.countUe ch k.code line
        (match k with
        | .node level n => s.recoverNode ch level n
        | .data => s.dataFailed ch line
        | .mac 0 n => forEach (List.range 8) (fun i s => s.dataFailed ch (8 * n + i)) s
        | .mac 1 n => forEach (List.range 8) (fun i s => 
            if 8 * n + i < c.blocks ∧ !s.ctrCached ch 0 (8 * n + i) then s.recoverNode ch 0 (8 * n + i) else s) s
        | .mac _ n => forEach (List.range 8) (fun i s =>
            match c.nodeAt 8 1 (8 * n + i) with | some (l, m) => (if s.ctrCached ch l m then s else s.recoverNode ch l m) | none => s) s
        | .unused => s)

/-- R285 LINE_READ_RETURN -/
def execLineReadReturn (ch line : Nat) (burst : Bytes) (s : State) : Host.Outcome State Fault Refusal := .next (s.readLine ch line burst)

/-! ### Scrub, ECS, refresh and sideband (R275, R281, R292, R293) -/

/-- R292: whether the scrub's step `k` of a channel reads a line: a block's counter line and, in a frame in use, its MAC and data
lines; the last step reads the stored nodes. -/
def State.scrubReads (s : State) (c : Channel) (k line : Nat) : Bool :=
  let used := (s.cacheAt c.num (64 * k)).isSome || (s.workAt c.num (64 * k)).isSome
  match c.lineKind line with
  | .data => used && line / 64 == k
  | .mac 0 n => used && n / 8 == k
  | .node 0 n => n == k
  | .node _ _ => k == c.blocks
  | .mac _ n => if k = c.blocks then true else n == k / 8
  | .unused => false

/-- R292: all serving channels have ended their pass: PASSES rises and a new pass begins. -/
def State.scrubWrap (s : State) : State :=
  if s.dram.channels.all (fun c => c.state ≠ 2 || decide (c.blocks < c.scrubBlock)) then
    let next (c : Channel) : Channel := { c with scrubBlock := 0, ceLines := [], uePass := 0 }
    { s with dram := { s.dram with scrubPasses := s.dram.scrubPasses + 1, channels := s.dram.channels.map next } }
  else s

/-- R292: one step of the patrol scrub on a channel. -/
def State.scrubStep (s : State) (ch : Nat) (bursts : List (Nat × Bytes)) : State :=
  match s.chan? ch with
  | none => s
  | some c =>
    let k := c.scrubBlock
    if c.state ≠ 2 ∨ s.dram.key.isNone ∨ c.blocks < k ∨ s.dram.selfRefresh then s
    else
      let s := forEach bursts (fun e s => if s.scrubReads c k e.1 then s.readLine ch e.1 e.2 else s) s
      (s.modChan ch (fun c => { c with scrubBlock := k + 1 })).scrubWrap

/-- R292 PATROL_SCRUB_STEP -/
def execPatrolScrubStep (ch : Nat) (bursts : List (Nat × Bytes)) (s : State) : Host.Outcome State Fault Refusal :=
  .next (s.scrubStep ch bursts)

/-- R281: the largest ECS count of a pass (device position, rank, count). -/
def State.ecsPass (s : State) (ch : Nat) (counts : List (Nat × Nat × Nat)) : State :=
  match s.chan? ch, minBy (fun (e : Nat × Nat × Nat) => 2 ^ 32 - e.2.2) counts with
  | some c, some (pos, rank, n) =>
    if c.state = 2 then s.modChan ch (fun c => { c with ecsMax := min 65535 n, ecsDev := pos % 32, ecsRank := rank % 8 }) else s
  | _, _ => s

/-- R281 ECS_PASS -/
def execEcsPass (ch : Nat) (counts : List (Nat × Nat × Nat)) (s : State) : Host.Outcome State Fault Refusal :=
  .next (s.ecsPass ch counts)

/-- R31, R293: a refresh, or a refresh-management, command on a powered channel; in STANDBY the modules refresh themselves. -/
def State.refreshTick (s : State) (ch : Nat) (rfm : Bool) : State :=
  s.modChan ch (fun c =>
    if !c.powered ∨ c.state = 1 ∨ c.state = 7 ∨ s.dram.selfRefresh then c
    else if rfm then { c with rfms := c.rfms + 1 } else { c with refreshes := c.refreshes + 1 })

/-- R293 REFRESH_TICK -/
def execRefreshTick (ch : Nat) (rfm : Bool) (s : State) : Host.Outcome State Fault Refusal := .next (s.refreshTick ch rfm)

/-- R275, R293: the module temperature is read; above 85 °C the refresh interval is halved. -/
def State.sidebandPoll (s : State) (ch : Nat) (temp : Int) : State :=
  s.modChan ch (fun c => if !c.powered then c else { c with temp := temp, halved := decide (85 < temp) })

/-- R275 SIDEBAND_POLL -/
def execSidebandPoll (ch : Nat) (temp : Int) (s : State) : Host.Outcome State Fault Refusal := .next (s.sidebandPoll ch temp)

/-! ### Key and training (R276, R282, R287) -/

/-- R276: a channel becomes FAILED for a reason. -/
def State.failChannel (s : State) (ch reason : Nat) : State :=
  let s := (s.modChan ch (fun c => { c with state := 7, reason := reason })).notice Reg.semNotice 4
  s.devEvent 5 0x0506 (memIsland ch) (leBytes 1 ch ++ leBytes 1 reason)

/-- R395: the ALERT records that waited for a memory channel are written into the rings. -/
def State.writeQueued (s : State) : State :=
  let q := s.guard.queued
  if s.dram.key.isNone ∨ s.serving = [] ∨ q = [] then s
  else forEach q (fun e s => s.alertAll e) { s with guard := { s.guard with queued := [] } }

/-- R287: the WORK frames the device always holds: directory, superseded contexts, and the log rings. -/
def State.placeFixed (s : State) : State :=
  let s := (s.placeWork 1 0 1).placeWork 2 0 1
  let s := s.placeWork 3 256 1024
  let s := forEach s.tabs.table.parts (fun p s => s.placeWork 3 p.num p.logFrames) s
  if s.serving.length = 1 then s.devEvent 4 0x0503 59 (leBytes 1 (s.serving.getD 0 0)) else s

/-- R330: the default table, with the quota the serving channels give. -/
def defaultWithQuota (frames : Nat) : Table :=
  { defaultTable with parts := defaultTable.parts.map (fun p => { p with quota := frames }) }

/-- R330: QUOTA of the default table is every key-page frame of the serving channels, known once they have trained. -/
def State.fillQuota (s : State) : State :=
  if s.tabs.table = defaultTable then { s with tabs := { s.tabs with table := defaultWithQuota s.keyFrames } } else s

/-- R274: a module the device takes: allowed, of 2^6 to 2^8 GiB, one or two to a channel, of one or two ranks. -/
def moduleFits (r : TrainResult) : Bool :=
  r.allowed && decide (6 ≤ r.capLog2) && decide (r.capLog2 ≤ 8) && decide (1 ≤ r.dimms) && decide (r.dimms ≤ 2) && decide (1 ≤ r.ranks) &&
    decide (r.ranks ≤ 2)

/-- The training result of a channel that a module is present on. -/
def resultOf (rs : List TrainResult) (n : Nat) : Option TrainResult := rs.find? (fun r => r.ch == n && r.present)

/-- R276: the lowest populated channel that trained with a module the device takes: the others must match it. -/
def State.trainRef (s : State) (rs : List TrainResult) : Option TrainResult :=
  (List.range 8).findSome? (fun n => (resultOf rs n).bind (fun r =>
    if bitOf n (s.fld Reg.semCtrl 31 24) && moduleFits r && r.trained then some r else none))

/-- R276: what training makes of one channel that trains: it serves, or fails for lack of a module (1), in training (2) or for a module
that does not match (3). -/
def State.trainOne (s : State) (ref r : Option TrainResult) (n : Nat) : State :=
  if !(s.chan? n).any (fun c => c.state == 1) then s
  else match r, ref with
    | none, _ => s.failChannel n 1
    | some r, some y =>
      if !(moduleFits r) || (r.capLog2, r.ranks, r.dimms) != (y.capLog2, y.ranks, y.dimms) then s.failChannel n 3
      else if !r.trained then s.failChannel n 2
      else s.modChan n (fun c => { c with state := 2, reason := 0, dimms := r.dimms, capLog2 := r.capLog2, ranks := r.ranks })
    | some r, none => s.failChannel n (if moduleFits r then 2 else 3)

/-- R276: what training found on each channel. -/
def State.trainingDone (s : State) (rs : List TrainResult) : State :=
  if !s.dram.channels.any (fun c => c.state == 1) then s
  else
    let ref := s.trainRef rs
    let s := (forEach (List.range 8) (fun n s => s.trainOne ref (resultOf rs n) n) s).fillQuota
    if s.dram.key.isSome then s.placeFixed.writeQueued else s

/-- R276 CHANNEL_TRAINING_DONE -/
def execChannelTrainingDone (rs : List TrainResult) (s : State) : Host.Outcome State Fault Refusal := .next (s.trainingDone rs)

/-- R386: at a cold start the mesh LFSRs are seeded from partition 0's instance. -/
def State.seedMesh (s : State) : State :=
  if s.power.serviceBegun then s
  else match s.random 0 16 with
    | .bits b s => { s with guard := { s.guard with lfsr := (List.range 8).map (fun k => BitVec.ofNat 16 (leAt (2 * k) 2 b)) } }
    | _ => s

/-- R282: the seal unit draws the key, once partition 0's instance serves; every counter line and node starts at zero. -/
def State.sealKeyDraw (s : State) : State :=
  if s.dram.key.isSome ∨ s.ent.state ≠ 2 ∨ s.power.mode ≠ .serving then s
  else match s.random 0 64 with
    | .bits b s =>
      let zero (c : Channel) : Channel := { c with majorHwm := 0, fresh := 0, ctrs := [], retired := [] }
      let d := { s.dram with key := some b, channels := s.dram.channels.map zero, ctrCache := [], macCache := [] }
      let s : State := State.seedMesh { s with dram := d }
      if s.serving = [] then s else s.placeFixed.writeQueued
    | _ => s

/-- R282 SEAL_KEY_DRAW -/
def execSealKeyDraw (s : State) : Host.Outcome State Fault Refusal := .next s.sealKeyDraw

/-! ### Channel actions (R295 to R298) -/

/-- R295: a write of SEM_CH_CMD: one action at a time, from the states the table gives. -/
def State.chAction (s : State) (q i act : Nat) (from_ : List Nat) (f : State → Job → Nat → State) : State :=
  s.cfgAction q i Reg.semChCmd 6 4 act (fun s j =>
    let ch := s.targetOf j Reg.semChCmd
    match s.chan? ch with
    | none => s.deny j Status.invalidInput
    | some c =>
      if !from_.contains c.state then s.deny j Status.invalidInput
      else if s.dram.action.isSome then s.deny j Status.busy
      else f (s.keepTarget j Reg.semChCmd) j ch)

/-- An action is accepted: its CFG_WRITE completes and the channel changes state. -/
def State.chBegin (s : State) (j : Job) (act ch st : Nat) : State :=
  let s := { s with dram := { s.dram with action := some (act, ch) } }
  (s.modChan ch (fun c => { c with state := st })).done j

/-- R296: RETRAIN. -/
def State.chRetrain (s : State) (j : Job) (ch : Nat) : State := s.chBegin j 1 ch 3

/-- R296 RETRAIN -/
def execRetrain (q i : Nat) (s : State) : Host.Outcome State Fault Refusal := .next (s.chAction q i 1 [2] State.chRetrain)

/-- R296: RETRAIN ends: the channel serves again. -/
def State.retrainDone (s : State) : State :=
  match s.dram.action with
  | some (1, ch) => (s.modChan ch (fun c => if c.state = 3 then { c with state := 2 } else c)).chDone
  | _ => s

/-- R296 RETRAIN_DONE -/
def execRetrainDone (s : State) : Host.Outcome State Fault Refusal := .next s.retrainDone

/-- R297: EVACUATE. -/
def State.chEvacuate (s : State) (j : Job) (ch : Nat) : State :=
  if s.othersServing ch < 2 then s.deny j Status.attrDenied else (s.startEvacuate ch).done j

/-- R297 EVACUATE -/
def execEvacuate (q i : Nat) (s : State) : Host.Outcome State Fault Refusal := .next (s.chAction q i 2 [2, 3] State.chEvacuate)

/-- R297 step 3: copies of WORK frames on a channel move to another. -/
def State.moveWork (s : State) (ch : Nat) : State :=
  let here (w : WorkFrame) : Bool := w.chA == ch || w.chB == ch
  forEach (s.dram.work.filter here) (fun w s =>
    let keep := if w.chA = ch then w.chB else w.chA
    let rest : State := { s with dram := { s.dram with work := s.dram.work.filter (fun x => x ≠ w) } }
    let target := (s.bestChannel (fun c => memGroup c ≠ memGroup keep)).or (s.bestChannel (fun c => c ≠ keep))
    match target with
    | none => s
    | some t => match s.freeRunOn t w.count 0 with
      | none => s
      | some f =>
        let w' : WorkFrame := if w.chA = ch then { w with chA := t, frameA := f, bad := 0 } else { w with chB := t, frameB := f, bad := 0 }
        let s : State := { rest with dram := { rest.dram with work := rest.dram.work ++ [w'] } }
        forEach (List.range w.count) (fun k s => s.writeFrameLines t (f + k)) s) s

/-- R297 steps 2 to 6. It waits while a batch has a spare frame on the channel. -/
def State.evacuateDone (s : State) : State :=
  match s.dram.action with
  | some (2, ch) =>
    if s.dram.work.any (fun w => w.kind == 0 && (w.chA == ch || w.chB == ch)) then s
    else
      let s := s.moveWork ch
      let gone := s.dram.cacheFrames.filter (fun f => f.ch == ch)
      let s := forEach gone (fun f s => s.dropFrame f.obj) s
      (s.modChan ch (fun c => if c.state = 4 then { c with state := 5 } else c)).chDone
  | _ => s

/-- R297 EVACUATE_DONE -/
def execEvacuateDone (s : State) : Host.Outcome State Fault Refusal := .next s.evacuateDone

/-- R295: POWER_DOWN: the channel is OFF at once. -/
def State.chPowerDown (s : State) (j : Job) (ch : Nat) : State := (s.chBegin j 3 ch 6).chDone

/-- R295 POWER_DOWN -/
def execPowerDown (q i : Nat) (s : State) : Host.Outcome State Fault Refusal := .next (s.chAction q i 3 [5, 7] State.chPowerDown)

/-- R298: RESTORE raises CH_PWR_EN. -/
def State.chRestore (s : State) (j : Job) (ch : Nat) : State := s.chBegin j 4 ch 1

/-- R298 RESTORE -/
def execRestore (q i : Nat) (s : State) : Host.Outcome State Fault Refusal := .next (s.chAction q i 4 [6, 7] State.chRestore)

/-- R298: after the supply has settled SPD is read: a module that does not match fails the channel; else training runs, whose
outcome the reading brings. -/
def State.restoreSettled (s : State) (r : TrainResult) : State :=
  match s.dram.action with
  | some (4, ch) =>
    if r.ch ≠ ch ∨ !(s.chan? ch).any (fun c => c.state == 1) then s
    else
      let peer := s.dram.channels.find? (fun c => c.state == 2)
      let same := match peer with
        | some c => (c.capLog2, c.ranks, c.dimms) == (r.capLog2, r.ranks, r.dimms)
        | none => true
      if !r.present then (s.failChannel ch 1).chDone
      else if !moduleFits r || !same then (s.failChannel ch 3).chDone
      else if !r.trained then (s.failChannel ch 2).chDone
      else s.modChan ch (fun c => { c with dimms := r.dimms, capLog2 := r.capLog2, ranks := r.ranks, reason := 0 })
  | _ => s

/-- R298 RESTORE_SUPPLY_SETTLED -/
def execRestoreSupplySettled (r : TrainResult) (s : State) : Host.Outcome State Fault Refusal := .next (s.restoreSettled r)

/-- R298: counter lines and nodes are written afresh above MAJOR_HWM, and the channel serves. -/
def State.restoreDone (s : State) : State :=
  match s.dram.action with
  | some (4, ch) =>
    if !(s.chan? ch).any (fun c => c.state == 1 && c.dimms ≠ 0) ∨ s.dram.key.isNone then s
    else
      let one (c : Channel) : Channel :=
        { c with state := 2, degraded := false, fresh := c.majorHwm + 1, majorHwm := c.majorHwm + 1, ctrs := [], failed := [],
                 ceLines := [], uePass := 0 }
      let first := s.serving = []
      let d := { s.dram with ctrCache := s.dram.ctrCache.filter (fun e => e.1 ≠ ch), macCache := s.dram.macCache.filter (fun e => e.1 ≠ ch) }
      let s := (({ s with dram := d } : State).modChan ch one).chDone
      if first then s.placeFixed.writeQueued else s
  | _ => s

/-- R298 RESTORE_DONE -/
def execRestoreDone (s : State) : Host.Outcome State Fault Refusal := .next s.restoreDone

/-- R295: MARK_ABSENT: the channel becomes ABSENT at the commit point of the batch that clears its POPULATED bit (R440). -/
def State.chMarkAbsent (s : State) (j : Job) (ch : Nat) : State :=
  let s := { s with dram := { s.dram with action := some (5, ch) } }
  (s.done j).enqueue { changes := [.markAbsent ch], objs := [], job := none, res := {} }

/-- R295 MARK_ABSENT -/
def execMarkAbsent (q i : Nat) (s : State) : Host.Outcome State Fault Refusal := .next (s.chAction q i 5 [6] State.chMarkAbsent)

end Sys2Proof.Machine
end

