-- ==== Sys2Proof/Machine/Dispatch.lean ====
section
/-! DEFINITION. One arm per command: the meaning it calls. -/

namespace Sys2Proof.Machine

/-- A command's effect on everything but the queue. -/
def exec (i : Instr) (s : State) : Host.Outcome State Fault Refusal :=
  match i with
  | .coldStart fails cut => Sys2Proof.Machine.execColdStart fails cut s
  | .sealKeyDraw => Sys2Proof.Machine.execSealKeyDraw s
  | .channelTrainingDone rs => Sys2Proof.Machine.execChannelTrainingDone rs s
  | .portLinkUp port iface => Sys2Proof.Machine.execPortLinkUp port iface s
  | .portLinkDown port iface => Sys2Proof.Machine.execPortLinkDown port iface s
  | .resetNowExpiry => Sys2Proof.Machine.execResetNowExpiry s
  | .powerModeSet q ix => Sys2Proof.Machine.execPowerModeSet q ix s
  | .standbyDrained => Sys2Proof.Machine.execStandbyDrained s
  | .standbyExitDone fails bad => Sys2Proof.Machine.execStandbyExitDone fails bad s
  | .portCfgWrite q ix => Sys2Proof.Machine.execPortCfgWrite q ix s
  | .arpNdRequestRx port iface target asker => Sys2Proof.Machine.execArpNdRequestRx port iface target asker s
  | .pauseFrameRx port prio time => Sys2Proof.Machine.execPauseFrameRx port prio time s
  | .inboundPacketRx port prio q len ce => Sys2Proof.Machine.execInboundPacketRx port prio q len ce s
  | .cnpRx q => Sys2Proof.Machine.execCnpRx q s
  | .rateRecoverTick q => Sys2Proof.Machine.execRateRecoverTick q s
  | .ptpEventMessageRx port iface dom tr offset pathDelay => Sys2Proof.Machine.execPtpEventMessageRx port iface dom tr offset pathDelay s
  | .ptpLossTimeout port => Sys2Proof.Machine.execPtpLossTimeout port s
  | .producerDoorbell q off data => Sys2Proof.Machine.execProducerDoorbell q off data s
  | .consumerDoorbell q off data => Sys2Proof.Machine.execConsumerDoorbell q off data s
  | .inboundReadNak q addr len => Sys2Proof.Machine.execInboundReadNak q addr len s
  | .inboundUnsupportedNak q op => Sys2Proof.Machine.execInboundUnsupportedNak q op s
  | .ackTimeout q => Sys2Proof.Machine.execAckTimeout q s
  | .psnSequenceNakRx q psn => Sys2Proof.Machine.execPsnSequenceNakRx q psn s
  | .rnrNakRx q => Sys2Proof.Machine.execRnrNakRx q s
  | .rnrRetryExpiry q => Sys2Proof.Machine.execRnrRetryExpiry q s
  | .remoteErrorNakRx q syndrome => Sys2Proof.Machine.execRemoteErrorNakRx q syndrome s
  | .writeAckRx q psn => Sys2Proof.Machine.execWriteAckRx q psn s
  | .fetchPass p => Sys2Proof.Machine.execFetchPass p s
  | .descriptorArrival q data => Sys2Proof.Machine.execDescriptorArrival q data s
  | .contextTokenArrival q ix => Sys2Proof.Machine.execContextTokenArrival q ix s
  | .payloadTokenArrival q ix data => Sys2Proof.Machine.execPayloadTokenArrival q ix data s
  | .keyTokenArrival q ix slot => Sys2Proof.Machine.execKeyTokenArrival q ix slot s
  | .entropyTokenArrival q ix => Sys2Proof.Machine.execEntropyTokenArrival q ix s
  | .chainTokenArrival q ix => Sys2Proof.Machine.execChainTokenArrival q ix s
  | .errorTokenArrival q ix cause => Sys2Proof.Machine.execErrorTokenArrival q ix cause s
  | .jobPlace course => Sys2Proof.Machine.execJobPlace course s
  | .continuationPacket t data error => Sys2Proof.Machine.execContinuationPacket t data error s
  | .jobStart t acc => Sys2Proof.Machine.execJobStart t acc s
  | .jobEnd t => Sys2Proof.Machine.execJobEnd t s
  | .completionWrite q => Sys2Proof.Machine.execCompletionWrite q s
  | .qpCreate q ix => Sys2Proof.Machine.execQpCreate q ix s
  | .qpDestroy q ix => Sys2Proof.Machine.execQpDestroy q ix s
  | .qpDestroyDrained q => Sys2Proof.Machine.execQpDestroyDrained q s
  | .qpQuery q ix => Sys2Proof.Machine.execQpQuery q ix s
  | .regionDeclare q ix => Sys2Proof.Machine.execRegionDeclare q ix s
  | .regionRemove q ix => Sys2Proof.Machine.execRegionRemove q ix s
  | .qpSealOffer t => Sys2Proof.Machine.execQpSealOffer t s
  | .qpSealEstablish t => Sys2Proof.Machine.execQpSealEstablish t s
  | .queueEcho t => Sys2Proof.Machine.execQueueEcho t s
  | .ctxBind q ix => Sys2Proof.Machine.execCtxBind q ix s
  | .ctxReplace q ix => Sys2Proof.Machine.execCtxReplace q ix s
  | .ctxUnbind q ix => Sys2Proof.Machine.execCtxUnbind q ix s
  | .ctxUnbindDrained id => Sys2Proof.Machine.execCtxUnbindDrained id s
  | .ctxQuery q ix => Sys2Proof.Machine.execCtxQuery q ix s
  | .qcourseWrite q ix => Sys2Proof.Machine.execQcourseWrite q ix s
  | .qcourseDrained q => Sys2Proof.Machine.execQcourseDrained q s
  | .keyGenerate t => Sys2Proof.Machine.execKeyGenerate t s
  | .keyImport t => Sys2Proof.Machine.execKeyImport t s
  | .keyExport t => Sys2Proof.Machine.execKeyExport t s
  | .keyReplace t => Sys2Proof.Machine.execKeyReplace t s
  | .keyRevoke t => Sys2Proof.Machine.execKeyRevoke t s
  | .keyPinRelease handle => Sys2Proof.Machine.execKeyPinRelease handle s
  | .keyErase t => Sys2Proof.Machine.execKeyErase t s
  | .keyQuery t => Sys2Proof.Machine.execKeyQuery t s
  | .keyPublic t => Sys2Proof.Machine.execKeyPublic t s
  | .persistAttach q ix => Sys2Proof.Machine.execPersistAttach q ix s
  | .persistRegionDeclare q ix => Sys2Proof.Machine.execPersistRegionDeclare q ix s
  | .persistRegionRemove q ix => Sys2Proof.Machine.execPersistRegionRemove q ix s
  | .batchOpen => Sys2Proof.Machine.execBatchOpen s
  | .batchPersisted => Sys2Proof.Machine.execBatchPersisted s
  | .pageLoadStart o => Sys2Proof.Machine.execPageLoadStart o s
  | .pageImageArrival o frame image => Sys2Proof.Machine.execPageImageArrival o frame image s
  | .leaseRequest t p => Sys2Proof.Machine.execLeaseRequest t p s
  | .leafLeaseRequest t handle => Sys2Proof.Machine.execLeafLeaseRequest t handle s
  | .symEncrypt t => Sys2Proof.Machine.execSymEncrypt t s
  | .symDecrypt t => Sys2Proof.Machine.execSymDecrypt t s
  | .macGenerate t => Sys2Proof.Machine.execMacGenerate t s
  | .macVerify t => Sys2Proof.Machine.execMacVerify t s
  | .hash t => Sys2Proof.Machine.execHash t s
  | .symReencrypt t => Sys2Proof.Machine.execSymReencrypt t s
  | .parityError t engine lane => Sys2Proof.Machine.execParityError t engine lane s
  | .pkSign t => Sys2Proof.Machine.execPkSign t s
  | .pkVerify t => Sys2Proof.Machine.execPkVerify t s
  | .pkEncrypt t => Sys2Proof.Machine.execPkEncrypt t s
  | .pkDecrypt t => Sys2Proof.Machine.execPkDecrypt t s
  | .keyAgree t => Sys2Proof.Machine.execKeyAgree t s
  | .kemEncap t => Sys2Proof.Machine.execKemEncap t s
  | .kemDecap t => Sys2Proof.Machine.execKemDecap t s
  | .yieldPoint t => Sys2Proof.Machine.execYieldPoint t s
  | .yieldWindowEnd t => Sys2Proof.Machine.execYieldWindowEnd t s
  | .slotBoundary t => Sys2Proof.Machine.execSlotBoundary t s
  | .pinTranslate t => Sys2Proof.Machine.execPinTranslate t s
  | .pinVerify t => Sys2Proof.Machine.execPinVerify t s
  | .pinValueGenerate t => Sys2Proof.Machine.execPinValueGenerate t s
  | .payMacGenerate t => Sys2Proof.Machine.execPayMacGenerate t s
  | .payMacVerify t => Sys2Proof.Machine.execPayMacVerify t s
  | .valueGenerate t => Sys2Proof.Machine.execValueGenerate t s
  | .valueVerify t => Sys2Proof.Machine.execValueVerify t s
  | .emvArqcVerify t => Sys2Proof.Machine.execEmvArqcVerify t s
  | .dukptInitExport t => Sys2Proof.Machine.execDukptInitExport t s
  | .componentBegin q ix => Sys2Proof.Machine.execComponentBegin q ix s
  | .componentAdd q ix => Sys2Proof.Machine.execComponentAdd q ix s
  | .componentCommit q ix => Sys2Proof.Machine.execComponentCommit q ix s
  | .componentLoadExpiry load => Sys2Proof.Machine.execComponentLoadExpiry load s
  | .objSeal t => Sys2Proof.Machine.execObjSeal t s
  | .objOpen t => Sys2Proof.Machine.execObjOpen t s
  | .manifestBuild t => Sys2Proof.Machine.execManifestBuild t s
  | .manifestSign t => Sys2Proof.Machine.execManifestSign t s
  | .custodySign t => Sys2Proof.Machine.execCustodySign t s
  | .timestamp t => Sys2Proof.Machine.execTimestamp t s
  | .timeQuery t => Sys2Proof.Machine.execTimeQuery t s
  | .chainAppend t => Sys2Proof.Machine.execChainAppend t s
  | .repointOpen q ix => Sys2Proof.Machine.execRepointOpen q ix s
  | .repointQuery q ix => Sys2Proof.Machine.execRepointQuery q ix s
  | .repointCommit q ix => Sys2Proof.Machine.execRepointCommit q ix s
  | .repointCommitDrained => Sys2Proof.Machine.execRepointCommitDrained s
  | .repointAbandon q ix => Sys2Proof.Machine.execRepointAbandon q ix s
  | .campaignStep => Sys2Proof.Machine.execCampaignStep s
  | .lineReadReturn ch line burst => Sys2Proof.Machine.execLineReadReturn ch line burst s
  | .patrolScrubStep ch bursts => Sys2Proof.Machine.execPatrolScrubStep ch bursts s
  | .ecsPass ch counts => Sys2Proof.Machine.execEcsPass ch counts s
  | .refreshTick ch rfm => Sys2Proof.Machine.execRefreshTick ch rfm s
  | .sidebandPoll ch temp => Sys2Proof.Machine.execSidebandPoll ch temp s
  | .retrain q ix => Sys2Proof.Machine.execRetrain q ix s
  | .retrainDone => Sys2Proof.Machine.execRetrainDone s
  | .evacuate q ix => Sys2Proof.Machine.execEvacuate q ix s
  | .evacuateDone => Sys2Proof.Machine.execEvacuateDone s
  | .powerDown q ix => Sys2Proof.Machine.execPowerDown q ix s
  | .restore q ix => Sys2Proof.Machine.execRestore q ix s
  | .restoreSupplySettled r => Sys2Proof.Machine.execRestoreSupplySettled r s
  | .restoreDone => Sys2Proof.Machine.execRestoreDone s
  | .markAbsent q ix => Sys2Proof.Machine.execMarkAbsent q ix s
  | .entropyStart failed katOk => Sys2Proof.Machine.execEntropyStart failed katOk s
  | .entropyWindow src raw => Sys2Proof.Machine.execEntropyWindow src raw s
  | .entropyRequest p n pr => Sys2Proof.Machine.execEntropyRequest p n pr s
  | .restart q ix => Sys2Proof.Machine.execRestart q ix s
  | .kat q ix pass => Sys2Proof.Machine.execKat q ix pass s
  | .sourceOut q ix => Sys2Proof.Machine.execSourceOut q ix s
  | .sourceIn q ix pass => Sys2Proof.Machine.execSourceIn q ix pass s
  | .rngGenerate t => Sys2Proof.Machine.execRngGenerate t s
  | .rngStatus t => Sys2Proof.Machine.execRngStatus t s
  | .prtStage q ix => Sys2Proof.Machine.execPrtStage q ix s
  | .prtApply q ix => Sys2Proof.Machine.execPrtApply q ix s
  | .liveRestartHodBound => Sys2Proof.Machine.execLiveRestartHodBound s
  | .liveRestartDone => Sys2Proof.Machine.execLiveRestartDone s
  | .prtQuery q ix => Sys2Proof.Machine.execPrtQuery q ix s
  | .drain q ix => Sys2Proof.Machine.execDrain q ix s
  | .tileDrained t => Sys2Proof.Machine.execTileDrained t s
  | .ret q ix => Sys2Proof.Machine.execReturn q ix s
  | .tileSelfTestDone t failed => Sys2Proof.Machine.execTileSelfTestDone t failed s
  | .tilReset q ix => Sys2Proof.Machine.execTilReset q ix s
  | .lcyTransition q ix cut => Sys2Proof.Machine.execLcyTransition q ix cut s
  | .userErase q ix => Sys2Proof.Machine.execUserErase q ix s
  | .lcySvnAdvance q ix cut => Sys2Proof.Machine.execLcySvnAdvance q ix cut s
  | .debugChallenge q ix => Sys2Proof.Machine.execDebugChallenge q ix s
  | .debugOpen q ix => Sys2Proof.Machine.execDebugOpen q ix s
  | .attest t => Sys2Proof.Machine.execAttest t s
  | .railGlitch rail => Sys2Proof.Machine.execRailGlitch rail s
  | .railExcursion rail => Sys2Proof.Machine.execRailExcursion rail s
  | .meshSample rx => Sys2Proof.Machine.execMeshSample rx s
  | .enclosureSample opened => Sys2Proof.Machine.execEnclosureSample opened s
  | .clockWindow island percent stopped byDesign => Sys2Proof.Machine.execClockWindow island percent stopped byDesign s
  | .dieTempSample temps => Sys2Proof.Machine.execDieTempSample temps s
  | .cellExcursion cell mv => Sys2Proof.Machine.execCellExcursion cell mv s
  | .purgeRecoveryPass fails => Sys2Proof.Machine.execPurgeRecoveryPass fails s
  | .episodeEnd => Sys2Proof.Machine.execEpisodeEnd s
  | .tamperClear q ix => Sys2Proof.Machine.execTamperClear q ix s
  | .vaultPolarityRefresh => Sys2Proof.Machine.execVaultPolarityRefresh s
  | .cellSupplySwitch mvA mvB => Sys2Proof.Machine.execCellSupplySwitch mvA mvB s
  | .cellChargeControl cell mv ma => Sys2Proof.Machine.execCellChargeControl cell mv ma s
  | .cellPeriodicLoadTest cell => Sys2Proof.Machine.execCellPeriodicLoadTest cell s
  | .remove q ix => Sys2Proof.Machine.execRemove q ix s
  | .cellInserted cell mv => Sys2Proof.Machine.execCellInserted cell mv s
  | .loadTest q ix => Sys2Proof.Machine.execLoadTest q ix s
  | .depassivate q ix => Sys2Proof.Machine.execDepassivate q ix s
  | .depassivationPulse cell mv => Sys2Proof.Machine.execDepassivationPulse cell mv s
  | .gaugeReset q ix => Sys2Proof.Machine.execGaugeReset q ix s
  | .vaultAdopt q ix => Sys2Proof.Machine.execVaultAdopt q ix s
  | .feedBelowLow mv => Sys2Proof.Machine.execFeedBelowLow mv s
  | .deglitchExpiry => Sys2Proof.Machine.execDeglitchExpiry s
  | .switchoverComplete => Sys2Proof.Machine.execSwitchoverComplete s
  | .tileResume => Sys2Proof.Machine.execTileResume s
  | .feedAboveHigh feed mv => Sys2Proof.Machine.execFeedAboveHigh feed mv s
  | .feedGood feed mv => Sys2Proof.Machine.execFeedGood feed mv s
  | .autoReturnExpiry => Sys2Proof.Machine.execAutoReturnExpiry s
  | .selectA q ix => Sys2Proof.Machine.execSelectA q ix s
  | .selectB q ix => Sys2Proof.Machine.execSelectB q ix s
  | .thermalTick a b => Sys2Proof.Machine.execThermalTick a b s
  | .fanStall rpm => Sys2Proof.Machine.execFanStall rpm s
  | .heartbeatSend => Sys2Proof.Machine.execHeartbeatSend s
  | .heartbeatRx hb => Sys2Proof.Machine.execHeartbeatRx hb s
  | .heartbeatMiss => Sys2Proof.Machine.execHeartbeatMiss s
  | .probeRx => Sys2Proof.Machine.execProbeRx s
  | .probeAckRx => Sys2Proof.Machine.execProbeAckRx s
  | .probeTimeout => Sys2Proof.Machine.execProbeTimeout s
  | .svcLinkLossExpiry => Sys2Proof.Machine.execSvcLinkLossExpiry s
  | .witnessCasResult value => Sys2Proof.Machine.execWitnessCasResult value s
  | .witnessTimeout => Sys2Proof.Machine.execWitnessTimeout s
  | .witnessRetry => Sys2Proof.Machine.execWitnessRetry s
  | .queueResume q r => Sys2Proof.Machine.execQueueResume q r s
  | .mirrorBatchRx b => Sys2Proof.Machine.execMirrorBatchRx b s
  | .batchAckRx seq => Sys2Proof.Machine.execBatchAckRx seq s
  | .transportSend => Sys2Proof.Machine.execTransportSend s
  | .transportRx r => Sys2Proof.Machine.execTransportRx r s
  | .pageReqRx o => Sys2Proof.Machine.execPageReqRx o s
  | .pageDataRx o image => Sys2Proof.Machine.execPageDataRx o image s
  | .resyncRx r => Sys2Proof.Machine.execResyncRx r s
  | .mirrorLinkUp nonce => Sys2Proof.Machine.execMirrorLinkUp nonce s
  | .mirrorPathReturn => Sys2Proof.Machine.execMirrorPathReturn s
  | .pairBind q ix offerOk secret peer => Sys2Proof.Machine.execPairBind q ix offerOk secret peer s
  | .pairQuery q ix => Sys2Proof.Machine.execPairQuery q ix s
  | .pairUnbind q ix => Sys2Proof.Machine.execPairUnbind q ix s
  | .pairUnfence q ix => Sys2Proof.Machine.execPairUnfence q ix s
  | .pairSwitch q ix => Sys2Proof.Machine.execPairSwitch q ix s
  | .cfgRead q ix => Sys2Proof.Machine.execCfgRead q ix s
  | .cfgWrite q ix => Sys2Proof.Machine.execCfgWrite q ix s
  | .cfgStage q ix => Sys2Proof.Machine.execCfgStage q ix s
  | .cfgApply q ix => Sys2Proof.Machine.execCfgApply q ix s
  | .sessionChallenge q ix => Sys2Proof.Machine.execSessionChallenge q ix s
  | .sessionOpen q ix => Sys2Proof.Machine.execSessionOpen q ix s
  | .sessionClose q ix => Sys2Proof.Machine.execSessionClose q ix s
  | .sessionIdleExpiry q => Sys2Proof.Machine.execSessionIdleExpiry q s
  | .ceremonyBegin q ix => Sys2Proof.Machine.execCeremonyBegin q ix s
  | .ceremonyJoin q ix => Sys2Proof.Machine.execCeremonyJoin q ix s
  | .ceremonyEnd q ix => Sys2Proof.Machine.execCeremonyEnd q ix s
  | .ceremonyExpiry => Sys2Proof.Machine.execCeremonyExpiry s
  | .actorEnrol q ix => Sys2Proof.Machine.execActorEnrol q ix s
  | .actorRemove q ix => Sys2Proof.Machine.execActorRemove q ix s
  | .fwStage q ix => Sys2Proof.Machine.execFwStage q ix s
  | .fwWriteBank q ix => Sys2Proof.Machine.execFwWriteBank q ix s
  | .fwActivate q ix => Sys2Proof.Machine.execFwActivate q ix s
  | .fwRelease q ix => Sys2Proof.Machine.execFwRelease q ix s
  | .floodEnd ring code => Sys2Proof.Machine.execFloodEnd ring code s
  | .eventSendTimer ring => Sys2Proof.Machine.execEventSendTimer ring s
  | .evqAttach t => Sys2Proof.Machine.execEvqAttach t s
  | .evqMark t => Sys2Proof.Machine.execEvqMark t s
  | .evqRewind t => Sys2Proof.Machine.execEvqRewind t s
  | .cardDetect n => Sys2Proof.Machine.execCardDetect n s
  | .cardCmd1Poll n ready => Sys2Proof.Machine.execCardCmd1Poll n ready s
  | .cardIdentify n info mv => Sys2Proof.Machine.execCardIdentify n info mv s
  | .cardResponse n a => Sys2Proof.Machine.execCardResponse n a s
  | .cardBusyTimeout n => Sys2Proof.Machine.execCardBusyTimeout n s
  | .cardRemove n => Sys2Proof.Machine.execCardRemove n s
  | .cardQuery q ix => Sys2Proof.Machine.execCardQuery q ix s
  | .cardLock q ix => Sys2Proof.Machine.execCardLock q ix s
  | .cardUnlock q ix => Sys2Proof.Machine.execCardUnlock q ix s
  | .cardForceErase q ix => Sys2Proof.Machine.execCardForceErase q ix s
  | .cardWrite q ix => Sys2Proof.Machine.execCardWrite q ix s
  | .cardShareOpen q ix => Sys2Proof.Machine.execCardShareOpen q ix s
  | .estateCreate q ix => Sys2Proof.Machine.execEstateCreate q ix s
  | .bootRecordWrite q ix => Sys2Proof.Machine.execBootRecordWrite q ix s
  | .pmbusPoll rail status vout iout temp => Sys2Proof.Machine.execPmbusPoll rail status vout iout temp s
  | .pmbusAlert master addr status => Sys2Proof.Machine.execPmbusAlert master addr status s
  | .bypass => Sys2Proof.Machine.execBypass s
  | .idcode => Sys2Proof.Machine.execIdcode s
  | .samplePreload => Sys2Proof.Machine.execSamplePreload s
  | .identity => Sys2Proof.Machine.execIdentity s
  | .extest => Sys2Proof.Machine.execExtest s
  | .clamp => Sys2Proof.Machine.execClamp s
  | .highz => Sys2Proof.Machine.execHighz s
  | .debugAccess => Sys2Proof.Machine.execDebugAccess s
  | .feedLost feed mv => Sys2Proof.Machine.execFeedLost feed mv s
  | .feedGlitch => Sys2Proof.Machine.execFeedGlitch s
  | .mirrorLinkDown => Sys2Proof.Machine.execMirrorLinkDown s
  | .cellLow cell mv => Sys2Proof.Machine.execCellLow cell mv s
  | .vaultSupplyBelowRetention => Sys2Proof.Machine.execVaultSupplyBelowRetention s
  | .tamperSourceInactive src => Sys2Proof.Machine.execTamperSourceInactive src s
  | .ptpGeneralMessageRx port iface dom tr utc => Sys2Proof.Machine.execPtpGeneralMessageRx port iface dom tr utc s
  | .arpNdReplyRx addr mac => Sys2Proof.Machine.execArpNdReplyRx addr mac s
  | .pauseTimeExpiry port prio => Sys2Proof.Machine.execPauseTimeExpiry port prio s
  | .flashWriteDone verified => Sys2Proof.Machine.execFlashWriteDone verified s
  | .loadTestDone cell mv => Sys2Proof.Machine.execLoadTestDone cell mv s
  | .cellRemoveHoldExpiry cell => Sys2Proof.Machine.execCellRemoveHoldExpiry cell s

end Sys2Proof.Machine
end

