-- ==== Sys2Proof/Machine/Idle.lean ====
section
/-! DEFINITION. What passes when no command waits: one nanosecond (notes/assumptions/1.md). -/

namespace Sys2Proof.Machine

/-- An idle step: one nanosecond of time. -/
def State.idle (s : State) : State := { s with clock := s.clock.pass 1 }

end Sys2Proof.Machine
end

