-- ==== Sys2Proof/Safety.lean ====
section
/-! DEFINITION. The terms the statements use: what every command keeps (`State.Inv`, `Fuses.Grows`), and what it means that a
command's job completes. -/

namespace Sys2Proof.Machine

/-! ### What every step keeps -/

/-- The parts of the state that the whole-machine rules speak of. -/
structure Spine where
  pending : List Instr
  tiles : List Nat
  channels : List Nat
  cards : List Nat
  sources : List Nat
  scratch : List (Nat × Mem)
  fuses : Fuses
  gateA : Bool
  gateB : Bool
  active : Nat
  switching : Option (Nat × Nat)
  deriving DecidableEq, Repr

/-- The spine of a state: the queue of commands, the numbers of its fixed units, the scratchpads, the fuses and the feeds' gates. -/
def State.spine (s : State) : Spine :=
  { pending := s.pending, tiles := s.tiles.map (fun x => x.num), channels := s.dram.channels.map (fun x => x.num),
    cards := s.io.ports.map (fun x => x.num), sources := s.ent.sources.map (fun x => x.num),
    scratch := s.courses.map (fun c => (c.num, c.scratch)), fuses := s.life.fuses,
    gateA := s.power.gateA, gateB := s.power.gateB, active := s.power.active,
    switching := s.power.switching.map (fun w => (w.step, w.target)) }

/-- R402: the gate of the feed that is not active is off, and between the steps that turn the active gate off and the incoming one
on, both are. -/
structure Spine.Gates (x : Spine) : Prop where
  active : x.active = 0 ∨ x.active = 1
  offA : x.active = 1 → x.gateA = false
  offB : x.active = 0 → x.gateB = false
  target : ∀ w, x.switching = some w → w.1 = 1 ∨ w.1 = 2 → w.2 = 1 - x.active
  both : ∀ w, x.switching = some w → w.1 = 2 → x.gateA = false ∧ x.gateB = false

/-- R14, R274, R302, R344, R471: the device has 48 tiles, 6 courses, 8 channels, 4 card ports and 22 sources, each number once;
every scratchpad keeps its canonical form; at most one feed's gate is on. -/
structure Spine.Inv (x : Spine) : Prop where
  tiles : x.tiles = List.range 48
  channels : x.channels = List.range 8
  cards : x.cards = List.range 4
  sources : x.sources = List.range 22
  courses : x.scratch.map Prod.fst = List.range 6
  scratch : ∀ c ∈ x.scratch, Memory.wf c.2 = true
  gates : x.Gates

/-- The invariant of a state. -/
def State.Inv (s : State) : Prop := s.spine.Inv

/-- Every bit set among the first `n` bytes of `a` is set in `b`. -/
def bitsKept (n : Nat) (a b : Bytes) : Prop := ∀ i, i < n → a.getD i 0 &&& ~~~(b.getD i 0) = 0

/-- Every bit set in a life-cycle slot `a` is set in `b`. -/
structure LcSlot.Grows (a b : LcSlot) : Prop where
  state : a.state &&& ~~~b.state = 0
  targetA : a.targetA &&& ~~~b.targetA = 0
  targetB : a.targetB &&& ~~~b.targetB = 0

/-- R348: every fuse blown in `a` is blown in `b`; MIN_SVN and the evidence counters are numbers of fuses blown. -/
structure Fuses.Grows (a b : Fuses) : Prop where
  dus : bitsKept 64 a.dus b.dus
  dusCheck : bitsKept 8 a.dusCheck b.dusCheck
  serial : b.serial = a.serial
  certDigest : bitsKept 32 a.certDigest b.certDigest
  slot0 : a.slot0.Grows b.slot0
  slot1 : a.slot1.Grows b.slot1
  slot2 : a.slot2.Grows b.slot2
  slot3 : a.slot3.Grows b.slot3
  owner0 : bitsKept 32 a.owner0 b.owner0
  owner1 : bitsKept 32 a.owner1 b.owner1
  owner2 : bitsKept 32 a.owner2 b.owner2
  owner3 : bitsKept 32 a.owner3 b.owner3
  hyRevoke : a.hyRevoke &&& ~~~b.hyRevoke = 0
  minSvn : a.minSvn ≤ b.minSvn
  evidence : ∀ k, min 255 (a.evidence.getD k 0) ≤ b.evidence.getD k 0
  trim : b.trim = a.trim

/-- What one run of a command keeps of what stood before it: the queue `p`, the invariant, and the fuses of `f`. -/
structure Spine.Kept (p : List Instr) (f : Fuses) (x : Spine) : Prop where
  pending : x.pending = p
  inv : x.Inv
  fuses : f.Grows x.fuses

/-! ### Commands whose job stands where it can run -/

/-- R25, R35, R393, R442: the management command of queue `q`, ring index `i` and opcode `op` stands with the control cluster, which
executes it now: the cores run, no live control restart is under way, no command fetched before it in STANDBY has still to begin, and a
freeze, if one is in force, does not hold the command back. -/
structure CtlReady (s : State) (q i op : Nat) (j : Job) : Prop where
  job : s.job? (q, BitVec.ofNat 32 i) = some j
  phase : j.phase = .control
  opcode : j.desc.opcode = op
  cores : s.coresRun = true
  freeze : s.guard.freeze = false ∨ freezeOps.contains op = true
  turn : s.turnOf j = true
  restart : s.restarting = false

/-- R438: a CFG_WRITE stands ready that writes action code `act` into bits [hi:lo] of the action register at `addr`. -/
structure ActReady (s : State) (q i addr hi lo act : Nat) (j : Job) : Prop where
  ready : CtlReady s q i Op.cfgWrite j
  addr : j.cfgAddr = addr
  mask : j.cfgMask ≠ 0
  value : bitsOf hi lo (j.merge 0) = act

/-- R17, R20, R100: tile `t` runs a job of opcode `op` whose whole input is there and which has no result yet, and the tile's clock runs. -/
structure TileReady (s : State) (t op : Nat) (j : Job) : Prop where
  tile : (s.tile? t).bind (fun x => x.job) = some j.id
  job : s.job? j.id = some j
  opcode : j.desc.opcode = op
  fresh : j.result = none
  whole : j.streams = false
  served : (s.tile? t).map s.tileRuns = some true
  phase : j.phase = .running t

/-- R144, R158: the token of a key slot of the job has delivered record `r`, and tile `t` has its material `m`. -/
structure KeyReady (s : State) (t : Nat) (j : Job) (slot : Nat) (r : KeyRec) (m : Bytes) : Prop where
  record : j.rec? slot = some r
  mat : s.keyMat t j slot = some m

end Sys2Proof.Machine
end

