-- ==== Sys2Proof/Certificates/Slice0/Obligations.lean ====
section
/-! DEFINITION. The statements for the provers, one per group of commands or rule of the spec. -/

open Sys2Proof Sys2Proof.Machine

/-- One step takes the command at the front of the queue and runs it with the queue's rest, and no command touches the queue, so commands
run first in, first out; every command answers a next state from every state: none stops the device; with no command waiting one
nanosecond passes and nothing but the clock changes (log entry 1: the model's choice). -/
def Obligations.StepsTakeTheFrontCommand : Prop :=
  (∀ (c : Instr) (rest : List Instr) (s : State), step { s with pending := c :: rest } = exec c { s with pending := rest }) ∧
  (∀ (c : Instr) (s t : State), s.Inv → exec c s = .next t → t.pending = s.pending) ∧
  (∀ (c : Instr) (s : State), ∃ t, exec c s = .next t) ∧
  (∀ (s : State), s.pending = [] → ∃ t, step s = .next t ∧ t.clock.mono = s.clock.mono + 1 ∧ t = { s with clock := t.clock })

/-- Right after reset no command, queue or job is there, the partition table is the default table, both feeds' gates are off, the control
cores are in reset, the device is in no pair, every register reads its default (those without one in the spec what log entries 2 and 3
name: the model's choice), and the invariant of EveryStepKeepsTheInvariant holds. -/
def Obligations.ResetIsAsTheSpecSays : Prop :=
  State.reset.Inv ∧ State.reset.pending = [] ∧ State.reset.qps = [] ∧ State.reset.jobs = [] ∧ State.reset.tabs.table = defaultTable ∧
    State.reset.power.gateA = false ∧ State.reset.power.gateB = false ∧ State.reset.power.coresUp = false ∧ State.reset.pair.role = 0 ∧
    (∀ addr idx, State.reset.reg addr idx = regDefault addr idx) ∧ (∀ addr k, bitOf k (State.reset.reg addr) = bitOf k (regDefault addr 0))

/-- R14, R274, R302, R344, R402, R471: the invariant that every step keeps: the device has each of its 48 tiles, 6 courses, 8 channels, 4
card ports and 22 sources once; every scratchpad keeps its canonical form; the gate of the feed that does not carry the load is off. -/
def Obligations.EveryStepKeepsTheInvariant : Prop :=
  ∀ (s t : State), s.Inv → step s = .next t → t.Inv

/-- R348: a fuse bit can only be blown from 0 to 1: whatever command runs, every fuse blown before it is blown after it. The evidence
counters and MIN_SVN, numbers of fuses blown, never fall; SERIAL and TRIM, written in the factory, do not change. -/
def Obligations.FusesAreOnlyBlown : Prop :=
  ∀ (c : Instr) (s t : State), s.Inv → exec c s = .next t → s.life.fuses.Grows t.life.fuses

/-- The frame of the tile opcodes that only answer. QUEUE_ECHO, HASH, RNG_GENERATE, RNG_STATUS, TIME_QUERY, MANIFEST_BUILD and ATTEST
change no job but the one their tile runs, and nothing but jobs; the ciphers' SYM_DECRYPT, the MACs, and the PIN, payment MAC, value and
EMV opcodes change besides only their own tile's key cache and, where a wrapped key fails to open, the event log and its notice. -/
def Obligations.TileAnswersLeaveTheRest : Prop :=
  (∀ (s u : State) (t : Nat) (c : Instr), c ∈ [Instr.queueEcho t, .hash t, .rngGenerate t, .rngStatus t, .timeQuery t, .manifestBuild t, .attest t] →
    exec c s = .next u → u = { s with jobs := u.jobs } ∧
      ∀ id, (s.tile? t).bind (fun x => x.job) ≠ some id → u.job? id = s.job? id) ∧
  (∀ (s u : State) (t : Nat) (c : Instr), c ∈ [Instr.symDecrypt t, .macGenerate t, .macVerify t, .pinTranslate t, .pinVerify t,
      .pinValueGenerate t, .payMacGenerate t, .payMacVerify t, .valueGenerate t, .valueVerify t, .emvArqcVerify t, .dukptInitExport t] →
    exec c s = .next u → u = { s with jobs := u.jobs, tiles := u.tiles, log := u.log, regs := u.regs } ∧
      (∀ id, (s.tile? t).bind (fun x => x.job) ≠ some id → u.job? id = s.job? id) ∧
      (∀ n, n ≠ t → u.tile? n = s.tile? n) ∧ (∀ x, s.tile? t = some x → ∃ k, u.tile? t = some { x with cache := k }) ∧
      (∀ addr idx, addr < 2 ^ 20 → addr ≠ Reg.evrNotice → u.reg addr idx = s.reg addr idx))

/-- R41, R46, R54 to R56: a doorbell WRITE of exactly 8 bytes with zero upper bytes, at the offset of its index, moves that index when the
queue's rule accepts it; any other WRITE into the doorbell block is ignored and counted, on the queue and on the device, and raises
DB_BAD; a WRITE that leaves the block is answered with a NAK of a remote access error; a queue that does not exist changes nothing. -/
def Obligations.DoorbellsMoveTheirIndex : Prop :=
  (∀ (s : State) (n : Nat) (q : Qp) (data : Bytes) (p : BitVec 32), s.qp? n = some q → data.length = 8 → zeroAt 4 4 data = true →
    p = BitVec.ofNat 32 (leAt 0 4 data) → s.keys.persistQ ≠ some n → (p - q.sqDoorbell).toNat ≤ 2 ^ q.cfg.sqLog2 →
    (p - q.fetchIndex).toNat ≤ 2 ^ q.cfg.sqLog2 →
    exec (.producerDoorbell n 0 data) s =
      .next ((((s.inbound n).modQp n (fun x => { x with sqDoorbell := p })).queueWatermark n 0).touch n)) ∧
  (∀ (s : State) (n : Nat) (q : Qp) (data : Bytes) (c : BitVec 32), s.qp? n = some q → data.length = 8 → zeroAt 4 4 data = true →
    c = BitVec.ofNat 32 (leAt 0 4 data) → (c - q.cqDoorbell).toNat ≤ 2 ^ q.cfg.cqLog2 → (q.cqPosted - c).toNat ≤ 2 ^ q.cfg.cqLog2 →
    exec (.consumerDoorbell n 8 data) s =
      .next (((((s.inbound n).modQp n (fun x => { x with cqDoorbell := c })).queueWatermark n 1).touch n).ackNotices n)) ∧
  (∀ (s : State) (n off : Nat) (q : Qp) (data : Bytes), s.qp? n = some q → off + data.length ≤ 64 →
    (data.length ≠ 8 ∨ zeroAt 4 4 data = false ∨ off ≠ 0 → exec (.producerDoorbell n off data) s = .next ((s.inbound n).badDoorbell n)) ∧
    (data.length ≠ 8 ∨ zeroAt 4 4 data = false ∨ off ≠ 8 → exec (.consumerDoorbell n off data) s = .next ((s.inbound n).badDoorbell n))) ∧
  (∀ (s : State) (n : Nat) (q : Qp) (data : Bytes) (p : BitVec 32), s.qp? n = some q → doorbellIndex data = some p →
    s.keys.persistQ = some n ∨ 2 ^ q.cfg.sqLog2 < (p - q.sqDoorbell).toNat ∨ 2 ^ q.cfg.sqLog2 < (p - q.fetchIndex).toNat →
    exec (.producerDoorbell n 0 data) s = .next ((s.inbound n).badDoorbell n)) ∧
  (∀ (s : State) (n off : Nat) (q : Qp) (data : Bytes), s.qp? n = some q → 64 < off + data.length →
    exec (.producerDoorbell n off data) s = .next (s.send (.nak n 0x62)) ∧ exec (.consumerDoorbell n off data) s = .next (s.send (.nak n 0x62))) ∧
  (∀ (s : State) (n off : Nat) (data : Bytes), s.qp? n = none →
    exec (.producerDoorbell n off data) s = .next s ∧ exec (.consumerDoorbell n off data) s = .next s)

/-- R56: a consumer index within both bounds moves CQ_DOORBELL, and the notices it acknowledges are marked; any other value is ignored and
raises DB_BAD, on its queue alone. -/
def Obligations.ConsumerIndicesAreJudged : Prop :=
  ∀ (s : State) (n : Nat) (q : Qp) (data : Bytes) (c : BitVec 32), s.qp? n = some q → data.length = 8 → zeroAt 4 4 data = true →
    c = BitVec.ofNat 32 (leAt 0 4 data) →
    ((c - q.cqDoorbell).toNat ≤ 2 ^ q.cfg.cqLog2 ∧ (q.cqPosted - c).toNat ≤ 2 ^ q.cfg.cqLog2 → exec (.consumerDoorbell n 8 data) s =
      .next (((((s.inbound n).modQp n (fun x => { x with cqDoorbell := c })).queueWatermark n 1).touch n).ackNotices n)) ∧
    (2 ^ q.cfg.cqLog2 < (c - q.cqDoorbell).toNat ∨ 2 ^ q.cfg.cqLog2 < (q.cqPosted - c).toNat → ∃ t,
      exec (.consumerDoorbell n 8 data) s = .next t ∧ t.qp? n = some { q with hostPsn := q.hostPsn + 1, dbBad := q.dbBad + 1 } ∧
      (∀ m, m ≠ n → t.qp? m = s.qp? m) ∧ t.jobs = s.jobs ∧ t.keys = s.keys ∧ t.commit = s.commit)

/-- R41, R42, R71, R418: inbound READs and unsupported requests of a queue are answered with a NAK. When ACK_TIMEOUT passes on a queue's
oldest request, or a receiver is not ready for its SEND, a try is counted until the limit of HQI_TRANSPORT, and then the queue enters
ERROR, as it does at once on a remote error; when RNR_TIMER expires the waiting SENDs go out again. An acknowledgement ends every request
up to its PSN, and a NAK of a sequence error those before the PSN it names. -/
def Obligations.TransportAnswers : Prop :=
  (∀ (s : State) (n a l : Nat), (s.qp? n).isSome → exec (.inboundReadNak n a l) s = .next (s.send (.nak n 0x62))) ∧
  (∀ (s : State) (n op : Nat), (s.qp? n).isSome → exec (.inboundUnsupportedNak n op) s = .next (s.send (.nak n 0x61))) ∧
  (∀ (s u : State) (n : Nat) (q : Qp) (r : Req) (rest : List Req), s.qp? n = some q → q.reqs = r :: rest →
    u = s.advanceTo (max s.clock.mono (r.at_ + s.ackTime)) →
    exec (.ackTimeout n) s = .next (if u.fld Reg.hqiTransport 7 5 ≤ r.retries then u.enterError n 0xFF
      else u.modQp n (fun q =>
        { q with reqs := modWhere (fun x => x.psn == r.psn) (fun x => { x with retries := x.retries + 1, at_ := u.clock.mono }) q.reqs }))) ∧
  (∀ (s : State) (n : Nat) (q : Qp) (r : Req), s.qp? n = some q → q.reqs.find? (fun r => r.kind == .send) = some r →
    exec (.rnrNakRx n) s =
      .next (if s.fld Reg.hqiTransport 10 8 ≠ 7 ∧ s.fld Reg.hqiTransport 10 8 ≤ r.rnrTries then s.enterError n 0xFF
        else s.modQp n (fun q =>
          { q with reqs := modWhere (fun x => x.psn == r.psn)
                     (fun x => { x with rnrTries := x.rnrTries + 1, rnrWait := true, at_ := s.clock.mono }) q.reqs }))) ∧
  (∀ (s u : State) (n : Nat) (q : Qp) (r : Req), s.qp? n = some q → q.reqs.find? (fun r => r.rnrWait) = some r →
    u = s.advanceTo (max s.clock.mono (r.at_ + rnrTime (s.fld Reg.hqiTransport 15 11))) →
    exec (.rnrRetryExpiry n) s = .next (u.modQp n (fun q =>
      { q with reqs := q.reqs.map (fun r => if r.rnrWait then { r with rnrWait := false, at_ := u.clock.mono } else r) }))) ∧
  (∀ (s : State) (n syn : Nat), exec (.remoteErrorNakRx n syn) s = .next (s.enterError n syn)) ∧
  (∀ (s : State) (n psn : Nat) (q : Qp), s.qp? n = some q →
    exec (.writeAckRx n psn) s = .next (s.ackUpTo n (BitVec.ofNat 24 psn)) ∧
    exec (.psnSequenceNakRx n psn) s = .next (s.ackUpTo n (BitVec.ofNat 24 psn - 1)))

/-- R71: a queue other than the persistence queue that is neither in ERROR nor draining enters ERROR on a remote error: its requests,
fetches and completions are dropped, and its configuration stays. R41, R418: an acknowledgement leaves no request of the queue up to its
PSN outstanding, other than READs, and no other queue's requests change. -/
def Obligations.QueuesDropTheirRequests : Prop :=
  (∀ (s : State) (n syn : Nat) (q : Qp), s.qp? n = some q → q.state ≠ 4 → q.state ≠ 5 → s.keys.persistQ ≠ some n →
    ∃ t x, exec (.remoteErrorNakRx n syn) s = .next t ∧ t.qp? n = some x ∧ x.state = 4 ∧ x.reqs = [] ∧ x.fetches = [] ∧ x.cpls = [] ∧
      x.cfg = q.cfg) ∧
  (∀ (s : State) (n psn : Nat) (q : Qp), s.qp? n = some q →
    ∃ t x, exec (.writeAckRx n psn) s = .next t ∧ t.qp? n = some x ∧
      x.reqs = q.reqs.filter (fun r => !(psnLe r.psn (BitVec.ofNat 24 psn) && !r.kind.isRead)) ∧
      ∀ m, m ≠ n → t.qp? m = s.qp? m)

/-- R46, R47, R49, R50: a QP_CREATE that passes its checks brings the new queue with its PSN and rkey, free values; QP_DESTROY starts the
draining of the queue, which drops its work and fails its jobs with BUFFER_FAULT, and, once no job of it remains, brings its removal; on a
queue that does not exist, drains already or sent the command it is INVALID_INPUT; QP_QUERY of a queue number up to 4,095 completes with
the queue's record and restarts its maxima, and refuses any other. R68, R80: REGION_DECLARE of a region in range, whose number the queue
has not, brings that region, and REGION_REMOVE of a declared region its removal; QUEUE_ECHO answers with its input, and INVALID_INPUT
where its IN_LEN, or the output chained to it, is longer than 65,536 bytes. -/
def Obligations.QueueCommandsRun : Prop :=
  (∀ (s : State) (q ix : Nat) (j : Job) (r : QpRec), CtlReady s q ix Op.qpCreate j → r = parseQp j.input → j.input.length = 128 →
    s.qpRecOk r j.input = true → s.qpRecAllowed r = true → s.qp? r.queue = none →
    s.creating r.queue = false →
    (s.hostKeyCheck r = .status Status.done ∨ ∃ n k, s.hostKeyCheck r = .rec_ n k) →
    exec (.qpCreate q ix) s = .next (({ s with free := s.free + 2 } : State).bringCtl j
      [.qpAdd r (Config.freeNat s.free % 2 ^ 24) (Config.freeNat (s.free + 1) % 2 ^ 32)] []
      (okOut (qpResult r (Config.freeNat s.free % 2 ^ 24) (Config.freeNat (s.free + 1) % 2 ^ 32))))) ∧
  (∀ (s : State) (q ix n : Nat) (j : Job) (x : Qp), CtlReady s q ix Op.qpDestroy j → n = j.desc.pLe 48 2 → s.qp? n = some x →
    n ≠ j.queue → x.state ≠ 5 →
    exec (.qpDestroy q ix) s = .next (
      let a := (s.modQp n (fun y => { y.halt 5 (s.liveJobs n) with destroyBy := some j.id })).postMany n x.readsOut
      let b := ((if x.state = 4 then a else a.dropCpls x true).errAll (fun k => k.queue == n) Status.bufferFault 0xFF20).touch n
      (if b.keys.persistQ = some n then ({ b with keys := { b.keys with persistQ := none } } : State).failBatch else b).block j)) ∧
  (∀ (s : State) (q ix n : Nat) (j : Job), CtlReady s q ix Op.qpDestroy j → n = j.desc.pLe 48 2 →
    s.qp? n = none ∨ n = j.queue ∨ (s.qp? n).map (fun x => x.state) = some 5 →
    exec (.qpDestroy q ix) s = .next (s.deny j Status.invalidInput)) ∧
  (∀ (s : State) (n : Nat) (x : Qp) (id : JobId) (j : Job), s.qp? n = some x → x.destroyBy = some id → s.job? id = some j →
    x.state = 5 → s.liveJobs n = 0 → j.phase = .blocked →
    exec (.qpDestroyDrained n) s = .next (
      let a : State := State.sessionEnds { s with jobs := s.jobs.filter (fun k => k.queue ≠ n) } n
      State.bringCtl { a with mgmt := { a.mgmt with challenges := a.mgmt.challenges.filter (fun y => y.1 ≠ n) },
                              log := { a.log with rings := modWhere (fun r => r.queue == some n) (fun r => { r with queue := none }) a.log.rings } }
        j [.qpGone n] [])) ∧
  (∀ (s : State) (q ix n : Nat) (j : Job), CtlReady s q ix Op.qpQuery j → n = j.desc.pLe 48 2 → n ≤ 4095 →
    exec (.qpQuery q ix) s =
      .next ((s.modQp n (fun y => { y with sqBacklogMax := y.backlog, cqLevelMax := y.cqLevel })).done j (okOut (s.qpRecord n)))) ∧
  (∀ (s : State) (q ix n : Nat) (j : Job), CtlReady s q ix Op.qpQuery j → n = j.desc.pLe 48 2 → 4095 < n →
    exec (.qpQuery q ix) s = .next (s.deny j Status.invalidInput)) ∧
  (∀ (s : State) (q ix n : Nat) (j : Job) (x : Qp) (r : Region), CtlReady s q ix Op.regionDeclare j → n = leAt 0 2 j.input →
    s.qp? n = some x → j.input.length = 32 →
    r = { num := byteAt 2 j.input, read := bitOf 0 (byteAt 3 j.input), write := bitOf 1 (byteAt 3 j.input), rkey := leAt 4 4 j.input,
          base := leAt 8 8 j.input, len := leAt 16 8 j.input } →
    r.num < 16 → byteAt 3 j.input < 4 → 0 < r.len → r.len ≤ 2 ^ 48 → r.base + r.len ≤ 2 ^ 64 → zeroAt 24 8 j.input = true →
    x.regions.any (fun y => y.num == r.num) = false →
    s.declaring n r.num = false →
    exec (.regionDeclare q ix) s = .next (s.bringCtl j [.regionAdd n r] [])) ∧
  (∀ (s : State) (q ix n k : Nat) (j : Job) (x : Qp), CtlReady s q ix Op.regionRemove j → n = j.desc.pLe 48 2 → k = j.desc.p8 50 →
    s.qp? n = some x → (x.regions.find? (fun y => y.num == k)).isSome = true →
    s.removing n k = false →
    exec (.regionRemove q ix) s = .next (s.bringCtl j [.regionDel n k] [])) ∧
  (∀ (s : State) (t : Nat) (j : Job), TileReady s t Op.queueEcho j →
    exec (.queueEcho t) s = .next (s.answer j (if 65536 < (if j.desc.chainWait then j.input.length else j.desc.inLen)
      then fail Status.invalidInput else { okOut j.input with writes := j.input ≠ [] || 0 < j.desc.inLen })))

/-- R52, R57, R59, R60, R173, R176: COMPLETION_WRITE, on a queue that is neither in ERROR nor draining, takes the oldest completion (in a
freeze, the oldest of those that it lets through). The queue posts, in this order: for a job that failed, zeros over the output that it
streamed; for one that is DONE and not chained, the rest of its output, in WRITEs of at most 64 KiB; and the completion, at the next
position of its ring. The completion leaves the list, CQ_POSTED is one higher, and the entries in flight one fewer. No other queue
changes. -/
def Obligations.CompletionIsWritten : Prop :=
  ∀ (s : State) (n : Nat) (q : Qp) (c : Cpl) (b : Bytes), s.qp? n = some q → q.state ≠ 4 → q.state ≠ 5 →
    q.nextCpl s.withholds = some c → b = (c.outBytes n).drop c.zeroFill →
    ∃ t x, exec (.completionWrite n) s = .next t ∧ t.qp? n = some x ∧ x.cpls = q.cpls.erase c ∧ x.cqPosted = q.cqPosted + 1 ∧
      x.inFlight = q.inFlight - 1 ∧
      x.reqs.map (fun r => (r.kind, r.addr, r.data)) = q.reqs.map (fun r => (r.kind, r.addr, r.data)) ++
        (if c.res.status ≠ 0 ∧ 0 < c.zeroFill then [(.write, c.outAddr, zeros c.zeroFill)] else []) ++
        (if c.chained ∨ c.res.status ≠ 0 then []
          else (blocks 65536 b).zipIdx.map (fun e => (.write, c.outAddr + c.res.outOff + c.zeroFill + 65536 * e.2, e.1))) ++
        [(.completion, q.cfg.cqAddr + q.cqStride * (q.cqPosted.toNat % 2 ^ q.cfg.cqLog2),
          q.cplEntry false (cplBytes c c.outWritten (phaseOf q.cqPosted.toNat q.cfg.cqLog2) (q.notices ≠ 0)))] ∧
      ∀ m, m ≠ n → t.qp? m = s.qp? m

/-- R85 to R93: a CTX_BIND that passes its checks brings a new context of generation one above its ID's last, and a CTX_REPLACE the next
generation; CTX_UNBIND of a bound context brings its removal, which completes when no job holds the context any more; CTX_QUERY of one
answers with its record and the number of jobs that hold it. R96: QCOURSE_WRITE brings the queue's new course when it is one of the
partition's home courses, and refuses any other; the queue moves when every job fetched before has completed, and an entry it holds for
its successor keeps its credit in the old course. -/
def Obligations.ContextCommandsRun : Prop :=
  (∀ (s : State) (q ix id : Nat) (j : Job) (c : CtxRec) (k : KeyRec), CtlReady s q ix Op.ctxBind j → c = parseCtx j.input →
    j.manages c.part = true → s.life.erased = false → s.ctxRangeOk j.input true = true → s.ctxKeyCheck c = .ok k →
    s.quotaUsed c.part + 128 ≤ s.quotaOf c.part → s.freeCtxId = some id →
    s.stand (ctxPageObj id) = .loaded ∨ s.stand (ctxPageObj id) = .absent →
    exec (.ctxBind q ix) s = .next (s.bringCtl j [.ctxPut { c with id := id, gen := (alook id s.ctxs.last).getD 0 + 1 }] [ctxPageObj id]
      (okOut (ctxResult id ((alook id s.ctxs.last).getD 0 + 1))))) ∧
  (∀ (s : State) (q ix : Nat) (j : Job) (c cur : CtxRec) (k : KeyRec), CtlReady s q ix Op.ctxReplace j → c = parseCtx j.input →
    j.manages c.part = true → s.ctxRangeOk j.input false = true → s.ctxBusy j c.id = false →
    s.stand (ctxPageObj c.id) = .loaded ∨ s.stand (ctxPageObj c.id) = .absent →
    s.ctxs.bound.find? (fun x => x.id == c.id && x.part == c.part) = some cur → cur.gen ≠ 0xFFFFFFFF → c.gen = cur.gen →
    s.ctxKeyCheck c = .ok k →
    exec (.ctxReplace q ix) s = .next (s.bringCtl j [.ctxPut { c with gen := cur.gen + 1 }] [ctxPageObj c.id]
      (okOut (ctxResult c.id (cur.gen + 1))))) ∧
  (∀ (s : State) (q ix id : Nat) (j : Job) (cur : CtxRec), CtlReady s q ix Op.ctxUnbind j → id = j.desc.pLe 48 4 % 2 ^ 22 →
    s.ctxBusy j id = false → s.stand (ctxPageObj id) = .loaded ∨ s.stand (ctxPageObj id) = .absent →
    s.ctxs.bound.find? (fun x => x.id == id && j.manages x.part) = some cur →
    exec (.ctxUnbind q ix) s = .next (s.bringCtl j [.ctxUnbind id cur.gen] [ctxPageObj id])) ∧
  (∀ (s : State) (id : Nat) (e : Nat × JobId) (j : Job), s.ctxs.unbinding.find? (fun e => e.1 == id) = some e → s.ctxPins id = 0 →
    s.job? e.2 = some j →
    exec (.ctxUnbindDrained id) s =
      .next (({ s with ctxs := { s.ctxs with unbinding := s.ctxs.unbinding.filter (fun e => e.1 ≠ id) } } : State).finish e.2
        (j.result.getD {}) 0xFF true)) ∧
  (∀ (s : State) (q ix id : Nat) (j : Job) (c : CtxRec), CtlReady s q ix Op.ctxQuery j → id = j.desc.pLe 48 4 % 2 ^ 22 →
    s.stand (ctxPageObj id) = .loaded ∨ s.stand (ctxPageObj id) = .absent →
    s.ctxs.bound.find? (fun x => x.id == id && j.manages x.part) = some c →
    exec (.ctxQuery q ix) s = .next (s.done j (okOut (ctxBytes c ++ leBytes 4 (s.ctxPins id) ++ zeros 12)))) ∧
  (∀ (s : State) (q ix n c : Nat) (j : Job) (x : Qp), CtlReady s q ix Op.cfgWrite j → j.cfgAddr = Reg.dspQcourse → j.cfgMask ≠ 0 →
    n = s.selOf j.queue Reg.dspQsel → s.qp? n = some x → c = bitsOf 2 0 (j.merge x.homeCourse) → c < 6 →
    exec (.qcourseWrite q ix) s = .next (if (s.homeCourses x.cfg.part).contains c then s.bringCtl j [.qcourse n c] []
      else s.deny j Status.attrDenied)) ∧
  (∀ (s : State) (n c : Nat) (x : Qp), s.qp? n = some x → x.newCourse = some c → s.jobs.any (fun j => j.queue == n) = false →
    x.fetches = [] → exec (.qcourseDrained n) s = .next (s.modQp n (fun q =>
      { q with homeCourse := c, newCourse := none, heldIn := if q.held.isSome ∧ q.heldIn.isNone then some q.homeCourse else q.heldIn })))

/-- R61 to R66, R73, R96, R98: FETCH_PASS takes the queue whose turn it is. An entry held back over a change of course takes its credit
first; else one READ is issued when the queue may issue a READ, its partition has credit and its completion ring has space; without credit
the queue counts a refusal, and without space a stall. DESCRIPTOR_ARRIVAL opens the entries of the oldest READ, and a QP_SEAL_ESTABLISH
among them stops what was fetched beyond it; it creates all the entries, but holds back the last one while its successor is not known.
R91, R95, R99 to R104, R112: each operand token reaches the entry that waits for it: a context that admits the entry and lists its opcode,
from a cache or, on a miss, from its page; the payload, whole for a management command and up to 1 KiB, else its first 1 KiB, or SEAL_FAIL
when the tag of a whole sealed input fails; a key that the lookup finds; random bits; a predecessor's output. An error token gives the
entry its status. -/
def Obligations.OperandsAreFetched : Prop :=
  (∀ (s : State) (p : Nat) (q : Qp) (a : State), s.nextTurn p = some q →
    a = { s with tabs := { s.tabs with turns := aput p q.cfg.queue s.tabs.turns } } → q.heldIn = none → q.readsOut < q.cfg.rdDepth →
    s.readsOut < 32768 →
    exec (.fetchPass p) s = .next (
      if a.creditLeft q.cfg.part q.homeCourse = 0 ∧ s.power.mode ≠ .standby then a.refuse q.cfg.queue
      else if q.space = 0 then a.modQp q.cfg.queue (fun x => { x with cqStalls := x.cqStalls + 1 })
      else a.fetchRead q (a.fetchCount q (a.creditLeft q.cfg.part q.homeCourse)))) ∧
  (∀ (s : State) (p : Nat) (q : Qp) (a : State), s.nextTurn p = some q →
    a = { s with tabs := { s.tabs with turns := aput p q.cfg.queue s.tabs.turns } } → q.heldIn.isSome = true →
    exec (.fetchPass p) s = .next (
      if a.creditLeft q.cfg.part q.homeCourse = 0 ∧ s.power.mode ≠ .standby then a.refuse q.cfg.queue
      else a.modQp q.cfg.queue (fun x => { x with heldIn := none }))) ∧
  (∀ (s : State) (n : Nat) (data : Bytes) (q q' : Qp) (f : Fetch) (rest : List Fetch) (opened got : List Held) (e : Held) (a b c : State),
    s.qp? n = some q → q.fetches = f :: rest → openEntries q q.sqStride f.first f.count data [] = (q', opened) →
    got = opened.map (s.sampled q) → got.getLast? = some e →
    a = (s.modQp n (fun x => { x with fetches := rest, session := q'.session })).readDone n (fun r => r.kind == ReqKind.readDesc) →
    b = (if e.establishes then ((a.modQp n (fun x => x.stopAt e.idx)).postMany n
      (countOf (fun r => r.kind == ReqKind.readDesc) (((a.qp? n).map (fun x => x.reqs)).getD []))).touch n else a) →
    c = b.modQp n (fun x => { x with held := none }) →
    exec (.descriptorArrival n data) s = .next (if e.createNow q then (c.createAll n none (q.held.toList ++ got)).settle
      else ((c.createAll n (some e) (q.held.toList ++ got).dropLast).modQp n (fun x => { x with held := some e })).settle)) ∧
  (∀ (s : State) (q ix : Nat) (j : Job) (c : CtxRec) (hit : Bool), s.job? (q, BitVec.ofNat 32 ix) = some j → j.wants .context = true →
    j.desc.ctxId ≠ 0 →
    (s.cachedCtx j.course j.desc.ctxId = some c ∧ hit = true) ∨ (s.cachedCtx j.course j.desc.ctxId = none ∧ hit = false ∧
      (s.stand (ctxPageObj j.desc.ctxId) = .loaded ∨ s.stand (ctxPageObj j.desc.ctxId) = .absent) ∧
      s.ctxs.bound.find? (fun c => c.id == j.desc.ctxId) = some c) →
    j.admitted c = true → c.ops.contains j.desc.opcode = true → j.err = none →
    exec (.contextTokenArrival q ix) s =
      .next ((((if hit then s.cacheCtx j.course hit c else (s.cacheCtx j.course hit c).useObj (ctxPageObj c.id)).modJob j.id
        (fun k => { k with ctx := some c, want := k.want.filter (fun t => t ≠ .context) })).askOperands j.id).settle)) ∧
  (∀ (s : State) (q ix : Nat) (id : JobId) (j : Job) (data raw inp : Bytes) (whole : Bool), id = (q, BitVec.ofNat 32 ix) →
    s.job? id = some j → j.wants .payload = true → whole = (j.desc.isMgmt || decide (j.inTotal ≤ 1024)) →
    j.absorb (fixLen (if whole then j.desc.inLen else 1024) data) = (raw, inp) →
    exec (.payloadTokenArrival q ix data) s = .next (
      let a := (s.modJob id (fun k => { k with raw := raw })).readsEnd id raw.length 4
      if j.tagBad raw then a.payloadSealFail id
      else a.deliver id .payload (fun k => { k with input := inp.take j.inTotal, raw := raw, streams := !whole, streamed := !whole }))) ∧
  (∀ (s : State) (q ix slot n : Nat) (id : JobId) (j : Job) (r : KeyRec), id = (q, BitVec.ofNat 32 ix) → s.job? id = some j →
    j.wants (.key slot) = true →
    (j.desc.opcode = Op.objOpen → j.wants .payload = false ∧ j.wants .chain = false ∧ j.objOpenBad = false ∧
      s.notChild j (j.slotHandle slot) = false) →
    s.lookup j.part (j.slotHandle slot) ((((s.keyNeeds j).find? (fun k => k.1 == slot)).map Prod.snd).getD []) = .rec_ n r →
    (isStateful r.alg = false ∨ s.leafWaits j (j.slotHandle slot) = false) →
    ∃ (c t : Nat) (tok : KeyTok), (c = Reg.kstCacheHits ∨ c = Reg.kstCacheMisses) ∧ t = s.keys.tokSeq ∧ tok.slot = slot ∧
      tok.handle = j.slotHandle slot ∧ tok.kr = r ∧ tok.seq = t ∧ tok.ver = s.keyVer (j.slotHandle slot) ∧
      tok.lease = (if isStateful r.alg then s.leafTile j (j.slotHandle slot) else none) ∧
      exec (.keyTokenArrival q ix slot) s =
        .next ((State.useObj { s.bump c with keys := { (s.bump c).keys with tokSeq := t + 1 } }
          (keyPageObj j.part (hPage (j.slotHandle slot)))).deliver id (.key slot)
            (fun k => { k with keys := k.keys.map (fun x => x.only tok.lease) ++ [tok] }))) ∧
  (∀ (s : State) (q ix : Nat) (id : JobId) (j : Job) (e : JobId × Bytes), id = (q, BitVec.ofNat 32 ix) → s.job? id = some j →
    s.ent.delivered.find? (fun e => e.1 == id) = some e → j.wants .entropy = true →
    exec (.entropyTokenArrival q ix) s =
      .next (({ s with ent := { s.ent with delivered := s.ent.delivered.filter (fun e => e.1 ≠ id) } } : State).deliver id .entropy
        (fun k => { k with entropy := e.2 }))) ∧
  (∀ (s : State) (q ix : Nat) (id : JobId) (j : Job) (out : Bytes), id = (q, BitVec.ofNat 32 ix) → s.job? id = some j →
    j.chainIn = some out → j.wants .chain = true →
    exec (.chainTokenArrival q ix) s = .next (s.deliver id .chain (fun k => { k with input := out, chainIn := none }))) ∧
  (∀ (s : State) (q ix n : Nat) (id : JobId) (j : Job), id = (q, BitVec.ofNat 32 ix) → s.job? id = some j → j.wants .payload = true →
    exec (.errorTokenArrival q ix (.bufferFault n)) s =
      .next ((s.errToken id Status.bufferFault (0xFF00 + n % 256) (some .payload)).settle) ∧
    exec (.errorTokenArrival q ix .sealFail) s = .next (s.payloadSealFail id)) ∧
  (∀ (s : State) (q ix n : Nat) (id : JobId) (j : Job), id = (q, BitVec.ofNat 32 ix) → s.job? id = some j → j.wants .entropy = true →
    exec (.errorTokenArrival q ix (.rngFault n)) s = .next ((s.errToken id Status.rngFault n (some .entropy)).settle)) ∧
  (∀ (s : State) (q ix : Nat) (id : JobId) (j : Job), id = (q, BitVec.ofNat 32 ix) → s.job? id = some j →
    exec (.errorTokenArrival q ix .tamperHalt) s = .next (s.errAll (fun k => k.id == id) Status.tamperHalt 0))

/-- R130 to R132: PERSIST_ATTACH brings the new persistence queue, an idle queue of partition 0; PERSIST_REGION_DECLARE adds a region in
range that overlaps none; PERSIST_REGION_REMOVE of a declared region, once its objects are known, removes it when it holds no object,
moves the objects when other regions cover them, and is BUSY otherwise. R130, R136, R137, R440: BATCH_OPEN takes, of the waiting commands,
those that fit what is declared and need wait for no page, up to the limit of KST_CTRL, into a batch with the next epoch, and seals its
objects unless it holds retained configuration alone; while a batch stands at step 1 only the attaching of a persistence queue goes on so.
BATCH_PERSISTED, with every frame of the batch written and acknowledged, roots it: outside a pair that is its commit point, and with a
pair in service the batch is mirrored. -/
def Obligations.PersistenceRuns : Prop :=
  (∀ (s : State) (q ix n : Nat) (j : Job) (x : Qp), CtlReady s q ix Op.persistAttach j → n = j.desc.pLe 48 2 → s.qp? n = some x →
    x.cfg.part = 0 → x.state = 1 ∨ x.state = 3 → x.inFlight = 0 → s.jobs.any (fun k => k.queue == n && k.phase ≠ .done) = false →
    exec (.persistAttach q ix) s = .next (s.bringCtl j [.persistQueue n] [])) ∧
  (∀ (s : State) (q ix : Nat) (j : Job) (r : PRegion), CtlReady s q ix Op.persistRegionDeclare j → r = parsePRegion j.input →
    j.input.length = 32 → r.valid j.input = true → s.keys.regions.any (fun x => x.num == r.num || r.overlaps x) = false →
    exec (.persistRegionDeclare q ix) s =
      .next (({ s with keys := { s.keys with regions := insertBy (fun x => x.num) r s.keys.regions } } : State).done j)) ∧
  (∀ (s : State) (q ix n : Nat) (j : Job) (r : PRegion), CtlReady s q ix Op.persistRegionRemove j → n = j.desc.pLe 48 2 →
    s.keys.regions.find? (fun r => r.num == n) = some r → s.regionUnknown r = false →
    exec (.persistRegionRemove q ix) s = .next (
      let held := (s.keys.objs.filter (fun e => r.covers e.obj)).map (fun e => e.obj)
      if held = [] then ({ s with keys := { s.keys with regions := s.keys.regions.filter (fun x => x.num ≠ n) } } : State).done j
      else if held.any (fun o => !s.keys.regions.any (fun x => x.num ≠ n && x.covers o)) then s.deny j Status.busy
      else ({ s with keys := { s.keys with removing := s.keys.removing ++ [(n, j.id)] } } : State).bringCtl j (held.map (fun o => .move o n))
        (held.filter (fun o => o.kind ≠ 3)))) ∧
  (∀ (s a : State) (busy : Bool) (ready held got left : List Entry) (objs : List Obj) (b0 b : Batch), s.commit.waiting ≠ [] →
    s.guard.freeze = false → busy = s.commit.batches.any (fun b => b.step == 1) → a = (if busy then s else s.rejectUnfit) →
    a.holdBack a.commit.waiting [] = (ready, held) →
    takeEntries (a.fld Reg.kstCtrl 7 0) (if busy then ready.filter Entry.attaches else ready) ([], [], []) = (got, objs, left) → got ≠ [] →
    b0 = { epoch := a.nextEpoch, step := 1, entries := got, objs := objs } →
    b = (if b0.configOnly then b0
      else { b0 with images := (a.sealBatch b0).1, root := (a.sealBatch b0).2, left := (a.sealBatch b0).1.map Prod.fst }) →
    exec .batchOpen s = .next ((({ a with
      commit := { waiting := if busy then a.commit.waiting.filter (fun e => !got.contains e) else left ++ held,
                  batches := a.commit.batches ++ [b], lastEpoch := some a.nextEpoch } } : State).placeSpares (b.images.map Prod.fst)).pump)) ∧
  (∀ (s : State) (b : Batch), s.commit.batches.find? (fun b => b.step == 1 && s.persisted b) = some b → s.guard.freeze = false →
    exec .batchPersisted s = .next (
      if (s.rootBatch b).inService || (s.rootBatch b).deciding then
        ((s.rootBatch b).modBatches (fun x => x.epoch == b.epoch) (fun x => { x with step := 3 })).mirrorSend
      else (s.rootBatch b).commitBatch b))

/-- R141, R142, R287: PAGE_LOAD_START reads frame 0 of an object that is not loaded while its parents are, when a region is declared for
it and the sealed memory can hold it; PAGE_IMAGE_ARRIVAL ends that READ and installs an image that verifies, else it reads frame 1, and
after frame 1 it asks the peer, or records the loss. While a VAULT_ADOPT waits for the tree page of level 4, that page's image is judged
for it. -/
def Obligations.PagesLoad : Prop :=
  (∀ (s : State) (o : Obj) (e : ObjState), s.obj? o = some e → e.load = .unloaded → (o.kind ≠ 1 ∨ s.eol = false) → s.stand o = .load o →
    (s.regionFor o).isSome = true → s.noPersist = false → s.dram.key.isSome = true → s.serving ≠ [] →
    exec (.pageLoadStart o) s = .next ((s.setLoad o (.loading 0)).readFrame o 0)) ∧
  (∀ (s a : State) (o : Obj) (frame : Nat) (img : Bytes) (e : ObjState), s.obj? o = some e → e.load = .loading frame →
    s.adopting 2 = none →
    a = (match s.keys.persistQ with | some q => s.readDone q (fun r => r.kind == ReqKind.readPage) | none => s) →
    exec (.pageImageArrival o frame img) s = .next (
      match a.imageGood e img with
      | some plain => (a.install o frame img plain).placeFrame o
      | none => if frame = 0 then (a.setLoad o (.loading 1)).readFrame o 1
        else if a.pair.role ≠ 0 ∧ a.pair.peer ≠ 2 then (a.setLoad o .fromPeer).send (.mirror 5 (leNat (objBytes o)))
        else a.lose o)) ∧
  (∀ (s : State) (frame : Nat) (img : Bytes) (j : Job), s.adopting 2 = some j → frame < 2 →
    exec (.pageImageArrival (treeObj 4 0) frame img) s = .next (s.adoptPage j (treeObj 4 0) frame img))

/-- R104, R105, R107, R336: outside a freeze, in mode SERVING, JOB_PLACE ends with ATTR_DENIED the first ready job of a course that no
tile of its partition could ever hold; where there is none, it places the oldest ready job that has a tile, and where no ready job has a
tile it changes nothing but the references (R106). R112, R173: a continuation packet of the job that streams on a tile, where the hod has
room for it, takes in the input that arrives, sends up to 31 words of it and writes what the job newly produces; a sealed extent whose tag
fails ends the stream, as does a continuation packet with ERROR; a packet the hod has no room for waits, and so does every packet in a
freeze (R104). R110, R201, R339: in mode SERVING, JOB_START takes the job packet at the bottom of a running tile's hod, with the
continuation packets behind it, when the tile is free, or when its job stands in a window that the packet's job fits. The job then runs:
its scratchpad accesses are judged, and what it produces is written. -/
def Obligations.JobsArePlaced : Prop :=
  (∀ (s a : State) (c : Nat), s.guard.freeze = false → s.power.mode = .serving → a = s.refreshRefs c →
    (∀ (j : Job) (d : Nat), (a.readyJobs c).findSome? (fun j => (a.neverPlaced j).map (fun d => (j, d))) = some (j, d) →
      exec (.jobPlace c) s = .next (a.finish j.id { status := Status.attrDenied, detail := d })) ∧
    (∀ (j : Job) (t : Tile), (a.readyJobs c).findSome? (fun j => (a.neverPlaced j).map (fun d => (j, d))) = none →
      (a.readyJobs c).findSome? (fun j => (a.tileFor j).map (fun t => (j, t))) = some (j, t) →
      exec (.jobPlace c) s = .next (a.place j t)) ∧
    ((a.readyJobs c).findSome? (fun j => (a.neverPlaced j).map (fun d => (j, d))) = none →
      (a.readyJobs c).findSome? (fun j => (a.tileFor j).map (fun t => (j, t))) = none → exec (.jobPlace c) s = .next a)) ∧
  (∀ (s : State) (t st : Nat) (data : Bytes) (j : Job) (x : Tile), s.streamJob t = some j → s.tile? t = some x → s.guard.freeze = false →
    s.tileRuns x = true → exec (.continuationPacket t data (some st)) s = .next (if x.taken + 2 ≤ 32 then s.streamFails t j st else s)) ∧
  (∀ (s : State) (t : Nat) (data raw inp all : Bytes) (again : Bool) (pk : Packet) (j : Job) (x : Tile), s.streamJob t = some j →
    s.tile? t = some x → s.guard.freeze = false → s.tileRuns x = true →
    (raw, inp) = (if j.hasExtent then j.absorb data else (j.raw, j.input)) → all = j.rest ++ padWords (inp.drop j.input.length) →
    again = ((!j.hasExtent || raw.length == j.desc.inLen) && j.hasExtent && j.readsTwice && j.firstPass.isNone) →
    pk = j.contPacket ((!j.hasExtent || raw.length == j.desc.inLen) && !again && decide (all.length ≤ 31 * 32)) (all.take (31 * 32)) →
    exec (.continuationPacket t data none) s = .next (
      if 32 < x.taken + pk.words then s
      else if j.hasExtent ∧ j.tagBad raw then s.streamFails t j Status.sealFail
      else
        let a := (((s.modJob j.id (fun k => { k with raw := raw, input := inp, rest := all.drop (31 * 32), streams := !pk.final })).readsEnd
          j.id raw.length 4).sendPacket t 1 pk).takeBehind t
        (if again then a.secondPass j.id else a).streamOutput t j.id)) ∧
  (∀ (s : State) (t : Nat) (data : Bytes) (error : Option Nat), s.guard.freeze = true →
    exec (.continuationPacket t data error) s = .next s) ∧
  (∀ (s a b : State) (t : Nat) (x : Tile) (p : Packet) (rest : List Packet) (acc : List ScratchAcc) (j : Job), s.tile? t = some x →
    x.hod = p :: rest → p.kind = 0 → s.tileRuns x = true → s.power.mode = .serving →
    x.job = none ∨ s.fitsWindow x (p.queue, p.idx) = true →
    a = s.modTile t (fun x =>
      if x.job.isSome then { x with hod := rest.dropWhile (fun k => k.kind == 1 && (k.queue, k.idx) == (p.queue, p.idx)),
                                    held := x.job, job := some (p.queue, p.idx) }
      else { x with hod := rest.dropWhile (fun k => k.kind == 1 && (k.queue, k.idx) == (p.queue, p.idx)), job := some (p.queue, p.idx),
                    yields := 0, window := false, jobAt := s.clock.mono }) →
    b = ((a.modJob (p.queue, p.idx) (fun k => { k with phase := .running t, tile := t })).flowTile t).takeBehind t →
    b.job? (p.queue, p.idx) = some j →
    exec (.jobStart t acc) s = .next (((b.layPlan t j).scratchFaults t j acc).streamOutput t (p.queue, p.idx)))

/-- R100, R112, R137, R417: on a running tile, JOB_END of a job that has its result and whose last packet has come queues its completion,
or, for a state-changing job that succeeded, brings its changes to their batch; with a pair in service that waits for the WRITEs of an
output already streamed. R200, R201: at a yield point of a long-integer job a window opens when the tile's schedule says so; a window that
no short job holds ends with its time. R209, R211, R335: at a slot boundary the next slot begins; a run of another partition begins with a
wipe, and a long-integer job still running then is aborted. -/
def Obligations.JobsEndAndSlotsTurn : Prop :=
  (∀ (s : State) (t : Nat) (x : Tile) (id : JobId) (j : Job) (r : Result), s.tile? t = some x → x.job = some id → s.job? id = some j →
    j.result = some r → j.streams = false → s.tileRuns x = true →
    (∀ e : Entry, j.brings = some e → r.status = 0 → j.outWritten = 0 ∨ s.outputOpen j = false →
      exec (.jobEnd t) s = .next ((s.leaveTile t).bring e)) ∧
    (∀ e : Entry, j.brings = some e → 0 < j.outWritten → s.outputOpen j = true → exec (.jobEnd t) s = .next s) ∧
    (r.status = 0 → j.brings = none → exec (.jobEnd t) s = .next ((s.leaveTile t).finish id r t)) ∧
    (r.status ≠ 0 → j.brings = none ∨ j.outWritten = 0 ∨ s.outputOpen j = false →
      exec (.jobEnd t) s = .next (((s.leaveTile t).release j).finish id r t))) ∧
  (∀ (s : State) (t : Nat) (x : Tile) (id : JobId) (j : Job), s.tile? t = some x → x.job = some id → s.job? id = some j →
    longOps.contains j.desc.opcode = true → x.window = false → x.held = none → j.result = none → s.tileRuns x = true →
    exec (.yieldPoint t) s = .next ((s.modTile t (fun x =>
      { x with yields := x.yields + 1, windowAt := s.clock.mono,
               window := (s.tileRec t).yieldMask.getLsbD (x.yields % 16) && (s.tileRec t).yieldLen ≠ 0 })).closeIdle t)) ∧
  (∀ (s : State) (t : Nat) (x : Tile), s.tile? t = some x →
    exec (.yieldWindowEnd t) s = .next (
      if x.window ∧ x.held = none then
        (s.advanceTo (max s.clock.mono (x.windowAt + (s.tileRec t).yieldLen * 1000 / max 1 x.freq))).modTile t
          (fun x => { x with window := false })
      else s)) ∧
  (∀ (s a : State) (t : Nat) (x : Tile), s.tile? t = some x → (s.tileRec t).kind = 1 →
    a = s.modTile t (fun y => { y with slotNow := (x.slotNow + 1) % 16, slotAt := s.clock.mono }) →
    exec (.slotBoundary t) s = .next (
      if (s.tileRec t).slots.getD ((x.slotNow + 1) % 16) 256 = (s.tileRec t).slots.getD x.slotNow 256 then a
      else (((a.abortLong t 0x02).modTile t (fun x => { x with borrower := none })).wipeFor t
        ((s.tileRec t).slots.getD ((x.slotNow + 1) % 16) 0)).dropRefs t))

/-- R163 to R169, R171, R172, R174: the ciphers: SYM_DECRYPT answers with the plaintext its block opens, or the status that stops it;
SYM_ENCRYPT seals its plaintext, an input shorter than its AAD and IV being INVALID_INPUT, and SYM_REENCRYPT seals what its first block
opens. Sealing answers with IV, ciphertext and tag, under the host's IV, or under the next leased counter, which is DETAIL (in CBC the
leased IV is encrypted first), and a text its block cannot seal is INVALID_INPUT; a job that finds no usable lease waits for one, and
where its space is spent its key is revoked and it completes with LEASE_EXHAUSTED; on a fenced device it completes with FENCED. -/
def Obligations.CiphersRun : Prop :=
  (∀ (s : State) (t : Nat) (j : Job) (r : KeyRec) (m : Bytes), TileReady s t Op.symDecrypt j → KeyReady s t j 0 r m →
    exec (.symDecrypt t) s = .next ((s.cacheKey t j.part (j.handle 0) (j.ver 0) m (j.upOf 0)).answer j
      (match (j.block 0).openIt r.alg m j.aadLen j.dun j.input with | .bad st => fail st | .ok pt => okOut pt))) ∧
  (∀ (s a : State) (t n : Nat) (j : Job) (r : KeyRec) (m : Bytes), TileReady s t Op.symEncrypt j → KeyReady s t j 0 r m →
    n = (if (j.block 0).ivPolicy = 1 then ivLen (j.block 0).mode r.alg else 0) →
    a = s.cacheKey t j.part (j.handle 0) (j.ver 0) m (j.upOf 0) →
    exec (.symEncrypt t) s = .next (
      if j.input.length < j.aadLen + n then a.answer j (fail Status.invalidInput)
      else a.sealWith t j 0 (j.block 0) r.alg m (sub j.aadLen n j.input) (j.input.take j.aadLen) (j.input.drop (j.aadLen + n))
        (j.firstPass.map (fun p => (sub j.aadLen n p, p.take j.aadLen, p.drop (j.aadLen + n)))))) ∧
  (∀ (s a : State) (t : Nat) (j : Job) (r r1 : KeyRec) (m m1 : Bytes) (opened : Bytes → Ciphered), TileReady s t Op.symReencrypt j →
    KeyReady s t j 0 r m → a = s.cacheKey t j.part (j.handle 0) (j.ver 0) m (j.upOf 0) → KeyReady a t j 1 r1 m1 →
    opened = (fun x => (j.block 0).openIt r.alg m j.aadLen j.dun x) →
    exec (.symReencrypt t) s = .next (
      match opened j.input, j.firstPass.map opened with
      | .bad st, _ => a.answer j (fail st)
      | .ok _, some (.bad st) => a.answer j (fail st)
      | .ok pt, some (.ok pt1) => (a.cacheKey t j.part (j.handle 1) (j.ver 1) m1 (j.upOf 1)).sealWith t j 1 (j.block 1) r1.alg m1 []
          (j.input.take j.aadLen) pt (some ([], (j.firstPass.getD []).take j.aadLen, pt1))
      | .ok pt, none => (a.cacheKey t j.part (j.handle 1) (j.ver 1) m1 (j.upOf 1)).sealWith t j 1 (j.block 1) r1.alg m1 []
          (j.input.take j.aadLen) pt)) ∧
  (∀ (s : State) (t slot alg : Nat) (j : Job) (x : SymBlock) (key hostIv aad pt : Bytes) (first : Option (Bytes × Bytes × Bytes)),
    (x.sealable alg key pt = false → s.sealWith t j slot x alg key hostIv aad pt first = s.answer j (fail Status.invalidInput)) ∧
    (x.sealable alg key pt = true → x.ivPolicy ≠ 0 → s.sealWith t j slot x alg key hostIv aad pt first =
      s.answer j (okOut (x.sealIt alg key hostIv aad j.dun pt (x.firstTag key hostIv first)))) ∧
    (x.sealable alg key pt = true → x.ivPolicy = 0 → s.pair.role = 3 →
      s.sealWith t j slot x alg key hostIv aad pt first = s.answer j (fail Status.fenced)) ∧
    (∀ (a : State) (n : Nat) (iv : Bytes), x.sealable alg key pt = true → x.ivPolicy = 0 → s.pair.role ≠ 3 →
      (match j.counter with | some n => some (n, s) | none => s.takeCounter t j.part) = some (n, a) →
      iv = (if x.mode = 0x02 then encBlock alg key (a.leasedIv j.part t n ++ zeros 4) else a.leasedIv j.part t n) →
      s.sealWith t j slot x alg key hostIv aad pt first =
        a.answer j (okOut (x.sealIt alg key iv aad j.dun pt (x.firstTag key iv first)) n)) ∧
    (x.sealable alg key pt = true → x.ivPolicy = 0 → s.pair.role ≠ 3 → j.counter = none → s.takeCounter t j.part = none →
      s.sealWith t j slot x alg key hostIv aad pt first =
        if s.spaceSpent t j.part then (s.retireKey (j.handle slot)).answer j (fail Status.leaseExhausted)
        else (s.askLease t j.part).modJob j.id (fun k => { k with awaits := some j.part })))

/-- R163, R175: MAC_GENERATE answers with the standard's MAC over the input, or INVALID_INPUT where its length is none the block can take;
MAC_VERIFY with DONE or AUTH_FAIL, or INVALID_INPUT where the input is shorter than its tag or its text is none the block can take; HASH
with the value of its part. R169, R171: LEASE_REQUEST asks for a lease of 2^24 values, by bringing the space's new high-water mark to a
batch, where a partition that the tile serves holds no lease there, or one with at most 2^22 values left, unless one is asked for already
or the space is spent. R178, R184, R212: in mode SERVING, on a tile that is neither quarantined nor reset, a parity error of an engine
ends what the tile runs with ENGINE_FAULT, quarantines the tile and fires the cipher-engine source; a single-bit error of operand memory
(engine 0, the model's choice: log entry 79) is corrected, counted and logged. -/
def Obligations.MacsLeasesAndParity : Prop :=
  (∀ (s : State) (t : Nat) (j : Job) (r : KeyRec) (m : Bytes), TileReady s t Op.macGenerate j → KeyReady s t j 0 r m →
    exec (.macGenerate t) s = .next ((s.cacheKey t j.part (j.handle 0) (j.ver 0) m (j.upOf 0)).answer j
      (match (j.block 0).mac r.alg m j.input with | none => fail Status.invalidInput | some tag => okOut tag))) ∧
  (∀ (s : State) (t n : Nat) (j : Job) (r : KeyRec) (m : Bytes), TileReady s t Op.macVerify j → KeyReady s t j 0 r m →
    n = j.input.length - (j.block 0).tagLen →
    exec (.macVerify t) s = .next ((s.cacheKey t j.part (j.handle 0) (j.ver 0) m (j.upOf 0)).answer j (
      if j.input.length < (j.block 0).tagLen then fail Status.invalidInput
      else match (j.block 0).mac r.alg m (j.input.take n) with
        | none => fail Status.invalidInput
        | some tag => if tag = j.input.drop n then {} else fail Status.authFail))) ∧
  (∀ (s : State) (t : Nat) (j : Job), TileReady s t Op.hash j →
    exec (.hash t) s = .next (s.answer j (hashJob (j.block 0).hashAlg j.hashPart j.xofLen j.hashLen j.input))) ∧
  (∀ (s : State) (t p : Nat) (x : Tile), s.tile? t = some x →
    x.leases.filter (fun l => l.owner == p) = [] ∨
      (∃ l : Lease, x.leases.filter (fun l => l.owner == p) = [l] ∧ l.stop - l.next ≤ 2 ^ 22) →
    (s.tileRec t).holds p = true → x.state ≠ 4 → x.state ≠ 6 → s.power.mode = .serving →
    exec (.leaseRequest t p) s = .next (
      if p ∈ x.wantLease ∨ 2 ^ 64 ≤ s.hwmNext p (courseOf t) + 2 ^ 24 then s
      else (s.modTile t (fun x => { x with wantLease := x.wantLease ++ [p] })).bring
        { changes := [.hwm p (courseOf t) t (s.hwmNext p (courseOf t) + 2 ^ 24)], objs := [], job := none, res := {} })) ∧
  (∀ (s : State) (t e l : Nat) (x : Tile), s.tile? t = some x → x.state ≠ 4 → x.state ≠ 6 → s.power.mode = .serving →
    exec (.parityError t e l) s = .next (
      if e = 0 then (s.modTile t (fun x => { x with corrected := x.corrected + 1 })).devEvent 3 0x0402 t (leBytes 1 t)
      else ((s.endRunning t (fail Status.engineFault (e % 256 + 256 * (l % 256)))).quarantine t).fire 10 t (e % 256 + 256 * (l % 256))))

/-- R194 to R197, R204 to R208: the signatures and RSA-OAEP answer with what the standard's function gives, the key's material lying in
the slots of the tile's plan and the result in its DEST slot. PK_SIGN of a digest of the wrong length is INVALID_INPUT, and ML-DSA signing
that exhausts its attempts ENGINE_FAULT; PK_VERIFY answers DONE or AUTH_FAIL, AUTH_FAIL for a signature out of its range too, and
INVALID_INPUT for an input shorter than the signature or a digest of the wrong length; PK_ENCRYPT of a message too long for the modulus,
and PK_DECRYPT of a ciphertext of the wrong length, zero, or not below the modulus, are INVALID_INPUT; PK_DECRYPT of one that does not
decode is AUTH_FAIL. -/
def Obligations.SignaturesAndRsaRun : Prop :=
  (∀ (s a : State) (t : Nat) (j : Job) (r : KeyRec) (m : Bytes), TileReady s t Op.pkSign j → KeyReady s t j 0 r m →
    a = (s.cacheKey t j.part (j.handle 0) (j.ver 0) m (j.upOf 0)).placeKey t r m j.input →
    exec (.pkSign t) s = .next (
      if j.msgOk j.input = false then a.answer j (fail Status.invalidInput)
      else if 0x50 ≤ r.alg ∧ Config.signExhausts r.alg j.schemeBytes m j.input j.signRandom then a.answer j (fail Status.engineFault 0x07)
      else a.answerDest t j (okOut (fixLen (sigLen r.alg r.len) (Config.sign r.alg j.schemeBytes m j.input j.signRandom))))) ∧
  (∀ (s : State) (t n : Nat) (j : Job) (r : KeyRec) (m : Bytes), TileReady s t Op.pkVerify j → KeyReady s t j 0 r m →
    n = j.input.length - sigLen r.alg r.len →
    exec (.pkVerify t) s = .next (((s.cacheKey t j.part (j.handle 0) (j.ver 0) m (j.upOf 0)).placeKey t r m j.input).answer j
      (if j.input.length < sigLen r.alg r.len ∨ j.msgOk (j.input.take n) = false then fail Status.invalidInput
       else if sigOk r.alg r.len m (j.input.drop n) && Config.verify r.alg j.schemeBytes m (j.input.take n) (j.input.drop n) then {}
       else fail Status.authFail))) ∧
  (∀ (s a : State) (t h : Nat) (j : Job) (r : KeyRec) (m : Bytes), TileReady s t Op.pkEncrypt j → KeyReady s t j 0 r m →
    a = (s.cacheKey t j.part (j.handle 0) (j.ver 0) m (j.upOf 0)).placeKey t r m j.input → h = digestLen j.pk.hashAlg →
    exec (.pkEncrypt t) s = .next (
      if r.len / 8 < j.input.length + 2 * h + 2 then a.answer j (fail Status.invalidInput)
      else a.answerDest t j (okOut (fixLen (r.len / 8) (Config.oaepEncrypt j.schemeBytes m j.input (j.saltBytes h)))))) ∧
  (∀ (s a : State) (t : Nat) (j : Job) (r : KeyRec) (m : Bytes), TileReady s t Op.pkDecrypt j → KeyReady s t j 0 r m →
    a = (s.cacheKey t j.part (j.handle 0) (j.ver 0) m (j.upOf 0)).placeKey t r m j.input →
    exec (.pkDecrypt t) s = .next (
      if j.input.length ≠ r.len / 8 ∨ beNat j.input = 0 ∨ beNat (m.take (r.len / 8)) ≤ beNat j.input then
        a.answer j (fail Status.invalidInput)
      else match Config.oaepDecrypt j.schemeBytes m j.input with
        | none => a.answer j (fail Status.authFail)
        | some msg => a.answerDest t j (okOut (msg.take (oaepMax r.len (digestLen j.pk.hashAlg))))))

/-- R195, R205, R207: the derivations give the key derived from the shared secret: KEY_AGREE from the peer's point, where a point of the
wrong form or off the curve is INVALID_INPUT, KEM_ENCAP after the ciphertext it makes, KEM_DECAP from any ciphertext of the right length.
A derived key is stored as a record, whose handle is the answer, or answered as a key block under KEY1. -/
def Obligations.DerivationsRun : Prop :=
  (∀ (s a : State) (t : Nat) (j : Job) (r : KeyRec) (m pt : Bytes), TileReady s t Op.keyAgree j → KeyReady s t j 0 r m →
    a = (s.cacheKey t j.part (j.handle 0) (j.ver 0) m (j.upOf 0)).placeKey t r m j.input → pt = j.input.take (pointLen r.alg) →
    exec (.keyAgree t) s = .next (
      if j.input.length ≠ pointLen r.alg + j.infoLen ∨ pt.getD 0 0 ≠ 0x04 then a.answer j (fail Status.invalidInput)
      else match ecdhOf r.alg m pt with
        | none => a.answer j (fail Status.invalidInput)
        | some ss => a.giveKey t j [] (j.derived (fixLen (matLen r.alg r.len) ss) (j.input.drop (pointLen r.alg))))) ∧
  (∀ (s : State) (t : Nat) (j : Job) (r : KeyRec) (m : Bytes), TileReady s t Op.kemEncap j → KeyReady s t j 0 r m →
    exec (.kemEncap t) s = .next (((s.cacheKey t j.part (j.handle 0) (j.ver 0) m (j.upOf 0)).placeKey t r m j.input).giveKey t j
      (fixLen (kemCtLen r.alg) (Config.kemEncap r.alg m j.hedge).1) (j.derived (fixLen 32 (Config.kemEncap r.alg m j.hedge).2) j.input))) ∧
  (∀ (s a : State) (t : Nat) (j : Job) (r : KeyRec) (m : Bytes), TileReady s t Op.kemDecap j → KeyReady s t j 0 r m →
    a = (s.cacheKey t j.part (j.handle 0) (j.ver 0) m (j.upOf 0)).placeKey t r m j.input →
    exec (.kemDecap t) s = .next (
      if j.input.length ≠ kemCtLen r.alg + j.infoLen then a.answer j (fail Status.invalidInput)
      else a.giveKey t j [] (j.derived (fixLen 32 (Config.kemDecap r.alg m (j.input.take (kemCtLen r.alg))))
        (j.input.drop (kemCtLen r.alg))))) ∧
  (∀ (s a : State) (t h n : Nat) (j : Job) (before mat : Bytes) (r : KeyRec), j.pk.outForm = 0 →
    s.makeRec j.part { alg := j.pk.dAlg, usage := j.pk.dUsage, attr := j.pk.dAttr, domain := j.pk.dDomain, parent := 0, len := j.pk.dLen,
                       mat := mat } = .ok h n r a →
    s.giveKey t j before mat = a.answerBring j [.keyPut j.part n r true] [keyPageObj j.part n] (okOut (before ++ leBytes 8 h))) ∧
  (∀ (s : State) (t : Nat) (j : Job) (before mat pk u : Bytes) (md l : Byte) (r : KeyRec), j.pk.outForm ≠ 0 → KeyReady s t j 1 r pk →
    kbExport j.pk.dUsage j.pk.dAlg = some (u, md, l) →
    s.giveKey t j before mat = (s.cacheKey t j.part (j.handle 1) (j.ver 1) pk (j.upOf 1)).answer j
      (okOut (before ++ makeKb r.alg pk u md l j.pk.dAlg j.pk.dLen mat [] j.entropy (j.entropy.drop 32))))

/-- R215, R218 to R224, R228: an input of the wrong length, DATA the PIN digits do not fit, a reference that holds no digits or a KSN
whose counter cannot be used ends a PIN opcode with INVALID_INPUT, and so does a PAN field that breaks its form, where a format binds the
PAN; a block whose field fails a check ends it with PIN_BLOCK_INVALID. Otherwise PIN_TRANSLATE answers with the block of the new format
under KEY1, PIN_VERIFY with the verdict on the reference, and PIN_VALUE_GENERATE with the value, made from the block's PIN. -/
def Obligations.PinCommandsRun : Prop :=
  (∀ (s : State) (t : Nat) (j : Job),
    (TileReady s t Op.pinTranslate j →
      j.input.length ≠ pinBlockLen j.pay.inFmt + (if panBound j.pay.inFmt ∨ panBound j.pay.outFmt then 16 else 0) ∨ j.ksnOk = false →
      exec (.pinTranslate t) s = .next (s.answer j (fail Status.invalidInput))) ∧
    (TileReady s t Op.pinVerify j → j.pinValueOk j.pay.digits = false ∨ refDigits (j.input.drop (j.dataAt + j.dataLen)) = none →
      exec (.pinVerify t) s = .next (s.answer j (fail Status.invalidInput))) ∧
    (TileReady s t Op.pinValueGenerate j → j.pinValueOk 0 = false →
      exec (.pinValueGenerate t) s = .next (s.answer j (fail Status.invalidInput)))) ∧
  (∀ (s a : State) (t n : Nat) (j : Job) (r r1 : KeyRec) (m m1 : Bytes), TileReady s t Op.pinTranslate j → KeyReady s t j 0 r m →
    a = s.cacheKey t j.part (j.handle 0) (j.ver 0) m (j.upOf 0) → KeyReady a t j 1 r1 m1 → j.ksnOk = true →
    n = pinBlockLen j.pay.inFmt → j.input.length = n + (if panBound j.pay.inFmt ∨ panBound j.pay.outFmt then 16 else 0) →
    exec (.pinTranslate t) s = .next (
      if (panBound j.pay.inFmt || panBound j.pay.outFmt) ∧ panOk (sub n 16 j.input) = false then a.answer j (fail Status.invalidInput)
      else match readPin j.pay (pinField j.pay.inFmt (j.workKey r.alg m).1 (j.workKey r.alg m).2 (sub n 16 j.input) (j.input.take n)) with
        | none => a.answer j (fail Status.pinBlockInvalid)
        | some pin => (a.cacheKey t j.part (j.handle 1) (j.ver 1) m1 (j.upOf 1)).answer j
            (okOut (makeBlock j.pay.outFmt r1.alg m1 (sub n 16 j.input) pin j.entropy)))) ∧
  (∀ (s a : State) (t n : Nat) (j : Job) (r r1 : KeyRec) (m m1 : Bytes) (ref : List Nat), TileReady s t Op.pinVerify j →
    KeyReady s t j 0 r m → a = s.cacheKey t j.part (j.handle 0) (j.ver 0) m (j.upOf 0) → KeyReady a t j 1 r1 m1 →
    j.pinValueOk j.pay.digits = true → n = pinBlockLen j.pay.inFmt → refDigits (j.input.drop (j.dataAt + j.dataLen)) = some ref →
    exec (.pinVerify t) s = .next (
      if panBound j.pay.inFmt ∧ panOk (sub n 16 j.input) = false then a.answer j (fail Status.invalidInput)
      else match readPin j.pay (pinField j.pay.inFmt (j.workKey r.alg m).1 (j.workKey r.alg m).2 (sub n 16 j.input) (j.input.take n)) with
        | none => a.answer j (fail Status.pinBlockInvalid)
        | some pin => (a.cacheKey t j.part (j.handle 1) (j.ver 1) m1 (j.upOf 1)).answer j
            (if pinValue j.pay r1.alg m1 (sub j.dataAt j.dataLen j.input) pin = ref then {} else fail Status.authFail))) ∧
  (∀ (s a : State) (t n : Nat) (j : Job) (r r1 : KeyRec) (m m1 : Bytes), TileReady s t Op.pinValueGenerate j → KeyReady s t j 0 r m →
    a = s.cacheKey t j.part (j.handle 0) (j.ver 0) m (j.upOf 0) → KeyReady a t j 1 r1 m1 → j.pinValueOk 0 = true →
    n = pinBlockLen j.pay.inFmt →
    exec (.pinValueGenerate t) s = .next (
      if panBound j.pay.inFmt ∧ panOk (sub n 16 j.input) = false then a.answer j (fail Status.invalidInput)
      else match readPin j.pay (pinField j.pay.inFmt (j.workKey r.alg m).1 (j.workKey r.alg m).2 (sub n 16 j.input) (j.input.take n)) with
        | none => a.answer j (fail Status.pinBlockInvalid)
        | some pin => (a.cacheKey t j.part (j.handle 1) (j.ver 1) m1 (j.upOf 1)).answer j
            (okOut (digitBytes (pinValue j.pay r1.alg m1 (sub j.dataAt j.dataLen j.input) pin)))))

/-- R222, R223, R226, R227, R229, R230: an input of the wrong form, or a KSN whose counter cannot be used, ends a payment command with
INVALID_INPUT; otherwise the payment MACs and verification values answer with the value or the verdict, EMV_ARQC_VERIFY with AUTH_FAIL,
with DONE alone or with the ARPC, and DUKPT_INIT_EXPORT with the initial key in a key block under KEY1. -/
def Obligations.PaymentValuesRun : Prop :=
  (∀ (s : State) (t : Nat) (j : Job),
    (TileReady s t Op.payMacGenerate j → j.ksnOk = false → exec (.payMacGenerate t) s = .next (s.answer j (fail Status.invalidInput))) ∧
    (TileReady s t Op.payMacVerify j → j.ksnOk = false ∨ j.input.length < j.pay.macLen →
      exec (.payMacVerify t) s = .next (s.answer j (fail Status.invalidInput))) ∧
    (TileReady s t Op.valueGenerate j → j.dataLen = 0 ∨ 64 < j.dataLen ∨ j.input.length ≠ j.dataLen →
      exec (.valueGenerate t) s = .next (s.answer j (fail Status.invalidInput))) ∧
    (TileReady s t Op.valueVerify j → j.dataLen = 0 ∨ 64 < j.dataLen ∨ j.input.length ≠ j.dataLen + j.pay.digits ∨
        refDigits (j.input.drop j.dataLen) = none →
      exec (.valueVerify t) s = .next (s.answer j (fail Status.invalidInput))) ∧
    (TileReady s t Op.emvArqcVerify j → j.emvOk = false ∨ panOk (j.input.take 16) = false ∨
        (j.pay.mkd = 0 ∧ 17 ≤ panDigits (j.input.take 16)) →
      exec (.emvArqcVerify t) s = .next (s.answer j (fail Status.invalidInput))) ∧
    (TileReady s t Op.dukptInitExport j → j.desc.inLen ≠ 0 ∨ ksnCounter j.pay.keyMode j.ksn ≠ 0 →
      exec (.dukptInitExport t) s = .next (s.answer j (fail Status.invalidInput)))) ∧
  (∀ (s a : State) (t : Nat) (j : Job) (r : KeyRec) (m : Bytes), KeyReady s t j 0 r m →
    a = s.cacheKey t j.part (j.handle 0) (j.ver 0) m (j.upOf 0) →
    (TileReady s t Op.payMacGenerate j → j.ksnOk = true → exec (.payMacGenerate t) s = .next (a.answer j
      (okOut ((payMac j.pay (j.workKey r.alg m).1 (j.workKey r.alg m).2 j.input).take j.pay.macLen)))) ∧
    (∀ n : Nat, TileReady s t Op.payMacVerify j → j.ksnOk = true → j.pay.macLen ≤ j.input.length → n = j.input.length - j.pay.macLen →
      exec (.payMacVerify t) s = .next (a.answer j
        (if (payMac j.pay (j.workKey r.alg m).1 (j.workKey r.alg m).2 (j.input.take n)).take j.pay.macLen = j.input.drop n then {}
         else fail Status.authFail))) ∧
    (TileReady s t Op.valueGenerate j → 1 ≤ j.dataLen → j.dataLen ≤ 64 → j.input.length = j.dataLen →
      exec (.valueGenerate t) s = .next (a.answer j (okOut (digitBytes (valueOf j.pay r.alg m j.input))))) ∧
    (∀ ref : List Nat, TileReady s t Op.valueVerify j → 1 ≤ j.dataLen → j.dataLen ≤ 64 → j.input.length = j.dataLen + j.pay.digits →
      refDigits (j.input.drop j.dataLen) = some ref →
      exec (.valueVerify t) s = .next (a.answer j
        (if valueOf j.pay r.alg m (j.input.take j.dataLen) = ref then {} else fail Status.authFail))) ∧
    (∀ (n : Nat) (icc sk : Bytes), TileReady s t Op.emvArqcVerify j → j.emvOk = true → panOk (j.input.take 16) = true →
      (j.pay.mkd ≠ 0 ∨ panDigits (j.input.take 16) ≤ 16) → n = matLen r.alg r.len →
      icc = fixLen n (Config.emvIcc j.pay.mkd r.alg m (j.input.take 16) (sub 16 1 j.input)) →
      sk = (if j.pay.skd = 1 then icc else fixLen n (Config.emvSession r.alg icc (sub 18 2 j.input))) →
      exec (.emvArqcVerify t) s = .next (a.answer j
        (if (payMac j.pay r.alg sk (j.input.drop 32)).take 8 ≠ sub 20 8 j.input then fail Status.authFail
         else if j.pay.arpc = 0 then {}
         else okOut (fixLen (if j.pay.arpc = 1 then 8 else 4) (Config.emvArpc j.pay.arpc r.alg sk (sub 20 8 j.input)
           (sub 28 (if j.pay.arpc = 1 then 2 else 4) j.input) (if j.pay.arpc = 2 then j.desc.param.take (j.desc.p8 56) else [])))))) ∧
    (∀ (alg : Nat) (key wk : Bytes) (w : KeyRec), TileReady s t Op.dukptInitExport j → KeyReady a t j 1 w wk → j.desc.inLen = 0 →
      ksnCounter j.pay.keyMode j.ksn = 0 → (alg, key) = initialKey j.pay.keyMode r.alg m j.ksn →
      exec (.dukptInitExport t) s = .next ((a.cacheKey t j.part (j.handle 1) (j.ver 1) wk (j.upOf 1)).answer j
        (okOut (makeKb w.alg wk (ascii "B1") 0x58 (if isAes r.alg then 0x41 else 0x54) alg key.length key
          (dukptOpts j.pay.keyMode j.ksn) j.entropy (j.entropy.drop 32))))))

/-- R149, R150, R151, R188, R242, R244: KEY_GENERATE whose fields are refused answers that status; otherwise it brings a new record of
generated material under its template, and for a stateful algorithm its entry of the table, and answers with the handle and the public
key. KEY_IMPORT brings one of the material of a key block that opens and passes the checks of its fields, and answers with the handle.
Either waits for a page it needs, and answers the status where no record can be made, a spent quota noticed. -/
def Obligations.KeysAreMade : Prop :=
  (∀ (s : State) (t st dt : Nat) (j : Job), TileReady s t Op.keyGenerate j → s.generateBad j = some (st, dt) →
    exec (.keyGenerate t) s = .next (s.answer j (fail st dt))) ∧
  (∀ (s : State) (t alg len : Nat) (j : Job) (mat : Bytes) (k : NewKey), TileReady s t Op.keyGenerate j → s.generateBad j = none →
    alg = j.desc.p8 48 → len = (genLen alg (j.desc.pLe 58 2)).getD 0 → mat = generated alg (j.desc.pLe 58 2) j.entropy →
    k = { alg := alg, usage := j.desc.p8 49, attr := if 0x60 ≤ alg then setBits 1 1 1 (j.desc.p8 50) else j.desc.p8 50,
          domain := j.desc.p8 51, parent := j.desc.pLe 52 5, len := len, mat := mat } →
    exec (.keyGenerate t) s = .next (
      if materialOk alg len mat = false then s.answer j (fail Status.invalidInput)
      else match s.makeRec j.part k with
        | .wait => s
        | .bad st dt => (if st = Status.quotaExceeded then s.notice Reg.kstNotice 5 else s).answer j (fail st dt)
        | .ok h n r a => a.answerBring j
            (.keyPut j.part n r true :: (if isStateful alg then [.statefulNew { handle := h, hwm := 0, limit := leafLimit alg mat }] else []))
            [keyPageObj j.part n] (okOut (leBytes 8 h ++ (if (pubAlg alg).isSome then publicOf alg len mat else []))))) ∧
  (∀ (s : State) (t : Nat) (j : Job) (w : KeyRec) (wk : Bytes), TileReady s t Op.keyImport j → s.keyStoreShut true true = none →
    j.desc.p8 56 = 0 → j.desc.p8 63 = 0 → KeyReady s t j j.unwrapSlot w wk →
    exec (.keyImport t) s = .next (
      let a := s.cacheKey t j.part (j.handle j.unwrapSlot) (j.ver j.unwrapSlot) wk (j.upOf j.unwrapSlot)
      match openKb w.alg wk j.input false with
      | .bad st => a.answer j (fail st)
      | .ok cls alg len mat exp =>
        if kbDualUsage (sub 5 2 j.input) ∧ !w.attr.getLsbD 3 then a.answer j (fail Status.attrDenied)
        else match keyFieldsBad alg cls (4 + b2n exp) with
          | some st => a.answer j (fail st)
          | none =>
            if !materialOk alg len mat then a.answer j (fail Status.invalidInput)
            else match a.makeRec j.part { alg := alg, usage := cls, attr := 4 + b2n exp, domain := j.desc.p8 57,
                                          parent := j.desc.pLe 58 5, len := len, mat := mat } with
              | .wait => a
              | .bad st dt => (if st = Status.quotaExceeded then a.notice Reg.kstNotice 5 else a).answer j (fail st dt)
              | .ok h n r b => b.answerBring j [.keyPut j.part n r true] [keyPageObj j.part n] (okOut (leBytes 8 h))))

/-- R143, R148, R149: KEY_REPLACE is refused for a DUAL record and while a replacement of the record is pending. Otherwise the new
material, generated (SOURCE 0) or of a key block that fits the record (SOURCE 1), is wrapped and unwrapped again, and where that and the
known-answer check agree the record is brought and the answer is the check value; else the answer is VERIFY_FAIL. With no other tile in
service the job waits (the model's choice: log entry 70). R145 to R147, R241: KEY_REVOKE and KEY_ERASE refuse a DUAL record without its
ceremony; otherwise KEY_REVOKE marks the record, wipes it and its descendants from the caches and brings the revocation, and KEY_ERASE
brings the erasure, at once for a record that no job pins, else when its last pin ends, its job leaving the tile. KEY_PIN_RELEASE sweeps
the caches and lets completed revocations end, and with the record's last pin gone the erasure that waits for it goes on. -/
def Obligations.KeysAreReplacedAndRevoked : Prop :=
  (∀ (s : State) (t page : Nat) (j : Job) (r : KeyRec), TileReady s t Op.keyReplace j → s.keyStoreShut true true = none →
    j.desc.p8 56 ≤ 1 → j.desc.pZero 57 3 = true → (j.desc.p8 56 = 0 → j.desc.inLen = 0) → s.lookup j.part j.target [] = .rec_ page r →
    (r.attr.getLsbD 3 = true → exec (.keyReplace t) s = .next (s.answer j (fail Status.attrDenied))) ∧
    (r.attr.getLsbD 3 = false → s.replacePending j.target = true →
      exec (.keyReplace t) s = .next (s.answer j (fail Status.replacePending))) ∧
    (r.attr.getLsbD 3 = false → s.replacePending j.target = false → j.desc.p8 56 = 0 →
      exec (.keyReplace t) s = .next (
        if materialOk r.alg r.len (generated r.alg r.len j.entropy) then s.putReplacement t j page r (generated r.alg r.len j.entropy)
        else s.answer j (fail Status.invalidInput))) ∧
    (∀ (w : KeyRec) (wk : Bytes) (a : State), r.attr.getLsbD 3 = false → s.replacePending j.target = false → j.desc.p8 56 = 1 →
      KeyReady s t j 0 w wk → a = s.cacheKey t j.part (j.handle 0) (j.ver 0) wk (j.upOf 0) →
      exec (.keyReplace t) s = .next (match replaceBlock r w.alg wk j.input with
        | (0, mat) => a.putReplacement t j page r mat
        | (st, _) => a.answer j (fail st)))) ∧
  (∀ (s : State) (t page : Nat) (j : Job) (r : KeyRec) (mat k : Bytes), s.ownKey j.part r = some k →
    s.putReplacement t j page r mat =
      if s.otherTile t = false then s
      else if (openRec k j.target (wrapRec k j.target r mat)).isSome = true ∧ replaceKnown r mat (sub 12 4 j.desc.param) = true then
        ({ s with keys := { s.keys with replacing := s.keys.replacing ++ [{ handle := j.target, queue := j.queue, idx := j.idx }] } } : State)
          |>.answerBring j [.keyPut j.part page (wrapRec k j.target r mat) false] [keyPageObj j.part page] (okOut (checkValue r.alg r.len mat))
      else s.answer j (fail Status.verifyFail)) ∧
  (∀ (s : State) (t page : Nat) (j : Job) (r : KeyRec), TileReady s t Op.keyRevoke j → s.keyStoreShut true false = none →
    j.desc.pZero 56 8 = true → j.desc.inLen = 0 → s.lookup j.part j.target [] = .rec_ page r →
    exec (.keyRevoke t) s = .next (if j.dualShut r then s.answer j (fail Status.attrDenied 0x03)
      else
        let a := ((s.cancelReplace j.target Status.keyRevoked).setRevoked j.target true).dropFamily j.target
        ({ a with keys := { a.keys with revoking := a.keys.revoking ++ [(j.target, j.id, false, 0)] } } : State).answerBring j
          [.keyRevoke j.target] [keyPageObj j.part page] {})) ∧
  (∀ (s : State) (t page : Nat) (j : Job) (r : KeyRec), TileReady s t Op.keyErase j → s.keyStoreShut true false = none →
    j.desc.pZero 56 8 = true → j.desc.inLen = 0 → s.findKey j.part j.target = .rec_ page r → s.erasePending j.target = false →
    exec (.keyErase t) s = .next (if j.dualShut r then s.answer j (fail Status.attrDenied 0x03)
      else
        let a := s.cancelReplace j.target Status.keyAbsent
        let b : State := { a with keys := { a.keys with erasing := a.keys.erasing ++ [(j.target, j.id)] } }
        let e : Entry := { changes := [.keyErase j.target], objs := [keyPageObj j.part page], job := some j.id, res := {} }
        if b.pins j.target = 0 then b.answerBring j e.changes e.objs e.res
        else (b.leaveTile t).modJob j.id (fun k => { k with phase := .blocked, brings := some e }))) ∧
  (∀ (s a : State) (h : Nat), a = s.sweepCaches.finishRevokes → a.pins h ≠ 0 ∨ a.keys.erasing.filter (fun e => e.1 == h) = [] →
    exec (.keyPinRelease h) s = .next a) ∧
  (∀ (s a : State) (h : Nat) (id : JobId) (k : Job) (b : Entry), a = s.sweepCaches.finishRevokes → a.pins h = 0 →
    a.keys.erasing.filter (fun e => e.1 == h) = [(h, id)] → a.job? id = some k → k.phase = .blocked → k.brings = some b →
    exec (.keyPinRelease h) s = .next ((a.modJob k.id (fun k => { k with brings := none })).bring b))

/-- R149, R159, R189, R236, R237, R241: KEY_EXPORT answers with the key block of an exportable key under the wrapping key named beside it,
ATTR_DENIED for a key that is not exportable or has no block, and for a DUAL one without its ceremony; KEY_QUERY with the record's header,
version, pins and check value, or ENGINE_FAULT where the record's tag fails; KEY_PUBLIC with the public key of an algorithm that has one,
ATTR_DENIED for others. -/
def Obligations.KeysAreShown : Prop :=
  (∀ (s a : State) (t : Nat) (j : Job) (r : KeyRec) (m : Bytes), TileReady s t Op.keyExport j → s.keyStoreShut false false = none →
    j.desc.inLen = 0 → KeyReady s t j 4 r m → a = s.cacheKey t j.part (j.handle 4) (j.ver 4) m (j.upOf 4) →
    (j.dualShut r = true → exec (.keyExport t) s = .next (a.answer j (fail Status.attrDenied 0x03))) ∧
    (j.dualShut r = false → r.attr.getLsbD 0 = false ∨ kbExport r.usage r.alg = none →
      exec (.keyExport t) s = .next (a.answer j (fail Status.attrDenied))) ∧
    (∀ (w : KeyRec) (wk usage : Bytes) (mode letter : Byte), j.dualShut r = false → r.attr.getLsbD 0 = true →
      kbExport r.usage r.alg = some (usage, mode, letter) → KeyReady a t j 5 w wk →
      exec (.keyExport t) s = .next ((a.cacheKey t j.part (j.handle 5) (j.ver 5) wk (j.upOf 5)).answer j
        (okOut (makeKb w.alg wk usage mode letter r.alg r.len m [] j.entropy (j.entropy.drop 32)))))) ∧
  (∀ (s : State) (t page : Nat) (j : Job) (r : KeyRec), TileReady s t Op.keyQuery j → s.keyStoreShut false false = none →
    j.desc.pZero 56 8 = true → j.desc.inLen = 0 → s.findKey j.part j.target = .rec_ page r → s.erasePending j.target = false →
    s.ancestorLoad j.part r = none → exec (.keyQuery t) s = .next (match s.checkOf j.part j.target r with
      | none => (s.tagFault t j.part j.target).answer j (fail Status.engineFault 0x04)
      | some (check, b) => b.answer j (okOut (recHeader r ++
          leBytes 8 (((s.obj? (keyPageObj j.part page)).map (fun e => e.version)).getD 0) ++ leBytes 4 (s.pins j.target) ++ check)))) ∧
  (∀ (s : State) (t : Nat) (j : Job) (r : KeyRec) (m : Bytes), TileReady s t Op.keyPublic j → s.keyStoreShut false false = none →
    j.desc.pZero 56 8 = true → j.desc.inLen = 0 → KeyReady s t j 4 r m →
    exec (.keyPublic t) s = .next ((s.cacheKey t j.part (j.handle 4) (j.ver 4) m (j.upOf 4)).answer j
      (if (pubAlg r.alg).isNone then fail Status.attrDenied else okOut (publicOut r.alg r.len m))))

/-- R174, R251, R253 to R255, R257, R258: OBJ_SEAL, whose object key's record is made first if its stream has not made it, brings that
record and answers with the sealed object; OBJ_OPEN of a well-formed sealed object answers with the plaintext or AUTH_FAIL, and of any
other with INVALID_INPUT; MANIFEST_BUILD with the manifest over its 1 to 2^24 records; MANIFEST_SIGN of a manifest of its partition, and
CUSTODY_SIGN, with a signature by the key that is named: a stateful key's under its next leaf, which is DETAIL, once the tile has one. -/
def Obligations.CustodyObjectsRun : Prop :=
  (∀ (s a : State) (t h n : Nat) (j k : Job) (r rec_ : KeyRec) (m : Bytes), TileReady s t Op.objSeal j → KeyReady s t j 0 r m →
    a = (if j.made.isSome then s.cacheKey t j.part (j.handle 0) (j.ver 0) m (j.upOf 0)
         else (s.cacheKey t j.part (j.handle 0) (j.ver 0) m (j.upOf 0)).makeObjKey j r) →
    a.job? j.id = some k → k.made = some (h, n, rec_) →
    exec (.objSeal t) s = .next (a.answerBring k [.keyPut k.part n rec_ true] [keyPageObj k.part n]
      (okOut (objSealed h k.cust.objMode k.entropy k.input k.firstPass a.now)))) ∧
  (∀ (s : State) (t : Nat) (j : Job), TileReady s t Op.objOpen j →
    (sealRecordOk j.input = false ∨ j.input.length ≠ 128 + leAt 40 8 j.input →
      exec (.objOpen t) s = .next (s.answer j (fail Status.invalidInput))) ∧
    (∀ (r : KeyRec) (m : Bytes), sealRecordOk j.input = true → j.input.length = 128 + leAt 40 8 j.input → KeyReady s t j 4 r m →
      exec (.objOpen t) s = .next ((s.cacheKey t j.part (j.handle 4) (j.ver 4) m (j.upOf 4)).answer j
        (match aeadOpen (byteAt 8 j.input) m (sub 12 12 j.input) (j.input.take 12) (j.input.drop 128) (sub 24 16 j.input) with
         | none => fail Status.authFail
         | some pt => if sha3_512 pt = sub 48 64 j.input then okOut pt else fail Status.authFail)))) ∧
  (∀ (s : State) (t : Nat) (j : Job), TileReady s t Op.manifestBuild j →
    ((¬∃ n, j.input.length = 32 + 128 * n ∧ 1 ≤ n ∧ n ≤ 2 ^ 24) →
      exec (.manifestBuild t) s = .next (s.answer j (fail Status.invalidInput))) ∧
    (∀ n : Nat, j.input.length = 32 + 128 * n → 1 ≤ n → n ≤ 2 ^ 24 →
      exec (.manifestBuild t) s = .next (s.answer j (okOut (leBytes 2 1 ++ leBytes 1 j.part ++ [0] ++ leBytes 4 n ++ sub 0 8 j.desc.param ++
        leBytes 8 s.now ++ leBytes 8 s.clock.err ++
        merkleRoot 25 ((blocks 128 (j.input.drop 32)).map (fun r => sha3_512 ([0x00] ++ r))) ++ j.input.take 32))))) ∧
  (∀ (s : State) (t : Nat) (j : Job),
    (TileReady s t Op.custodySign j → exec (.custodySign t) s = .next (s.custSign t j 0 j.input)) ∧
    (TileReady s t Op.manifestSign j → exec (.manifestSign t) s = .next (
      if j.input.length = 128 ∧ j.signer ≤ 2 ∧ leAt 0 2 j.input = 1 ∧ byteAt 2 j.input = j.part ∧ byteAt 3 j.input = 0 then
        s.custSign t j j.signer j.input
      else s.answer j (fail Status.invalidInput)))) ∧
  (∀ (s a : State) (t slot : Nat) (j : Job) (r : KeyRec) (m msg : Bytes), KeyReady s t j slot r m →
    a = s.cacheKey t j.part (j.handle slot) (j.ver slot) m (j.upOf slot) →
    (isStateful r.alg = false → s.custSign t j slot msg = a.answer j (
      if isHashSigner r.alg then
        okOut (fixLen (hbsSigLen r.alg m) (Config.sign r.alg (plainScheme 0 0) m msg (j.hedge.take (r.len / 4))))
      else if r.alg = 0x52 then
        (if Config.signExhausts 0x52 (plainScheme 0x20 0) m msg j.hedge then fail Status.engineFault 0x07
         else okOut (fixLen 4627 (Config.sign 0x52 (plainScheme 0x20 0) m msg j.hedge)))
      else okOut (fixLen 96 (Config.sign r.alg (plainScheme 0x10 0x03) m msg j.hedge)))) ∧
    (∀ (leaf : Nat) (b : State), isStateful r.alg = true → a.pair.role ≠ 3 → a.takeLeaf t (j.handle slot) = some (leaf, b) →
      s.custSign t j slot msg = b.answer j (okOut (fixLen (hbsSigLen r.alg m) (Config.sign r.alg (leBytes 8 leaf) m msg [])) leaf)))

/-- R257 to R261: LEAF_LEASE_REQUEST asks for the next lease of a stateful key when at most 1,024 leaves of a tile's only one remain,
unless one is asked for already or no leaf is left; TIMESTAMP of a request that does not parse, or with a certificate of another key, is
INVALID_INPUT, and any other is granted or rejected; TIME_QUERY answers with secure time. R262, R263, R400: CHAIN_APPEND of a body of 1 to
1,024 B waits while an append to the same head whose key token came first has not taken its turn. Then it builds on the latest head,
committed or pending: it brings the new head and answers with the signed record; a record whose tag fails is ENGINE_FAULT, and a head
whose SEQ is spent, or that the vault shuts, LEASE_EXHAUSTED. -/
def Obligations.CustodyTimeAndChainsRun : Prop :=
  (∀ (s : State) (t h : Nat) (x : Tile) (l : Lease), s.tile? t = some x → x.leaves.filter (fun l => l.owner == h) = [l] →
    l.stop - l.next ≤ 1024 → s.power.mode = .serving →
    exec (.leafLeaseRequest t h) s = .next (
      if h ∈ x.wantLeaf ∨ s.leafLimitOf h ≤ s.leafNext h then s
      else (s.modTile t (fun x => { x with wantLeaf := x.wantLeaf ++ [h] })).bring
        { changes := [.leaf h t (s.leafNext h) (min 4096 (s.leafLimitOf h - s.leafNext h))], objs := [], job := none, res := {} })) ∧
  (∀ (s : State) (t : Nat) (j : Job), TileReady s t Op.timestamp j →
    j.input.length < j.reqLen ∨ parseTsReq (j.input.take j.reqLen) = none →
    exec (.timestamp t) s = .next (s.answer j (fail Status.invalidInput))) ∧
  (∀ (s a : State) (t : Nat) (j : Job) (q : TsReq) (k : KeyRec) (m cert : Bytes), TileReady s t Op.timestamp j →
    j.reqLen ≤ j.input.length → parseTsReq (j.input.take j.reqLen) = some q → KeyReady s t j 0 k m → cert = j.input.drop j.reqLen →
    a = s.cacheKey t j.part (j.handle 0) (j.ver 0) m (j.upOf 0) →
    exec (.timestamp t) s = .next (a.answer j (
      if cert ≠ [] ∧ Config.certKey cert ≠ some ((pubAlg k.alg).getD 0, publicOf k.alg k.len m) then fail Status.invalidInput
      else match a.tsReject j q with
       | some bit => okOut (tsRejection bit) bit
       | none => j.tsToken k.alg (publicOf k.alg k.len m) m cert
          (tstInfo q j.cust.policy (tsSerial a.now a.member t) a.clock.utc.toNat a.clock.err) q.certReq))) ∧
  (∀ (s : State) (t : Nat) (j : Job), TileReady s t Op.timeQuery j →
    exec (.timeQuery t) s = .next (s.answer j (okOut (leBytes 8 s.now ++ leBytes 8 s.clock.err ++ leBytes 1 s.clock.state.code ++
      leBytes 1 s.clock.source ++ zeros 6 ++ leBytes 8 (if s.clock.state = .locked then 0 else s.clock.lastLock))))) ∧
  (∀ (s a : State) (t : Nat) (j : Job) (r r1 : KeyRec) (m1 : Bytes), TileReady s t Op.chainAppend j →
    s.recAt j.part (hIndex (j.handle 0)) = some r → KeyReady s t j 1 r1 m1 →
    a = s.cacheKey t j.part (j.handle 1) (j.ver 1) m1 (j.upOf 1) →
    exec (.chainAppend t) s = .next (
      if j.input.length = 0 ∨ 1024 < j.input.length then s.answer j (fail Status.invalidInput)
      else if s.chainBehind j then s
      else match (s.ownKey j.part r).bind (fun k => (s.chainHead (j.handle 0) k r).map (fun m => (k, m))) with
      | none => s.answer j (fail Status.engineFault 0x04)
      | some (k, head) =>
        let seq := leAt 0 8 head + 1
        let rec_ := leBytes 8 seq ++ leBytes 8 (j.handle 0) ++ leBytes 8 a.now ++ leBytes 8 a.clock.err ++ sub 8 64 head ++
          leBytes 4 j.input.length ++ zeros 28 ++ j.input
        if 2 ^ 64 ≤ seq ∨ (s.vault.headsShut ∧ !s.vault.newHeads.contains (j.handle 0)) then s.answer j (fail Status.leaseExhausted)
        else if Config.signExhausts 0x52 (plainScheme 0x20 0) m1 rec_ j.hedge then a.answer j (fail Status.engineFault 0x07)
        else a.answerBring j
          [.keyPut j.part (hPage (j.handle 0)) (wrapRec k (j.handle 0) r (leBytes 8 seq ++ sha3_512 rec_)) false]
          [keyPageObj j.part (hPage (j.handle 0))]
          (okOut (rec_ ++ fixLen 4627 (Config.sign 0x52 (plainScheme 0x20 0) m1 rec_ j.hedge)))))

/-- R261: TIME_QUERY writes 32 B: TIME, ERR, STATE (0 UNSET, 1 LOCKED, 2 HOLDOVER), SOURCE (0 none, 1 port A, 2 port B), six zero bytes
and LAST_LOCK, zero while LOCKED and otherwise the secure time at which LOCKED was last left: for want of messages, or with power. -/
def Obligations.TimeQueryWritesItsRecord : Prop :=
  (∀ (s : State) (t : Nat) (j : Job), TileReady s t Op.timeQuery j → ∃ b : Bytes, exec (.timeQuery t) s = .next (s.answer j (okOut b)) ∧
    b.length = 32 ∧ b.take 8 = leBytes 8 s.now ∧ sub 8 8 b = leBytes 8 s.clock.err ∧
    byteAt 16 b = (match s.clock.state with | .unset => 0 | .locked => 1 | .holdover => 2) ∧ sub 17 1 b = leBytes 1 s.clock.source ∧
    zeroAt 18 6 b = true ∧ b.drop 24 = leBytes 8 (if s.clock.state = .locked then 0 else s.clock.lastLock)) ∧
  (∀ (c : Clock) (off : Int) (d : Nat), (c.lock off d).lastLock = c.lastLock ∧
    (c.lock off d).source = (if c.runA = 16 then 1 else if c.runB = 16 then 2 else 0)) ∧
  (∀ (s : State) (p : Nat), s.clock.state = .locked → ∃ t, exec (.ptpLossTimeout p) s = .next t ∧
    (t.clock.state ≠ .locked → t.clock.lastLock = t.clock.secure ∧ t.clock.source = 0) ∧
    (t.clock.state = .locked → t.clock.lastLock = s.clock.lastLock)) ∧
  (∀ (s : State), s.volatileLost.clock.lastLock = if s.clock.state = .locked then s.clock.secure else s.clock.lastLock)

/-- R154, R238 to R240: COMPONENT_BEGIN by a manager of the partition opens a load, or refuses: INVALID_INPUT for a form that is wrong,
ATTR_DENIED for the DUAL bit or a class its algorithm does not take, BUSY with eight loads open. COMPONENT_ADD adds a custodian's
component that opens under the session's key and is not there yet, and answers its check value. COMPONENT_COMMIT closes the load: a
complete one, neither weak nor against its expected check, whose record verifies brings the combined key under a DUAL record; an
incomplete or weak one is INVALID_INPUT, a wrong check VERIFY_FAIL. 900 s after its begin a load is lost. -/
def Obligations.ComponentLoadsRun : Prop :=
  (∀ (s : State) (q ix p : Nat) (j : Job) (b : Bytes), CtlReady s q ix Op.componentBegin j → b = j.input → p = byteAt 0 b →
    exec (.componentBegin q ix) s = .next (
      if j.manages p = false then s.deny j Status.attrDenied 0x30
      else if ¬(b.length = 32 ∧ (s.part? p).isSome = true ∧ 1 ≤ byteAt 1 b ∧ byteAt 1 b ≤ 4 ∧ 3 ≤ byteAt 2 b ∧ byteAt 2 b ≤ 8 ∧
          byteAt 3 b < 16 ∧ 2 ≤ byteAt 10 b ∧ byteAt 10 b ≤ 3 ∧ zeroAt 11 1 b = true ∧ zeroAt 16 16 b = true) then s.deny j Status.invalidInput
      else if bitOf 3 (byteAt 3 b) = true ∨ byteAt 2 b = 5 ∨ byteAt 2 b = 6 then s.deny j Status.attrDenied
      else if 8 ≤ s.mgmt.loads.length then s.deny j Status.busy
      else
        let id := (s.mgmt.loadCount + 1) % 2 ^ 32
        let l : CompLoad := { id := id, part := p, alg := byteAt 1 b, usage := byteAt 2 b, attr := BitVec.ofNat 8 (byteAt 3 b),
                              domain := byteAt 4 b, parent := leAt 5 5 b, count := byteAt 10 b, expect := sub 12 4 b, comps := [],
                              begunAt := s.clock.mono }
        ({ s with mgmt := { s.mgmt with loads := s.mgmt.loads ++ [l], loadCount := id } } : State).done j (okOut (leBytes 4 id ++ zeros 4)))) ∧
  (∀ (s : State) (q ix : Nat) (j : Job) (ses : MgmtSession) (l : CompLoad), CtlReady s q ix Op.componentAdd j → s.session? j.queue = some ses →
    ses.ctk ≠ [] → s.loadOf j = some l →
    exec (.componentAdd q ix) s = .next (
      if l.comps.any (fun c => c.2.1 == ses.actor) then s.deny j Status.attrDenied
      else match openKb 0x02 ses.ctk j.input true with
      | .bad st => s.deny j st
      | .ok _ alg len mat _ =>
        match (parseKb j.input).bind kbComponent with
        | none => s.deny j Status.invalidInput
        | some n =>
          if l.count < n ∨ l.comps.any (fun c => c.1 == n) ∨ alg ≠ l.alg then s.deny j Status.invalidInput
          else
            let ls := modWhere (fun x : CompLoad => x.id == l.id) (fun x => { x with comps := x.comps ++ [(n, ses.actor, mat)] }) s.mgmt.loads
            ({ s with mgmt := { s.mgmt with loads := ls } } : State).done j (okOut (checkValue alg len mat)))) ∧
  (∀ (s : State) (q ix : Nat) (j : Job) (l : CompLoad), CtlReady s q ix Op.componentCommit j → s.loadOf j = some l →
    j.manages l.part = true → s.keyStoreShut true true = none →
    (l.comps.length ≠ l.count ∨ weakTdes l.alg l.combined = true →
      exec (.componentCommit q ix) s = .next ((s.closeLoad l.id).deny j Status.invalidInput)) ∧
    (l.comps.length = l.count → weakTdes l.alg l.combined = false → allZero l.expect = false →
      l.expect ≠ checkValue l.alg ((genLen l.alg 0).getD 0) l.combined →
      exec (.componentCommit q ix) s = .next ((s.closeLoad l.id).deny j Status.verifyFail)) ∧
    (∀ (a : State) (h n : Nat) (r : KeyRec) (wk : Bytes), l.comps.length = l.count → weakTdes l.alg l.combined = false →
      allZero l.expect = true ∨ l.expect = checkValue l.alg ((genLen l.alg 0).getD 0) l.combined →
      (algUsages l.alg).contains l.usage = true →
      s.makeRec l.part { alg := l.alg, usage := l.usage, attr := l.attr.toNat + 8, domain := l.domain, parent := l.parent,
                         len := (genLen l.alg 0).getD 0, mat := l.combined } = .ok h n r a →
      a.ownKey l.part r = some wk →
      exec (.componentCommit q ix) s = .next (if (openRec wk h r).isNone then (s.closeLoad l.id).deny j Status.verifyFail
        else (a.closeLoad l.id).bringCtl j [.keyPut l.part n r true] [keyPageObj l.part n]
          (okOut (leBytes 8 h ++ checkValue l.alg ((genLen l.alg 0).getD 0) l.combined))))) ∧
  (∀ (s : State) (load : Nat) (l : CompLoad), s.mgmt.loads.find? (fun l => l.id == load) = some l →
    exec (.componentLoadExpiry load) s = .next ((s.advanceTo (l.begunAt + 900 * 10 ^ 9)).closeLoad load))

/-- R265 to R271: REPOINT_OPEN needs its ceremony; with no campaign open it brings, with a random secret, the next generation and its
campaign, and is BUSY while one is open or the pair resyncs. REPOINT_QUERY shows the campaign. REPOINT_COMMIT of a complete campaign
waits, and once no job holds the old generation its erasure is brought; one that is refused is ATTR_DENIED with its reason.
REPOINT_ABANDON turns a campaign back, and is ATTR_DENIED without its ceremony or a campaign. CAMPAIGN_STEP loads the next object, or
brings its re-wrap, and ends the campaign's visits once no object is left. -/
def Obligations.RepointingRuns : Prop :=
  (∀ (s : State) (q ix : Nat) (j : Job), CtlReady s q ix Op.repointOpen j →
    (j.ceremonyOk = false → exec (.repointOpen q ix) s = .next (s.deny j Status.attrDenied)) ∧
    (j.ceremonyOk = true → j.input.length = 8 → zeroAt 1 7 j.input = true → s.campaignNext.state ≠ 0 ∨ s.resyncing = true →
      exec (.repointOpen q ix) s = .next (s.deny j Status.busy)) ∧
    (∀ (a : State) (secret : Bytes), j.ceremonyOk = true → j.input.length = 8 →
      zeroAt 1 7 j.input = true → s.campaignNext.state = 0 → s.resyncing = false → s.kekNow ≠ 0 → s.kekNow ≠ 0xFFFF → s.repointShare = true →
      byteAt 0 j.input < 32 → bitOf (byteAt 0 j.input) s.life.suites = true → s.random 0 32 = .bits secret a →
      exec (.repointOpen q ix) s = .next (a.bringCtl j [.generation (s.kekNow + 1) secret,
        .campaign { state := 1, suite := byteAt 0 j.input, fromGen := s.kekNow, toGen := s.kekNow + 1, openedAt := a.now }] []
        (okOut (leBytes 2 (s.kekNow + 1) ++ zeros 6))))) ∧
  (∀ (s : State) (q ix : Nat) (j : Job) (c : Campaign), CtlReady s q ix Op.repointQuery j → c = s.vault.campaign →
    exec (.repointQuery q ix) s = .next (s.done j (okOut (leBytes 1 c.state ++ leBytes 1 c.suite ++
      leBytes 2 (if c.state = 0 then s.kekNow else c.fromGen) ++ leBytes 2 c.toGen ++ zeros 2 ++ leBytes 8 c.cursor ++
      leBytes 8 (if c.state = 0 then 0 else s.atOld) ++ leBytes 8 (if c.state = 0 then 0 else s.held) ++ leBytes 8 s.unavailable ++
      leBytes 8 c.bytes ++ leBytes 8 c.openedAt ++ leBytes 4 c.sharesSeen.length ++ leBytes 4 s.life.suites)))) ∧
  (∀ (s : State) (q ix : Nat) (j : Job), CtlReady s q ix Op.repointCommit j → j.ceremonyOk = true →
    exec (.repointCommit q ix) s = .next (
      match s.commitRefused with
      | some dt => s.deny j Status.attrDenied dt
      | none => if s.resyncing then s.deny j Status.busy else if s.pair.role = 3 then s.deny j Status.fenced else s.block j)) ∧
  (∀ (s : State) (j : Job), s.jobs.find? (fun j => j.phase == .blocked && j.desc.opcode == Op.repointCommit) = some j →
    exec .repointCommitDrained s = .next (
      if s.holdsGen s.vault.campaign.fromGen = false ∧ s.vault.campaign.state = 2 then
        s.bringCtl j [.generationErase s.vault.campaign.fromGen, .campaign (s.vault.campaign.idle s.vault.campaign.toGen)] []
      else s)) ∧
  (∀ (s : State) (q ix : Nat) (j : Job), CtlReady s q ix Op.repointAbandon j →
    exec (.repointAbandon q ix) s = .next (
      if j.ceremonyOk = true ∧ (s.campaignNext.state = 1 ∨ s.campaignNext.state = 2) then
        s.bringCtl j [.campaign { s.campaignNext with state := 3, cursor := 0 }] []
      else s.deny j Status.attrDenied)) ∧
  (∀ s : State, (s.vault.campaign.state = 1 ∨ s.vault.campaign.state = 3) → s.guard.freeze = false → s.power.mode = .serving →
    (s.tabs.table.strict = false ∨ s.repointShare = true) → s.noPersist = false → s.pair.role ≠ 2 → s.pair.role ≠ 3 →
    exec .campaignStep s = .next (match s.campaignObj with
      | none => s.campaignEnd
      | some e =>
        if e.load = .unloaded then s.pageLoadStart e.obj
        else if e.load ≠ .loaded then s
        else s.bring { changes := [.rewrap e.obj s.vault.campaign.target], objs := [e.obj], job := none, res := {}, rewrap := true }))

/-- R276, R282, R298: SEAL_KEY_DRAW, in mode SERVING with the entropy island in service and no key yet, keeps 64 random bytes as the
memory's key and starts every counter at zero; with a channel serving the fixed frames are placed. CHANNEL_TRAINING_DONE judges every
channel that trains: one that trained with a module the device takes, of the first such channel's form, serves; the others fail, for lack
of a module, in training or for a module that does not match. RESTORE_SUPPLY_SETTLED fails a channel whose module is absent, not one the
device takes or not like a serving channel's, or that does not train; any other keeps its module's form, and RESTORE_DONE writes its
counters afresh and puts it into service. -/
def Obligations.MemoryComesIntoService : Prop :=
  (∀ (s a : State) (b : Bytes), s.dram.key = none → s.ent.state = 2 → s.power.mode = .serving → s.random 0 64 = .bits b a →
    exec .sealKeyDraw s = .next (
      let zero (c : Channel) : Channel := { c with majorHwm := 0, fresh := 0, ctrs := [], retired := [] }
      let d := State.seedMesh { a with dram := { a.dram with key := some b, channels := a.dram.channels.map zero, ctrCache := [], macCache := [] } }
      if d.serving = [] then d else d.placeFixed.writeQueued)) ∧
  (∀ (s : State) (rs : List TrainResult), s.dram.channels.any (fun c => c.state == 1) = true →
    exec (.channelTrainingDone rs) s = .next (
      let a := State.fillQuota (forEach (List.range 8) (fun n t => t.trainOne (s.trainRef rs) (resultOf rs n) n) s)
      if a.dram.key.isSome then a.placeFixed.writeQueued else a)) ∧
  (∀ (s : State) (n : Nat) (c : Channel) (ref r : Option TrainResult), s.chan? n = some c → c.state = 1 → s.trainOne ref r n =
      match r, ref with
      | none, _ => s.failChannel n 1
      | some r, some y =>
        if moduleFits r = false ∨ ¬(r.capLog2 = y.capLog2 ∧ r.ranks = y.ranks ∧ r.dimms = y.dimms) then s.failChannel n 3
        else if r.trained = false then s.failChannel n 2
        else s.modChan n (fun c => { c with state := 2, reason := 0, dimms := r.dimms, capLog2 := r.capLog2, ranks := r.ranks })
      | some r, none => s.failChannel n (if moduleFits r then 2 else 3)) ∧
  (∀ (s : State) (r : TrainResult) (ch : Nat) (same : Bool), s.dram.action = some (4, ch) → r.ch = ch →
    (s.chan? ch).any (fun c => c.state == 1) = true →
    same = (match s.dram.channels.find? (fun c => c.state == 2) with
      | some c => (c.capLog2, c.ranks, c.dimms) == (r.capLog2, r.ranks, r.dimms)
      | none => true) →
    exec (.restoreSupplySettled r) s = .next (
      if r.present = false then (s.failChannel ch 1).chDone
      else if moduleFits r = false ∨ same = false then (s.failChannel ch 3).chDone
      else if r.trained = false then (s.failChannel ch 2).chDone
      else s.modChan ch (fun c => { c with dimms := r.dimms, capLog2 := r.capLog2, ranks := r.ranks, reason := 0 }))) ∧
  (∀ (s a b : State) (ch : Nat), s.dram.action = some (4, ch) → (s.chan? ch).any (fun c => c.state == 1 && c.dimms ≠ 0) = true →
    s.dram.key.isSome = true →
    a = { s with dram := { s.dram with ctrCache := s.dram.ctrCache.filter (fun e => e.1 ≠ ch),
                                       macCache := s.dram.macCache.filter (fun e => e.1 ≠ ch) } } →
    b = (a.modChan ch (fun c =>
      { c with state := 2, degraded := false, fresh := c.majorHwm + 1, majorHwm := c.majorHwm + 1, ctrs := [], failed := [], ceLines := [],
               uePass := 0 })).chDone →
    exec .restoreDone s = .next (if s.serving = [] then b.placeFixed.writeQueued else b))

/-- R275, R280, R281, R285, R289, R291 to R293: on a serving channel a MAC line that decodes enters the MAC cache, and a data line of a
frame in use that decodes is checked against its MAC; a corrected error is counted first, and an uncorrectable data line is counted and
its frame answers for it. A scrub step reads the lines it covers and moves on; ECS's largest count is kept; refreshes of a powered channel
are counted; a module's temperature is read, and above 85 °C its refresh interval is halved. -/
def Obligations.MemoryUpkeepRuns : Prop :=
  (∀ (s : State) (ch line lv n : Nat) (burst : Bytes) (c : Channel), s.chan? ch = some c → s.dram.key.isSome = true → c.state = 2 →
    c.lineKind line = .mac lv n →
    (∀ b : Bytes, decodeBurst (c.failedAt line) burst = .clean b → exec (.lineReadReturn ch line burst) s = .next (s.cacheMacLine ch line b)) ∧
    (∀ (b : Bytes) (d : Nat), decodeBurst (c.failedAt line) burst = .corrected b d →
      exec (.lineReadReturn ch line burst) s = .next ((s.countCe ch line d).cacheMacLine ch line b))) ∧
  (∀ (s : State) (ch line : Nat) (burst : Bytes) (c : Channel), s.chan? ch = some c → s.dram.key.isSome = true →
    c.state = 2 → c.lineKind line = .data → (s.cacheAt ch line).isSome = true ∨ (s.workAt ch line).isSome = true →
    exec (.lineReadReturn ch line burst) s = .next (match decodeBurst (c.failedAt line) burst with
      | .clean b => s.checkLine c line .data b
      | .corrected b d => (s.countCe ch line d).checkLine c line .data b
      | .lost => (s.countUe ch LineKind.data.code line).dataFailed ch line)) ∧
  (∀ (s : State) (ch : Nat) (bursts : List (Nat × Bytes)) (c : Channel), s.chan? ch = some c → c.state = 2 → s.dram.key.isSome = true →
    c.scrubBlock ≤ c.blocks → s.dram.selfRefresh = false →
    exec (.patrolScrubStep ch bursts) s = .next ((State.modChan
      (forEach bursts (fun e t => if t.scrubReads c c.scrubBlock e.1 then t.readLine ch e.1 e.2 else t) s) ch
      (fun y => { y with scrubBlock := c.scrubBlock + 1 })).scrubWrap)) ∧
  (∀ (s : State) (ch pos rank n : Nat) (counts : List (Nat × Nat × Nat)) (c : Channel), s.chan? ch = some c → c.state = 2 →
    minBy (fun (e : Nat × Nat × Nat) => 2 ^ 32 - e.2.2) counts = some (pos, rank, n) →
    exec (.ecsPass ch counts) s =
      .next (s.modChan ch (fun c => { c with ecsMax := min 65535 n, ecsDev := pos % 32, ecsRank := rank % 8 }))) ∧
  (∀ (s : State) (ch : Nat) (rfm : Bool), exec (.refreshTick ch rfm) s = .next (s.modChan ch (fun c =>
    if c.state = 0 ∨ c.state = 1 ∨ c.state = 6 ∨ c.state = 7 ∨ s.dram.selfRefresh then c
    else if rfm then { c with rfms := c.rfms + 1 } else { c with refreshes := c.refreshes + 1 }))) ∧
  (∀ (s : State) (ch : Nat) (temp : Int), exec (.sidebandPoll ch temp) s = .next (s.modChan ch (fun c =>
    if c.state = 0 ∨ c.state = 6 then c else { c with temp := temp, halved := decide (85 < temp) })))

/-- R8, R295 to R298: of the channel CHANNEL names, which the register keeps, each action of SEM_CH_CMD is accepted from the states its
row gives and with no other action running, is refused with INVALID_INPUT from every other state and with BUSY while one runs, and ends as
its rule says. An EVACUATE that would leave fewer than two channels serving is ATTR_DENIED. -/
def Obligations.ChannelActionsRun : Prop :=
  (∀ (s : State) (q ix ch : Nat) (j : Job) (c : Channel), ch = s.targetOf j Reg.semChCmd → s.chan? ch = some c →
    (ActReady s q ix Reg.semChCmd 6 4 1 j → exec (.retrain q ix) s = .next (
      if c.state ≠ 2 then s.deny j Status.invalidInput else if s.dram.action.isSome then s.deny j Status.busy
      else (s.keepTarget j Reg.semChCmd).chBegin j 1 ch 3)) ∧
    (ActReady s q ix Reg.semChCmd 6 4 2 j → exec (.evacuate q ix) s = .next (
      if c.state ≠ 2 ∧ c.state ≠ 3 then s.deny j Status.invalidInput else if s.dram.action.isSome then s.deny j Status.busy
      else if (s.keepTarget j Reg.semChCmd).othersServing ch < 2 then (s.keepTarget j Reg.semChCmd).deny j Status.attrDenied
      else (s.keepTarget j Reg.semChCmd).chBegin j 2 ch 4)) ∧
    (ActReady s q ix Reg.semChCmd 6 4 3 j → exec (.powerDown q ix) s = .next (
      if c.state ≠ 5 ∧ c.state ≠ 7 then s.deny j Status.invalidInput else if s.dram.action.isSome then s.deny j Status.busy
      else ((s.keepTarget j Reg.semChCmd).chBegin j 3 ch 6).chDone)) ∧
    (ActReady s q ix Reg.semChCmd 6 4 4 j → exec (.restore q ix) s = .next (
      if c.state ≠ 6 ∧ c.state ≠ 7 then s.deny j Status.invalidInput else if s.dram.action.isSome then s.deny j Status.busy
      else (s.keepTarget j Reg.semChCmd).chBegin j 4 ch 1)) ∧
    (ActReady s q ix Reg.semChCmd 6 4 5 j → exec (.markAbsent q ix) s = .next (
      if c.state ≠ 6 then s.deny j Status.invalidInput else if s.dram.action.isSome then s.deny j Status.busy
      else ((s.keepTarget j Reg.semChCmd).chMarkAbsent j ch)))) ∧
  (∀ (s a : State) (j : Job) (ch act st : Nat), a = { s with dram := { s.dram with action := some (act, ch) } } →
    s.chBegin j act ch st = (a.modChan ch (fun c => { c with state := st })).done j) ∧
  (∀ (s : State) (j : Job) (ch : Nat), s.chMarkAbsent j ch =
    (({ s with dram := { s.dram with action := some (5, ch) } } : State).done j).enqueue
      { changes := [.markAbsent ch], objs := [], job := none, res := {} }) ∧
  (∀ (s : State) (ch : Nat), s.dram.action = some (1, ch) →
    exec .retrainDone s = .next ((s.modChan ch (fun c => if c.state = 3 then { c with state := 2 } else c)).chDone)) ∧
  (∀ (s a : State) (ch : Nat), s.dram.action = some (2, ch) → a = s.moveWork ch →
    exec .evacuateDone s = .next (
      if s.dram.work.any (fun w => w.kind == 0 && (w.chA == ch || w.chB == ch)) then s
      else (State.modChan (forEach (a.dram.cacheFrames.filter (fun f => f.ch == ch)) (fun f t => t.dropFrame f.obj) a) ch
        (fun c => if c.state = 4 then { c with state := 5 } else c)).chDone))

/-- R302, R305 to R308: a window of 1,024 samples that the debiased bits of a serving source fill is released to the conditioner when it
passes both tests; one that fails is discarded whole: it is counted, and it reaches no instance. FAIL_RUN of them in a row drop the
source, and what rate then remains decides whether service continues. Bits that fill no window, and those of a source that is not in,
change nothing. R306: a window that fails a test is discarded whole: whatever samples it held, two windows that fail the same test bring
the device to the same state; a window that passes both tests is released, as the bits it held; a source that does not exist has no
window. -/
def Obligations.WindowsAreJudged : Prop :=
  (∀ (s : State) (n : Nat) (raw : Bytes) (x : Source) (w : List Bool), s.ent.sources.find? (fun y => y.num == n) = some x →
    s.ent.state = 2 → x.state = 2 → s.ent.windowOf n raw = some w →
    (longestRun w < rctCut (s.ent.hOf n) → aptCount w < aptCut (s.ent.hOf n) →
      exec (.entropyWindow n raw) s = .next (s.windowPassed x (packBits w))) ∧
    (rctCut (s.ent.hOf n) ≤ longestRun w → exec (.entropyWindow n raw) s = .next (s.windowFailed x 0)) ∧
    (longestRun w < rctCut (s.ent.hOf n) → aptCut (s.ent.hOf n) ≤ aptCount w →
      exec (.entropyWindow n raw) s = .next (s.windowFailed x 1))) ∧
  (∀ (s : State) (n : Nat) (raw : Bytes) (x : Source), s.ent.sources.find? (fun y => y.num == n) = some x →
    s.ent.windowOf n raw = none ∨ s.ent.state ≠ 2 ∨ x.state ≠ 2 → exec (.entropyWindow n raw) s = .next s) ∧
  (∀ (s : State) (test : Nat) (x : Source), x.run + 1 < s.fld Reg.entCtrl 23 21 →
    s.windowFailed x test = (s.noteFailed x test).leaveWindow x.num) ∧
  (∀ (s t : State) (test : Nat) (x : Source), s.fld Reg.entCtrl 23 21 ≤ x.run + 1 →
    t = (if x.leaving then (s.noteFailed x test).entActionDone else s.noteFailed x test).dropSource x.num →
    s.windowFailed x test = (if t.ent.rate < 4 * t.ent.budget then t.entFail 0x01
      else { t with ent := { t.ent with absorbed := [], absorbedBits := 0 } }).fire 11 57 x.num) ∧
  (∀ (s : State) (test : Nat) (x : Source), (s.noteFailed x test).ent.pool = s.ent.pool ∧
    (s.noteFailed x test).ent.absorbed = s.ent.absorbed ∧ (s.noteFailed x test).ent.instances = s.ent.instances) ∧
  (∀ (s : State) (n k : Nat) (a b : Bytes) (v w : List Bool), s.ent.windowOf n a = some v → s.ent.windowOf n b = some w →
    s.ent.windowTest n v = some k → s.ent.windowTest n w = some k →
    ∃ t, exec (.entropyWindow n a) s = .next t ∧ exec (.entropyWindow n b) s = .next t) ∧
  (∀ (s : State) (n : Nat) (raw : Bytes) (x : Source) (w : List Bool), s.ent.sources.find? (fun y => y.num == n) = some x → s.ent.state = 2 →
    x.state = 2 → s.ent.windowOf n raw = some w → s.ent.windowTest n w = none →
    exec (.entropyWindow n raw) s = .next (s.windowPassed x (packBits w))) ∧
  (∀ (s : State) (n : Nat) (raw : Bytes), s.ent.sources.find? (fun y => y.num == n) = none → exec (.entropyWindow n raw) s = .next s)

/-- R309, R312 to R315: while the island starts, the start-up tests' end puts in the sources that passed, drops those that failed, and
leads to service, or to FAILED when an answer is wrong or too little rate remains. An entropy request of a partition of the table takes up
the partition's oldest request: in FAILED it is answered without bits; else its instance generates, after a reseed from a fresh block
where it asks for one; it waits where there is no instance, no block, or a reseed is overdue. R319: RNG_GENERATE without input answers
OUT_LEN of the random bytes its entropy token brought, 1 to 65,536 of them; any other OUT_LEN, or an input, is INVALID_INPUT. RNG_STATUS
answers its 16 B whatever the island's state. -/
def Obligations.EntropyServes : Prop :=
  (∀ (s t u v : State) (failed bad : List Nat) (ok : Bool), s.ent.state = 1 →
    bad = (s.ent.sources.filter (fun x => x.state == 1 && failed.contains x.num)).map (fun x => x.num) →
    t = { s with ent := { s.ent with
      sources := s.ent.sources.map (fun x => if x.state = 1 ∧ !failed.contains x.num then { x with state := 2 } else x) } } →
    u = forEach bad (fun n s => s.dropSource n) t →
    v = (if ok = false then (u.notice Reg.entNotice 3).entFail 0x02
      else if u.ent.rate < 4 * u.ent.budget then u.entFail 0x03 else { u with ent := { u.ent with state := 2 } }) →
    exec (.entropyStart failed ok) s =
      .next (forEach bad (fun n s => s.fire 11 57 n) (if v.ent.action = some (1, 0) then v.entActionDone else v))) ∧
  (∀ (s : State) (failed : List Nat) (ok : Bool), s.ent.state ≠ 1 → exec (.entropyStart failed ok) s = .next s) ∧
  (∀ (s a : State) (p n : Nat) (pr : Bool) (r : EntReq), (s.part? p).isSome = true →
    a = State.notePool (if s.ent.waiting.any (fun r => r.part == p && r.len == n && r.pr == pr) then s
      else { s with ent := { s.ent with waiting := s.ent.waiting ++ [{ part := p, len := n, pr := pr, job := none }] } }) →
    a.oldestReq p = some r →
    exec (.entropyRequest p n pr) s = .next (if r.part = p ∧ r.len = n ∧ r.pr = pr then a.serve r else a)) ∧
  (∀ (s : State) (r : EntReq),
    (s.ent.state = 3 → s.serve r = (s.served r none).entRefuse r) ∧
    (∀ (a : State) (bits : Bytes), s.ent.state ≠ 3 → r.pr = false → s.generate r.part r.len = some (bits, a) →
      s.serve r = a.served r (some bits)) ∧
    (s.ent.state ≠ 3 → r.pr = false → s.generate r.part r.len = none → s.serve r = s.dueReseed r.part) ∧
    (∀ (a b : State) (block bits : Bytes) (rest : List Bytes), s.ent.state ≠ 3 → r.pr = true → s.ent.pool = block :: rest →
      (s.inst? r.part).isSome = true → b = State.reseed { s with ent := { s.ent with pool := rest } } r.part block →
      b.generate r.part r.len = some (bits, a) → s.serve r = (a.served r (some bits)).notePool) ∧
    (s.ent.state ≠ 3 → r.pr = true → s.ent.pool = [] ∨ s.inst? r.part = none → s.serve r = s)) ∧
  (∀ (s : State) (t : Nat) (j : Job), TileReady s t Op.rngGenerate j → exec (.rngGenerate t) s = .next (s.answer j (
      if 0 < j.desc.outLen ∧ j.desc.outLen ≤ 65536 ∧ j.desc.inLen = 0 then okOut (fixLen j.desc.outLen j.entropy)
      else fail Status.invalidInput))) ∧
  (∀ (s : State) (t : Nat) (j : Job), TileReady s t Op.rngStatus j →
    exec (.rngStatus t) s = .next (s.answer j (okOut (s.rngStatusBytes j.part))) ∧ (s.rngStatusBytes j.part).length = 16)

/-- R8, R316, R318: of a SOURCE below 22, which the register keeps, ENT_CMD's actions do what their rows say, and a second action is BUSY:
RESTART begins the start-up tests again; KAT needs service, and a wrong answer fails the island; SOURCE_OUT is denied where too little
rate would remain, and a serving source leaves at the end of its window; SOURCE_IN needs a source that is not already in, and brings it in
or finds it FAILED by its own start-up test. -/
def Obligations.EntropyActionsRun : Prop :=
  (∀ (s a : State) (q ix n : Nat) (j : Job), n = s.targetOf j Reg.entCmd → n < 22 → s.ent.action = none → a = s.keepTarget j Reg.entCmd →
    (ActReady s q ix Reg.entCmd 2 0 1 j →
      exec (.restart q ix) s = .next ((({ a with ent := { a.ent with action := some (1, 0) } } : State).entRestart).done j)) ∧
    (∀ pass : Bool, ActReady s q ix Reg.entCmd 2 0 2 j → exec (.kat q ix pass) s = .next (
      if a.ent.state ≠ 2 then a.deny j Status.invalidInput
      else (if pass then a.done j else ((a.done j).notice Reg.entNotice 3).entFail 0x02).entActionDone)) ∧
    (ActReady s q ix Reg.entCmd 2 0 3 j →
      a.ent.compat = true ∨ a.ent.rateWhere (fun x => x.state == 2 && x.num ≠ n) < 4 * a.ent.budget →
      exec (.sourceOut q ix) s = .next (a.deny j Status.attrDenied)) ∧
    (∀ b : State, ActReady s q ix Reg.entCmd 2 0 3 j → a.ent.compat = false →
      4 * a.ent.budget ≤ a.ent.rateWhere (fun x => x.state == 2 && x.num ≠ n) → b = (a.done j).setSrcEn n false →
      exec (.sourceOut q ix) s = .next (
        if (a.ent.state == 2 && a.ent.sources.any (fun x => x.num == n && x.state == 2)) = true then
          State.modSource { b with ent := { b.ent with action := some (3, n) } } n (fun x => { x with leaving := true })
        else (b.modSource n (fun x => { x with state := 0 })).entActionDone)) ∧
    (∀ (pass : Bool) (b : State), ActReady s q ix Reg.entCmd 2 0 4 j → b = a.done j →
      exec (.sourceIn q ix pass) s = .next (
        if a.ent.compat = true ∨ a.ent.sources.any (fun x => x.num == n && (x.state == 1 || x.state == 2)) = true then
          a.deny j Status.invalidInput
        else if pass then ((b.modSource n (fun x =>
          { x with state := 2, run := 0, joining := true, trim := b.reg Reg.entSrcTrim n % 64 })).setSrcEn n true).entActionDone
        else ((b.modSource n (fun x => { x with state := 3, trim := b.reg Reg.entSrcTrim n % 64 })).notice Reg.entNotice 0).entActionDone))) ∧
  (∀ (s : State) (q ix : Nat) (pass : Bool) (j : Job), s.targetOf j Reg.entCmd < 22 → s.ent.action ≠ none →
    (ActReady s q ix Reg.entCmd 2 0 1 j → exec (.restart q ix) s = .next (s.deny j Status.busy)) ∧
    (ActReady s q ix Reg.entCmd 2 0 2 j → exec (.kat q ix pass) s = .next (s.deny j Status.busy)) ∧
    (ActReady s q ix Reg.entCmd 2 0 3 j → exec (.sourceOut q ix) s = .next (s.deny j Status.busy)) ∧
    (ActReady s q ix Reg.entCmd 2 0 4 j → exec (.sourceIn q ix pass) s = .next (s.deny j Status.busy)))

/-- R331 to R334: PRT_STAGE keeps a table that follows the one in force; one that breaks a rule is INVALID_INPUT with the rule's detail,
and one of another SEQ is GENERATION_STALE. PRT_APPLY begins a live restart with the staged table: the tiles it changes take no more jobs,
and their long-integer jobs are aborted; with none staged it is INVALID_INPUT, and where the staged items are refused it is refused.
PRT_QUERY answers the table in force or the staged one, and INVALID_INPUT for any other. At the hod bound what still runs on the changed
tiles ends and their hods are discarded; once the changed tiles are idle the pass applies what is staged and the command that began it
completes. R179, R213, R344, R347: on the tile the queue's TIL_TSEL shows, an action of TIL_CMD is BUSY while another runs or the tile
drains. DRAIN of an eligible or streaming tile turns it DRAINING, of a drained one is DONE, and of any other INVALID_INPUT; a draining
tile whose hod has run out is DRAINED. RETURN takes a drained or quarantined tile to its self-tests, and is INVALID_INPUT for any other;
RESET ends what runs, empties the tile and begins its self-tests. They end, once its course's scratchpad is tested, in service, or off
where the table says so, or in quarantine. -/
def Obligations.TablesAndTilesAct : Prop :=
  (∀ (s : State) (q ix : Nat) (j : Job), CtlReady s q ix Op.prtStage j → exec (.prtStage q ix) s = .next (match tableRefusal j.input with
    | some d => s.deny j Status.invalidInput d
    | none => if (parseTable j.input).seq = s.tabs.table.seq then ({ s with tabs := { s.tabs with staged := some j.input } } : State).done j
        else s.deny j Status.generationStale)) ∧
  (∀ (s : State) (q ix : Nat) (j : Job) (b : Bytes) (changed : List Nat) (r : Restart), CtlReady s q ix Op.prtApply j →
    (s.tabs.staged = none → exec (.prtApply q ix) s = .next (s.deny j Status.invalidInput)) ∧
    (∀ st dt : Nat, s.tabs.staged = some b → s.stagedRefusal j.ceremonyOk = some (st, dt) →
      exec (.prtApply q ix) s = .next (s.deny j st dt)) ∧
    (s.tabs.staged = some b → s.stagedRefusal j.ceremonyOk = none → changed = s.tilesChanged (parseTable b) →
      r = { job := some j.id, opcode := j.desc.opcode, step := 2, changed := changed, startedAt := s.clock.mono } →
      exec (.prtApply q ix) s = .next (forEach changed (fun t s => (s.dropRefs t).abortLong t 0x03)
        (State.block { s with tabs := { s.tabs with restart := some r }, mgmt := { s.mgmt with loads := [] } } j)))) ∧
  (∀ (s : State) (q ix : Nat) (j : Job), CtlReady s q ix Op.prtQuery j → exec (.prtQuery q ix) s = .next (
    if j.desc.p8 48 = 0 then s.done j (okOut (tableBytes s.tabs.table))
    else if j.desc.p8 48 = 1 then (match s.tabs.staged with | some b => s.done j (okOut b) | none => s.deny j Status.invalidInput)
    else s.deny j Status.invalidInput)) ∧
  (∀ (s : State) (r : Restart), s.tabs.restart = some r →
    exec .liveRestartHodBound s = .next (forEach r.changed (fun t s => (s.endRunning t (fail Status.aborted 0x03)).discardHod t)
      (s.advanceTo (max s.clock.mono (r.startedAt + 10 * 10 ^ 6))))) ∧
  (∀ (s a b : State) (r : Restart), s.tabs.restart = some r → a = s.applyStaged r.changed →
    b = { a with tabs := { a.tabs with restart := none } } →
    exec .liveRestartDone s = .next (
      if s.changedIdle r = false then s
      else (match r.job with | some id => b.finish id (b.restartResult r s.imageRefusal) | none => b).settle)) ∧
  (∀ s : State, s.tabs.restart = none → exec .liveRestartHodBound s = .next s ∧ exec .liveRestartDone s = .next s) ∧
  (∀ (s a b : State) (q ix : Nat) (j : Job) (t : Tile), s.tile? (s.selOf j.queue Reg.tilTsel) = some t →
    (ActReady s q ix Reg.tilCmd 1 0 1 j → exec (.drain q ix) s = .next (
      if t.action = true ∨ t.state = 2 then s.deny j Status.busy
      else if t.state = 3 then s.done j
      else if t.state ≤ 1 then ((s.dropRefs t.num).modTile t.num (fun x => { x with state := 2, action := true })).done j
      else s.deny j Status.invalidInput)) ∧
    (ActReady s q ix Reg.tilCmd 1 0 2 j → exec (.ret q ix) s = .next (
      if t.action = true ∨ t.state = 2 then s.deny j Status.busy
      else if t.state = 3 ∨ t.state = 4 then
        (s.modTile t.num (fun x => { x with state := 5, action := true, oldUcode := false })).done j
      else s.deny j Status.invalidInput)) ∧
    (ActReady s q ix Reg.tilCmd 1 0 3 j → a = (s.endRunning t.num (fail Status.aborted 0x04)).discardHod t.num →
      b = ((a.dropRefs t.num).wipeTile t.num).dropLeases t.num →
      exec (.tilReset q ix) s = .next (
        if t.action = true ∨ t.state = 2 then s.deny j Status.busy
        else (b.modTile t.num (fun x => { x with state := 5, action := true, borrower := none })).done j))) ∧
  (∀ (s : State) (t : Nat) (x : Tile), s.tile? t = some x → exec (.tileDrained t) s = .next (
    if x.state = 2 ∧ x.hod = [] ∧ x.job = none ∧ x.held = none then (s.modTile t (fun x => { x with state := 3 })).tileActionDone t
    else s)) ∧
  (∀ (s : State) (t e : Nat) (x : Tile) (c : Course), s.tile? t = some x → x.state = 5 → s.course? (courseOf t) = some c → c.scrState ≠ 0 →
    exec (.tileSelfTestDone t (some e)) s =
      .next (((s.tileActionDone t).quarantine t).devEvent 5 0x0401 t (leBytes 1 t ++ leBytes 1 e)) ∧
    exec (.tileSelfTestDone t none) s = .next ((s.modTile t (fun x =>
      { x with state := if (s.tileRec t).kind = 2 then 6 else 0, slotNow := 0 })).tileActionDone t))

/-- R354 to R357, R361, R501: a refused LCY_TRANSITION completes with its refusal; else it blows its target's fuses and leaves the state
and slot in force as they are, and a RESET_NOW one arms the reset. USER_ERASE under its ceremony zeroizes, and is ATTR_DENIED without it.
LCY_SVN_ADVANCE raises MIN_SVN to at most the running image's number, and never lowers it. A blow that fails its read-back after `cut`
bits, or at once while VDD_IO18 is out of its window, leaves what it has blown, and the command without completion (log entry 77). R365:
DEBUG_CHALLENGE of purpose 1 or 2 answers the challenge signed by the identity keys and keeps it until it is used; any other purpose is
INVALID_INPUT. DEBUG_OPEN needs a token of its length, a development part in state 2 or 3, and the token's hold on that challenge, and
then opens the token's scopes, measured. -/
def Obligations.LifeCycleAndDebug : Prop :=
  (∀ (s : State) (q ix : Nat) (cut : Option Nat) (j : Job), CtlReady s q ix Op.lcyTransition j →
    (∀ st dt : Nat, s.transitionRefusal j = some (st, dt) → exec (.lcyTransition q ix cut) s = .next (s.deny j st dt)) ∧
    (∀ (a : State) (target : Nat) (owner : Bytes) (c : Nat × Nat × Nat), s.transitionRefusal j = none → target = byteAt 0 j.input →
      owner = sha3_256 (j.input.drop 8) → c = s.life.fuses.requestBits s.life.state s.life.slot target owner →
      (s.cutAt cut).filter (fun n => decide (n < c.1 + c.2.1 + c.2.2)) = none →
      a = { s with life := { s.life with fuses := s.life.fuses.request s.life.state s.life.slot target owner } } →
      exec (.lcyTransition q ix cut) s = .next (State.done
        (if bitOf 0 (j.desc.p8 48) then
          { (a.notice Reg.lcyNotice 0) with power := { (a.notice Reg.lcyNotice 0).power with resetBy := some j.id } }
         else a.notice Reg.lcyNotice 0) j) ∧ a.life.state = s.life.state ∧ a.life.slot = s.life.slot) ∧
    (∀ (n target : Nat) (owner : Bytes) (c : Nat × Nat × Nat), s.transitionRefusal j = none → target = byteAt 0 j.input →
      owner = sha3_256 (j.input.drop 8) → c = s.life.fuses.requestBits s.life.state s.life.slot target owner →
      (s.cutAt cut).filter (fun n => decide (n < c.1 + c.2.1 + c.2.2)) = some n →
      exec (.lcyTransition q ix cut) s = .next (State.block
        { s with life := { s.life with fuses := s.life.fuses.requestCut s.life.state s.life.slot target owner n } } j))) ∧
  (∀ (s a : State) (q ix : Nat) (j : Job), CtlReady s q ix Op.userErase j → a = ((s.done j).purge).zeroize →
    exec (.userErase q ix) s = .next (
      if j.ceremonyOk = false then s.deny j Status.attrDenied 0x03 else { a with life := { a.life with erased := true } })) ∧
  (∀ (s : State) (q ix v : Nat) (cut : Option Nat) (j : Job), CtlReady s q ix Op.lcySvnAdvance j → v = j.desc.p8 48 →
    (v ≤ s.life.fuses.minSvn ∨ s.life.runSvn < v → exec (.lcySvnAdvance q ix cut) s = .next (s.deny j Status.attrDenied)) ∧
    (s.life.fuses.minSvn < v → v ≤ s.life.runSvn → (s.cutAt cut).filter (fun n => decide (n < v - s.life.fuses.minSvn)) = none →
      exec (.lcySvnAdvance q ix cut) s = .next (
        (({ s with life := { s.life with fuses := { s.life.fuses with minSvn := v } } } : State).notice Reg.lcyNotice 3).done j)) ∧
    (∀ n : Nat, s.life.fuses.minSvn < v → v ≤ s.life.runSvn →
      (s.cutAt cut).filter (fun n => decide (n < v - s.life.fuses.minSvn)) = some n →
      exec (.lcySvnAdvance q ix cut) s = .next (State.block
        { s with life := { s.life with fuses := { s.life.fuses with minSvn := s.life.fuses.minSvn + n } } } j))) ∧
  (∀ (s : State) (q ix : Nat) (j : Job), CtlReady s q ix Op.debugChallenge j →
    (∀ (a : State) (b c : Bytes), j.desc.p8 48 = 1 ∨ j.desc.p8 48 = 2 → s.random 0 112 = .bits b a →
      c = a.challengeBytes (j.desc.p8 48) (b.take 32) → exec (.debugChallenge q ix) s = .next (
        ({ a with life := { a.life with challenge := some { purpose := j.desc.p8 48, slot := a.life.slot, nonce := b.take 32, body := c } } }
          : State).done j (okOut (c ++ (identitySign a.guard.identity c (b.drop 32)).1 ++ (identitySign a.guard.identity c (b.drop 32)).2)))) ∧
    (j.desc.p8 48 ≠ 1 → j.desc.p8 48 ≠ 2 → exec (.debugChallenge q ix) s = .next (s.deny j Status.invalidInput))) ∧
  (∀ (s : State) (q ix : Nat) (j : Job), CtlReady s q ix Op.debugOpen j → exec (.debugOpen q ix) s = .next (
    if j.input.length ≠ 4787 then s.deny j Status.invalidInput
    else if (s.life.state ≠ 2 ∧ s.life.state ≠ 3) ∨ s.development = false then s.deny j Status.attrDenied
    else if s.tokenOk j.input 1 s.life.slot then
      (({ s with life := (({ s.life with debug := 1, scopes := leAt 48 4 j.input % 8 } : Life).measureState
        (Config.debugEvent (leAt 48 4 j.input % 8))) } : State).notice Reg.lcyNotice 4).done j
    else s.deny j Status.authFail))

/-- R73, R369: QP_SEAL_OFFER on a queue that SEAL_REQUIRED seals keeps an offer of fresh keys and answers it signed; on another it is
ATTR_DENIED. QP_SEAL_ESTABLISH answers only the offer that waits, and derives both directions' keys from it; a host key without a point is
INVALID_INPUT (the model's choice: log entry 73), and so is an answer of the wrong form or to no offer. ATTEST over a nonce of 8 to 64
bytes answers a statement signed by the identity keys, OUTPUT_SHORT where its extent does not hold it (log entry 42), and any other nonce
is INVALID_INPUT. -/
def Obligations.SealedQueuesAgreeKeys : Prop :=
  (∀ (s : State) (t : Nat) (j : Job) (q : Qp), TileReady s t Op.qpSealOffer j → s.qp? j.queue = some q →
    (q.cfg.flags.getLsbD 1 = false → exec (.qpSealOffer t) s = .next (s.answer j (fail Status.attrDenied))) ∧
    (∀ (rnd : Bytes) (o : Offer), q.cfg.flags.getLsbD 1 = true → j.desc.inLen = 0 → rnd = shake256 192 j.entropy →
      o.id = Config.freeNat s.free % 2 ^ 32 → o.kemKey = Config.keyGen 0x41 0 (sub 0 64 rnd) →
      o.ecKey = Config.keyGen 0x21 0 (sub 64 48 rnd) → o.payload = offerPayload j.queue o.id o.kemKey o.ecKey →
      exec (.qpSealOffer t) s = .next ((State.modQp { s with free := s.free + 1 } j.queue (fun q => { q with offer := some o })).answer j
        (okOut (coseSign s.guard.identity o.payload (sub 112 80 rnd)))))) ∧
  (∀ (s : State) (t : Nat) (j : Job) (q : Qp), TileReady s t Op.qpSealEstablish j → s.qp? j.queue = some q →
    (q.offer = none → exec (.qpSealEstablish t) s = .next (s.answer j (fail Status.invalidInput))) ∧
    (∀ o : Offer, q.offer = some o → j.input.length ≠ 1096 ∨ leAt 0 4 j.input ≠ o.id ∨ zeroAt 4 4 j.input = false →
      exec (.qpSealEstablish t) s = .next (s.answer j (fail Status.invalidInput))) ∧
    (∀ (k : Nat) (o : Offer) (r : KeyRec) (m : Bytes), q.offer = some o → j.input.length = 1096 → leAt 0 4 j.input = o.id →
      zeroAt 4 4 j.input = true → s.lookup q.cfg.part q.cfg.hostKey [4] = .rec_ k r → s.material q.cfg.part q.cfg.hostKey r = some m →
      exec (.qpSealEstablish t) s = .next (match ecdhOf 0x21 o.ecKey m with
        | none => s.answer j (fail Status.invalidInput)
        | some x => let k := sessionSecret q o.payload (sub 8 1088 j.input) (Config.kemDecap 0x41 o.kemKey (sub 8 1088 j.input)) x
          (s.modQp j.queue (fun q => { q with offer := none, nextSession := some {
            toDevice := k.take 32, toHost := k.drop 32, descSeq := 0, cplSeq := 0 } })).answer j
            { detail := leNat ((sha3_256 (k ++ ascii "CONFIRM")).take 8) }))) ∧
  (∀ (s : State) (t : Nat) (j : Job) (out : Bytes), TileReady s t Op.attest j →
    out = coseSign s.guard.identity (s.attestMap j.part j.input) (shake256 80 j.entropy) →
    exec (.attest t) s = .next (s.answer j (
      if j.input.length < 8 ∨ 64 < j.input.length then fail Status.invalidInput
      else if out.length ≤ j.desc.outLen then okOut out else fail Status.outputShort)))

/-- R384 to R387, R501: each monitor fires its source when what it senses is outside its limits, and not otherwise: a glitch or an
excursion of a rail; a clock window that is bad, where an island whose clock stopped takes no part in handshakes until it runs again; an
enabled mesh line that reads back wrong; an enabled switch in its wrong state in two samples in a row; a die temperature below LOW or
above HIGH; a cell above 4,300 mV, or below 1,000 mV unless it was away already or its removal is exempt. A source that is disabled, or
not armed on cells while the device lives on them, never fires; a source stops being active when its condition has ended. -/
def Obligations.MonitorsFireTheirSources : Prop :=
  (∀ (s : State) (rail : Nat), rail < 8 → exec (.railGlitch rail) s = .next (s.fire 0 monitorIsland rail) ∧
    exec (.railExcursion rail) s =
      .next (State.fire (if rail = 6 then { s with guard := { s.guard with io18Out := true } } else s) 1 monitorIsland rail)) ∧
  (∀ (s : State) (src island cause : Nat), bitsOf 9 9 (s.reg Reg.vltSrcCfg src) = 0 → s.fire src island cause = s) ∧
  (∀ (s : State) (src island cause : Nat), s.power.mode = .vault → armedOnCells src = false → s.fire src island cause = s) ∧
  (∀ (s a : State) (rx : List (BitVec 16)) (bad : Nat), bad = bitmap 8 (fun k => rx.getD k 0 ≠ s.guard.lfsr.getD k 0) →
    a = { s with guard := { s.guard with meshFault := BitVec.ofNat 8 bad, lfsr := s.guard.lfsr.map Config.lfsrNext } } →
    exec (.meshSample rx) s = .next
      (if (bad &&& s.fld Reg.vltPhys 7 0) = 0 then a else a.fire 4 monitorIsland (bad &&& s.fld Reg.vltPhys 7 0))) ∧
  (∀ (s a : State) (opened bad hit : BitVec 4), bad = opened ^^^ BitVec.ofNat 4 (s.fld Reg.vltPhys 15 12) →
    hit = bad &&& s.guard.encLast &&& BitVec.ofNat 4 (s.fld Reg.vltPhys 11 8) →
    a = { s with guard := { s.guard with encState := bad, encLast := bad } } →
    exec (.enclosureSample opened) s = .next (if hit = 0 then a else a.fire 5 monitorIsland hit.toNat)) ∧
  (∀ (s a b : State) (island percent : Nat) (stopped byDesign : Bool), island ≤ 59 → s.power.mode ≠ .vault ∨ (island = 56 ∧ stopped = true) →
    a = (if island < 48 ∧ s.power.mode ≠ .vault then
      s.modTile island (fun t => { t with freq := if stopped then 0 else 1600 * percent / 100 }) else s) →
    b = { a with guard := { a.guard with stopped := if stopped then insertBy id island (a.guard.stopped.filter (· ≠ island))
                                                     else a.guard.stopped.filter (· ≠ island) } } →
    exec (.clockWindow island percent stopped byDesign) s = .next (
      if clockBad island percent stopped byDesign then (if stopped then b else (b.flowTile island).settle).fire 6 monitorIsland island
      else (if stopped then b else (b.flowTile island).settle))) ∧
  (∀ (s a b : State) (temps die : List Int) (live : List Nat) (cells : Bool), cells = (s.power.mode == .vault) →
    die = (List.range 10).map (fun k => if cells && k ≠ 9 then s.thermal.die.getD k 0 else temps.getD k (s.thermal.die.getD k 0)) →
    live = (if cells then [9] else List.range 10) →
    a = (if cells then { s with thermal := { s.thermal with die := die } } else State.fanControl { s with thermal := { s.thermal with die := die } }) →
    b = (match live.find? (fun k => decide (die.getD k 0 < a.tempLow)) with | some k => a.fire 7 monitorIsland k | none => a) →
    exec (.dieTempSample temps) s = .next
      (match live.find? (fun k => decide (b.tempHigh < die.getD k 0)) with | some k => b.fire 8 monitorIsland k | none => b)) ∧
  (∀ (s a : State) (n mv : Nat), n < 2 →
    a = s.modCell n (fun c => { c with mv := mv, state := if c.state = 5 then 5 else 0 }) →
    exec (.cellExcursion n mv) s = .next (
      if 4300 < mv then (s.modCell n (fun c => { c with mv := mv, state := 6 })).fire 3 56 n
      else if mv < 1000 then (if (s.guard.cell n).exempt = true ∨ (s.guard.cell n).state = 0 then a else a.fire 3 56 n)
      else s)) ∧
  (∀ (s : State) (src : Nat), src < 12 → exec (.tamperSourceInactive src) s =
    .next (if s.guard.active.getLsbD src = true ∧ s.conditionLasts src = false then s.calm src else s))

/-- R384, R388, R390, R394: an armed source that is not active yet opens an episode, or joins the one that is open, fires, and is
answered: in service by its actions, on cells by its reduced actions; a device held in HALTED only records it. R363, R390, R392, R393: an
episode ends when none of its sources is active any more and its second is over, but not in a freeze. TAMPER_CLEAR ends a freeze unless
its conditions refuse it. The recovery pass after a purge places the seal unit's secrets again, tests the scratchpads, seals the tables
and ends the recovery. -/
def Obligations.EpisodesOpenAndEnd : Prop :=
  (∀ (s a : State) (src island cause : Nat) (v : Vault), bitsOf 9 9 (s.reg Reg.vltSrcCfg src) ≠ 0 →
    s.power.mode ≠ .vault ∨ armedOnCells src = true → levelSource src = false ∨ s.guard.active.getLsbD src = false →
    v = (if s.vault.episode then s.vault else { s.vault with episode := true, fired := 0, performed := 0, counted := [] }) →
    a = State.notice { s with guard := { s.guard with active := s.guard.active ||| BitVec.ofNat 12 (2 ^ src), quietSince := none,
                                                      counts := s.guard.counts.modify src (fun n => min 65535 (n + 1)) },
                              vault := { v with fired := v.fired ||| BitVec.ofNat 12 (2 ^ src) } } Reg.vltFired src →
    s.fire src island cause =
      if s.power.mode = .vault then a.respondOnCells src cause
      else if a.power.mode = .halted then a.writeRec 257 7 0x0901 0 island (tamperPayload src a.episodeActs.toNat 0 cause)
      else a.respond src island cause) ∧
  (∀ (s a : State) (t : Nat), s.guard.quietSince = some t → a = s.advanceTo (max s.clock.mono (t + 10 ^ 9)) → exec .episodeEnd s = .next (
      if s.vault.episode = true ∧ s.guard.freeze = false ∧ (s.guard.active &&& s.vault.fired) = 0 then
        { a with vault := { a.vault with episode := false, fired := 0, performed := 0, counted := [] },
                 guard := { a.guard with quietSince := none } }
      else s)) ∧
  (∀ (s : State), s.guard.quietSince = none → exec .episodeEnd s = .next s) ∧
  (∀ (s : State) (q ix : Nat) (j : Job), CtlReady s q ix Op.tamperClear j → exec (.tamperClear q ix) s = .next (
    match s.clearRefused j with
    | some d => s.deny j Status.attrDenied d
    | none => ({ s with guard := { s.guard with freeze := false } } : State).done j)) ∧
  (∀ (s : State) (j : Job), (s.clearRefused j = some 0x01 ↔ s.guard.freeze = false)) ∧
  (∀ (s a : State) (fails : List RowFail), a = (State.sealTables (State.marchAll s.placeSecrets fails)).resolvePins →
    exec (.purgeRecoveryPass fails) s = .next (
      if s.guard.recovering = true ∧ s.power.coresUp = true then
        State.settle { a with guard := { a.guard with recovering := false }, keys := { a.keys with objs := a.vault.rootObjs } }
      else s))

/-- R376, R378, R398, R399: the refresh inverts one block of the vault SRAM per step, 128 of them in turn. Below the retention level on
cells the vault holds nothing any more, nor do the retained copies, the pair's secret and secure time; on main power nothing is lost.
VAULT_ADOPT gives a device without a valid vault a new one, by its SOURCE, unless its conditions refuse it: SOURCE 1 waits for the peer,
SOURCE 2 opens the newest backup on the cards under the ceremony's key, and waits for the page it names. -/
def Obligations.VaultsAreKeptAndAdopted : Prop :=
  (∀ (s : State) (b : Nat), b = (s.vault.refresh.map Prod.fst).getD 0 → exec .vaultPolarityRefresh s = .next
    { s with vault := { s.vault with polarity := s.vault.polarity ^^^ BitVec.ofNat 128 (2 ^ b),
                                     refresh := if b = 127 then none else some (b + 1, 0) } }) ∧
  (∀ (s : State), s.power.mode = .vault → ∃ t, exec .vaultSupplyBelowRetention s = .next t ∧ t.vault = {} ∧ t.copyA = none ∧
    t.copyB = none ∧ t.regs = [] ∧ t.pair.secret = [] ∧ t.life = s.life ∧ t.clock.state = .unset ∧ t.clock.secure = 0) ∧
  (∀ (s : State), s.power.mode ≠ .vault → exec .vaultSupplyBelowRetention s = .next s) ∧
  (∀ (s : State) (q ix : Nat) (j : Job), CtlReady s q ix Op.vaultAdopt j →
    (∀ st dt : Nat, s.adoptRefused j = some (st, dt) → exec (.vaultAdopt q ix) s = .next (s.deny j st dt)) ∧
    (∀ (a : State) (b : Bytes), s.adoptRefused j = none → s.random 0 64 = .bits b a →
      (j.desc.p8 48 = 0 → exec (.vaultAdopt q ix) s = .next (a.adoptDone j (b.take 32) (newItems (b.drop 32)) false)) ∧
      (j.desc.p8 48 = 1 → exec (.vaultAdopt q ix) s = .next ((a.modJob j.id (fun k => { k with entropy := b.take 32 })).block j)) ∧
      (j.desc.p8 48 = 2 → exec (.vaultAdopt q ix) s = .next (a.adoptCards j (b.take 32))))) ∧
  (∀ (s : State) (j : Job) (seed : Bytes), s.adoptCards j seed = match s.mgmt.ceremony.bind (fun c => c.estateKey) with
    | none => s.deny j Status.attrDenied 0x40
    | some key => match s.newestBackup key with
      | none => s.deny j Status.verifyFail
      | some p => match openBackup key p with
        | none => s.deny j Status.authFail
        | some b => s.adoptBackup j seed b (leAt 8 8 p))

/-- R377, R379 to R382: the supply moves to a cell that stands more than 50 mV higher. A rechargeable cell that is connected charges on
main power: it stops where charging is disabled, the cell is weak or above its limit, the enclosure is too cold or too warm, or its
current has fallen below TERM_MA at constant voltage. With no test on either cell a periodic load test begins, a primary cell being
depassivated first; a load of 10 mA below 2.8 V shows a WEAK cell, and so does the fifth pulse below 2.9 V. A GOOD cell below 3.0 V, or
below a tenth of its capacity, is LOW and noticed. On cells the vault's own draw is a free value (log entry 83). R8, R382, R383: of the
cell that CELL names, which the register keeps: REMOVE needs the other cell GOOD or CHARGING, and takes the supply there; LOAD_TEST and
DEPASSIVATE run one at a time, a second being BUSY, and a rechargeable cell is not depassivated; GAUGE_RESET sets the charge to CAP. A
cell put back above 2.5 V is GOOD again, its gauge at CAP, and is tested. A removal's exemption ends after 24 h, and a cell that is still
gone then fires its source. -/
def Obligations.CellsAreKept : Prop :=
  (∀ (s a : State) (x y : Nat), a = (s.drawSupply.modCell 0 (fun c => { c with mv := x })).modCell 1 (fun c => { c with mv := y }) →
    exec (.cellSupplySwitch x y) s = .next (
      if (a.guard.cell a.guard.supply).atSupply + 50 < (a.guard.cell (1 - a.guard.supply)).atSupply then
        { a with guard := { a.guard with supply := 1 - a.guard.supply } } else a)) ∧
  (∀ (s a b : State) (n mv ma : Nat), n < 2 → a = s.modCell n (fun c =>
      { (if c.state = 4 then c.charged ma s.clock.mono else { c with gaugedAt := some s.clock.mono }) with mv := mv }) →
    b = a.modCell n (fun c => { c with state := if c.state = 4 then 1 else c.state, constVolt := false, gaugedAt := none }) →
    exec (.cellChargeControl n mv ma) s = .next (
      if s.power.mode = .vault ∨ s.rechargeable n = false ∨ (s.guard.cell n).connected = false then s
      else if bitsOf 1 1 (a.reg Reg.vltCellCfg n) = 0 ∨ (a.guard.cell n).state = 3 ∨ (a.guard.cell n).state = 6 ∨ 4300 < mv then b
      else if a.thermal.chargeWindow = false then b.notice Reg.thgNotice 3
      else if (a.guard.cell n).constVolt = true ∧ ma < bitsOf 17 14 (a.reg Reg.vltCellCfg n) then b
      else a.modCell n (fun c => { c with state := 4, constVolt := (a.guard.cell n).constVolt || decide (a.cellCv n ≤ mv) }))) ∧
  (∀ (s : State) (n : Nat), n < 2 → exec (.cellPeriodicLoadTest n) s =
    .next (if s.power.mode = .vault ∨ s.cellBusy = true then s else s.beginTest n)) ∧
  (∀ (s : State) (n : Nat), s.beginTest n = if (s.guard.cell n).connected = false then s else s.modCell n (fun c =>
    if s.rechargeable n then { c with testing := true } else { c with pulses := some 0, testAfter := true })) ∧
  (∀ (s a : State) (n mv : Nat), n < 2 →
    a = s.modCell n (fun c => { (c.drawn 10 (10 ^ 9)) with testing := false, rint := (c.mv - mv) / 10 }) →
    exec (.loadTestDone n mv) s = .next (if (s.guard.cell n).testing = false then s else if mv < 2800 then a.weaken n else a)) ∧
  (∀ (s a : State) (n mv k : Nat), n < 2 → (s.guard.cell n).pulses = some k →
    a = s.modCell n (fun c => { (c.drawn 20 (10 ^ 8)) with pulses := none, testing := c.testAfter, testAfter := false }) →
    exec (.depassivationPulse n mv) s = .next (if 2900 ≤ mv then a else if 4 ≤ k then a.weaken n
      else s.modCell n (fun c => { (c.drawn 20 (10 ^ 8)) with pulses := some (k + 1) }))) ∧
  (∀ (s a : State) (n mv : Nat), n < 2 → a = s.drawSupply.modCell n (fun c => { c with mv := mv }) →
    exec (.cellLow n mv) s = .next (
      if (a.guard.cell n).state = 1 ∧ (mv < 3000 ∨ 10 * (a.guard.cell n).charge < a.capOf n) then
        (a.modCell n (fun c => { c with state := 2 })).notice Reg.vltNotice 5
      else a)) ∧
  (∀ (s a b : State) (q ix n : Nat) (j : Job), n = s.targetOf j Reg.vltCellCmd → a = s.keepTarget j Reg.vltCellCmd →
    (ActReady s q ix Reg.vltCellCmd 2 0 1 j →
      b = a.modCell n (fun c => { c with state := 5, holdUntil := some (a.clock.mono + 24 * 3600 * 10 ^ 9), pulses := none,
                                         testAfter := false, testing := false, constVolt := false }) →
      exec (.remove q ix) s = .next (
        if (a.guard.cell (1 - n)).state = 1 ∨ (a.guard.cell (1 - n)).state = 4 then
          ({ b with guard := { b.guard with supply := 1 - n } } : State).done j
        else a.deny j Status.attrDenied)) ∧
    (ActReady s q ix Reg.vltCellCmd 2 0 2 j →
      exec (.loadTest q ix) s = .next (if a.cellBusy then a.deny j Status.busy else (a.beginTest n).done j)) ∧
    (ActReady s q ix Reg.vltCellCmd 2 0 3 j → exec (.depassivate q ix) s = .next (
      if a.rechargeable n then a.deny j Status.attrDenied
      else if a.cellBusy then a.deny j Status.busy
      else State.done (if (a.guard.cell n).connected then a.modCell n (fun c => { c with pulses := some 0, testAfter := false }) else a) j)) ∧
    (ActReady s q ix Reg.vltCellCmd 2 0 4 j →
      exec (.gaugeReset q ix) s = .next ((a.modCell n (fun c => { c with charge := a.capOf n })).done j))) ∧
  (∀ (s : State) (n mv : Nat), n < 2 → exec (.cellInserted n mv) s = .next (
    if (s.guard.cell n).connected = false ∧ 2500 < mv then
      ((s.modCell n (fun c => { c with mv := mv, state := 1, charge := s.capOf n, holdUntil := none, pulses := none,
                                       testing := false })).pickSupply).beginTest n
    else s)) ∧
  (∀ (s a : State) (n t : Nat), n < 2 → (s.guard.cell n).holdUntil = some t →
    a = (s.advanceTo (max s.clock.mono t)).modCell n (fun c => { c with holdUntil := none }) →
    exec (.cellRemoveHoldExpiry n) s =
      .next (if (a.guard.cell n).state = 5 ∧ (a.guard.cell n).mv < 1000 then a.fire 3 56 n else a))

/-- R401, R402: a feed below LOW. The active one starts DEGLITCH where the device draws from a feed, the feed was not already low and no
switchover runs; the other one starts it where both are then low and no switchover is past step 1. At DEGLITCH's expiry the device enters
VAULT with both low, pauses the tiles for the other feed where that is good and the active one low, and else stays. The pause turns the
active gate off and the outputs hold; the incoming gate is turned on at completion, where that feed is good. The tiles then resume and
their flow is taken up again; the record carries their pause. With no switchover the three events of a switchover change nothing. R384,
R404: a feed above HIGH loses its gate and fires FEED_EXCURSION; where it was the active one of a device on main power, the load moves to
the other feed if that is good (unless a switchover is already past step 1), and the device enters VAULT if not. A feed again between LOW
and HIGH is good: the preferred feed's second begins where it is not the active one, the active feed's return calls DEGLITCH off, and a
low active feed starts it. AUTO_RETURN pauses the tiles for the preferred feed once its second is over, and does nothing where it is
disabled, that feed is the active one or not good, a switchover runs or the device is in VAULT. SELECT_A and SELECT_B move to a good feed,
are refused for any other, are done at once for the active one, and wait out a switchover. A glitch fires its source. -/
def Obligations.FeedsAndSwitchovers : Prop :=
  (∀ (s a : State) (mv : Nat), a = (s.feedGone s.power.active).setPower ((s.feedGone s.power.active).power.sense s.power.active mv false true) →
    exec (.feedBelowLow mv) s = .next (if s.feedLow ≤ mv then s
      else if s.power.mode ≠ .vault ∧ s.power.low s.power.active = false ∧ s.power.switching = none then a.startDeglitch else a)) ∧
  (∀ (s a : State) (n mv : Nat), a = (s.feedGone n).setPower { ((s.feedGone n).power.sense n mv false true) with returnSince := none } →
    exec (.feedLost n mv) s = .next (if 2 ≤ n ∨ s.feedLow ≤ mv ∨ (s.power.mode ≠ .vault ∧ n = s.power.active) then s
      else if s.power.mode ≠ .vault ∧ a.power.bothLow = true ∧ (∀ w, s.power.switching = some w → w.step = 1) then a.startDeglitch else a)) ∧
  (∀ (s a : State) (w : Switchover), s.power.switching = some w → a = s.advanceTo (max s.clock.mono (w.startedAt + 1000 * s.fld Reg.pwrCtrl 6 2)) →
    exec .deglitchExpiry s = .next (if w.step = 1 then
        (if a.power.bothLow then a.enterVault
         else if a.power.good w.target ∧ a.power.low a.power.active then a.pauseTiles w.target false w.startedAt
         else a.setPower { a.power with switching := none, heldOut := none })
      else if s.power.bothLow then s.enterVault else s)) ∧
  (∀ (s : State) (n t : Nat) (by_ : Bool), (s.pauseTiles n by_ t).power.paused = true ∧ (s.pauseTiles n by_ t).outputsHeld = true ∧
    (s.power.active = 0 → (s.pauseTiles n by_ t).power.gateA = false) ∧
    (s.power.active ≠ 0 → (s.pauseTiles n by_ t).power.gateB = false)) ∧
  (∀ (s a b : State) (w : Switchover), s.power.switching = some w →
    a = s.advanceTo (max s.clock.mono (w.pausedAt + 1000)) → b = ((a.setPower { (a.power.gate w.target true) with
      active := w.target, lastSwitch := (a.clock.mono - w.startedAt) / 100, switching := some { w with step := 4 } }).bump
        Reg.pwrSwitches).notice Reg.pwrNotice 0 →
    exec .switchoverComplete s = .next (if w.step ≠ 2 ∨ s.power.good w.target = false then s
      else if w.bySelect then b.notice Reg.pwrNotice 4 else b)) ∧
  (∀ (s a b : State) (w : Switchover) (pause : Nat), s.power.switching = some w → pause = (s.clock.mono - w.pausedAt) / 100 →
    a = s.setPower { s.power with paused := false, lastPause := pause, switching := none, heldOut := none } →
    b = forEach (List.range 48) (fun t s => s.flowTile t)
      (a.devEvent 2 0x0A01 monitorIsland (leBytes 1 a.power.active ++ zeros 3 ++ leBytes 4 pause)) →
    exec .tileResume s = .next (if w.step ≠ 4 then s else if b.power.low b.power.active then b.startDeglitch else b)) ∧
  (∀ (s : State), s.power.switching = none → exec .switchoverComplete s = .next s ∧ exec .tileResume s = .next s ∧ exec .deglitchExpiry s = .next s) ∧
  (∀ (s a b : State) (n mv : Nat), a = (s.feedGone n).notice Reg.pwrNotice 3 →
    b = State.fire (a.setPower { ((a.power.sense n mv false false).gate n false) with
      returnSince := if n = a.power.active then a.power.returnSince else none }) 2 monitorIsland n →
    exec (.feedAboveHigh n mv) s = .next (if 2 ≤ n ∨ mv ≤ s.feedHigh then s
      else if b.power.mode = .vault ∨ n ≠ b.power.active then b
      else if b.power.good (1 - n) = true then
        (if (b.power.switching.map (fun w => w.step == 1)).getD true then b.pauseTiles (1 - n) false b.clock.mono else b)
      else b.enterVault)) ∧
  (∀ (s a b : State) (n mv : Nat) (cancel : Bool), a = (if s.power.good n then s else s.notice Reg.pwrNotice 2) →
    cancel = (n == a.power.active && (a.power.switching.map (fun w => w.step == 1)).getD false) →
    b = a.setPower { (a.power.sense n mv true false) with
      returnSince := (if !s.power.good n && a.powered && n ≠ a.power.active && n == a.fld Reg.pwrCtrl 0 0 then some a.clock.mono
        else (a.power.sense n mv true false).returnSince),
      switching := (if cancel then none else (a.power.sense n mv true false).switching),
      heldOut := (if cancel then none else (a.power.sense n mv true false).heldOut) } →
    exec (.feedGood n mv) s = .next (if 2 ≤ n ∨ mv < s.feedLow ∨ s.feedHigh < mv then s
      else if b.power.mode ≠ .vault ∧ n ≠ b.power.active ∧ b.power.low b.power.active ∧ b.power.switching.isNone then b.startDeglitch else b)) ∧
  (∀ (s a : State) (t n : Nat), s.power.returnSince = some t → s.fld Reg.pwrCtrl 0 0 = n → a = s.advanceTo (max s.clock.mono (t + 10 ^ 9)) →
    exec .autoReturnExpiry s = .next (if s.fld Reg.pwrCtrl 1 1 = 0 ∨ n = s.power.active ∨ s.power.good n = false ∨ s.power.switching.isSome ∨
      s.power.mode = .vault then s else a.pauseTiles n false a.clock.mono)) ∧
  (∀ (s : State), s.power.returnSince = none → exec .autoReturnExpiry s = .next s) ∧
  (∀ (s : State) (q ix : Nat) (j : Job), ActReady s q ix Reg.pwrCmd 1 0 1 j → exec (.selectA q ix) s = .next (s.selectFeed j 0)) ∧
  (∀ (s : State) (q ix : Nat) (j : Job), ActReady s q ix Reg.pwrCmd 1 0 2 j → exec (.selectB q ix) s = .next (s.selectFeed j 1)) ∧
  (∀ (s : State) (j : Job) (n : Nat), s.selectFeed j n = (if s.power.good n = false then s.deny j Status.attrDenied
    else if s.power.active = n ∧ s.power.switching = none then s.done j
    else if s.power.switching ≠ none then s else (s.pauseTiles n true s.clock.mono).done j)) ∧
  (∀ (s : State), exec .feedGlitch s = .next (s.fire 2 monitorIsland s.power.active))

/-- R403, R405, R406: on main power each second the thermal guard reads its sensors and, unless the outputs are held, sets the heater's
duty and the fan's; in VAULT it does nothing. The heater's duty is 0 with the heater disabled, FAULT_DUTY with no sensor to read, 0 with a
die above 85 °C and else the loop's, which never leaves 0 to 100 %; the fan's never passes 100 % where its least duty does not. A fan that
turns below its limit while its duty is above 30 % is stalled, and is noticed and recorded once. -/
def Obligations.ThermalGuardRuns : Prop :=
  (∀ (s t : State) (a b : Option Int), t = (s.readSensors a b).noteBelow →
    exec (.thermalTick a b) s = .next (if s.power.mode = .vault then s else if t.outputsHeld then t
      else State.fanControl { t with thermal := { t.thermal with htrDuty := t.heaterNow.1, integ := t.heaterNow.2 } })) ∧
  (∀ (s : State), s.heaterNow = (if s.fld Reg.thgCtrl 0 0 = 0 then (0, s.thermal.integ) else match s.enclosureTemp with
    | none => (s.fld Reg.thgCtrl 18 12, s.thermal.integ)
    | some t => if 85 < s.thermal.hottest then (0, (s.heaterLoop t).2) else s.heaterLoop t)) ∧
  (∀ (s : State) (t : Int), (s.heaterLoop t).1 ≤ 100) ∧
  (∀ (s : State), s.fld Reg.thgFan 22 16 ≤ 100 → s.fanDutyNow ≤ 100) ∧
  (∀ (s a : State) (rpm : Nat) (stalled : Bool),
    stalled = (s.powered && decide (rpm < 100 * s.fld Reg.thgFan 31 23) && decide (30 < s.thermal.fanDuty)) →
    a = { s with thermal := { s.thermal with rpm := rpm, stalled := stalled } } →
    exec (.fanStall rpm) s = .next (if stalled = true ∧ s.thermal.stalled = false then
      (a.notice Reg.thgNotice 1).devEvent 5 0x0A02 55 (leBytes 2 rpm) else a))

/-- R37, R38, R84, R362, R451: an interface that may have link (the control cores run, and the port's MODE gives it) gains it; once port
A's all have it, port B takes port A's firmware, and once both ports' all have it for the first time, queue 0 and the retained queues
stand. An interface that loses link is counted, up to 255. A CFG_WRITE of a port's settings writes them, or is INVALID_INPUT with no bit
in its MASK; of another register this row changes nothing. The running device answers for its own addresses only, and keeps what a reply
resolves. R39, R84: pause frames of a lossless priority pause it and, with a time of zero, end its pause; its time's end does too. More
than 75 % of a receive buffer sends pause frames of a lossless priority once, which are withdrawn at or below it. With CNPs enabled a CE
mark of a queue is answered with one no sooner than CNP_GAP after the last. A CNP lowers its queue's rate to no less than RATE_MIN, and
RECOVER raises it to no more than the line's: the rates in between are free values (log entry 3: the model's choice, the spec gives no
step). -/
def Obligations.PortsAndFlowControl : Prop :=
  (∀ (s a : State) (n k : Nat), a = (s.linkUp n k).portFirmware →
    exec (.portLinkUp n k) s = .next (if s.linkMay n k = false then s
      else if a.allLinked = true ∧ a.power.serviceBegun = false then a.serviceBegins else a)) ∧
  (∀ (s : State), s.portFirmware = (if (List.range (s.ifaceCount 0)).all (fun k => s.net.portA.linkUp.getLsbD k) then
    { s with net := { s.net with portB := { s.net.portB with fw := s.net.portA.fw } } } else s)) ∧
  (∀ (s : State) (n k : Nat), exec (.portLinkDown n k) s = .next (if 2 ≤ n ∨ (s.port n).linkUp.getLsbD k = false then s
    else s.modPort n (fun p =>
      { p with linkUp := p.linkUp &&& ~~~(BitVec.ofNat 4 (2 ^ k)),
               fecLock := p.fecLock &&& ~~~(BitVec.ofNat 4 (2 ^ k)), linkDowns := min 255 (p.linkDowns + 1) }))) ∧
  (∀ (s : State) (q ix : Nat) (j : Job), CtlReady s q ix Op.cfgWrite j → exec (.portCfgWrite q ix) s =
    .next (match findReg j.cfgAddr with
      | none => s
      | some r => if r.addr ≠ Reg.hqiPortaCfg ∧ r.addr ≠ Reg.hqiPortbCfg then s
        else if j.cfgMask = 0 then s.deny j Status.invalidInput else s.regWrite r 0 j)) ∧
  (∀ (s : State) (n k : Nat) (x y : Bytes), exec (.arpNdRequestRx n k x y) s =
    .next (if s.coresRun = true ∧ s.answersFor n k x = true then s.send (.arpReply n k x y) else s)) ∧
  (∀ (s : State) (x m : Bytes), exec (.arpNdReplyRx x m) s =
    .next { s with net := { s.net with arp := insertBy (fun e => leAt 0 16 e.1) (fixLen 16 x, fixLen 6 m) s.net.arp } }) ∧
  (∀ (s : State) (n p t : Nat), exec (.pauseFrameRx n p t) s = .next (if 2 ≤ n ∨ s.lossless p = false then s
    else s.modPort n (fun x =>
      { x with paused := if t = 0 then x.paused &&& ~~~(BitVec.ofNat 8 (2 ^ p)) else x.paused ||| BitVec.ofNat 8 (2 ^ p) }))) ∧
  (∀ (s : State) (n p : Nat), exec (.pauseTimeExpiry n p) s = .next (if 2 ≤ n then s else s.modPort n (fun x =>
    { x with paused := x.paused &&& ~~~(BitVec.ofNat 8 (2 ^ p)) }))) ∧
  (∀ (s : State) (n p q len : Nat) (ce : Bool), exec (.inboundPacketRx n p q len ce) s =
    .next (if 2 ≤ n then s else if ce then (s.rxLevel n p len).ceMark q else s.rxLevel n p len)) ∧
  (∀ (s a : State) (n p len : Nat), a = s.modPort n (fun x => { x with rxLevel := min (2 ^ 21) len }) →
    s.rxLevel n p len =
      (if 1572864 < min (2 ^ 21) len ∧ a.lossless p = true ∧ (a.port n).pauseSent.getLsbD p = false then
        (a.modPort n (fun x => { x with pauseSent := x.pauseSent ||| BitVec.ofNat 8 (2 ^ p) })).send (.pause n p true)
      else if min (2 ^ 21) len ≤ 1572864 ∧ (a.port n).pauseSent.getLsbD p = true then
        (a.modPort n (fun x => { x with pauseSent := x.pauseSent &&& ~~~(BitVec.ofNat 8 (2 ^ p)) })).send (.pause n p false)
      else a)) ∧
  (∀ (s : State) (q : Nat), s.ceMark q = (match s.qp? q with
    | none => s
    | some x => if s.fld Reg.hqiQos 14 14 = 0 ∨ (∃ t, x.cnpSentAt = some t ∧ s.clock.mono < t + 1000 * s.fld Reg.hqiCc 11 0) then s
      else (s.modQp q (fun x => { x with cnpSentAt := some s.clock.mono })).send (.cnp q))) ∧
  (∀ (s : State) (q : Nat), exec (.cnpRx q) s = .next (match s.qp? q with
    | none => s
    | some x => if x.rate ≤ s.fld Reg.hqiCc 31 24 then s else ({ s with free := s.free + 1 } : State).modQp q (fun y =>
      { y with rate := s.fld Reg.hqiCc 31 24 + Config.freeNat s.free % (x.rate - s.fld Reg.hqiCc 31 24) }))) ∧
  (∀ (s t : State) (q : Nat) (x y : Qp), s.qp? q = some x → exec (.cnpRx q) s = .next t → t.qp? q = some y →
    min x.rate (s.fld Reg.hqiCc 31 24) ≤ y.rate ∧ y.rate ≤ x.rate) ∧
  (∀ (s a : State) (q : Nat), a = s.advanceTo (s.clock.mono + 1000 * s.fld Reg.hqiCc 23 12) →
    exec (.rateRecoverTick q) s = .next (match s.qp? q with
      | none => s
      | some x => if rateTop ≤ x.rate then s else ({ a with free := a.free + 1 } : State).modQp q (fun y =>
        { y with rate := x.rate + 1 + Config.freeNat s.free % (rateTop - x.rate) })))

/-- R40, R246 to R248: a PTP message is taken only on the enabled port's interface, in its domain and over its transport. Sixteen Sync
intervals whose offset stays below 1 µs lock a port. The source (port A while it is locked, else port B) steps UNSET time at its first
lock and slews it from then on; in HOLDOVER with no port locked the offset is slewed too (log entry 81: the model's deduction); any other
message is counted alone. A general message brings the UTC offset. 2 s without a message end a port's count and lock: the other port, if
locked, is the source with its own mean path delay, and with neither locked a LOCKED time holds over. -/
def Obligations.TimeIsDisciplined : Prop :=
  (∀ (s a : State) (n k dom tr : Nat) (off : Int) (d : Nat) (c : Clock), c = ((s.clock.heard n).count n off).setDelay n d →
    a = State.logCorrection { s with clock := c } off →
    exec (.ptpEventMessageRx n k dom tr off d) s = .next (if s.ptpOn n k dom tr = false then s
      else if c.sourceNow = 0 ∧ c.state = .holdover then { a with clock := { a.clock with slew := off } }
      else if c.sourceNow ≠ n + 1 then { s with clock := c }
      else { a with clock := a.clock.lock off d })) ∧
  (∀ (c : Clock), c.sourceNow = (if c.runA = 16 then 1 else if c.runB = 16 then 2 else 0)) ∧
  (∀ (c : Clock) (off : Int) (d : Nat), (c.lock off d).state = .locked ∧ (c.lock off d).errBase = d ∧
    (c.state = .unset → ((c.lock off d).secure : Int) = max 0 (c.secure + off) ∧ (c.lock off d).slew = 0) ∧
    (c.state ≠ .unset → (c.lock off d).secure = c.secure ∧ (c.lock off d).slew = off)) ∧
  (∀ (c : Clock) (n : Nat) (off : Int), n < 2 → (c.count n off).run n = (if c.run n = 16 then 16 else if c.judged n off < 1000 then c.run n + 1
    else 0)) ∧
  (∀ (s : State) (n k dom tr : Nat) (u : Option Int), exec (.ptpGeneralMessageRx n k dom tr u) s =
    .next (if s.ptpOn n k dom tr = false then s else { s with clock := { (s.clock.heard n) with utcOffset := u.getD s.clock.utcOffset } })) ∧
  (∀ (s a : State) (n : Nat) (c : Clock),
    a = s.advanceTo (max s.clock.mono ((if n = 0 then s.clock.lastPtpA else s.clock.lastPtpB) + 2 * 10 ^ 9)) → c = a.clock.setRun n 0 →
    exec (.ptpLossTimeout n) s = .next (if 2 ≤ n ∨ s.clock.run n = 0 then s
      else if c.state ≠ .locked then { a with clock := c }
      else if c.sourceNow ≠ 0 then { a with clock := { c with source := c.sourceNow, errBase := c.delay (c.sourceNow - 1) } }
      else { a with clock := { c with state := .holdover, errBase := a.clock.err, holdFrom := a.clock.mono, source := 0,
                                                          lastLock := a.clock.secure } }))

/-- R351, R362: COLD_START does nothing under power or with no feed good. Otherwise volatile state is lost, the evidence latch is blown
into fuses and cleared, and the life cycle is decoded (`cut` is how far a pending blow came): a SCRAPPED device and one for which no image
passes stay with their cores in reset; any other restores its configuration and tables and releases them. A supply flag found set marks
the vault LOST and is cleared. R355: 10 ms after the completion of an LCY_TRANSITION with RESET_NOW volatile state is lost, as at power-
off: the vault, the fuses, the flash, the retained copies and the commands still waiting stay; no job and no queue does, and the cores are
in reset. Without one nothing happens. -/
def Obligations.ColdStartsRun : Prop :=
  (∀ (s a b : State) (fails : List RowFail) (cut : Option Nat) (r : Bool), a = s.coldBegin.coldLife cut →
    a.coldVault.coldSecrets.coldImage = (b, r) →
    exec (.coldStart fails cut) s = .next (if s.power.mode ≠ .vault ∨ (s.power.goodA = false ∧ s.power.goodB = false) then s
      else if a.life.state = 5 then a
      else if r then b.coldConfig.coldTables.coldRelease fails else b)) ∧
  (∀ (s : State), s.coldBegin.power.mode = .serving ∧ s.coldBegin.vault.latch = [0, 0, 0, 0] ∧ s.coldBegin.guard.blown = s.vault.latch ∧
    s.coldBegin.jobs = [] ∧ s.coldBegin.qps = [] ∧ s.coldBegin.power.coresUp = false) ∧
  (∀ (s : State), (s.vault.supplyLost = true → s.coldVault.vault.lost = true ∧ s.coldVault.vault.supplyLost = false) ∧
    (s.vault.supplyLost = false → s.coldVault = { s with vault := { s.vault with supplyLost := false, lost := false } })) ∧
  (∀ (s : State), exec .resetNowExpiry s = .next (match s.power.resetAt with
    | none => s
    | some t => (s.advanceTo (max s.clock.mono t)).volatileLost)) ∧
  (∀ (s : State), s.volatileLost.vault = s.vault ∧ s.volatileLost.life.fuses = s.life.fuses ∧ s.volatileLost.io.flash = s.io.flash.cut ∧
    s.volatileLost.copyA = s.copyA ∧ s.volatileLost.copyB = s.copyB ∧ s.volatileLost.pending = s.pending ∧
    s.volatileLost.jobs = [] ∧ s.volatileLost.qps = [] ∧ s.volatileLost.power.coresUp = false)

/-- R30 to R34, R179: POWER_MODE_SET of the mode the device is in is DONE at once, and of no mode INVALID_INPUT. SERVING resets the tiles,
takes the modules out of self-refresh and waits for STANDBY_EXIT_DONE; STANDBY waits for STANDBY_DRAINED. A standby out of service asked
for STANDBY is BUSY; a second request while one drains or exits is BUSY too (log entry 72: the model's choice). STANDBY_DRAINED, once no
other job or completion is left and with no freeze, wipes the tiles and caches, puts the modules in self-refresh and answers.
STANDBY_EXIT_DONE, with no freeze, tests the scratchpads and tiles, brings SERVING back and answers its request, or, where the exit had
none, lets the waiting jobs go on. -/
def Obligations.PowerModesChange : Prop :=
  (∀ (s : State) (q ix : Nat) (j : Job), CtlReady s q ix Op.powerModeSet j → exec (.powerModeSet q ix) s = .next (
    if j.desc.p8 48 = 0 then
      (if s.power.mode = .serving then s.done j
       else if s.power.standbyExit ≠ none then s.deny j Status.busy
       else State.block (State.setPower { s.resetTiles with dram := { s.resetTiles.dram with selfRefresh := false } }
         { s.resetTiles.power with standbyExit := some (some j.id) }) j)
    else if j.desc.p8 48 = 1 then
      (if s.power.mode = .standby then s.done j
       else if (s.pair.role = 1 ∧ s.inService = false) ∨ s.power.standbyReq ≠ none then s.deny j Status.busy
       else (s.setPower { s.power with standbyReq := some j.id }).block j)
    else s.deny j Status.invalidInput)) ∧
  (∀ (s a : State), a = s.resetTiles → exec .standbyDrained s = .next (match s.power.standbyReq.bind s.job? with
    | none => s
    | some j => if s.standbyIdle j.id = false ∨ s.guard.freeze = true ∨ s.power.mode ≠ .serving then s
      else State.done (State.setPower { a with dram := { a.dram with ctrCache := [], macCache := [], selfRefresh := true } }
        { a.power with mode := .standby, standbyReq := none }) j)) ∧
  (∀ (s a : State) (fails : List RowFail) (bad : List (Nat × Nat)), a = (s.marchAll fails).testTiles bad →
    exec (.standbyExitDone fails bad) s = .next (match s.power.standbyExit with
      | none => s
      | some who => if s.guard.freeze = true ∨ s.power.mode ≠ .standby then s
        else match who.bind (a.setPower { a.power with mode := .serving, standbyExit := none }).job? with
          | some j => (a.setPower { a.power with mode := .serving, standbyExit := none }).done j
          | none => (a.setPower { a.power with mode := .serving, standbyExit := none }).settle))

/-- R413, R420, R421: a running paired device with a path sends its HEARTBEAT, and an active one notes since when it has no service link.
A heartbeat of the other member is noted: a joining standby follows an active of a later TERM, a standby that was taken over from takes
over, one in step whose active fails decides its role. Four missed in a row make an ALIVE peer SUSPECT; a PROBE is answered; one not
answered in 100 µs makes the peer LOST. 2 ms without service link begin a planned switch where the peer has it (log entry 47: the model's
deduction). The lanes' training derives a link key; their loss moves frames to Ethernet, and 1 s after they train again frames return to
the link. -/
def Obligations.PairPathsRun : Prop :=
  (∀ (s a : State) (w : Option Nat),
    w = (if s.pair.role ≠ 1 then s.pair.svcLostAt else if s.svcLink then none else some (s.pair.svcLostAt.getD s.clock.mono)) →
    a = s.modPair (fun p => { p with svcLostAt := w }) → exec .heartbeatSend s =
      .next (if s.pair.role = 0 ∨ s.pair.path = 0 ∨ s.power.coresUp = false then s else a.send (.heartbeat s.heartbeat))) ∧
  (∀ (s a : State) (hb : Heartbeat), a = ((s.modPair (fun p => p.note hb s.clock.mono)).followStandby hb).peerAlive →
    exec (.heartbeatRx hb) s = .next (if s.pair.role = 0 ∨ hb.member = s.member then s
      else if s.pair.role = 2 ∧ s.pair.sync = 2 ∧ hb.role = 2 ∧ hb.sync = 2 ∧ hb.failing = false ∧ s.pair.term < hb.term then a.takeOver hb.term
      else if s.pair.role = 3 ∧ hb.role = 1 ∧ s.pair.term < hb.term then a.joinPeer hb.member hb.term
      else if a.pair.role = 2 ∧ a.pair.sync = 2 ∧ hb.failing = true then a.decideRole else a)) ∧
  (∀ (s a b : State), a = s.advanceTo (max s.clock.mono (s.pair.lastBeat + 50000 * (s.pair.missed + 2))) →
    b = (a.modPair (fun p => { p with missed := s.pair.missed + 1 })).bump Reg.mirHbMisses →
    exec .heartbeatMiss s = .next (if s.pair.role = 0 ∨ s.pair.peer = 2 then s
      else if 4 ≤ s.pair.missed + 1 ∧ b.pair.peer = 0 then b.suspect else b)) ∧
  (∀ (s : State), exec .probeRx s = .next (if s.pair.role = 0 then s else s.send (.mirror 8 0))) ∧
  (∀ (s : State), exec .probeAckRx s = .next (if s.pair.probing then (s.setPath s.ethPath).peerAlive else s)) ∧
  (∀ (s : State), exec .probeTimeout s = .next (if s.pair.probing = false then s else
    (((s.advanceTo (s.clock.mono + 100000)).modPair (fun p => { p with peer := 2, probing := false })).notice Reg.mirNotice 5).decideRole)) ∧
  (∀ (s a : State) (t : Nat), s.pair.svcLostAt = some t → a = s.advanceTo (max s.clock.mono (t + 2 * 10 ^ 6)) → exec .svcLinkLossExpiry s =
    .next (if a.inService ∧ a.pair.peerSvc ∧ a.pair.switching = none then a.modPair (fun p => { p with switching := some autoSwitchId }) else a)) ∧
  (∀ (s : State), s.pair.svcLostAt = none → exec .svcLinkLossExpiry s = .next s) ∧
  (∀ (s a : State) (own nonce : Bytes), s.draw 32 = (own, a) → exec (.mirrorLinkUp nonce) s =
    .next (if s.fld Reg.mirCtrl 0 0 = 0 ∨ s.power.coresUp = false then s else a.modPair (fun p =>
      { p with lanes := 3, lanesAt := if p.path = 2 then some a.clock.mono else none,
               linkKey := if a.pair.role = 0 then [] else linkKeyOf a.pair.secret a.member own nonce,
               fseq := 0, path := if p.path = 0 ∧ p.role ≠ 0 then 1 else p.path }))) ∧
  (∀ (s a : State), a = s.modPair (fun p => { p with lanes := 0, lanesAt := none }) →
    exec .mirrorLinkDown s = .next (if s.pair.role = 0 then a.modPair (fun p => { p with path := 0 }) else a.setPath a.ethPath)) ∧
  (∀ (s : State), exec .mirrorPathReturn s = .next (match s.pair.lanesAt with
    | none => s
    | some t => (s.advanceTo (max s.clock.mono (t + 10 ^ 9))).modPair (fun p => { p with path := 1, lanesAt := none })))

/-- R416, R418, R419, R423, R425, R427, R430: a witness CAS of a failover that returns its compare value wins the witness, and any other
value or none in 200 µs fences; a FENCED device that was ACTIVE or in step repeats it every 10 ms. A standby in step applies a batch that
is next, whole and with its tags, and asks for the next one otherwise; an acknowledgement commits or has batches sent again. Transport
records leave and are kept; a page request is answered; a page that arrives is checked and written to the host. A RESYNC is applied where
its root matches. QUEUE_RESUME of the active takes up a queue from its transport record. -/
def Obligations.MirroringRuns : Prop :=
  (∀ (s : State) (v cmp swp : Nat), s.pair.cas = some (cmp, swp, none) →
    exec (.witnessCasResult v) s = .next (if v = cmp then s.casEnds.winWitness (swp % 2 ^ 32) else s.casEnds.fence false)) ∧
  (∀ (s a : State) (cmp swp : Nat), s.pair.cas = some (cmp, swp, none) → a = s.advanceTo (s.clock.mono + 200000) →
    exec .witnessTimeout s = .next (a.casEnds.fence a.pair.wasActive)) ∧
  (∀ (s : State) (v : Nat), s.pair.cas = none → exec (.witnessCasResult v) s = .next s ∧ exec .witnessTimeout s = .next s) ∧
  (∀ (s a : State) (p : Pairing), s.pair.cas = none → s.pairing = some p → a = s.advanceTo (s.clock.mono + 10 ^ 7) →
    exec .witnessRetry s = .next (if s.pair.role ≠ 3 ∨ s.pair.term + 1 = 2 ^ 32 ∨ (s.pair.wasActive = false ∧ s.pair.sync ≠ 2) then s
      else a.issueCas p (witnessWord a.pair.term a.pair.holder p.pairId) (witnessWord (a.pair.term + 1) p.member p.pairId) none)) ∧
  (∀ (s a : State) (b : MirBatch), a = (if b.tagsOk then s else s.notice Reg.mirNotice 8) → exec (.mirrorBatchRx b) s =
    .next (if s.pair.role ≠ 2 ∨ s.pair.sync ≠ 2 then s
      else if b.hasEnd = false ∨ b.tagsOk = false ∨ b.seq ≠ a.pair.applied + 1 then a.send (.batchAck (2 ^ 64 + a.pair.applied + 1))
      else a.applyMirror b)) ∧
  (∀ (s : State) (n : Nat), exec (.batchAckRx n) s = .next (if s.pair.role ≠ 1 then s
    else if n < 2 ^ 64 then (if s.pair.acked < n ∧ n ≤ s.pair.sent then s.ackBatches n else s)
    else if n - 2 ^ 64 ≤ s.pair.acked ∨ s.pair.sent < n - 2 ^ 64 then s
    else forEach ((List.range ((s.ackBatches (n - 2 ^ 64 - 1)).pair.sent + 1 - (n - 2 ^ 64))).map (fun k => n - 2 ^ 64 + k))
      (fun k s => s.send (.mirror 2 k)) (s.ackBatches (n - 2 ^ 64 - 1)))) ∧
  (∀ (s a : State), a = State.sendRecords 16 ((s.pair.dirty.take 1024).filterMap (fun n => (s.qp? n).map Qp.transport))
      (s.modPair (fun p => { p with dirty := p.dirty.drop 1024 })) →
    exec .transportSend s = .next (if s.pair.role ≠ 1 ∨ s.pair.path = 0 then s else a.pruneJournal.switchCas)) ∧
  (∀ (s : State) (r : TransportRec), s.pair.role = 2 → ∃ t, exec (.transportRx r) s = .next t ∧ r ∈ t.pair.transport ∧
    t = s.modPair (fun _ => t.pair)) ∧
  (∀ (s : State) (r : TransportRec), s.pair.role ≠ 2 → exec (.transportRx r) s = .next s) ∧
  (∀ (s : State) (o : Obj), exec (.pageReqRx o) s = .next (if s.pair.role = 0 then s
    else s.send (.pageData o (((s.obj? o).map (fun e => e.load == .loaded)).getD false)))) ∧
  (∀ (s : State) (o : Obj) (img : Bytes), exec (.pageDataRx o img) s = .next (match s.obj? o with
    | none => s
    | some e => if e.load ≠ .fromPeer then s else match s.imageGood e img with
      | none => s.lose o
      | some plain => (fun (a : State) => match a.keys.persistQ, a.regionFor o with
        | some q, some r => a.issue q .write (r.base + frameOffset r o 0) r.rkey 65664 img
        | _, _ => a) ((((s.install o 0 img plain).placeFrame o).notice Reg.kstNotice 1).devEvent 3 0x0301 59 (objBytes o)))) ∧
  (∀ (s : State) (r : Resync), s.adopting 1 = none → exec (.resyncRx r) s = .next (
    if s.pair.role ≠ 2 ∨ s.pair.sync ≠ 1 ∨ vaultState s.vault ≠ 0 ∨ s.guard.recovering = true ∨ (s.resyncVault r).rootChecks r.page = false then s
    else s.resyncApply r)) ∧
  (∀ (s : State) (n : Nat) (r : ResumeRead), s.qp? n = none ∨ s.pair.role ≠ 1 ∨ s.power.mode ≠ .serving ∨
    (∃ q, s.qp? n = some q ∧ q.resumed = true) → exec (.queueResume n r) s = .next s) ∧
  (∀ (s : State) (n : Nat) (r : ResumeRead) (q : Qp) (t : TransportRec), s.pair.role = 1 → s.qp? n = some q → q.resumed = false →
    s.power.mode = .serving → s.pair.transport.find? (fun x => x.queue == n) = some t → t.state = 4 →
    exec (.queueResume n r) s = .next (((s.modQp n (fun x =>
      x.resume t (t.sqDoorbell - BitVec.ofNat 32 (r.descs.take (ringSize q.cfg.sqLog2)).length)
        (x.landedCount t r.slots))).queueWatermark n 0).queueWatermark n 1))

/-- R425, R432 to R434: PAIR_QUERY answers 64 B. PAIR_SWITCH begins a planned switch of a device in service that runs none, and is BUSY
otherwise. PAIR_UNBIND needs its ceremony and a pairing; a STANDBY zeroizes first; held batches commit and the pairing's end enters a
batch. PAIR_UNFENCE needs its ceremony and a FENCED device, which is ACTIVE at once and writes the witness. PAIR_BIND is INVALID_INPUT for
a form that is wrong or offers that do not fit, ATTR_DENIED without its ceremony, AUTH_FAIL where the peer's offer does not verify,
ATTR_DENIED where a JOIN's vault is neither empty nor of the same pair, BUSY while a CAS runs; under MODE 1 it then claims the witness,
under MODE 2 it joins as an incomplete standby. -/
def Obligations.PairCommandsRun : Prop :=
  (∀ (s : State) (q ix : Nat) (j : Job), CtlReady s q ix Op.pairQuery j →
    exec (.pairQuery q ix) s = .next (s.done j (okOut s.pairRecord)) ∧ s.pairRecord.length = 64) ∧
  (∀ (s : State) (q ix : Nat) (j : Job), CtlReady s q ix Op.pairSwitch j → exec (.pairSwitch q ix) s =
    .next (if s.inService ∧ s.pair.switching = none then (s.modPair (fun p => { p with switching := some j.id })).block j
      else s.deny j Status.busy)) ∧
  (∀ (s a b : State) (q ix : Nat) (j : Job), CtlReady s q ix Op.pairUnbind j → a = (if s.pair.role = 2 then s.zeroize else s) →
    b = { a with pair := { lanes := a.pair.lanes }, net := { a.net with announces := true },
                 qps := a.qps.map (fun q => { q with resumed := true }) } →
    exec (.pairUnbind q ix) s = .next (if j.ceremonyOk = false then s.deny j Status.attrDenied 0x03
      else if s.pair.role = 0 then s.deny j Status.invalidInput else b.commitHeld.bringCtl j [.pairing none] [])) ∧
  (∀ (s a : State) (q ix : Nat) (j : Job), CtlReady s q ix Op.pairUnfence j → a = s.casEnds.winWitness s.pair.term →
    exec (.pairUnfence q ix) s = .next (if j.ceremonyOk = false then s.deny j Status.attrDenied 0x03
      else if s.pair.role ≠ 3 then s.deny j Status.invalidInput
      else State.done (match a.pairing with
        | some p => a.issueCas p (witnessWord a.pair.term s.pair.holder p.pairId) (witnessWord (a.pair.term + 1) p.member p.pairId)
            (some overrideId)
        | none => a) j)) ∧
  (∀ (s a b : State) (q ix : Nat) (ok : Bool) (sec : Bytes) (pe : Nat × Nat) (j : Job) (p : Pairing), CtlReady s q ix Op.pairBind j →
    p = parsePairing j.input → a = s.modJob j.id (fun k => { k with entropy := sec }) →
    b = (s.bringCtl j [.pairing (some p)] []).modPair (fun x => { x with
      role := 2, sync := 1, peer := 0, term := 1, holder := 1 - p.member, secret := sec, missed := 0,
      lastBeat := (s.bringCtl j [.pairing (some p)] []).clock.mono, wasActive := false,
      path := if x.lanes ≠ 0 then 1 else (s.bringCtl j [.pairing (some p)] []).ethPath }) →
    exec (.pairBind q ix ok sec pe) s = .next (
      if pairFormOk j.input = false ∨ pe.1 ≠ p.pairId ∨ pe.2 = p.member then s.deny j Status.invalidInput
      else if j.ceremonyOk = false then s.deny j Status.attrDenied 0x03
      else if ok = false then s.deny j Status.authFail
      else if p.mode = 2 ∧ vaultState s.vault ≠ 1 ∧ s.pairing.map (fun x => x.pairId) ≠ some p.pairId then s.deny j Status.attrDenied
      else if s.pair.cas ≠ none then s.deny j Status.busy
      else if p.mode = 1 then (a.block j).issueCas p 0 (witnessWord 1 p.member p.pairId) (some j.id)
      else { b with net := { b.net with announces := false } }))

/-- R437 to R442, R452, R453, R487: CFG_READ answers a range of one block and refuses any other. CFG_WRITE is INVALID_INPUT with no bit in
MASK or an address out of the space, ATTR_DENIED of no register, a selector's setting, and else is judged by its register and takes
effect; of an action register with action 0 it keeps the other field, and registers whose writes are rows of their own are left to those.
A list that passes is staged, and applied by a live control restart; so is an image. A bank write is BUSY while one runs, and ends DONE or
with ENGINE_FAULT. -/
def Obligations.ConfigurationAndFirmwareRun : Prop :=
  (∀ (s : State) (q ix a n : Nat) (j : Job), CtlReady s q ix Op.cfgRead j → j.desc.pLe 48 4 = a → j.desc.pLe 52 2 = n →
    exec (.cfgRead q ix) s = .next (if rangeOk a n = false then s.deny j Status.invalidInput
      else (forEach ((List.range n).map (fun k => a + 4 * k)) (fun x s => s.afterRead j.queue x) s).done j
        (okOut (((List.range n).map (fun k => a + 4 * k)).flatMap (fun x => wordBytes (s.view j.queue x)))))) ∧
  (∀ (s : State) (q ix a : Nat) (j : Job), CtlReady s q ix Op.cfgWrite j → a = j.cfgAddr →
    exec (.cfgWrite q ix) s = .next (if j.cfgMask = 0 ∨ a % 4 ≠ 0 ∨ 0x100000 ≤ a then s.deny j Status.invalidInput
      else if ownRows.contains a then s
      else match findReg a, actionRegs.find? (fun e => e.1 == a) with
        | none, _ => s.deny j Status.attrDenied
        | some _, some (_, hi, lo) => s.noAction j (bitsOf hi lo (j.merge 0))
        | some r, none => if queueSelectors.contains a then s.selWrite j r else s.regWrite r (s.shownIdx j.queue a) j)) ∧
  (∀ (s : State) (r : RegDef) (k : Nat) (j : Job), s.regWrite r k j =
    match s.writeRefusal r k j with | some st => s.deny j st | none => s.writeTakes r k j) ∧
  (∀ (s : State) (q ix : Nat) (j : Job) (l : List (BitVec 32 × BitVec 32 × BitVec 32)), CtlReady s q ix Op.cfgStage j → l = parseList j.input →
    exec (.cfgStage q ix) s = .next (if j.input.length % 12 ≠ 0 ∨ l = [] ∨ 128 < l.length then s.deny j Status.invalidInput
      else match s.listRefusal j.ceremonyOk l with
        | some (st, dt) => s.deny j st dt
        | none => ({ s with tabs := { s.tabs with list := some l } } : State).done j)) ∧
  (∀ (s : State) (q ix : Nat) (j : Job), CtlReady s q ix Op.cfgApply j →
    exec (.cfgApply q ix) s = .next (if s.tabs.list.isSome then s.restartBegin j else s.deny j Status.invalidInput)) ∧
  (∀ (s : State) (q ix : Nat) (j : Job), CtlReady s q ix Op.fwStage j → exec (.fwStage q ix) s = .next (
    if s.mgmt.claim ≠ 0 then s.deny j Status.busy
    else if j.input.length < 256 ∨ 2 ^ 24 < j.input.length then s.deny j Status.invalidInput
    else if imageReason s.life j.input ≠ 0 then s.deny j Status.authFail (imageReason s.life j.input)
    else (s.setClaim 1 (some j.input)).done j { detail := byteAt 12 j.input })) ∧
  (∀ (s : State), s.staged = if s.mgmt.claim = 1 then s.mgmt.image else none) ∧
  (∀ (s : State) (q ix n : Nat) (j : Job), CtlReady s q ix Op.fwWriteBank j → n = j.desc.p8 48 → exec (.fwWriteBank q ix) s = .next (
    match s.staged with
    | none => s.deny j Status.invalidInput
    | some img => if 1 < n then s.deny j Status.invalidInput
      else if s.life.bank = n ∧ s.life.fromCard = false then s.deny j Status.attrDenied
      else if s.io.flash.writing ≠ none then s.deny j Status.busy
      else ({ s with io := { s.io with flash := { s.io.flash with writing := some (j.id, n, img) } } } : State).block j)) ∧
  (∀ (s a : State) (id : JobId) (n : Nat) (b : Bytes), s.io.flash.writing = some (id, n, b) →
    a = State.notice { s with io := { s.io with flash := { (s.io.flash.put n b) with writing := none } } } Reg.lioNotice 2 →
    exec (.flashWriteDone true) s = .next (match a.job? id with | some j => a.done j | none => a)) ∧
  (∀ (s a : State) (id : JobId) (n : Nat) (b junk : Bytes), s.io.flash.writing = some (id, n, b) → s.draw b.length = (junk, a) →
    exec (.flashWriteDone false) s = .next ((fun (t : State) => match t.job? id with
      | some j => t.deny j Status.engineFault | none => t)
      { a with io := { a.io with flash := { (a.io.flash.put n junk) with writing := none } } })) ∧
  (∀ (s : State) (v : Bool), s.io.flash.writing = none → exec (.flashWriteDone v) s = .next s) ∧
  (∀ (s : State) (q ix : Nat) (j : Job), CtlReady s q ix Op.fwActivate j →
    exec (.fwActivate q ix) s = .next (if s.staged.isSome then s.restartBegin j else s.deny j Status.invalidInput)) ∧
  (∀ (s : State) (q ix : Nat) (j : Job), CtlReady s q ix Op.fwRelease j →
    exec (.fwRelease q ix) s = .next (if s.staged.isSome then (s.setClaim 0 none).done j else s.deny j Status.invalidInput))

/-- R446, R447, R449, R450: a challenge takes random bytes and is answered with the ephemeral key, signed; SESSION_OPEN of the right form
opens a session only for the challenge's actor with keys and signatures that verify, and a custodian's gets a transport key. Sessions and
ceremonies end by their command and by their time; one ceremony is open at a time, and a custodian's session joins it by its number.
ACTOR_ENROL and ACTOR_REMOVE are judged by form, room, duplicates, the last administrator and the ceremony, and enter a batch. -/
def Obligations.SessionsAndCeremoniesRun : Prop :=
  (∀ (s : State) (q ix : Nat) (j : Job), CtlReady s q ix Op.sessionChallenge j → exec (.sessionChallenge q ix) s = .next (s.withRandom j 160
    (fun a b => (fun (c : Challenge) (msg : Bytes) =>
      ({ a with mgmt := { a.mgmt with challenges := aput j.queue c a.mgmt.challenges } } : State).done j
      (okOut (msg ++ (identitySign a.guard.identity msg (b.drop 80)).1 ++ (identitySign a.guard.identity msg (b.drop 80)).2)))
      { purpose := 3, slot := a.life.slot, nonce := b.take 32, body := a.challengeBytes 3 (b.take 32),
        ephKey := Config.keyGen 0x21 0 (sub 32 48 b) }
      (a.challengeBytes 3 (b.take 32) ++ fixLen 97 (Config.publicKey 0x21 (Config.keyGen 0x21 0 (sub 32 48 b))))))) ∧
  (∀ (s : State) (q ix : Nat) (j : Job), CtlReady s q ix Op.sessionOpen j → exec (.sessionOpen q ix) s = .next (
    if j.input.length ≠ 7420 ∨ zeroAt 1 7 j.input = false then s.deny j Status.invalidInput
    else match alook j.queue s.mgmt.challenges with
      | none => s.deny j Status.authFail
      | some c => match s.openingActor j.input c with
        | none => s.deny j Status.authFail
        | some a => if a.role ≠ 3 then (s.openSession j.queue a (sub 8 97 j.input) []).done j
          else match ecdhOf 0x21 c.ephKey (sub 8 97 j.input) with
            | none => s.deny j Status.authFail
            | some x => (s.openSession j.queue a (sub 8 97 j.input) (ctkOf x)).done j)) ∧
  (∀ (s : State) (b : Bytes) (c : Challenge), s.openingActor b c = (match s.mgmt.actors.find? (fun a => a.idx == byteAt 0 b) with
    | none => none
    | some a => if sha3_256 (sub 8 2689 b) = a.digest ∧ dualVerify (sub 8 97 b) (sub 105 2592 b) (sha3_512 c.body) (b.drop 2697) then some a
      else none)) ∧
  (∀ (s : State) (q ix : Nat) (j : Job), CtlReady s q ix Op.sessionClose j →
    exec (.sessionClose q ix) s = .next ((s.sessionEnds j.queue).done j)) ∧
  (∀ (s : State) (q : Nat), exec (.sessionIdleExpiry q) s = .next (match s.session? q with
    | none => s
    | some x => ((s.advanceTo (max s.clock.mono (x.lastUse + s.mgmt.sessionIdle * 10 ^ 9))).sessionEnds q).notice Reg.cfgNotice 4)) ∧
  (∀ (s : State) (q ix n : Nat) (j : Job) (c : Ceremony), CtlReady s q ix Op.ceremonyBegin j →
    n = (s.mgmt.ceremonies + 1) % 2 ^ 32 → c.num = n → c.queue = j.queue → c.joined = [] → c.begunAt = s.clock.mono →
    c.dual = (if bitOf 0 (j.desc.p8 48) then some (j.desc.p8 49) else none) → c.shares = [] → c.estateKey = none → c.genShares = [] → c.rebuilt = [] →
    exec (.ceremonyBegin q ix) s = .next (if s.mgmt.ceremony ≠ none then s.deny j Status.busy
      else ({ s with mgmt := { s.mgmt with ceremony := some c, ceremonies := n } } : State).done j (okOut (leBytes 4 n)))) ∧
  (∀ (s : State) (q ix : Nat) (j : Job), CtlReady s q ix Op.ceremonyJoin j → exec (.ceremonyJoin q ix) s = .next (
    match s.mgmt.ceremony, (s.session? j.queue).bind (fun x => s.mgmt.actors.find? (fun a => a.idx == x.actor)) with
    | some c, some a => if c.num ≠ j.desc.pLe 48 4 then s.deny j Status.invalidInput
      else ({ s with mgmt := { s.mgmt with
        ceremony := some { c with joined := c.joined.filter (fun e => e.1 ≠ j.queue) ++ [(j.queue, a.share)] } } } : State).done j
    | none, some _ => s.deny j Status.invalidInput
    | _, none => s.deny j Status.attrDenied 0x30)) ∧
  (∀ (s : State) (q ix : Nat) (j : Job), CtlReady s q ix Op.ceremonyEnd j → exec (.ceremonyEnd q ix) s =
    .next (if s.mgmt.ceremony.isSome then ({ s with mgmt := { s.mgmt with ceremony := none } } : State).done j
      else s.deny j Status.invalidInput)) ∧
  (∀ (s : State), s.mgmt.ceremony = none → exec .ceremonyExpiry s = .next s) ∧
  (∀ (s a : State) (c : Ceremony), s.mgmt.ceremony = some c → a = s.advanceTo (max s.clock.mono (c.begunAt + 900 * 10 ^ 9)) →
    exec .ceremonyExpiry s = .next { a with mgmt := { a.mgmt with ceremony := none } }) ∧
  (∀ (s : State) (q ix i : Nat) (j : Job) (a : Actor), CtlReady s q ix Op.actorEnrol j → i = j.desc.p8 48 → a = parseActor i j.input →
    exec (.actorEnrol q ix) s = .next (if s.actorForm j.input = false ∨ 32 ≤ i then s.deny j Status.invalidInput
      else if 32 ≤ (s.actorsComing.map (fun x => x.idx)).dedup.length then s.deny j Status.refusedFull
      else if s.actorsComing.any (fun x => x.idx == i || (a.role == 3 && x.role == 3 && x.share == a.share)) then s.deny j Status.invalidInput
      else if s.needsCeremony a.role = true ∧ j.ceremonyOk = false then s.deny j Status.attrDenied 0x03
      else s.bringCtl j [.actorPut a] [])) ∧
  (∀ (s : State) (q ix : Nat) (j : Job), CtlReady s q ix Op.actorRemove j → exec (.actorRemove q ix) s = .next (
    match s.mgmt.actors.find? (fun a => a.idx == j.desc.p8 48) with
    | none => s.deny j Status.invalidInput
    | some a => if a.role = 1 ∧ s.mgmt.actors.all (fun x => x.role ≠ 1 || x.idx == a.idx ||
          s.changesPending (fun c => match c with | .actorDel m => m == x.idx | _ => false)) then s.deny j Status.attrDenied
      else if s.needsCeremony a.role = true ∧ j.ceremonyOk = false then s.deny j Status.attrDenied 0x03
      else s.bringCtl j [.actorDel a.idx] []))

/-- R463 to R468: a flood's end writes the SUPPRESSED record with its count where records were held. A ring's first record that waits
leaves in a SEND of at most 128, after its GAP records, on the ready or sealed queue of the ring; with no ring, queue, ready state or
record nothing leaves. EVQ_ATTACH attaches the ring its PARAM names (a device ring only for partition 0), EVQ_MARK marks the next record
to be delivered, and EVQ_REWIND goes back to a valid mark, or is MARK_LOST with one that is not; without a ring or a mark they are
INVALID_INPUT. -/
def Obligations.RecorderRuns : Prop :=
  (∀ (s a : State) (ring code : Nat) (b : Bucket), s.log.buckets.find? (fun x => x.ring == ring && x.code == code) = some b →
    a = s.advanceTo (b.at_ + ceilDiv (s.fld Reg.evrFlood 31 16 * 10 ^ 9 - b.tokens) (max 1 (s.fld Reg.evrFlood 15 0))) →
    exec (.floodEnd ring code) s = .next (if b.held = 0 then s else State.writeRec { a with log := { a.log with
      buckets := modWhere (fun x => x.ring == ring && x.code == code)
        (fun x => { x with tokens := s.fld Reg.evrFlood 31 16 * 10 ^ 9, at_ := a.clock.mono, held := 0 }) a.log.buckets } }
      ring b.last.sev 0x0C01 b.last.part b.last.island (leBytes 2 code ++ zeros 2 ++ leBytes 4 b.held))) ∧
  (∀ (s : State) (ring code : Nat), s.log.buckets.find? (fun x => x.ring == ring && x.code == code) = none →
    exec (.floodEnd ring code) s = .next s) ∧
  (∀ (s a : State) (ring n last : Nat) (r : Ring) (q : Qp) (e : Event) (es gaps now : List Event) (data : Bytes), s.ring? ring = some r →
    r.queue = some n → s.qp? n = some q → q.state = 1 ∨ q.state = 3 → r.waiting = e :: es →
    a = (if 128 ≤ r.waiting.length then s else s.advanceTo (r.waitSince.getD s.clock.mono + 20000)) → gaps = r.gaps a.clock.secure e.seq →
    now = r.waiting.take (128 - gaps.length) → last = (now.getLast?.map (fun x => x.seq)).getD e.seq →
    data = q.eventData r.evSeq ((gaps ++ now).flatMap eventBytes) → exec (.eventSendTimer ring) s = .next (State.issue (a.modRing ring (fun x =>
      { x with next := last + 1, gap := 0, rewindGap := 0, evSeq := x.evSeq + 1,
               waitSince := if r.waiting.any (fun x => decide (last < x.seq)) then x.waitSince else none }))
      q.cfg.queue .send 0 0 data.length data last)) ∧
  (∀ (s : State) (ring : Nat), (∀ r, s.ring? ring = some r → r.waiting = [] ∨
      ∀ q, r.queue.bind (fun n => s.qp? n) = some q → q.state ≠ 1 ∧ q.state ≠ 3) → exec (.eventSendTimer ring) s = .next s) ∧
  (∀ (s : State) (t : Nat) (j : Job), TileReady s t Op.evqAttach j → exec (.evqAttach t) s = .next (
    if 2 < j.desc.p8 48 then s.answer j (fail Status.invalidInput)
    else if j.desc.p8 48 ≠ 0 ∧ j.part ≠ 0 then s.answer j (fail Status.attrDenied)
    else (s.attachRing j.queue (evqRing j)).answer j (okOut []))) ∧
  (∀ (s : State) (t : Nat) (j : Job), TileReady s t Op.evqMark j → exec (.evqMark t) s = .next (match s.ringOf j.queue with
    | none => s.answer j (fail Status.invalidInput)
    | some r => (s.modRing r.num (fun _ => r.setMark.1)).answer j (okOut (leBytes 8 r.setMark.2)))) ∧
  (∀ (s a : State) (t : Nat) (j : Job), TileReady s t Op.evqRewind j → a = s.voidSends j.queue →
    exec (.evqRewind t) s = .next (match s.ringOf j.queue with
      | none => s.answer j (fail Status.invalidInput)
      | some r => match r.mark with
        | none => s.answer j (fail Status.invalidInput)
        | some m => if r.markValid then
            ((a.modRing r.num (fun r => r.rewindTo m a.clock.mono)).ringLevel r.num).answer j (okOut [])
          else (((a.modRing r.num (fun r => r.markLost m a.clock.mono)).ringLevel r.num).notice Reg.evrNotice 3).answer j
            (fail Status.markLost)))

/-- R472 to R477, R486, R500: on main power a card found in an empty port is powered; it is polled until it is ready, for at most 1 s;
then identified, its supply's range checked, and switched, or left FAILED or LOCKED. The phases of a command follow its responses; CRC
errors are retried up to three times, in HS200 data phases after a new tuning; a lock the card refuses is AUTH_FAIL and a bad read-back
CARD_FAULT at the last phase (log entry 51: the model's choice); a busy phase that lasts too long is a CARD_FAULT; a removed card ends its
command with CARD_REMOVED. -/
def Obligations.CardPortsRun : Prop :=
  (∀ (s : State) (n : Nat), exec (.cardDetect n) s = .next (if (s.card n).state ≠ 0 ∨ s.power.mode = .vault then s
    else ((s.advanceTo (s.clock.mono + 10 * 10 ^ 6)).modCard n (fun p => { num := p.num, state := 1, power := true })).notice Reg.crdNotice 0)) ∧
  (∀ (s a b : State) (n : Nat) (ready : Bool), a = (if (s.card n).polls = 0 then s else s.advanceTo (s.clock.mono + 10 * 10 ^ 6)) →
    b = a.modCard n (fun p => { p with polls := p.polls + 1, trailing := 8, step := if ready then 1 else 0 }) →
    exec (.cardCmd1Poll n ready) s = .next (if (s.card n).state ≠ 1 ∨ (s.card n).step ≠ 0 then s
      else if ready = false ∧ 100 ≤ (s.card n).polls then b.cardFailed n 1 else b)) ∧
  (∀ (s a : State) (n mv : Nat) (info : CardInfo), a = s.modCard n (fun p => { p with card := some info, trailing := 8 }) →
    exec (.cardIdentify n info mv) s = .next (if (s.card n).state ≠ 1 ∨ (s.card n).step ≠ 1 then s
      else if (s.cardCfg n 5 5 = 1 ∧ 2500 < mv) ∨ (s.cardCfg n 5 5 ≠ 1 ∧ mv < 2500) then s.cardFailed n 3
      else if info.byteMode then a.cardFailed n 2 else if info.locked then a.modCard n (fun p => { p with state := 3, step := 0 })
        else a.cardSwitch n info)) ∧
  (∀ (s : State) (n : Nat) (a : CardAnswer) (p : CardPort) (last : Bool), p = s.card n → last = decide ((cardPhases p.cmdOp).length ≤ p.step + 1) →
    exec (.cardResponse n a) s = .next (if p.cmd = none ∨ p.state ≠ 4 then s else match a with
      | .crcError => s.cardCrc n
      | .switchError => s
      | .lockFailed => if (p.cmdOp = Op.cardLock ∨ p.cmdOp = Op.cardUnlock) ∧ last = true then
          s.cardEnd n p (fail Status.authFail) (if p.cmdOp = Op.cardUnlock then 3 else 2) else s
      | .verifyBad => if p.cmdOp = Op.cardWrite ∧ last = true then s.cardFault n else s
      | .phaseDone => if last then s.cardDone n p else s.modCard n (fun x =>
          { x with step := x.step + 1, phase := (cardPhases p.cmdOp).getD (x.step + 1) 1, retries := 0, trailing := 8 }))) ∧
  (∀ (s a : State) (n : Nat), a = s.modCard n (fun x => { x with retries := x.retries + 1, trailing := 8 }) →
    s.cardCrc n = (if 3 ≤ (s.card n).retries then s.cardFault n else if (s.card n).mode ≠ 2 ∨ (s.card n).phase ≠ 2 then a
      else match (s.card n).card.bind tunedTap with
        | some t => a.modCard n (fun x => { x with tap := t })
        | none => (a.modCard n (fun x => { x with mode := 1, tap := 0 })).notice Reg.crdNotice 4)) ∧
  (∀ (s : State) (n : Nat), exec (.cardBusyTimeout n) s =
    .next (if (s.card n).cmd ≠ none ∧ (s.card n).phase = 3 then s.cardFault n else s)) ∧
  (∀ (s a : State) (n : Nat) (p : CardPort), p = s.card n → a = s.notice Reg.crdNotice 1 →
    exec (.cardRemove n) s = .next (if p.state = 0 then s else State.modCard (if p.cmd = none then a else (a.notice Reg.crdNotice 2).cardEnd n p
      { status := Status.cardRemoved, detail := p.phase + 2 ^ 8 * p.copy } 0) n
      (fun x => { num := x.num, state := if x.state = 6 then 6 else 0, trailing := 8 })))

/-- R475: a transfer in which a CRC fails is retried up to three times, at the same block; then its command completes with CARD_FAULT,
0x0609, and so it does when a write block's busy phase lasts too long. -/
def Obligations.CardTransfersAreRetried : Prop :=
  (∀ (s : State) (n : Nat) (p : CardPort), s.io.ports.find? (fun x => x.num == n) = some p → p.cmd ≠ none → p.state = 4 → p.retries < 3 →
    ∃ t, exec (.cardResponse n .crcError) s = .next t ∧ (t.card n).retries = p.retries + 1 ∧ (t.card n).step = p.step ∧ (t.card n).phase = p.phase ∧
      (t.card n).cmd = p.cmd) ∧
  (∀ (s : State) (n : Nat), (s.card n).cmd ≠ none → (s.card n).state = 4 → 3 ≤ (s.card n).retries →
    exec (.cardResponse n .crcError) s = .next (s.cardFault n)) ∧
  (∀ (s : State) (n : Nat), (s.card n).cmd ≠ none → (s.card n).phase = 3 → exec (.cardBusyTimeout n) s = .next (s.cardFault n)) ∧
  (∀ (s a : State) (n : Nat) (id : JobId) (j : Job), (s.card n).cmd = some id → (s.card n).cmdOp ≠ Op.cardUnlock →
    a = ((((s.cardBroken n (s.card n)).notice Reg.crdNotice 5).cardClaimEnds (s.card n)).cardFree n 2) → a.job? id = some j →
    s.cardFault n = a.done j (fail 0x0609))

/-- R476 to R485, R489: each card command of a PORT above 3 is INVALID_INPUT, on a port that runs one BUSY, and else judged by its rule in
order (form, write protection, ceremony, the card's state) and begun; a write-protect pin's level is a free value, and a card that is not
READY is ATTR_DENIED (log entry 51: the model's choice). CARD_QUERY answers what the port knows. An image for a card claims the staging
buffer and passes the checks of R359. The estate custody key is made once in a ceremony; a boot record whose check fails is refused, and
written where no flash write runs. -/
def Obligations.CardCommandsRun : Prop :=
  (∀ (s : State) (j : Job) (f : State → Nat → CardPort → State), s.onCard j f = (if 3 < j.desc.p8 48 then s.deny j Status.invalidInput
    else if (s.card (j.desc.p8 48)).cmd ≠ none then s.deny j Status.busy else f s (j.desc.p8 48) (s.card (j.desc.p8 48)))) ∧
  (∀ (s : State) (q ix : Nat) (j : Job), CtlReady s q ix Op.cardQuery j →
    exec (.cardQuery q ix) s = .next (s.onCard j (fun s _ p => s.done j (okOut (cardRecord p))))) ∧
  (∀ (s : State) (q ix : Nat) (j : Job), CtlReady s q ix Op.cardLock j → exec (.cardLock q ix) s = .next (s.onCard j (fun s n p =>
    if passwordOk j.input = false then (s.cardProtected n).2.deny j Status.invalidInput
    else if (s.cardProtected n).1 then (s.cardProtected n).2.deny j Status.attrDenied 0x04
    else if p.state ≠ 2 ∨ (p.card.map (fun c => c.hasPwd)).getD false = true then (s.cardProtected n).2.deny j Status.attrDenied
    else (s.cardProtected n).2.cardBegin n j none))) ∧
  (∀ (s : State) (q ix : Nat) (j : Job), CtlReady s q ix Op.cardUnlock j → exec (.cardUnlock q ix) s = .next (s.onCard j (fun s n p =>
    if passwordOk j.input = false then s.deny j Status.invalidInput
    else if p.state ≠ 3 then s.deny j Status.attrDenied else s.cardBegin n j none))) ∧
  (∀ (s : State) (q ix : Nat) (j : Job), CtlReady s q ix Op.cardForceErase j → exec (.cardForceErase q ix) s = .next (s.onCard j (fun s n p =>
    if (s.cardProtected n).1 then (s.cardProtected n).2.deny j Status.attrDenied 0x04
    else if j.ceremonyOk = false then (s.cardProtected n).2.deny j Status.attrDenied 0x03
    else if p.state ≠ 2 ∧ p.state ≠ 3 then (s.cardProtected n).2.deny j Status.attrDenied
    else (s.cardProtected n).2.cardBegin n j none))) ∧
  (∀ (s : State) (q ix kind : Nat) (j : Job), CtlReady s q ix Op.cardWrite j → kind = j.desc.p8 49 →
    exec (.cardWrite q ix) s = .next (s.onCard j (fun s n p => (fun (wp : Bool) (a : State) =>
      if kind = 0 ∨ 3 < kind ∨ (kind ≠ 1 ∧ j.desc.p8 50 ≠ 0) then a.deny j Status.invalidInput
      else if wp then a.deny j Status.attrDenied 0x04
      else if kind ≠ 3 ∧ j.ceremonyOk = false then a.deny j Status.attrDenied 0x03
      else if kind ≠ 3 ∧ a.mgmt.ceremony.bind (fun x => x.estateKey) = none then a.deny j Status.attrDenied 0x40
      else match p.card, p.state == 2 with
        | some c, true => if c.secCount < 71680 then a.deny j Status.invalidInput 0x01
          else if c.lastGood.any (fun w => w.kind ≠ kind) then a.deny j Status.attrDenied 0x02
          else if kind = 3 then a.cardImageWrite j n c else a.cardSealed j n kind c
        | _, _ => a.deny j Status.attrDenied) (s.cardProtected n).1 (s.cardProtected n).2))) ∧
  (∀ (s : State) (j : Job) (n : Nat) (c : CardInfo), s.cardImageWrite j n c = (if s.mgmt.claim ≠ 0 then s.deny j Status.busy
    else if j.input = [] ∨ 2 ^ 24 < j.input.length then s.deny j Status.invalidInput
    else if 1 ≤ imageReason s.life j.input ∧ imageReason s.life j.input ≤ 5 then s.deny j Status.authFail
    else (s.setClaim 2 (some j.input)).cardBegin n j (some (s.newCopy c 3 j.input)))) ∧
  (∀ (s : State) (q ix : Nat) (j : Job), CtlReady s q ix Op.cardShareOpen j → exec (.cardShareOpen q ix) s = .next (s.onCard j (fun a n p =>
    if j.input.length ≠ 76 then a.deny j Status.invalidInput
    else if j.ceremonyOk = false ∨ s.mgmt.ceremony.bind (fun c => s.joinedSession c (j.desc.p8 49)) = none then a.deny j Status.attrDenied 0x03
    else if p.state ≠ 2 then a.deny j Status.attrDenied
    else if (p.card.bind (fun c => c.lastGood)).map (fun w => w.kind) ≠ some 1 then a.deny j Status.invalidInput
    else a.cardBegin n j none))) ∧
  (∀ (s : State) (q ix : Nat) (j : Job), CtlReady s q ix Op.estateCreate j → exec (.estateCreate q ix) s = .next (match s.mgmt.ceremony with
    | none => s.deny j Status.attrDenied 0x03
    | some c => if j.ceremonyOk = false then s.deny j Status.attrDenied 0x03
      else if c.estateKey ≠ none then s.deny j Status.attrDenied 0x40
      else s.withRandom j 32 (fun a b =>
        ({ a with mgmt := { a.mgmt with ceremony := some { c with estateKey := some (fixLen 32 b) } } } : State).done j))) ∧
  (∀ (s : State) (q ix : Nat) (j : Job), CtlReady s q ix Op.bootRecordWrite j → exec (.bootRecordWrite q ix) s = .next (
    if bootOk j.input = false then s.deny j Status.invalidInput
    else if s.io.flash.writing ≠ none then s.deny j Status.busy
    else ({ s with io := { s.io with flash := { s.io.flash with writing := some (j.id, 2, j.input) } } } : State).block j))

/-- R488, R491: on main power a mapped regulator's readings are kept, its faults logged and cleared, and the third read in a row without
an answer is a fault; an alert reads its regulator's status. Each JTAG instruction selects its data register (the pins' levels are free
values); one that is not available acts as BYPASS, and in VAULT none is taken. -/
def Obligations.LocalIoRuns : Prop :=
  (∀ (s a : State) (rail v i t : Nat) (st : Option (BitVec 16)), a = s.modVrm rail (fun x => { x with misses := x.misses + 1 }) →
    exec (.pmbusPoll rail st v i t) s = .next (if 7 < rail ∨ s.vrmMap rail % 128 = 0 ∨ s.power.mode = .vault then s else match st with
      | some w => (s.modVrm rail (fun _ => { status := w, vout := v, iout := i, temp := t, misses := 0 })).vrmStatus rail w
      | none => if ((s.io.vrms[rail]?).map (fun x => x.misses)).getD 0 = 2 then a.vrmFault rail 0 else a)) ∧
  (∀ (s : State) (rail : Nat) (w : BitVec 16), s.vrmStatus rail w = if w = 0 then s else (s.vrmFault rail w.toNat).send (.clearFaults rail)) ∧
  (∀ (s : State) (m a : Nat) (w : BitVec 16), exec (.pmbusAlert m a w) s = .next (
    match (List.range 8).find? (fun r => s.vrmMap r == a % 128 + 128 * (m % 2)) with
    | some rail => if a % 128 = 0 ∨ s.power.mode = .vault then s else (s.modVrm rail (fun v => { v with status := w })).vrmStatus rail w
    | none => s)) ∧
  (∀ (s : State) (d : Bytes), d = leBytes 8 s.life.fuses.serial ++ leBytes 4 (s.view 0 Reg.lcyState).toNat ++ leBytes 4 (s.view 0 Reg.lcyBoot).toNat →
    exec .bypass s = .next (s.jtagSet .bypass [0]) ∧ exec .idcode s = .next (s.jtagSet .idcode (leBytes 4 idcodeWord)) ∧
    exec .identity s = .next (s.jtagSet .identity d) ∧ exec .samplePreload s = .next (s.jtagBoundary .samplePreload)) ∧
  (∀ (s : State) (i : JtagInstr) (d : Bytes), s.jtagSet i d = if s.power.mode = .vault then s
    else { s with io := { s.io with jtag := i, jtagData := d } }) ∧
  (∀ (s : State), debugByState s.life.state = true → exec .extest s = .next (s.jtagBoundary .extest) ∧
    exec .clamp s = .next (s.jtagSet .clamp [0]) ∧ exec .highz s = .next (s.jtagSet .highz [0])) ∧
  (∀ (s : State), debugByState s.life.state = false →
    exec .extest s = exec .bypass s ∧ exec .clamp s = exec .bypass s ∧ exec .highz s = exec .bypass s) ∧
  (∀ (s : State), exec .debugAccess s = .next (if s.life.debugCode = 1 ∨ s.life.debugCode = 2 then
    s.jtagSet .debugAccess (leBytes 4 s.life.scopes) else s.jtagSet .bypass [0]))
end

