-- ==== Sys2Proof/Laws/Crypto.lean ====
section
/-! SUPPORT. Opening inverts sealing: the AEAD modes, a wrapped key record and a wrapped generation secret. -/

namespace Sys2Proof.Machine

@[simp] theorem zeros_length (n : Nat) : (zeros n).length = n := by simp [zeros]

@[simp] theorem fixLen_length (n : Nat) (b : Bytes) : (fixLen n b).length = n := by
  simp only [fixLen, List.length_take, List.length_append, zeros_length]; omega

theorem fixLen_eq (n : Nat) (b : Bytes) (h : b.length = n) : fixLen n b = b := by
  simp [fixLen, ← h]

@[simp] theorem leBytes_length (n v : Nat) : (leBytes n v).length = n := by
  induction n generalizing v with
  | zero => rfl
  | succ n ih => simp [leBytes, ih]

/-- A mask of at least a string's length, applied twice, gives the string back. -/
theorem xorBytes_twice (a k : Bytes) (h : a.length ≤ k.length) : xorBytes (xorBytes a k) k = a := by
  induction a generalizing k with
  | nil => rfl
  | cons x a ih =>
    cases k with
    | nil => simp at h
    | cons y k =>
      simp only [List.length_cons, Nat.add_le_add_iff_right] at h
      simp only [xorBytes, List.zipWith_cons_cons] at ih ⊢
      rw [ih k h, BitVec.xor_assoc]
      simp

theorem xorBytes_length (a k : Bytes) (h : a.length ≤ k.length) : (xorBytes a k).length = a.length := by
  simp only [xorBytes, List.length_zipWith]; omega

@[simp] theorem sivStream_length (key nonce tag : Bytes) (n : Nat) : (sivStream key nonce tag n).length = n := by
  simp [sivStream, stream]

@[simp] theorem aeadStream_length (mode : Nat) (key nonce : Bytes) (n : Nat) : (aeadStream mode key nonce n).length = n := by
  unfold aeadStream; split <;> simp [stream]

/-- Sealing keeps the plaintext's length. -/
@[simp] theorem aeadSeal_length (mode : Nat) (key nonce aad pt : Bytes) : (aeadSeal mode key nonce aad pt).1.length = pt.length := by
  unfold aeadSeal
  split
  · exact xorBytes_length _ _ (by simp)
  · exact xorBytes_length _ _ (by simp)

/-- Opening what was sealed under the same key, nonce and additional data gives the plaintext. -/
theorem aeadOpen_aeadSeal (mode : Nat) (key nonce aad pt : Bytes) :
    aeadOpen mode key nonce aad (aeadSeal mode key nonce aad pt).1 (aeadSeal mode key nonce aad pt).2 = some pt := by
  have e : ∀ t, xorBytes (xorBytes pt (sivStream key nonce t pt.length)) (sivStream key nonce t pt.length) = pt :=
    fun t => xorBytes_twice _ _ (by simp)
  have f : xorBytes (xorBytes pt (aeadStream mode key nonce pt.length)) (aeadStream mode key nonce pt.length) = pt :=
    xorBytes_twice _ _ (by simp)
  unfold aeadOpen aeadSeal
  by_cases h : mode = 0x05
  · simp [h, xorBytes_length, e]
  · simp [h, xorBytes_length, f]

/-- R123: a wrapped record opens to its material, if the material has its record's length and fits its class. -/
theorem openRec_wrapRec (key : Bytes) (handle : Nat) (r : KeyRec) (mat : Bytes) (h : mat.length = matLen r.alg r.len)
    (hc : matLen r.alg r.len ≤ 64 * classSlots r.cls - 32) : openRec key handle (wrapRec key handle r mat) = some mat := by
  have hl : (aeadSeal 0x05 key (recNonce handle r.kekGen) (recHeader r) mat).1.length = matLen r.alg r.len := by
    simp [h]
  have ht : ((fixLen (64 * classSlots r.cls - 32)
      (aeadSeal 0x05 key (recNonce handle r.kekGen) (recHeader r) mat).1) ++
      (aeadSeal 0x05 key (recNonce handle r.kekGen) (recHeader r) mat).2).take (matLen r.alg r.len) =
      (aeadSeal 0x05 key (recNonce handle r.kekGen) (recHeader r) mat).1 := by
    rw [List.take_append_of_le_length (by simpa using hc), fixLen, List.take_take, Nat.min_eq_left hc,
      List.take_append_of_le_length (by omega), List.take_of_length_le (by omega)]
  have hd : ((fixLen (64 * classSlots r.cls - 32)
      (aeadSeal 0x05 key (recNonce handle r.kekGen) (recHeader r) mat).1) ++
      (aeadSeal 0x05 key (recNonce handle r.kekGen) (recHeader r) mat).2).drop (64 * classSlots r.cls - 32) =
      (aeadSeal 0x05 key (recNonce handle r.kekGen) (recHeader r) mat).2 := by
    rw [List.drop_append_of_le_length (by simp), List.drop_of_length_le (by simp), List.nil_append]
  unfold openRec wrapRec
  dsimp only
  rw [ht, hd]
  exact aeadOpen_aeadSeal _ _ _ _ _

/-- R117: the wrapped secret of a generation opens under the vault key it was wrapped under. -/
theorem genSecret_wrapGen (s : State) (g : Nat) (secret : Bytes) (h : alook g s.vault.gens = some (wrapGen s.guard.vaultKey g secret))
    (hk : s.guard.vaultKey ≠ []) : s.genSecret g = some (fixLen 32 secret) := by
  unfold State.genSecret
  rw [h]
  simp only [hk, if_false, wrapGen]
  have hl : (aeadSeal 0x05 s.guard.vaultKey (genNonce g) [] (fixLen 32 secret)).1.length = 32 := by simp
  rw [List.take_append_of_le_length (by omega), List.take_of_length_le (by omega), List.drop_append_of_le_length (by omega),
    List.drop_of_length_le (by omega), List.nil_append]
  exact aeadOpen_aeadSeal _ _ _ _ _

end Sys2Proof.Machine
end

