-- ==== Sys2Proof/Laws/State.lean ====
section
/-! SUPPORT. What each named update of the state leaves unchanged: one lemma per update and field, so that no proof unfolds a record. -/

namespace Sys2Proof.Machine

/-! `State.modQp` changes `qps` alone. -/

@[simp] theorem State.modQp_pending (s : State) (q : Nat) (f : Qp → Qp) : (s.modQp q f).pending = s.pending := rfl
@[simp] theorem State.modQp_free (s : State) (q : Nat) (f : Qp → Qp) : (s.modQp q f).free = s.free := rfl
@[simp] theorem State.modQp_clock (s : State) (q : Nat) (f : Qp → Qp) : (s.modQp q f).clock = s.clock := rfl
@[simp] theorem State.modQp_power (s : State) (q : Nat) (f : Qp → Qp) : (s.modQp q f).power = s.power := rfl
@[simp] theorem State.modQp_thermal (s : State) (q : Nat) (f : Qp → Qp) : (s.modQp q f).thermal = s.thermal := rfl
@[simp] theorem State.modQp_net (s : State) (q : Nat) (f : Qp → Qp) : (s.modQp q f).net = s.net := rfl
@[simp] theorem State.modQp_qpMax (s : State) (q : Nat) (f : Qp → Qp) : (s.modQp q f).qpMax = s.qpMax := rfl
@[simp] theorem State.modQp_rdMax (s : State) (q : Nat) (f : Qp → Qp) : (s.modQp q f).rdMax = s.rdMax := rfl
@[simp] theorem State.modQp_jobs (s : State) (q : Nat) (f : Qp → Qp) : (s.modQp q f).jobs = s.jobs := rfl
@[simp] theorem State.modQp_jobSeq (s : State) (q : Nat) (f : Qp → Qp) : (s.modQp q f).jobSeq = s.jobSeq := rfl
@[simp] theorem State.modQp_readySeq (s : State) (q : Nat) (f : Qp → Qp) : (s.modQp q f).readySeq = s.readySeq := rfl
@[simp] theorem State.modQp_tiles (s : State) (q : Nat) (f : Qp → Qp) : (s.modQp q f).tiles = s.tiles := rfl
@[simp] theorem State.modQp_courses (s : State) (q : Nat) (f : Qp → Qp) : (s.modQp q f).courses = s.courses := rfl
@[simp] theorem State.modQp_ctxs (s : State) (q : Nat) (f : Qp → Qp) : (s.modQp q f).ctxs = s.ctxs := rfl
@[simp] theorem State.modQp_keys (s : State) (q : Nat) (f : Qp → Qp) : (s.modQp q f).keys = s.keys := rfl
@[simp] theorem State.modQp_commit (s : State) (q : Nat) (f : Qp → Qp) : (s.modQp q f).commit = s.commit := rfl
@[simp] theorem State.modQp_vault (s : State) (q : Nat) (f : Qp → Qp) : (s.modQp q f).vault = s.vault := rfl
@[simp] theorem State.modQp_guard (s : State) (q : Nat) (f : Qp → Qp) : (s.modQp q f).guard = s.guard := rfl
@[simp] theorem State.modQp_dram (s : State) (q : Nat) (f : Qp → Qp) : (s.modQp q f).dram = s.dram := rfl
@[simp] theorem State.modQp_ent (s : State) (q : Nat) (f : Qp → Qp) : (s.modQp q f).ent = s.ent := rfl
@[simp] theorem State.modQp_tabs (s : State) (q : Nat) (f : Qp → Qp) : (s.modQp q f).tabs = s.tabs := rfl
@[simp] theorem State.modQp_life (s : State) (q : Nat) (f : Qp → Qp) : (s.modQp q f).life = s.life := rfl
@[simp] theorem State.modQp_pair (s : State) (q : Nat) (f : Qp → Qp) : (s.modQp q f).pair = s.pair := rfl
@[simp] theorem State.modQp_mgmt (s : State) (q : Nat) (f : Qp → Qp) : (s.modQp q f).mgmt = s.mgmt := rfl
@[simp] theorem State.modQp_copyA (s : State) (q : Nat) (f : Qp → Qp) : (s.modQp q f).copyA = s.copyA := rfl
@[simp] theorem State.modQp_copyB (s : State) (q : Nat) (f : Qp → Qp) : (s.modQp q f).copyB = s.copyB := rfl
@[simp] theorem State.modQp_boot (s : State) (q : Nat) (f : Qp → Qp) : (s.modQp q f).boot = s.boot := rfl
@[simp] theorem State.modQp_log (s : State) (q : Nat) (f : Qp → Qp) : (s.modQp q f).log = s.log := rfl
@[simp] theorem State.modQp_io (s : State) (q : Nat) (f : Qp → Qp) : (s.modQp q f).io = s.io := rfl
@[simp] theorem State.modQp_regs (s : State) (q : Nat) (f : Qp → Qp) : (s.modQp q f).regs = s.regs := rfl
@[simp] theorem State.modQp_sel (s : State) (q : Nat) (f : Qp → Qp) : (s.modQp q f).sel = s.sel := rfl
@[simp] theorem State.modQp_sent (s : State) (q : Nat) (f : Qp → Qp) : (s.modQp q f).sent = s.sent := rfl

/-! `State.modJob` changes `jobs` alone. -/

@[simp] theorem State.modJob_pending (s : State) (id : JobId) (f : Job → Job) : (s.modJob id f).pending = s.pending := rfl
@[simp] theorem State.modJob_free (s : State) (id : JobId) (f : Job → Job) : (s.modJob id f).free = s.free := rfl
@[simp] theorem State.modJob_clock (s : State) (id : JobId) (f : Job → Job) : (s.modJob id f).clock = s.clock := rfl
@[simp] theorem State.modJob_power (s : State) (id : JobId) (f : Job → Job) : (s.modJob id f).power = s.power := rfl
@[simp] theorem State.modJob_thermal (s : State) (id : JobId) (f : Job → Job) : (s.modJob id f).thermal = s.thermal := rfl
@[simp] theorem State.modJob_net (s : State) (id : JobId) (f : Job → Job) : (s.modJob id f).net = s.net := rfl
@[simp] theorem State.modJob_qps (s : State) (id : JobId) (f : Job → Job) : (s.modJob id f).qps = s.qps := rfl
@[simp] theorem State.modJob_qpMax (s : State) (id : JobId) (f : Job → Job) : (s.modJob id f).qpMax = s.qpMax := rfl
@[simp] theorem State.modJob_rdMax (s : State) (id : JobId) (f : Job → Job) : (s.modJob id f).rdMax = s.rdMax := rfl
@[simp] theorem State.modJob_jobSeq (s : State) (id : JobId) (f : Job → Job) : (s.modJob id f).jobSeq = s.jobSeq := rfl
@[simp] theorem State.modJob_readySeq (s : State) (id : JobId) (f : Job → Job) : (s.modJob id f).readySeq = s.readySeq := rfl
@[simp] theorem State.modJob_tiles (s : State) (id : JobId) (f : Job → Job) : (s.modJob id f).tiles = s.tiles := rfl
@[simp] theorem State.modJob_courses (s : State) (id : JobId) (f : Job → Job) : (s.modJob id f).courses = s.courses := rfl
@[simp] theorem State.modJob_ctxs (s : State) (id : JobId) (f : Job → Job) : (s.modJob id f).ctxs = s.ctxs := rfl
@[simp] theorem State.modJob_keys (s : State) (id : JobId) (f : Job → Job) : (s.modJob id f).keys = s.keys := rfl
@[simp] theorem State.modJob_commit (s : State) (id : JobId) (f : Job → Job) : (s.modJob id f).commit = s.commit := rfl
@[simp] theorem State.modJob_vault (s : State) (id : JobId) (f : Job → Job) : (s.modJob id f).vault = s.vault := rfl
@[simp] theorem State.modJob_guard (s : State) (id : JobId) (f : Job → Job) : (s.modJob id f).guard = s.guard := rfl
@[simp] theorem State.modJob_dram (s : State) (id : JobId) (f : Job → Job) : (s.modJob id f).dram = s.dram := rfl
@[simp] theorem State.modJob_ent (s : State) (id : JobId) (f : Job → Job) : (s.modJob id f).ent = s.ent := rfl
@[simp] theorem State.modJob_tabs (s : State) (id : JobId) (f : Job → Job) : (s.modJob id f).tabs = s.tabs := rfl
@[simp] theorem State.modJob_life (s : State) (id : JobId) (f : Job → Job) : (s.modJob id f).life = s.life := rfl
@[simp] theorem State.modJob_pair (s : State) (id : JobId) (f : Job → Job) : (s.modJob id f).pair = s.pair := rfl
@[simp] theorem State.modJob_mgmt (s : State) (id : JobId) (f : Job → Job) : (s.modJob id f).mgmt = s.mgmt := rfl
@[simp] theorem State.modJob_copyA (s : State) (id : JobId) (f : Job → Job) : (s.modJob id f).copyA = s.copyA := rfl
@[simp] theorem State.modJob_copyB (s : State) (id : JobId) (f : Job → Job) : (s.modJob id f).copyB = s.copyB := rfl
@[simp] theorem State.modJob_boot (s : State) (id : JobId) (f : Job → Job) : (s.modJob id f).boot = s.boot := rfl
@[simp] theorem State.modJob_log (s : State) (id : JobId) (f : Job → Job) : (s.modJob id f).log = s.log := rfl
@[simp] theorem State.modJob_io (s : State) (id : JobId) (f : Job → Job) : (s.modJob id f).io = s.io := rfl
@[simp] theorem State.modJob_regs (s : State) (id : JobId) (f : Job → Job) : (s.modJob id f).regs = s.regs := rfl
@[simp] theorem State.modJob_sel (s : State) (id : JobId) (f : Job → Job) : (s.modJob id f).sel = s.sel := rfl
@[simp] theorem State.modJob_sent (s : State) (id : JobId) (f : Job → Job) : (s.modJob id f).sent = s.sent := rfl

/-! `State.modTile` changes `tiles` alone. -/

@[simp] theorem State.modTile_pending (s : State) (t : Nat) (f : Tile → Tile) : (s.modTile t f).pending = s.pending := rfl
@[simp] theorem State.modTile_free (s : State) (t : Nat) (f : Tile → Tile) : (s.modTile t f).free = s.free := rfl
@[simp] theorem State.modTile_clock (s : State) (t : Nat) (f : Tile → Tile) : (s.modTile t f).clock = s.clock := rfl
@[simp] theorem State.modTile_power (s : State) (t : Nat) (f : Tile → Tile) : (s.modTile t f).power = s.power := rfl
@[simp] theorem State.modTile_thermal (s : State) (t : Nat) (f : Tile → Tile) : (s.modTile t f).thermal = s.thermal := rfl
@[simp] theorem State.modTile_net (s : State) (t : Nat) (f : Tile → Tile) : (s.modTile t f).net = s.net := rfl
@[simp] theorem State.modTile_qps (s : State) (t : Nat) (f : Tile → Tile) : (s.modTile t f).qps = s.qps := rfl
@[simp] theorem State.modTile_qpMax (s : State) (t : Nat) (f : Tile → Tile) : (s.modTile t f).qpMax = s.qpMax := rfl
@[simp] theorem State.modTile_rdMax (s : State) (t : Nat) (f : Tile → Tile) : (s.modTile t f).rdMax = s.rdMax := rfl
@[simp] theorem State.modTile_jobs (s : State) (t : Nat) (f : Tile → Tile) : (s.modTile t f).jobs = s.jobs := rfl
@[simp] theorem State.modTile_jobSeq (s : State) (t : Nat) (f : Tile → Tile) : (s.modTile t f).jobSeq = s.jobSeq := rfl
@[simp] theorem State.modTile_readySeq (s : State) (t : Nat) (f : Tile → Tile) : (s.modTile t f).readySeq = s.readySeq := rfl
@[simp] theorem State.modTile_courses (s : State) (t : Nat) (f : Tile → Tile) : (s.modTile t f).courses = s.courses := rfl
@[simp] theorem State.modTile_ctxs (s : State) (t : Nat) (f : Tile → Tile) : (s.modTile t f).ctxs = s.ctxs := rfl
@[simp] theorem State.modTile_keys (s : State) (t : Nat) (f : Tile → Tile) : (s.modTile t f).keys = s.keys := rfl
@[simp] theorem State.modTile_commit (s : State) (t : Nat) (f : Tile → Tile) : (s.modTile t f).commit = s.commit := rfl
@[simp] theorem State.modTile_vault (s : State) (t : Nat) (f : Tile → Tile) : (s.modTile t f).vault = s.vault := rfl
@[simp] theorem State.modTile_guard (s : State) (t : Nat) (f : Tile → Tile) : (s.modTile t f).guard = s.guard := rfl
@[simp] theorem State.modTile_dram (s : State) (t : Nat) (f : Tile → Tile) : (s.modTile t f).dram = s.dram := rfl
@[simp] theorem State.modTile_ent (s : State) (t : Nat) (f : Tile → Tile) : (s.modTile t f).ent = s.ent := rfl
@[simp] theorem State.modTile_tabs (s : State) (t : Nat) (f : Tile → Tile) : (s.modTile t f).tabs = s.tabs := rfl
@[simp] theorem State.modTile_life (s : State) (t : Nat) (f : Tile → Tile) : (s.modTile t f).life = s.life := rfl
@[simp] theorem State.modTile_pair (s : State) (t : Nat) (f : Tile → Tile) : (s.modTile t f).pair = s.pair := rfl
@[simp] theorem State.modTile_mgmt (s : State) (t : Nat) (f : Tile → Tile) : (s.modTile t f).mgmt = s.mgmt := rfl
@[simp] theorem State.modTile_copyA (s : State) (t : Nat) (f : Tile → Tile) : (s.modTile t f).copyA = s.copyA := rfl
@[simp] theorem State.modTile_copyB (s : State) (t : Nat) (f : Tile → Tile) : (s.modTile t f).copyB = s.copyB := rfl
@[simp] theorem State.modTile_boot (s : State) (t : Nat) (f : Tile → Tile) : (s.modTile t f).boot = s.boot := rfl
@[simp] theorem State.modTile_log (s : State) (t : Nat) (f : Tile → Tile) : (s.modTile t f).log = s.log := rfl
@[simp] theorem State.modTile_io (s : State) (t : Nat) (f : Tile → Tile) : (s.modTile t f).io = s.io := rfl
@[simp] theorem State.modTile_regs (s : State) (t : Nat) (f : Tile → Tile) : (s.modTile t f).regs = s.regs := rfl
@[simp] theorem State.modTile_sel (s : State) (t : Nat) (f : Tile → Tile) : (s.modTile t f).sel = s.sel := rfl
@[simp] theorem State.modTile_sent (s : State) (t : Nat) (f : Tile → Tile) : (s.modTile t f).sent = s.sent := rfl

/-! `State.modCourse` changes `courses` alone. -/

@[simp] theorem State.modCourse_pending (s : State) (c : Nat) (f : Course → Course) : (s.modCourse c f).pending = s.pending := rfl
@[simp] theorem State.modCourse_free (s : State) (c : Nat) (f : Course → Course) : (s.modCourse c f).free = s.free := rfl
@[simp] theorem State.modCourse_clock (s : State) (c : Nat) (f : Course → Course) : (s.modCourse c f).clock = s.clock := rfl
@[simp] theorem State.modCourse_power (s : State) (c : Nat) (f : Course → Course) : (s.modCourse c f).power = s.power := rfl
@[simp] theorem State.modCourse_thermal (s : State) (c : Nat) (f : Course → Course) : (s.modCourse c f).thermal = s.thermal := rfl
@[simp] theorem State.modCourse_net (s : State) (c : Nat) (f : Course → Course) : (s.modCourse c f).net = s.net := rfl
@[simp] theorem State.modCourse_qps (s : State) (c : Nat) (f : Course → Course) : (s.modCourse c f).qps = s.qps := rfl
@[simp] theorem State.modCourse_qpMax (s : State) (c : Nat) (f : Course → Course) : (s.modCourse c f).qpMax = s.qpMax := rfl
@[simp] theorem State.modCourse_rdMax (s : State) (c : Nat) (f : Course → Course) : (s.modCourse c f).rdMax = s.rdMax := rfl
@[simp] theorem State.modCourse_jobs (s : State) (c : Nat) (f : Course → Course) : (s.modCourse c f).jobs = s.jobs := rfl
@[simp] theorem State.modCourse_jobSeq (s : State) (c : Nat) (f : Course → Course) : (s.modCourse c f).jobSeq = s.jobSeq := rfl
@[simp] theorem State.modCourse_readySeq (s : State) (c : Nat) (f : Course → Course) : (s.modCourse c f).readySeq = s.readySeq := rfl
@[simp] theorem State.modCourse_tiles (s : State) (c : Nat) (f : Course → Course) : (s.modCourse c f).tiles = s.tiles := rfl
@[simp] theorem State.modCourse_ctxs (s : State) (c : Nat) (f : Course → Course) : (s.modCourse c f).ctxs = s.ctxs := rfl
@[simp] theorem State.modCourse_keys (s : State) (c : Nat) (f : Course → Course) : (s.modCourse c f).keys = s.keys := rfl
@[simp] theorem State.modCourse_commit (s : State) (c : Nat) (f : Course → Course) : (s.modCourse c f).commit = s.commit := rfl
@[simp] theorem State.modCourse_vault (s : State) (c : Nat) (f : Course → Course) : (s.modCourse c f).vault = s.vault := rfl
@[simp] theorem State.modCourse_guard (s : State) (c : Nat) (f : Course → Course) : (s.modCourse c f).guard = s.guard := rfl
@[simp] theorem State.modCourse_dram (s : State) (c : Nat) (f : Course → Course) : (s.modCourse c f).dram = s.dram := rfl
@[simp] theorem State.modCourse_ent (s : State) (c : Nat) (f : Course → Course) : (s.modCourse c f).ent = s.ent := rfl
@[simp] theorem State.modCourse_tabs (s : State) (c : Nat) (f : Course → Course) : (s.modCourse c f).tabs = s.tabs := rfl
@[simp] theorem State.modCourse_life (s : State) (c : Nat) (f : Course → Course) : (s.modCourse c f).life = s.life := rfl
@[simp] theorem State.modCourse_pair (s : State) (c : Nat) (f : Course → Course) : (s.modCourse c f).pair = s.pair := rfl
@[simp] theorem State.modCourse_mgmt (s : State) (c : Nat) (f : Course → Course) : (s.modCourse c f).mgmt = s.mgmt := rfl
@[simp] theorem State.modCourse_copyA (s : State) (c : Nat) (f : Course → Course) : (s.modCourse c f).copyA = s.copyA := rfl
@[simp] theorem State.modCourse_copyB (s : State) (c : Nat) (f : Course → Course) : (s.modCourse c f).copyB = s.copyB := rfl
@[simp] theorem State.modCourse_boot (s : State) (c : Nat) (f : Course → Course) : (s.modCourse c f).boot = s.boot := rfl
@[simp] theorem State.modCourse_log (s : State) (c : Nat) (f : Course → Course) : (s.modCourse c f).log = s.log := rfl
@[simp] theorem State.modCourse_io (s : State) (c : Nat) (f : Course → Course) : (s.modCourse c f).io = s.io := rfl
@[simp] theorem State.modCourse_regs (s : State) (c : Nat) (f : Course → Course) : (s.modCourse c f).regs = s.regs := rfl
@[simp] theorem State.modCourse_sel (s : State) (c : Nat) (f : Course → Course) : (s.modCourse c f).sel = s.sel := rfl
@[simp] theorem State.modCourse_sent (s : State) (c : Nat) (f : Course → Course) : (s.modCourse c f).sent = s.sent := rfl

/-! `State.setReg` changes `regs` alone. -/

@[simp] theorem State.setReg_pending (s : State) (addr idx v : Nat) : (s.setReg addr idx v).pending = s.pending := rfl
@[simp] theorem State.setReg_free (s : State) (addr idx v : Nat) : (s.setReg addr idx v).free = s.free := rfl
@[simp] theorem State.setReg_clock (s : State) (addr idx v : Nat) : (s.setReg addr idx v).clock = s.clock := rfl
@[simp] theorem State.setReg_power (s : State) (addr idx v : Nat) : (s.setReg addr idx v).power = s.power := rfl
@[simp] theorem State.setReg_thermal (s : State) (addr idx v : Nat) : (s.setReg addr idx v).thermal = s.thermal := rfl
@[simp] theorem State.setReg_net (s : State) (addr idx v : Nat) : (s.setReg addr idx v).net = s.net := rfl
@[simp] theorem State.setReg_qps (s : State) (addr idx v : Nat) : (s.setReg addr idx v).qps = s.qps := rfl
@[simp] theorem State.setReg_qpMax (s : State) (addr idx v : Nat) : (s.setReg addr idx v).qpMax = s.qpMax := rfl
@[simp] theorem State.setReg_rdMax (s : State) (addr idx v : Nat) : (s.setReg addr idx v).rdMax = s.rdMax := rfl
@[simp] theorem State.setReg_jobs (s : State) (addr idx v : Nat) : (s.setReg addr idx v).jobs = s.jobs := rfl
@[simp] theorem State.setReg_jobSeq (s : State) (addr idx v : Nat) : (s.setReg addr idx v).jobSeq = s.jobSeq := rfl
@[simp] theorem State.setReg_readySeq (s : State) (addr idx v : Nat) : (s.setReg addr idx v).readySeq = s.readySeq := rfl
@[simp] theorem State.setReg_tiles (s : State) (addr idx v : Nat) : (s.setReg addr idx v).tiles = s.tiles := rfl
@[simp] theorem State.setReg_courses (s : State) (addr idx v : Nat) : (s.setReg addr idx v).courses = s.courses := rfl
@[simp] theorem State.setReg_ctxs (s : State) (addr idx v : Nat) : (s.setReg addr idx v).ctxs = s.ctxs := rfl
@[simp] theorem State.setReg_keys (s : State) (addr idx v : Nat) : (s.setReg addr idx v).keys = s.keys := rfl
@[simp] theorem State.setReg_commit (s : State) (addr idx v : Nat) : (s.setReg addr idx v).commit = s.commit := rfl
@[simp] theorem State.setReg_vault (s : State) (addr idx v : Nat) : (s.setReg addr idx v).vault = s.vault := rfl
@[simp] theorem State.setReg_guard (s : State) (addr idx v : Nat) : (s.setReg addr idx v).guard = s.guard := rfl
@[simp] theorem State.setReg_dram (s : State) (addr idx v : Nat) : (s.setReg addr idx v).dram = s.dram := rfl
@[simp] theorem State.setReg_ent (s : State) (addr idx v : Nat) : (s.setReg addr idx v).ent = s.ent := rfl
@[simp] theorem State.setReg_tabs (s : State) (addr idx v : Nat) : (s.setReg addr idx v).tabs = s.tabs := rfl
@[simp] theorem State.setReg_life (s : State) (addr idx v : Nat) : (s.setReg addr idx v).life = s.life := rfl
@[simp] theorem State.setReg_pair (s : State) (addr idx v : Nat) : (s.setReg addr idx v).pair = s.pair := rfl
@[simp] theorem State.setReg_mgmt (s : State) (addr idx v : Nat) : (s.setReg addr idx v).mgmt = s.mgmt := rfl
@[simp] theorem State.setReg_copyA (s : State) (addr idx v : Nat) : (s.setReg addr idx v).copyA = s.copyA := rfl
@[simp] theorem State.setReg_copyB (s : State) (addr idx v : Nat) : (s.setReg addr idx v).copyB = s.copyB := rfl
@[simp] theorem State.setReg_boot (s : State) (addr idx v : Nat) : (s.setReg addr idx v).boot = s.boot := rfl
@[simp] theorem State.setReg_log (s : State) (addr idx v : Nat) : (s.setReg addr idx v).log = s.log := rfl
@[simp] theorem State.setReg_io (s : State) (addr idx v : Nat) : (s.setReg addr idx v).io = s.io := rfl
@[simp] theorem State.setReg_sel (s : State) (addr idx v : Nat) : (s.setReg addr idx v).sel = s.sel := rfl
@[simp] theorem State.setReg_sent (s : State) (addr idx v : Nat) : (s.setReg addr idx v).sent = s.sent := rfl

/-! `State.setSel` changes `sel` alone. -/

@[simp] theorem State.setSel_pending (s : State) (q addr v : Nat) : (s.setSel q addr v).pending = s.pending := rfl
@[simp] theorem State.setSel_free (s : State) (q addr v : Nat) : (s.setSel q addr v).free = s.free := rfl
@[simp] theorem State.setSel_clock (s : State) (q addr v : Nat) : (s.setSel q addr v).clock = s.clock := rfl
@[simp] theorem State.setSel_power (s : State) (q addr v : Nat) : (s.setSel q addr v).power = s.power := rfl
@[simp] theorem State.setSel_thermal (s : State) (q addr v : Nat) : (s.setSel q addr v).thermal = s.thermal := rfl
@[simp] theorem State.setSel_net (s : State) (q addr v : Nat) : (s.setSel q addr v).net = s.net := rfl
@[simp] theorem State.setSel_qps (s : State) (q addr v : Nat) : (s.setSel q addr v).qps = s.qps := rfl
@[simp] theorem State.setSel_qpMax (s : State) (q addr v : Nat) : (s.setSel q addr v).qpMax = s.qpMax := rfl
@[simp] theorem State.setSel_rdMax (s : State) (q addr v : Nat) : (s.setSel q addr v).rdMax = s.rdMax := rfl
@[simp] theorem State.setSel_jobs (s : State) (q addr v : Nat) : (s.setSel q addr v).jobs = s.jobs := rfl
@[simp] theorem State.setSel_jobSeq (s : State) (q addr v : Nat) : (s.setSel q addr v).jobSeq = s.jobSeq := rfl
@[simp] theorem State.setSel_readySeq (s : State) (q addr v : Nat) : (s.setSel q addr v).readySeq = s.readySeq := rfl
@[simp] theorem State.setSel_tiles (s : State) (q addr v : Nat) : (s.setSel q addr v).tiles = s.tiles := rfl
@[simp] theorem State.setSel_courses (s : State) (q addr v : Nat) : (s.setSel q addr v).courses = s.courses := rfl
@[simp] theorem State.setSel_ctxs (s : State) (q addr v : Nat) : (s.setSel q addr v).ctxs = s.ctxs := rfl
@[simp] theorem State.setSel_keys (s : State) (q addr v : Nat) : (s.setSel q addr v).keys = s.keys := rfl
@[simp] theorem State.setSel_commit (s : State) (q addr v : Nat) : (s.setSel q addr v).commit = s.commit := rfl
@[simp] theorem State.setSel_vault (s : State) (q addr v : Nat) : (s.setSel q addr v).vault = s.vault := rfl
@[simp] theorem State.setSel_guard (s : State) (q addr v : Nat) : (s.setSel q addr v).guard = s.guard := rfl
@[simp] theorem State.setSel_dram (s : State) (q addr v : Nat) : (s.setSel q addr v).dram = s.dram := rfl
@[simp] theorem State.setSel_ent (s : State) (q addr v : Nat) : (s.setSel q addr v).ent = s.ent := rfl
@[simp] theorem State.setSel_tabs (s : State) (q addr v : Nat) : (s.setSel q addr v).tabs = s.tabs := rfl
@[simp] theorem State.setSel_life (s : State) (q addr v : Nat) : (s.setSel q addr v).life = s.life := rfl
@[simp] theorem State.setSel_pair (s : State) (q addr v : Nat) : (s.setSel q addr v).pair = s.pair := rfl
@[simp] theorem State.setSel_mgmt (s : State) (q addr v : Nat) : (s.setSel q addr v).mgmt = s.mgmt := rfl
@[simp] theorem State.setSel_copyA (s : State) (q addr v : Nat) : (s.setSel q addr v).copyA = s.copyA := rfl
@[simp] theorem State.setSel_copyB (s : State) (q addr v : Nat) : (s.setSel q addr v).copyB = s.copyB := rfl
@[simp] theorem State.setSel_boot (s : State) (q addr v : Nat) : (s.setSel q addr v).boot = s.boot := rfl
@[simp] theorem State.setSel_log (s : State) (q addr v : Nat) : (s.setSel q addr v).log = s.log := rfl
@[simp] theorem State.setSel_io (s : State) (q addr v : Nat) : (s.setSel q addr v).io = s.io := rfl
@[simp] theorem State.setSel_regs (s : State) (q addr v : Nat) : (s.setSel q addr v).regs = s.regs := rfl
@[simp] theorem State.setSel_sent (s : State) (q addr v : Nat) : (s.setSel q addr v).sent = s.sent := rfl

/-! `State.send` changes `sent` alone. -/

@[simp] theorem State.send_pending (s : State) (x : Frame) : (s.send x).pending = s.pending := rfl
@[simp] theorem State.send_free (s : State) (x : Frame) : (s.send x).free = s.free := rfl
@[simp] theorem State.send_clock (s : State) (x : Frame) : (s.send x).clock = s.clock := rfl
@[simp] theorem State.send_power (s : State) (x : Frame) : (s.send x).power = s.power := rfl
@[simp] theorem State.send_thermal (s : State) (x : Frame) : (s.send x).thermal = s.thermal := rfl
@[simp] theorem State.send_net (s : State) (x : Frame) : (s.send x).net = s.net := rfl
@[simp] theorem State.send_qps (s : State) (x : Frame) : (s.send x).qps = s.qps := rfl
@[simp] theorem State.send_qpMax (s : State) (x : Frame) : (s.send x).qpMax = s.qpMax := rfl
@[simp] theorem State.send_rdMax (s : State) (x : Frame) : (s.send x).rdMax = s.rdMax := rfl
@[simp] theorem State.send_jobs (s : State) (x : Frame) : (s.send x).jobs = s.jobs := rfl
@[simp] theorem State.send_jobSeq (s : State) (x : Frame) : (s.send x).jobSeq = s.jobSeq := rfl
@[simp] theorem State.send_readySeq (s : State) (x : Frame) : (s.send x).readySeq = s.readySeq := rfl
@[simp] theorem State.send_tiles (s : State) (x : Frame) : (s.send x).tiles = s.tiles := rfl
@[simp] theorem State.send_courses (s : State) (x : Frame) : (s.send x).courses = s.courses := rfl
@[simp] theorem State.send_ctxs (s : State) (x : Frame) : (s.send x).ctxs = s.ctxs := rfl
@[simp] theorem State.send_keys (s : State) (x : Frame) : (s.send x).keys = s.keys := rfl
@[simp] theorem State.send_commit (s : State) (x : Frame) : (s.send x).commit = s.commit := rfl
@[simp] theorem State.send_vault (s : State) (x : Frame) : (s.send x).vault = s.vault := rfl
@[simp] theorem State.send_guard (s : State) (x : Frame) : (s.send x).guard = s.guard := rfl
@[simp] theorem State.send_dram (s : State) (x : Frame) : (s.send x).dram = s.dram := rfl
@[simp] theorem State.send_ent (s : State) (x : Frame) : (s.send x).ent = s.ent := rfl
@[simp] theorem State.send_tabs (s : State) (x : Frame) : (s.send x).tabs = s.tabs := rfl
@[simp] theorem State.send_life (s : State) (x : Frame) : (s.send x).life = s.life := rfl
@[simp] theorem State.send_pair (s : State) (x : Frame) : (s.send x).pair = { s.pair with fseq := s.pair.fseq + b2n x.mirrored } := rfl
@[simp] theorem State.send_mgmt (s : State) (x : Frame) : (s.send x).mgmt = s.mgmt := rfl
@[simp] theorem State.send_copyA (s : State) (x : Frame) : (s.send x).copyA = s.copyA := rfl
@[simp] theorem State.send_copyB (s : State) (x : Frame) : (s.send x).copyB = s.copyB := rfl
@[simp] theorem State.send_boot (s : State) (x : Frame) : (s.send x).boot = s.boot := rfl
@[simp] theorem State.send_log (s : State) (x : Frame) : (s.send x).log = s.log := rfl
@[simp] theorem State.send_io (s : State) (x : Frame) : (s.send x).io = s.io := rfl
@[simp] theorem State.send_regs (s : State) (x : Frame) : (s.send x).regs = s.regs := rfl
@[simp] theorem State.send_sel (s : State) (x : Frame) : (s.send x).sel = s.sel := rfl

/-! `State.advanceTo` changes `clock` alone. -/

@[simp] theorem State.advanceTo_pending (s : State) (t : Nat) : (s.advanceTo t).pending = s.pending := rfl
@[simp] theorem State.advanceTo_free (s : State) (t : Nat) : (s.advanceTo t).free = s.free := rfl
@[simp] theorem State.advanceTo_power (s : State) (t : Nat) : (s.advanceTo t).power = s.power := rfl
@[simp] theorem State.advanceTo_thermal (s : State) (t : Nat) : (s.advanceTo t).thermal = s.thermal := rfl
@[simp] theorem State.advanceTo_net (s : State) (t : Nat) : (s.advanceTo t).net = s.net := rfl
@[simp] theorem State.advanceTo_qps (s : State) (t : Nat) : (s.advanceTo t).qps = s.qps := rfl
@[simp] theorem State.advanceTo_qpMax (s : State) (t : Nat) : (s.advanceTo t).qpMax = s.qpMax := rfl
@[simp] theorem State.advanceTo_rdMax (s : State) (t : Nat) : (s.advanceTo t).rdMax = s.rdMax := rfl
@[simp] theorem State.advanceTo_jobs (s : State) (t : Nat) : (s.advanceTo t).jobs = s.jobs := rfl
@[simp] theorem State.advanceTo_jobSeq (s : State) (t : Nat) : (s.advanceTo t).jobSeq = s.jobSeq := rfl
@[simp] theorem State.advanceTo_readySeq (s : State) (t : Nat) : (s.advanceTo t).readySeq = s.readySeq := rfl
@[simp] theorem State.advanceTo_tiles (s : State) (t : Nat) : (s.advanceTo t).tiles = s.tiles := rfl
@[simp] theorem State.advanceTo_courses (s : State) (t : Nat) : (s.advanceTo t).courses = s.courses := rfl
@[simp] theorem State.advanceTo_ctxs (s : State) (t : Nat) : (s.advanceTo t).ctxs = s.ctxs := rfl
@[simp] theorem State.advanceTo_keys (s : State) (t : Nat) : (s.advanceTo t).keys = s.keys := rfl
@[simp] theorem State.advanceTo_commit (s : State) (t : Nat) : (s.advanceTo t).commit = s.commit := rfl
@[simp] theorem State.advanceTo_vault (s : State) (t : Nat) : (s.advanceTo t).vault = s.vault := rfl
@[simp] theorem State.advanceTo_guard (s : State) (t : Nat) : (s.advanceTo t).guard = s.guard := rfl
@[simp] theorem State.advanceTo_dram (s : State) (t : Nat) : (s.advanceTo t).dram = s.dram := rfl
@[simp] theorem State.advanceTo_ent (s : State) (t : Nat) : (s.advanceTo t).ent = s.ent := rfl
@[simp] theorem State.advanceTo_tabs (s : State) (t : Nat) : (s.advanceTo t).tabs = s.tabs := rfl
@[simp] theorem State.advanceTo_life (s : State) (t : Nat) : (s.advanceTo t).life = s.life := rfl
@[simp] theorem State.advanceTo_pair (s : State) (t : Nat) : (s.advanceTo t).pair = s.pair := rfl
@[simp] theorem State.advanceTo_mgmt (s : State) (t : Nat) : (s.advanceTo t).mgmt = s.mgmt := rfl
@[simp] theorem State.advanceTo_copyA (s : State) (t : Nat) : (s.advanceTo t).copyA = s.copyA := rfl
@[simp] theorem State.advanceTo_copyB (s : State) (t : Nat) : (s.advanceTo t).copyB = s.copyB := rfl
@[simp] theorem State.advanceTo_boot (s : State) (t : Nat) : (s.advanceTo t).boot = s.boot := rfl
@[simp] theorem State.advanceTo_log (s : State) (t : Nat) : (s.advanceTo t).log = s.log := rfl
@[simp] theorem State.advanceTo_io (s : State) (t : Nat) : (s.advanceTo t).io = s.io := rfl
@[simp] theorem State.advanceTo_regs (s : State) (t : Nat) : (s.advanceTo t).regs = s.regs := rfl
@[simp] theorem State.advanceTo_sel (s : State) (t : Nat) : (s.advanceTo t).sel = s.sel := rfl
@[simp] theorem State.advanceTo_sent (s : State) (t : Nat) : (s.advanceTo t).sent = s.sent := rfl

/-! `State.modPair` changes `pair` alone. -/

@[simp] theorem State.modPair_pending (s : State) (f : Pair → Pair) : (s.modPair f).pending = s.pending := rfl
@[simp] theorem State.modPair_free (s : State) (f : Pair → Pair) : (s.modPair f).free = s.free := rfl
@[simp] theorem State.modPair_clock (s : State) (f : Pair → Pair) : (s.modPair f).clock = s.clock := rfl
@[simp] theorem State.modPair_power (s : State) (f : Pair → Pair) : (s.modPair f).power = s.power := rfl
@[simp] theorem State.modPair_thermal (s : State) (f : Pair → Pair) : (s.modPair f).thermal = s.thermal := rfl
@[simp] theorem State.modPair_net (s : State) (f : Pair → Pair) : (s.modPair f).net = s.net := rfl
@[simp] theorem State.modPair_qps (s : State) (f : Pair → Pair) : (s.modPair f).qps = s.qps := rfl
@[simp] theorem State.modPair_qpMax (s : State) (f : Pair → Pair) : (s.modPair f).qpMax = s.qpMax := rfl
@[simp] theorem State.modPair_rdMax (s : State) (f : Pair → Pair) : (s.modPair f).rdMax = s.rdMax := rfl
@[simp] theorem State.modPair_jobs (s : State) (f : Pair → Pair) : (s.modPair f).jobs = s.jobs := rfl
@[simp] theorem State.modPair_jobSeq (s : State) (f : Pair → Pair) : (s.modPair f).jobSeq = s.jobSeq := rfl
@[simp] theorem State.modPair_readySeq (s : State) (f : Pair → Pair) : (s.modPair f).readySeq = s.readySeq := rfl
@[simp] theorem State.modPair_tiles (s : State) (f : Pair → Pair) : (s.modPair f).tiles = s.tiles := rfl
@[simp] theorem State.modPair_courses (s : State) (f : Pair → Pair) : (s.modPair f).courses = s.courses := rfl
@[simp] theorem State.modPair_ctxs (s : State) (f : Pair → Pair) : (s.modPair f).ctxs = s.ctxs := rfl
@[simp] theorem State.modPair_keys (s : State) (f : Pair → Pair) : (s.modPair f).keys = s.keys := rfl
@[simp] theorem State.modPair_commit (s : State) (f : Pair → Pair) : (s.modPair f).commit = s.commit := rfl
@[simp] theorem State.modPair_vault (s : State) (f : Pair → Pair) : (s.modPair f).vault = s.vault := rfl
@[simp] theorem State.modPair_guard (s : State) (f : Pair → Pair) : (s.modPair f).guard = s.guard := rfl
@[simp] theorem State.modPair_dram (s : State) (f : Pair → Pair) : (s.modPair f).dram = s.dram := rfl
@[simp] theorem State.modPair_ent (s : State) (f : Pair → Pair) : (s.modPair f).ent = s.ent := rfl
@[simp] theorem State.modPair_tabs (s : State) (f : Pair → Pair) : (s.modPair f).tabs = s.tabs := rfl
@[simp] theorem State.modPair_life (s : State) (f : Pair → Pair) : (s.modPair f).life = s.life := rfl
@[simp] theorem State.modPair_mgmt (s : State) (f : Pair → Pair) : (s.modPair f).mgmt = s.mgmt := rfl
@[simp] theorem State.modPair_copyA (s : State) (f : Pair → Pair) : (s.modPair f).copyA = s.copyA := rfl
@[simp] theorem State.modPair_copyB (s : State) (f : Pair → Pair) : (s.modPair f).copyB = s.copyB := rfl
@[simp] theorem State.modPair_boot (s : State) (f : Pair → Pair) : (s.modPair f).boot = s.boot := rfl
@[simp] theorem State.modPair_log (s : State) (f : Pair → Pair) : (s.modPair f).log = s.log := rfl
@[simp] theorem State.modPair_io (s : State) (f : Pair → Pair) : (s.modPair f).io = s.io := rfl
@[simp] theorem State.modPair_regs (s : State) (f : Pair → Pair) : (s.modPair f).regs = s.regs := rfl
@[simp] theorem State.modPair_sel (s : State) (f : Pair → Pair) : (s.modPair f).sel = s.sel := rfl
@[simp] theorem State.modPair_sent (s : State) (f : Pair → Pair) : (s.modPair f).sent = s.sent := rfl

/-! `State.setPower` changes `power` alone. -/

@[simp] theorem State.setPower_pending (s : State) (p : Power) : (s.setPower p).pending = s.pending := rfl
@[simp] theorem State.setPower_free (s : State) (p : Power) : (s.setPower p).free = s.free := rfl
@[simp] theorem State.setPower_clock (s : State) (p : Power) : (s.setPower p).clock = s.clock := rfl
@[simp] theorem State.setPower_thermal (s : State) (p : Power) : (s.setPower p).thermal = s.thermal := rfl
@[simp] theorem State.setPower_net (s : State) (p : Power) : (s.setPower p).net = s.net := rfl
@[simp] theorem State.setPower_qps (s : State) (p : Power) : (s.setPower p).qps = s.qps := rfl
@[simp] theorem State.setPower_qpMax (s : State) (p : Power) : (s.setPower p).qpMax = s.qpMax := rfl
@[simp] theorem State.setPower_rdMax (s : State) (p : Power) : (s.setPower p).rdMax = s.rdMax := rfl
@[simp] theorem State.setPower_jobs (s : State) (p : Power) : (s.setPower p).jobs = s.jobs := rfl
@[simp] theorem State.setPower_jobSeq (s : State) (p : Power) : (s.setPower p).jobSeq = s.jobSeq := rfl
@[simp] theorem State.setPower_readySeq (s : State) (p : Power) : (s.setPower p).readySeq = s.readySeq := rfl
@[simp] theorem State.setPower_tiles (s : State) (p : Power) : (s.setPower p).tiles = s.tiles := rfl
@[simp] theorem State.setPower_courses (s : State) (p : Power) : (s.setPower p).courses = s.courses := rfl
@[simp] theorem State.setPower_ctxs (s : State) (p : Power) : (s.setPower p).ctxs = s.ctxs := rfl
@[simp] theorem State.setPower_keys (s : State) (p : Power) : (s.setPower p).keys = s.keys := rfl
@[simp] theorem State.setPower_commit (s : State) (p : Power) : (s.setPower p).commit = s.commit := rfl
@[simp] theorem State.setPower_vault (s : State) (p : Power) : (s.setPower p).vault = s.vault := rfl
@[simp] theorem State.setPower_guard (s : State) (p : Power) : (s.setPower p).guard = s.guard := rfl
@[simp] theorem State.setPower_dram (s : State) (p : Power) : (s.setPower p).dram = s.dram := rfl
@[simp] theorem State.setPower_ent (s : State) (p : Power) : (s.setPower p).ent = s.ent := rfl
@[simp] theorem State.setPower_tabs (s : State) (p : Power) : (s.setPower p).tabs = s.tabs := rfl
@[simp] theorem State.setPower_life (s : State) (p : Power) : (s.setPower p).life = s.life := rfl
@[simp] theorem State.setPower_pair (s : State) (p : Power) : (s.setPower p).pair = s.pair := rfl
@[simp] theorem State.setPower_mgmt (s : State) (p : Power) : (s.setPower p).mgmt = s.mgmt := rfl
@[simp] theorem State.setPower_copyA (s : State) (p : Power) : (s.setPower p).copyA = s.copyA := rfl
@[simp] theorem State.setPower_copyB (s : State) (p : Power) : (s.setPower p).copyB = s.copyB := rfl
@[simp] theorem State.setPower_boot (s : State) (p : Power) : (s.setPower p).boot = s.boot := rfl
@[simp] theorem State.setPower_log (s : State) (p : Power) : (s.setPower p).log = s.log := rfl
@[simp] theorem State.setPower_io (s : State) (p : Power) : (s.setPower p).io = s.io := rfl
@[simp] theorem State.setPower_regs (s : State) (p : Power) : (s.setPower p).regs = s.regs := rfl
@[simp] theorem State.setPower_sel (s : State) (p : Power) : (s.setPower p).sel = s.sel := rfl
@[simp] theorem State.setPower_sent (s : State) (p : Power) : (s.setPower p).sent = s.sent := rfl

/-! `State.modPort` changes `net` alone. -/

@[simp] theorem State.modPort_pending (s : State) (n : Nat) (f : Port → Port) : (s.modPort n f).pending = s.pending := by unfold State.modPort; split <;> rfl
@[simp] theorem State.modPort_free (s : State) (n : Nat) (f : Port → Port) : (s.modPort n f).free = s.free := by unfold State.modPort; split <;> rfl
@[simp] theorem State.modPort_clock (s : State) (n : Nat) (f : Port → Port) : (s.modPort n f).clock = s.clock := by unfold State.modPort; split <;> rfl
@[simp] theorem State.modPort_power (s : State) (n : Nat) (f : Port → Port) : (s.modPort n f).power = s.power := by unfold State.modPort; split <;> rfl
@[simp] theorem State.modPort_thermal (s : State) (n : Nat) (f : Port → Port) : (s.modPort n f).thermal = s.thermal := by unfold State.modPort; split <;> rfl
@[simp] theorem State.modPort_qps (s : State) (n : Nat) (f : Port → Port) : (s.modPort n f).qps = s.qps := by unfold State.modPort; split <;> rfl
@[simp] theorem State.modPort_qpMax (s : State) (n : Nat) (f : Port → Port) : (s.modPort n f).qpMax = s.qpMax := by unfold State.modPort; split <;> rfl
@[simp] theorem State.modPort_rdMax (s : State) (n : Nat) (f : Port → Port) : (s.modPort n f).rdMax = s.rdMax := by unfold State.modPort; split <;> rfl
@[simp] theorem State.modPort_jobs (s : State) (n : Nat) (f : Port → Port) : (s.modPort n f).jobs = s.jobs := by unfold State.modPort; split <;> rfl
@[simp] theorem State.modPort_jobSeq (s : State) (n : Nat) (f : Port → Port) : (s.modPort n f).jobSeq = s.jobSeq := by unfold State.modPort; split <;> rfl
@[simp] theorem State.modPort_readySeq (s : State) (n : Nat) (f : Port → Port) : (s.modPort n f).readySeq = s.readySeq := by unfold State.modPort; split <;> rfl
@[simp] theorem State.modPort_tiles (s : State) (n : Nat) (f : Port → Port) : (s.modPort n f).tiles = s.tiles := by unfold State.modPort; split <;> rfl
@[simp] theorem State.modPort_courses (s : State) (n : Nat) (f : Port → Port) : (s.modPort n f).courses = s.courses := by unfold State.modPort; split <;> rfl
@[simp] theorem State.modPort_ctxs (s : State) (n : Nat) (f : Port → Port) : (s.modPort n f).ctxs = s.ctxs := by unfold State.modPort; split <;> rfl
@[simp] theorem State.modPort_keys (s : State) (n : Nat) (f : Port → Port) : (s.modPort n f).keys = s.keys := by unfold State.modPort; split <;> rfl
@[simp] theorem State.modPort_commit (s : State) (n : Nat) (f : Port → Port) : (s.modPort n f).commit = s.commit := by unfold State.modPort; split <;> rfl
@[simp] theorem State.modPort_vault (s : State) (n : Nat) (f : Port → Port) : (s.modPort n f).vault = s.vault := by unfold State.modPort; split <;> rfl
@[simp] theorem State.modPort_guard (s : State) (n : Nat) (f : Port → Port) : (s.modPort n f).guard = s.guard := by unfold State.modPort; split <;> rfl
@[simp] theorem State.modPort_dram (s : State) (n : Nat) (f : Port → Port) : (s.modPort n f).dram = s.dram := by unfold State.modPort; split <;> rfl
@[simp] theorem State.modPort_ent (s : State) (n : Nat) (f : Port → Port) : (s.modPort n f).ent = s.ent := by unfold State.modPort; split <;> rfl
@[simp] theorem State.modPort_tabs (s : State) (n : Nat) (f : Port → Port) : (s.modPort n f).tabs = s.tabs := by unfold State.modPort; split <;> rfl
@[simp] theorem State.modPort_life (s : State) (n : Nat) (f : Port → Port) : (s.modPort n f).life = s.life := by unfold State.modPort; split <;> rfl
@[simp] theorem State.modPort_pair (s : State) (n : Nat) (f : Port → Port) : (s.modPort n f).pair = s.pair := by unfold State.modPort; split <;> rfl
@[simp] theorem State.modPort_mgmt (s : State) (n : Nat) (f : Port → Port) : (s.modPort n f).mgmt = s.mgmt := by unfold State.modPort; split <;> rfl
@[simp] theorem State.modPort_copyA (s : State) (n : Nat) (f : Port → Port) : (s.modPort n f).copyA = s.copyA := by unfold State.modPort; split <;> rfl
@[simp] theorem State.modPort_copyB (s : State) (n : Nat) (f : Port → Port) : (s.modPort n f).copyB = s.copyB := by unfold State.modPort; split <;> rfl
@[simp] theorem State.modPort_boot (s : State) (n : Nat) (f : Port → Port) : (s.modPort n f).boot = s.boot := by unfold State.modPort; split <;> rfl
@[simp] theorem State.modPort_log (s : State) (n : Nat) (f : Port → Port) : (s.modPort n f).log = s.log := by unfold State.modPort; split <;> rfl
@[simp] theorem State.modPort_io (s : State) (n : Nat) (f : Port → Port) : (s.modPort n f).io = s.io := by unfold State.modPort; split <;> rfl
@[simp] theorem State.modPort_regs (s : State) (n : Nat) (f : Port → Port) : (s.modPort n f).regs = s.regs := by unfold State.modPort; split <;> rfl
@[simp] theorem State.modPort_sel (s : State) (n : Nat) (f : Port → Port) : (s.modPort n f).sel = s.sel := by unfold State.modPort; split <;> rfl
@[simp] theorem State.modPort_sent (s : State) (n : Nat) (f : Port → Port) : (s.modPort n f).sent = s.sent := by unfold State.modPort; split <;> rfl

/-! `State.modCell` changes `guard` alone. -/

@[simp] theorem State.modCell_pending (s : State) (n : Nat) (f : Cell → Cell) : (s.modCell n f).pending = s.pending := by unfold State.modCell; split <;> rfl
@[simp] theorem State.modCell_free (s : State) (n : Nat) (f : Cell → Cell) : (s.modCell n f).free = s.free := by unfold State.modCell; split <;> rfl
@[simp] theorem State.modCell_clock (s : State) (n : Nat) (f : Cell → Cell) : (s.modCell n f).clock = s.clock := by unfold State.modCell; split <;> rfl
@[simp] theorem State.modCell_power (s : State) (n : Nat) (f : Cell → Cell) : (s.modCell n f).power = s.power := by unfold State.modCell; split <;> rfl
@[simp] theorem State.modCell_thermal (s : State) (n : Nat) (f : Cell → Cell) : (s.modCell n f).thermal = s.thermal := by unfold State.modCell; split <;> rfl
@[simp] theorem State.modCell_net (s : State) (n : Nat) (f : Cell → Cell) : (s.modCell n f).net = s.net := by unfold State.modCell; split <;> rfl
@[simp] theorem State.modCell_qps (s : State) (n : Nat) (f : Cell → Cell) : (s.modCell n f).qps = s.qps := by unfold State.modCell; split <;> rfl
@[simp] theorem State.modCell_qpMax (s : State) (n : Nat) (f : Cell → Cell) : (s.modCell n f).qpMax = s.qpMax := by unfold State.modCell; split <;> rfl
@[simp] theorem State.modCell_rdMax (s : State) (n : Nat) (f : Cell → Cell) : (s.modCell n f).rdMax = s.rdMax := by unfold State.modCell; split <;> rfl
@[simp] theorem State.modCell_jobs (s : State) (n : Nat) (f : Cell → Cell) : (s.modCell n f).jobs = s.jobs := by unfold State.modCell; split <;> rfl
@[simp] theorem State.modCell_jobSeq (s : State) (n : Nat) (f : Cell → Cell) : (s.modCell n f).jobSeq = s.jobSeq := by unfold State.modCell; split <;> rfl
@[simp] theorem State.modCell_readySeq (s : State) (n : Nat) (f : Cell → Cell) : (s.modCell n f).readySeq = s.readySeq := by unfold State.modCell; split <;> rfl
@[simp] theorem State.modCell_tiles (s : State) (n : Nat) (f : Cell → Cell) : (s.modCell n f).tiles = s.tiles := by unfold State.modCell; split <;> rfl
@[simp] theorem State.modCell_courses (s : State) (n : Nat) (f : Cell → Cell) : (s.modCell n f).courses = s.courses := by unfold State.modCell; split <;> rfl
@[simp] theorem State.modCell_ctxs (s : State) (n : Nat) (f : Cell → Cell) : (s.modCell n f).ctxs = s.ctxs := by unfold State.modCell; split <;> rfl
@[simp] theorem State.modCell_keys (s : State) (n : Nat) (f : Cell → Cell) : (s.modCell n f).keys = s.keys := by unfold State.modCell; split <;> rfl
@[simp] theorem State.modCell_commit (s : State) (n : Nat) (f : Cell → Cell) : (s.modCell n f).commit = s.commit := by unfold State.modCell; split <;> rfl
@[simp] theorem State.modCell_vault (s : State) (n : Nat) (f : Cell → Cell) : (s.modCell n f).vault = s.vault := by unfold State.modCell; split <;> rfl
@[simp] theorem State.modCell_dram (s : State) (n : Nat) (f : Cell → Cell) : (s.modCell n f).dram = s.dram := by unfold State.modCell; split <;> rfl
@[simp] theorem State.modCell_ent (s : State) (n : Nat) (f : Cell → Cell) : (s.modCell n f).ent = s.ent := by unfold State.modCell; split <;> rfl
@[simp] theorem State.modCell_tabs (s : State) (n : Nat) (f : Cell → Cell) : (s.modCell n f).tabs = s.tabs := by unfold State.modCell; split <;> rfl
@[simp] theorem State.modCell_life (s : State) (n : Nat) (f : Cell → Cell) : (s.modCell n f).life = s.life := by unfold State.modCell; split <;> rfl
@[simp] theorem State.modCell_pair (s : State) (n : Nat) (f : Cell → Cell) : (s.modCell n f).pair = s.pair := by unfold State.modCell; split <;> rfl
@[simp] theorem State.modCell_mgmt (s : State) (n : Nat) (f : Cell → Cell) : (s.modCell n f).mgmt = s.mgmt := by unfold State.modCell; split <;> rfl
@[simp] theorem State.modCell_copyA (s : State) (n : Nat) (f : Cell → Cell) : (s.modCell n f).copyA = s.copyA := by unfold State.modCell; split <;> rfl
@[simp] theorem State.modCell_copyB (s : State) (n : Nat) (f : Cell → Cell) : (s.modCell n f).copyB = s.copyB := by unfold State.modCell; split <;> rfl
@[simp] theorem State.modCell_boot (s : State) (n : Nat) (f : Cell → Cell) : (s.modCell n f).boot = s.boot := by unfold State.modCell; split <;> rfl
@[simp] theorem State.modCell_log (s : State) (n : Nat) (f : Cell → Cell) : (s.modCell n f).log = s.log := by unfold State.modCell; split <;> rfl
@[simp] theorem State.modCell_io (s : State) (n : Nat) (f : Cell → Cell) : (s.modCell n f).io = s.io := by unfold State.modCell; split <;> rfl
@[simp] theorem State.modCell_regs (s : State) (n : Nat) (f : Cell → Cell) : (s.modCell n f).regs = s.regs := by unfold State.modCell; split <;> rfl
@[simp] theorem State.modCell_sel (s : State) (n : Nat) (f : Cell → Cell) : (s.modCell n f).sel = s.sel := by unfold State.modCell; split <;> rfl
@[simp] theorem State.modCell_sent (s : State) (n : Nat) (f : Cell → Cell) : (s.modCell n f).sent = s.sent := by unfold State.modCell; split <;> rfl

/-! `State.modCard` changes `io` alone. -/

@[simp] theorem State.modCard_pending (s : State) (n : Nat) (f : CardPort → CardPort) : (s.modCard n f).pending = s.pending := rfl
@[simp] theorem State.modCard_free (s : State) (n : Nat) (f : CardPort → CardPort) : (s.modCard n f).free = s.free := rfl
@[simp] theorem State.modCard_clock (s : State) (n : Nat) (f : CardPort → CardPort) : (s.modCard n f).clock = s.clock := rfl
@[simp] theorem State.modCard_power (s : State) (n : Nat) (f : CardPort → CardPort) : (s.modCard n f).power = s.power := rfl
@[simp] theorem State.modCard_thermal (s : State) (n : Nat) (f : CardPort → CardPort) : (s.modCard n f).thermal = s.thermal := rfl
@[simp] theorem State.modCard_net (s : State) (n : Nat) (f : CardPort → CardPort) : (s.modCard n f).net = s.net := rfl
@[simp] theorem State.modCard_qps (s : State) (n : Nat) (f : CardPort → CardPort) : (s.modCard n f).qps = s.qps := rfl
@[simp] theorem State.modCard_qpMax (s : State) (n : Nat) (f : CardPort → CardPort) : (s.modCard n f).qpMax = s.qpMax := rfl
@[simp] theorem State.modCard_rdMax (s : State) (n : Nat) (f : CardPort → CardPort) : (s.modCard n f).rdMax = s.rdMax := rfl
@[simp] theorem State.modCard_jobs (s : State) (n : Nat) (f : CardPort → CardPort) : (s.modCard n f).jobs = s.jobs := rfl
@[simp] theorem State.modCard_jobSeq (s : State) (n : Nat) (f : CardPort → CardPort) : (s.modCard n f).jobSeq = s.jobSeq := rfl
@[simp] theorem State.modCard_readySeq (s : State) (n : Nat) (f : CardPort → CardPort) : (s.modCard n f).readySeq = s.readySeq := rfl
@[simp] theorem State.modCard_tiles (s : State) (n : Nat) (f : CardPort → CardPort) : (s.modCard n f).tiles = s.tiles := rfl
@[simp] theorem State.modCard_courses (s : State) (n : Nat) (f : CardPort → CardPort) : (s.modCard n f).courses = s.courses := rfl
@[simp] theorem State.modCard_ctxs (s : State) (n : Nat) (f : CardPort → CardPort) : (s.modCard n f).ctxs = s.ctxs := rfl
@[simp] theorem State.modCard_keys (s : State) (n : Nat) (f : CardPort → CardPort) : (s.modCard n f).keys = s.keys := rfl
@[simp] theorem State.modCard_commit (s : State) (n : Nat) (f : CardPort → CardPort) : (s.modCard n f).commit = s.commit := rfl
@[simp] theorem State.modCard_vault (s : State) (n : Nat) (f : CardPort → CardPort) : (s.modCard n f).vault = s.vault := rfl
@[simp] theorem State.modCard_guard (s : State) (n : Nat) (f : CardPort → CardPort) : (s.modCard n f).guard = s.guard := rfl
@[simp] theorem State.modCard_dram (s : State) (n : Nat) (f : CardPort → CardPort) : (s.modCard n f).dram = s.dram := rfl
@[simp] theorem State.modCard_ent (s : State) (n : Nat) (f : CardPort → CardPort) : (s.modCard n f).ent = s.ent := rfl
@[simp] theorem State.modCard_tabs (s : State) (n : Nat) (f : CardPort → CardPort) : (s.modCard n f).tabs = s.tabs := rfl
@[simp] theorem State.modCard_life (s : State) (n : Nat) (f : CardPort → CardPort) : (s.modCard n f).life = s.life := rfl
@[simp] theorem State.modCard_pair (s : State) (n : Nat) (f : CardPort → CardPort) : (s.modCard n f).pair = s.pair := rfl
@[simp] theorem State.modCard_mgmt (s : State) (n : Nat) (f : CardPort → CardPort) : (s.modCard n f).mgmt = s.mgmt := rfl
@[simp] theorem State.modCard_copyA (s : State) (n : Nat) (f : CardPort → CardPort) : (s.modCard n f).copyA = s.copyA := rfl
@[simp] theorem State.modCard_copyB (s : State) (n : Nat) (f : CardPort → CardPort) : (s.modCard n f).copyB = s.copyB := rfl
@[simp] theorem State.modCard_boot (s : State) (n : Nat) (f : CardPort → CardPort) : (s.modCard n f).boot = s.boot := rfl
@[simp] theorem State.modCard_log (s : State) (n : Nat) (f : CardPort → CardPort) : (s.modCard n f).log = s.log := rfl
@[simp] theorem State.modCard_regs (s : State) (n : Nat) (f : CardPort → CardPort) : (s.modCard n f).regs = s.regs := rfl
@[simp] theorem State.modCard_sel (s : State) (n : Nat) (f : CardPort → CardPort) : (s.modCard n f).sel = s.sel := rfl
@[simp] theorem State.modCard_sent (s : State) (n : Nat) (f : CardPort → CardPort) : (s.modCard n f).sent = s.sent := rfl

/-! `State.modChan` changes `dram` alone. -/

@[simp] theorem State.modChan_pending (s : State) (n : Nat) (f : Channel → Channel) : (s.modChan n f).pending = s.pending := rfl
@[simp] theorem State.modChan_free (s : State) (n : Nat) (f : Channel → Channel) : (s.modChan n f).free = s.free := rfl
@[simp] theorem State.modChan_clock (s : State) (n : Nat) (f : Channel → Channel) : (s.modChan n f).clock = s.clock := rfl
@[simp] theorem State.modChan_power (s : State) (n : Nat) (f : Channel → Channel) : (s.modChan n f).power = s.power := rfl
@[simp] theorem State.modChan_thermal (s : State) (n : Nat) (f : Channel → Channel) : (s.modChan n f).thermal = s.thermal := rfl
@[simp] theorem State.modChan_net (s : State) (n : Nat) (f : Channel → Channel) : (s.modChan n f).net = s.net := rfl
@[simp] theorem State.modChan_qps (s : State) (n : Nat) (f : Channel → Channel) : (s.modChan n f).qps = s.qps := rfl
@[simp] theorem State.modChan_qpMax (s : State) (n : Nat) (f : Channel → Channel) : (s.modChan n f).qpMax = s.qpMax := rfl
@[simp] theorem State.modChan_rdMax (s : State) (n : Nat) (f : Channel → Channel) : (s.modChan n f).rdMax = s.rdMax := rfl
@[simp] theorem State.modChan_jobs (s : State) (n : Nat) (f : Channel → Channel) : (s.modChan n f).jobs = s.jobs := rfl
@[simp] theorem State.modChan_jobSeq (s : State) (n : Nat) (f : Channel → Channel) : (s.modChan n f).jobSeq = s.jobSeq := rfl
@[simp] theorem State.modChan_readySeq (s : State) (n : Nat) (f : Channel → Channel) : (s.modChan n f).readySeq = s.readySeq := rfl
@[simp] theorem State.modChan_tiles (s : State) (n : Nat) (f : Channel → Channel) : (s.modChan n f).tiles = s.tiles := rfl
@[simp] theorem State.modChan_courses (s : State) (n : Nat) (f : Channel → Channel) : (s.modChan n f).courses = s.courses := rfl
@[simp] theorem State.modChan_ctxs (s : State) (n : Nat) (f : Channel → Channel) : (s.modChan n f).ctxs = s.ctxs := rfl
@[simp] theorem State.modChan_keys (s : State) (n : Nat) (f : Channel → Channel) : (s.modChan n f).keys = s.keys := rfl
@[simp] theorem State.modChan_commit (s : State) (n : Nat) (f : Channel → Channel) : (s.modChan n f).commit = s.commit := rfl
@[simp] theorem State.modChan_vault (s : State) (n : Nat) (f : Channel → Channel) : (s.modChan n f).vault = s.vault := rfl
@[simp] theorem State.modChan_guard (s : State) (n : Nat) (f : Channel → Channel) : (s.modChan n f).guard = s.guard := rfl
@[simp] theorem State.modChan_ent (s : State) (n : Nat) (f : Channel → Channel) : (s.modChan n f).ent = s.ent := rfl
@[simp] theorem State.modChan_tabs (s : State) (n : Nat) (f : Channel → Channel) : (s.modChan n f).tabs = s.tabs := rfl
@[simp] theorem State.modChan_life (s : State) (n : Nat) (f : Channel → Channel) : (s.modChan n f).life = s.life := rfl
@[simp] theorem State.modChan_pair (s : State) (n : Nat) (f : Channel → Channel) : (s.modChan n f).pair = s.pair := rfl
@[simp] theorem State.modChan_mgmt (s : State) (n : Nat) (f : Channel → Channel) : (s.modChan n f).mgmt = s.mgmt := rfl
@[simp] theorem State.modChan_copyA (s : State) (n : Nat) (f : Channel → Channel) : (s.modChan n f).copyA = s.copyA := rfl
@[simp] theorem State.modChan_copyB (s : State) (n : Nat) (f : Channel → Channel) : (s.modChan n f).copyB = s.copyB := rfl
@[simp] theorem State.modChan_boot (s : State) (n : Nat) (f : Channel → Channel) : (s.modChan n f).boot = s.boot := rfl
@[simp] theorem State.modChan_log (s : State) (n : Nat) (f : Channel → Channel) : (s.modChan n f).log = s.log := rfl
@[simp] theorem State.modChan_io (s : State) (n : Nat) (f : Channel → Channel) : (s.modChan n f).io = s.io := rfl
@[simp] theorem State.modChan_regs (s : State) (n : Nat) (f : Channel → Channel) : (s.modChan n f).regs = s.regs := rfl
@[simp] theorem State.modChan_sel (s : State) (n : Nat) (f : Channel → Channel) : (s.modChan n f).sel = s.sel := rfl
@[simp] theorem State.modChan_sent (s : State) (n : Nat) (f : Channel → Channel) : (s.modChan n f).sent = s.sent := rfl

/-! `State.modSource` changes `ent` alone. -/

@[simp] theorem State.modSource_pending (s : State) (n : Nat) (f : Source → Source) : (s.modSource n f).pending = s.pending := rfl
@[simp] theorem State.modSource_free (s : State) (n : Nat) (f : Source → Source) : (s.modSource n f).free = s.free := rfl
@[simp] theorem State.modSource_clock (s : State) (n : Nat) (f : Source → Source) : (s.modSource n f).clock = s.clock := rfl
@[simp] theorem State.modSource_power (s : State) (n : Nat) (f : Source → Source) : (s.modSource n f).power = s.power := rfl
@[simp] theorem State.modSource_thermal (s : State) (n : Nat) (f : Source → Source) : (s.modSource n f).thermal = s.thermal := rfl
@[simp] theorem State.modSource_net (s : State) (n : Nat) (f : Source → Source) : (s.modSource n f).net = s.net := rfl
@[simp] theorem State.modSource_qps (s : State) (n : Nat) (f : Source → Source) : (s.modSource n f).qps = s.qps := rfl
@[simp] theorem State.modSource_qpMax (s : State) (n : Nat) (f : Source → Source) : (s.modSource n f).qpMax = s.qpMax := rfl
@[simp] theorem State.modSource_rdMax (s : State) (n : Nat) (f : Source → Source) : (s.modSource n f).rdMax = s.rdMax := rfl
@[simp] theorem State.modSource_jobs (s : State) (n : Nat) (f : Source → Source) : (s.modSource n f).jobs = s.jobs := rfl
@[simp] theorem State.modSource_jobSeq (s : State) (n : Nat) (f : Source → Source) : (s.modSource n f).jobSeq = s.jobSeq := rfl
@[simp] theorem State.modSource_readySeq (s : State) (n : Nat) (f : Source → Source) : (s.modSource n f).readySeq = s.readySeq := rfl
@[simp] theorem State.modSource_tiles (s : State) (n : Nat) (f : Source → Source) : (s.modSource n f).tiles = s.tiles := rfl
@[simp] theorem State.modSource_courses (s : State) (n : Nat) (f : Source → Source) : (s.modSource n f).courses = s.courses := rfl
@[simp] theorem State.modSource_ctxs (s : State) (n : Nat) (f : Source → Source) : (s.modSource n f).ctxs = s.ctxs := rfl
@[simp] theorem State.modSource_keys (s : State) (n : Nat) (f : Source → Source) : (s.modSource n f).keys = s.keys := rfl
@[simp] theorem State.modSource_commit (s : State) (n : Nat) (f : Source → Source) : (s.modSource n f).commit = s.commit := rfl
@[simp] theorem State.modSource_vault (s : State) (n : Nat) (f : Source → Source) : (s.modSource n f).vault = s.vault := rfl
@[simp] theorem State.modSource_guard (s : State) (n : Nat) (f : Source → Source) : (s.modSource n f).guard = s.guard := rfl
@[simp] theorem State.modSource_dram (s : State) (n : Nat) (f : Source → Source) : (s.modSource n f).dram = s.dram := rfl
@[simp] theorem State.modSource_tabs (s : State) (n : Nat) (f : Source → Source) : (s.modSource n f).tabs = s.tabs := rfl
@[simp] theorem State.modSource_life (s : State) (n : Nat) (f : Source → Source) : (s.modSource n f).life = s.life := rfl
@[simp] theorem State.modSource_pair (s : State) (n : Nat) (f : Source → Source) : (s.modSource n f).pair = s.pair := rfl
@[simp] theorem State.modSource_mgmt (s : State) (n : Nat) (f : Source → Source) : (s.modSource n f).mgmt = s.mgmt := rfl
@[simp] theorem State.modSource_copyA (s : State) (n : Nat) (f : Source → Source) : (s.modSource n f).copyA = s.copyA := rfl
@[simp] theorem State.modSource_copyB (s : State) (n : Nat) (f : Source → Source) : (s.modSource n f).copyB = s.copyB := rfl
@[simp] theorem State.modSource_boot (s : State) (n : Nat) (f : Source → Source) : (s.modSource n f).boot = s.boot := rfl
@[simp] theorem State.modSource_log (s : State) (n : Nat) (f : Source → Source) : (s.modSource n f).log = s.log := rfl
@[simp] theorem State.modSource_io (s : State) (n : Nat) (f : Source → Source) : (s.modSource n f).io = s.io := rfl
@[simp] theorem State.modSource_regs (s : State) (n : Nat) (f : Source → Source) : (s.modSource n f).regs = s.regs := rfl
@[simp] theorem State.modSource_sel (s : State) (n : Nat) (f : Source → Source) : (s.modSource n f).sel = s.sel := rfl
@[simp] theorem State.modSource_sent (s : State) (n : Nat) (f : Source → Source) : (s.modSource n f).sent = s.sent := rfl

/-! `State.modInst` changes `ent` alone. -/

@[simp] theorem State.modInst_pending (s : State) (p : Nat) (f : Instance → Instance) : (s.modInst p f).pending = s.pending := rfl
@[simp] theorem State.modInst_free (s : State) (p : Nat) (f : Instance → Instance) : (s.modInst p f).free = s.free := rfl
@[simp] theorem State.modInst_clock (s : State) (p : Nat) (f : Instance → Instance) : (s.modInst p f).clock = s.clock := rfl
@[simp] theorem State.modInst_power (s : State) (p : Nat) (f : Instance → Instance) : (s.modInst p f).power = s.power := rfl
@[simp] theorem State.modInst_thermal (s : State) (p : Nat) (f : Instance → Instance) : (s.modInst p f).thermal = s.thermal := rfl
@[simp] theorem State.modInst_net (s : State) (p : Nat) (f : Instance → Instance) : (s.modInst p f).net = s.net := rfl
@[simp] theorem State.modInst_qps (s : State) (p : Nat) (f : Instance → Instance) : (s.modInst p f).qps = s.qps := rfl
@[simp] theorem State.modInst_qpMax (s : State) (p : Nat) (f : Instance → Instance) : (s.modInst p f).qpMax = s.qpMax := rfl
@[simp] theorem State.modInst_rdMax (s : State) (p : Nat) (f : Instance → Instance) : (s.modInst p f).rdMax = s.rdMax := rfl
@[simp] theorem State.modInst_jobs (s : State) (p : Nat) (f : Instance → Instance) : (s.modInst p f).jobs = s.jobs := rfl
@[simp] theorem State.modInst_jobSeq (s : State) (p : Nat) (f : Instance → Instance) : (s.modInst p f).jobSeq = s.jobSeq := rfl
@[simp] theorem State.modInst_readySeq (s : State) (p : Nat) (f : Instance → Instance) : (s.modInst p f).readySeq = s.readySeq := rfl
@[simp] theorem State.modInst_tiles (s : State) (p : Nat) (f : Instance → Instance) : (s.modInst p f).tiles = s.tiles := rfl
@[simp] theorem State.modInst_courses (s : State) (p : Nat) (f : Instance → Instance) : (s.modInst p f).courses = s.courses := rfl
@[simp] theorem State.modInst_ctxs (s : State) (p : Nat) (f : Instance → Instance) : (s.modInst p f).ctxs = s.ctxs := rfl
@[simp] theorem State.modInst_keys (s : State) (p : Nat) (f : Instance → Instance) : (s.modInst p f).keys = s.keys := rfl
@[simp] theorem State.modInst_commit (s : State) (p : Nat) (f : Instance → Instance) : (s.modInst p f).commit = s.commit := rfl
@[simp] theorem State.modInst_vault (s : State) (p : Nat) (f : Instance → Instance) : (s.modInst p f).vault = s.vault := rfl
@[simp] theorem State.modInst_guard (s : State) (p : Nat) (f : Instance → Instance) : (s.modInst p f).guard = s.guard := rfl
@[simp] theorem State.modInst_dram (s : State) (p : Nat) (f : Instance → Instance) : (s.modInst p f).dram = s.dram := rfl
@[simp] theorem State.modInst_tabs (s : State) (p : Nat) (f : Instance → Instance) : (s.modInst p f).tabs = s.tabs := rfl
@[simp] theorem State.modInst_life (s : State) (p : Nat) (f : Instance → Instance) : (s.modInst p f).life = s.life := rfl
@[simp] theorem State.modInst_pair (s : State) (p : Nat) (f : Instance → Instance) : (s.modInst p f).pair = s.pair := rfl
@[simp] theorem State.modInst_mgmt (s : State) (p : Nat) (f : Instance → Instance) : (s.modInst p f).mgmt = s.mgmt := rfl
@[simp] theorem State.modInst_copyA (s : State) (p : Nat) (f : Instance → Instance) : (s.modInst p f).copyA = s.copyA := rfl
@[simp] theorem State.modInst_copyB (s : State) (p : Nat) (f : Instance → Instance) : (s.modInst p f).copyB = s.copyB := rfl
@[simp] theorem State.modInst_boot (s : State) (p : Nat) (f : Instance → Instance) : (s.modInst p f).boot = s.boot := rfl
@[simp] theorem State.modInst_log (s : State) (p : Nat) (f : Instance → Instance) : (s.modInst p f).log = s.log := rfl
@[simp] theorem State.modInst_io (s : State) (p : Nat) (f : Instance → Instance) : (s.modInst p f).io = s.io := rfl
@[simp] theorem State.modInst_regs (s : State) (p : Nat) (f : Instance → Instance) : (s.modInst p f).regs = s.regs := rfl
@[simp] theorem State.modInst_sel (s : State) (p : Nat) (f : Instance → Instance) : (s.modInst p f).sel = s.sel := rfl
@[simp] theorem State.modInst_sent (s : State) (p : Nat) (f : Instance → Instance) : (s.modInst p f).sent = s.sent := rfl

/-! `State.modRing` changes `log` alone. -/

@[simp] theorem State.modRing_pending (s : State) (n : Nat) (f : Ring → Ring) : (s.modRing n f).pending = s.pending := rfl
@[simp] theorem State.modRing_free (s : State) (n : Nat) (f : Ring → Ring) : (s.modRing n f).free = s.free := rfl
@[simp] theorem State.modRing_clock (s : State) (n : Nat) (f : Ring → Ring) : (s.modRing n f).clock = s.clock := rfl
@[simp] theorem State.modRing_power (s : State) (n : Nat) (f : Ring → Ring) : (s.modRing n f).power = s.power := rfl
@[simp] theorem State.modRing_thermal (s : State) (n : Nat) (f : Ring → Ring) : (s.modRing n f).thermal = s.thermal := rfl
@[simp] theorem State.modRing_net (s : State) (n : Nat) (f : Ring → Ring) : (s.modRing n f).net = s.net := rfl
@[simp] theorem State.modRing_qps (s : State) (n : Nat) (f : Ring → Ring) : (s.modRing n f).qps = s.qps := rfl
@[simp] theorem State.modRing_qpMax (s : State) (n : Nat) (f : Ring → Ring) : (s.modRing n f).qpMax = s.qpMax := rfl
@[simp] theorem State.modRing_rdMax (s : State) (n : Nat) (f : Ring → Ring) : (s.modRing n f).rdMax = s.rdMax := rfl
@[simp] theorem State.modRing_jobs (s : State) (n : Nat) (f : Ring → Ring) : (s.modRing n f).jobs = s.jobs := rfl
@[simp] theorem State.modRing_jobSeq (s : State) (n : Nat) (f : Ring → Ring) : (s.modRing n f).jobSeq = s.jobSeq := rfl
@[simp] theorem State.modRing_readySeq (s : State) (n : Nat) (f : Ring → Ring) : (s.modRing n f).readySeq = s.readySeq := rfl
@[simp] theorem State.modRing_tiles (s : State) (n : Nat) (f : Ring → Ring) : (s.modRing n f).tiles = s.tiles := rfl
@[simp] theorem State.modRing_courses (s : State) (n : Nat) (f : Ring → Ring) : (s.modRing n f).courses = s.courses := rfl
@[simp] theorem State.modRing_ctxs (s : State) (n : Nat) (f : Ring → Ring) : (s.modRing n f).ctxs = s.ctxs := rfl
@[simp] theorem State.modRing_keys (s : State) (n : Nat) (f : Ring → Ring) : (s.modRing n f).keys = s.keys := rfl
@[simp] theorem State.modRing_commit (s : State) (n : Nat) (f : Ring → Ring) : (s.modRing n f).commit = s.commit := rfl
@[simp] theorem State.modRing_vault (s : State) (n : Nat) (f : Ring → Ring) : (s.modRing n f).vault = s.vault := rfl
@[simp] theorem State.modRing_guard (s : State) (n : Nat) (f : Ring → Ring) : (s.modRing n f).guard = s.guard := rfl
@[simp] theorem State.modRing_dram (s : State) (n : Nat) (f : Ring → Ring) : (s.modRing n f).dram = s.dram := rfl
@[simp] theorem State.modRing_ent (s : State) (n : Nat) (f : Ring → Ring) : (s.modRing n f).ent = s.ent := rfl
@[simp] theorem State.modRing_tabs (s : State) (n : Nat) (f : Ring → Ring) : (s.modRing n f).tabs = s.tabs := rfl
@[simp] theorem State.modRing_life (s : State) (n : Nat) (f : Ring → Ring) : (s.modRing n f).life = s.life := rfl
@[simp] theorem State.modRing_pair (s : State) (n : Nat) (f : Ring → Ring) : (s.modRing n f).pair = s.pair := rfl
@[simp] theorem State.modRing_mgmt (s : State) (n : Nat) (f : Ring → Ring) : (s.modRing n f).mgmt = s.mgmt := rfl
@[simp] theorem State.modRing_copyA (s : State) (n : Nat) (f : Ring → Ring) : (s.modRing n f).copyA = s.copyA := rfl
@[simp] theorem State.modRing_copyB (s : State) (n : Nat) (f : Ring → Ring) : (s.modRing n f).copyB = s.copyB := rfl
@[simp] theorem State.modRing_boot (s : State) (n : Nat) (f : Ring → Ring) : (s.modRing n f).boot = s.boot := rfl
@[simp] theorem State.modRing_io (s : State) (n : Nat) (f : Ring → Ring) : (s.modRing n f).io = s.io := rfl
@[simp] theorem State.modRing_regs (s : State) (n : Nat) (f : Ring → Ring) : (s.modRing n f).regs = s.regs := rfl
@[simp] theorem State.modRing_sel (s : State) (n : Nat) (f : Ring → Ring) : (s.modRing n f).sel = s.sel := rfl
@[simp] theorem State.modRing_sent (s : State) (n : Nat) (f : Ring → Ring) : (s.modRing n f).sent = s.sent := rfl

/-! `State.modPage` changes `keys` alone. -/

@[simp] theorem State.modPage_pending (s : State) (p n : Nat) (f : KeyPage → KeyPage) : (s.modPage p n f).pending = s.pending := rfl
@[simp] theorem State.modPage_free (s : State) (p n : Nat) (f : KeyPage → KeyPage) : (s.modPage p n f).free = s.free := rfl
@[simp] theorem State.modPage_clock (s : State) (p n : Nat) (f : KeyPage → KeyPage) : (s.modPage p n f).clock = s.clock := rfl
@[simp] theorem State.modPage_power (s : State) (p n : Nat) (f : KeyPage → KeyPage) : (s.modPage p n f).power = s.power := rfl
@[simp] theorem State.modPage_thermal (s : State) (p n : Nat) (f : KeyPage → KeyPage) : (s.modPage p n f).thermal = s.thermal := rfl
@[simp] theorem State.modPage_net (s : State) (p n : Nat) (f : KeyPage → KeyPage) : (s.modPage p n f).net = s.net := rfl
@[simp] theorem State.modPage_qps (s : State) (p n : Nat) (f : KeyPage → KeyPage) : (s.modPage p n f).qps = s.qps := rfl
@[simp] theorem State.modPage_qpMax (s : State) (p n : Nat) (f : KeyPage → KeyPage) : (s.modPage p n f).qpMax = s.qpMax := rfl
@[simp] theorem State.modPage_rdMax (s : State) (p n : Nat) (f : KeyPage → KeyPage) : (s.modPage p n f).rdMax = s.rdMax := rfl
@[simp] theorem State.modPage_jobs (s : State) (p n : Nat) (f : KeyPage → KeyPage) : (s.modPage p n f).jobs = s.jobs := rfl
@[simp] theorem State.modPage_jobSeq (s : State) (p n : Nat) (f : KeyPage → KeyPage) : (s.modPage p n f).jobSeq = s.jobSeq := rfl
@[simp] theorem State.modPage_readySeq (s : State) (p n : Nat) (f : KeyPage → KeyPage) : (s.modPage p n f).readySeq = s.readySeq := rfl
@[simp] theorem State.modPage_tiles (s : State) (p n : Nat) (f : KeyPage → KeyPage) : (s.modPage p n f).tiles = s.tiles := rfl
@[simp] theorem State.modPage_courses (s : State) (p n : Nat) (f : KeyPage → KeyPage) : (s.modPage p n f).courses = s.courses := rfl
@[simp] theorem State.modPage_ctxs (s : State) (p n : Nat) (f : KeyPage → KeyPage) : (s.modPage p n f).ctxs = s.ctxs := rfl
@[simp] theorem State.modPage_commit (s : State) (p n : Nat) (f : KeyPage → KeyPage) : (s.modPage p n f).commit = s.commit := rfl
@[simp] theorem State.modPage_vault (s : State) (p n : Nat) (f : KeyPage → KeyPage) : (s.modPage p n f).vault = s.vault := rfl
@[simp] theorem State.modPage_guard (s : State) (p n : Nat) (f : KeyPage → KeyPage) : (s.modPage p n f).guard = s.guard := rfl
@[simp] theorem State.modPage_dram (s : State) (p n : Nat) (f : KeyPage → KeyPage) : (s.modPage p n f).dram = s.dram := rfl
@[simp] theorem State.modPage_ent (s : State) (p n : Nat) (f : KeyPage → KeyPage) : (s.modPage p n f).ent = s.ent := rfl
@[simp] theorem State.modPage_tabs (s : State) (p n : Nat) (f : KeyPage → KeyPage) : (s.modPage p n f).tabs = s.tabs := rfl
@[simp] theorem State.modPage_life (s : State) (p n : Nat) (f : KeyPage → KeyPage) : (s.modPage p n f).life = s.life := rfl
@[simp] theorem State.modPage_pair (s : State) (p n : Nat) (f : KeyPage → KeyPage) : (s.modPage p n f).pair = s.pair := rfl
@[simp] theorem State.modPage_mgmt (s : State) (p n : Nat) (f : KeyPage → KeyPage) : (s.modPage p n f).mgmt = s.mgmt := rfl
@[simp] theorem State.modPage_copyA (s : State) (p n : Nat) (f : KeyPage → KeyPage) : (s.modPage p n f).copyA = s.copyA := rfl
@[simp] theorem State.modPage_copyB (s : State) (p n : Nat) (f : KeyPage → KeyPage) : (s.modPage p n f).copyB = s.copyB := rfl
@[simp] theorem State.modPage_boot (s : State) (p n : Nat) (f : KeyPage → KeyPage) : (s.modPage p n f).boot = s.boot := rfl
@[simp] theorem State.modPage_log (s : State) (p n : Nat) (f : KeyPage → KeyPage) : (s.modPage p n f).log = s.log := rfl
@[simp] theorem State.modPage_io (s : State) (p n : Nat) (f : KeyPage → KeyPage) : (s.modPage p n f).io = s.io := rfl
@[simp] theorem State.modPage_regs (s : State) (p n : Nat) (f : KeyPage → KeyPage) : (s.modPage p n f).regs = s.regs := rfl
@[simp] theorem State.modPage_sel (s : State) (p n : Nat) (f : KeyPage → KeyPage) : (s.modPage p n f).sel = s.sel := rfl
@[simp] theorem State.modPage_sent (s : State) (p n : Nat) (f : KeyPage → KeyPage) : (s.modPage p n f).sent = s.sent := rfl

/-! `State.modObj` changes `keys` alone. -/

@[simp] theorem State.modObj_pending (s : State) (o : Obj) (f : ObjState → ObjState) : (s.modObj o f).pending = s.pending := rfl
@[simp] theorem State.modObj_free (s : State) (o : Obj) (f : ObjState → ObjState) : (s.modObj o f).free = s.free := rfl
@[simp] theorem State.modObj_clock (s : State) (o : Obj) (f : ObjState → ObjState) : (s.modObj o f).clock = s.clock := rfl
@[simp] theorem State.modObj_power (s : State) (o : Obj) (f : ObjState → ObjState) : (s.modObj o f).power = s.power := rfl
@[simp] theorem State.modObj_thermal (s : State) (o : Obj) (f : ObjState → ObjState) : (s.modObj o f).thermal = s.thermal := rfl
@[simp] theorem State.modObj_net (s : State) (o : Obj) (f : ObjState → ObjState) : (s.modObj o f).net = s.net := rfl
@[simp] theorem State.modObj_qps (s : State) (o : Obj) (f : ObjState → ObjState) : (s.modObj o f).qps = s.qps := rfl
@[simp] theorem State.modObj_qpMax (s : State) (o : Obj) (f : ObjState → ObjState) : (s.modObj o f).qpMax = s.qpMax := rfl
@[simp] theorem State.modObj_rdMax (s : State) (o : Obj) (f : ObjState → ObjState) : (s.modObj o f).rdMax = s.rdMax := rfl
@[simp] theorem State.modObj_jobs (s : State) (o : Obj) (f : ObjState → ObjState) : (s.modObj o f).jobs = s.jobs := rfl
@[simp] theorem State.modObj_jobSeq (s : State) (o : Obj) (f : ObjState → ObjState) : (s.modObj o f).jobSeq = s.jobSeq := rfl
@[simp] theorem State.modObj_readySeq (s : State) (o : Obj) (f : ObjState → ObjState) : (s.modObj o f).readySeq = s.readySeq := rfl
@[simp] theorem State.modObj_tiles (s : State) (o : Obj) (f : ObjState → ObjState) : (s.modObj o f).tiles = s.tiles := rfl
@[simp] theorem State.modObj_courses (s : State) (o : Obj) (f : ObjState → ObjState) : (s.modObj o f).courses = s.courses := rfl
@[simp] theorem State.modObj_ctxs (s : State) (o : Obj) (f : ObjState → ObjState) : (s.modObj o f).ctxs = s.ctxs := rfl
@[simp] theorem State.modObj_commit (s : State) (o : Obj) (f : ObjState → ObjState) : (s.modObj o f).commit = s.commit := rfl
@[simp] theorem State.modObj_vault (s : State) (o : Obj) (f : ObjState → ObjState) : (s.modObj o f).vault = s.vault := rfl
@[simp] theorem State.modObj_guard (s : State) (o : Obj) (f : ObjState → ObjState) : (s.modObj o f).guard = s.guard := rfl
@[simp] theorem State.modObj_dram (s : State) (o : Obj) (f : ObjState → ObjState) : (s.modObj o f).dram = s.dram := rfl
@[simp] theorem State.modObj_ent (s : State) (o : Obj) (f : ObjState → ObjState) : (s.modObj o f).ent = s.ent := rfl
@[simp] theorem State.modObj_tabs (s : State) (o : Obj) (f : ObjState → ObjState) : (s.modObj o f).tabs = s.tabs := rfl
@[simp] theorem State.modObj_life (s : State) (o : Obj) (f : ObjState → ObjState) : (s.modObj o f).life = s.life := rfl
@[simp] theorem State.modObj_pair (s : State) (o : Obj) (f : ObjState → ObjState) : (s.modObj o f).pair = s.pair := rfl
@[simp] theorem State.modObj_mgmt (s : State) (o : Obj) (f : ObjState → ObjState) : (s.modObj o f).mgmt = s.mgmt := rfl
@[simp] theorem State.modObj_copyA (s : State) (o : Obj) (f : ObjState → ObjState) : (s.modObj o f).copyA = s.copyA := rfl
@[simp] theorem State.modObj_copyB (s : State) (o : Obj) (f : ObjState → ObjState) : (s.modObj o f).copyB = s.copyB := rfl
@[simp] theorem State.modObj_boot (s : State) (o : Obj) (f : ObjState → ObjState) : (s.modObj o f).boot = s.boot := rfl
@[simp] theorem State.modObj_log (s : State) (o : Obj) (f : ObjState → ObjState) : (s.modObj o f).log = s.log := rfl
@[simp] theorem State.modObj_io (s : State) (o : Obj) (f : ObjState → ObjState) : (s.modObj o f).io = s.io := rfl
@[simp] theorem State.modObj_regs (s : State) (o : Obj) (f : ObjState → ObjState) : (s.modObj o f).regs = s.regs := rfl
@[simp] theorem State.modObj_sel (s : State) (o : Obj) (f : ObjState → ObjState) : (s.modObj o f).sel = s.sel := rfl
@[simp] theorem State.modObj_sent (s : State) (o : Obj) (f : ObjState → ObjState) : (s.modObj o f).sent = s.sent := rfl

/-! `State.modBatches` changes `commit` alone. -/

@[simp] theorem State.modBatches_pending (s : State) (p : Batch → Bool) (f : Batch → Batch) : (s.modBatches p f).pending = s.pending := rfl
@[simp] theorem State.modBatches_free (s : State) (p : Batch → Bool) (f : Batch → Batch) : (s.modBatches p f).free = s.free := rfl
@[simp] theorem State.modBatches_clock (s : State) (p : Batch → Bool) (f : Batch → Batch) : (s.modBatches p f).clock = s.clock := rfl
@[simp] theorem State.modBatches_power (s : State) (p : Batch → Bool) (f : Batch → Batch) : (s.modBatches p f).power = s.power := rfl
@[simp] theorem State.modBatches_thermal (s : State) (p : Batch → Bool) (f : Batch → Batch) : (s.modBatches p f).thermal = s.thermal := rfl
@[simp] theorem State.modBatches_net (s : State) (p : Batch → Bool) (f : Batch → Batch) : (s.modBatches p f).net = s.net := rfl
@[simp] theorem State.modBatches_qps (s : State) (p : Batch → Bool) (f : Batch → Batch) : (s.modBatches p f).qps = s.qps := rfl
@[simp] theorem State.modBatches_qpMax (s : State) (p : Batch → Bool) (f : Batch → Batch) : (s.modBatches p f).qpMax = s.qpMax := rfl
@[simp] theorem State.modBatches_rdMax (s : State) (p : Batch → Bool) (f : Batch → Batch) : (s.modBatches p f).rdMax = s.rdMax := rfl
@[simp] theorem State.modBatches_jobs (s : State) (p : Batch → Bool) (f : Batch → Batch) : (s.modBatches p f).jobs = s.jobs := rfl
@[simp] theorem State.modBatches_jobSeq (s : State) (p : Batch → Bool) (f : Batch → Batch) : (s.modBatches p f).jobSeq = s.jobSeq := rfl
@[simp] theorem State.modBatches_readySeq (s : State) (p : Batch → Bool) (f : Batch → Batch) : (s.modBatches p f).readySeq = s.readySeq := rfl
@[simp] theorem State.modBatches_tiles (s : State) (p : Batch → Bool) (f : Batch → Batch) : (s.modBatches p f).tiles = s.tiles := rfl
@[simp] theorem State.modBatches_courses (s : State) (p : Batch → Bool) (f : Batch → Batch) : (s.modBatches p f).courses = s.courses := rfl
@[simp] theorem State.modBatches_ctxs (s : State) (p : Batch → Bool) (f : Batch → Batch) : (s.modBatches p f).ctxs = s.ctxs := rfl
@[simp] theorem State.modBatches_keys (s : State) (p : Batch → Bool) (f : Batch → Batch) : (s.modBatches p f).keys = s.keys := rfl
@[simp] theorem State.modBatches_vault (s : State) (p : Batch → Bool) (f : Batch → Batch) : (s.modBatches p f).vault = s.vault := rfl
@[simp] theorem State.modBatches_guard (s : State) (p : Batch → Bool) (f : Batch → Batch) : (s.modBatches p f).guard = s.guard := rfl
@[simp] theorem State.modBatches_dram (s : State) (p : Batch → Bool) (f : Batch → Batch) : (s.modBatches p f).dram = s.dram := rfl
@[simp] theorem State.modBatches_ent (s : State) (p : Batch → Bool) (f : Batch → Batch) : (s.modBatches p f).ent = s.ent := rfl
@[simp] theorem State.modBatches_tabs (s : State) (p : Batch → Bool) (f : Batch → Batch) : (s.modBatches p f).tabs = s.tabs := rfl
@[simp] theorem State.modBatches_life (s : State) (p : Batch → Bool) (f : Batch → Batch) : (s.modBatches p f).life = s.life := rfl
@[simp] theorem State.modBatches_pair (s : State) (p : Batch → Bool) (f : Batch → Batch) : (s.modBatches p f).pair = s.pair := rfl
@[simp] theorem State.modBatches_mgmt (s : State) (p : Batch → Bool) (f : Batch → Batch) : (s.modBatches p f).mgmt = s.mgmt := rfl
@[simp] theorem State.modBatches_copyA (s : State) (p : Batch → Bool) (f : Batch → Batch) : (s.modBatches p f).copyA = s.copyA := rfl
@[simp] theorem State.modBatches_copyB (s : State) (p : Batch → Bool) (f : Batch → Batch) : (s.modBatches p f).copyB = s.copyB := rfl
@[simp] theorem State.modBatches_boot (s : State) (p : Batch → Bool) (f : Batch → Batch) : (s.modBatches p f).boot = s.boot := rfl
@[simp] theorem State.modBatches_log (s : State) (p : Batch → Bool) (f : Batch → Batch) : (s.modBatches p f).log = s.log := rfl
@[simp] theorem State.modBatches_io (s : State) (p : Batch → Bool) (f : Batch → Batch) : (s.modBatches p f).io = s.io := rfl
@[simp] theorem State.modBatches_regs (s : State) (p : Batch → Bool) (f : Batch → Batch) : (s.modBatches p f).regs = s.regs := rfl
@[simp] theorem State.modBatches_sel (s : State) (p : Batch → Bool) (f : Batch → Batch) : (s.modBatches p f).sel = s.sel := rfl
@[simp] theorem State.modBatches_sent (s : State) (p : Batch → Bool) (f : Batch → Batch) : (s.modBatches p f).sent = s.sent := rfl

/-! `State.bump` changes `regs` alone. -/

@[simp] theorem State.bump_pending (s : State) (addr n : Nat) : (s.bump addr n).pending = s.pending := rfl
@[simp] theorem State.bump_free (s : State) (addr n : Nat) : (s.bump addr n).free = s.free := rfl
@[simp] theorem State.bump_clock (s : State) (addr n : Nat) : (s.bump addr n).clock = s.clock := rfl
@[simp] theorem State.bump_power (s : State) (addr n : Nat) : (s.bump addr n).power = s.power := rfl
@[simp] theorem State.bump_thermal (s : State) (addr n : Nat) : (s.bump addr n).thermal = s.thermal := rfl
@[simp] theorem State.bump_net (s : State) (addr n : Nat) : (s.bump addr n).net = s.net := rfl
@[simp] theorem State.bump_qps (s : State) (addr n : Nat) : (s.bump addr n).qps = s.qps := rfl
@[simp] theorem State.bump_qpMax (s : State) (addr n : Nat) : (s.bump addr n).qpMax = s.qpMax := rfl
@[simp] theorem State.bump_rdMax (s : State) (addr n : Nat) : (s.bump addr n).rdMax = s.rdMax := rfl
@[simp] theorem State.bump_jobs (s : State) (addr n : Nat) : (s.bump addr n).jobs = s.jobs := rfl
@[simp] theorem State.bump_jobSeq (s : State) (addr n : Nat) : (s.bump addr n).jobSeq = s.jobSeq := rfl
@[simp] theorem State.bump_readySeq (s : State) (addr n : Nat) : (s.bump addr n).readySeq = s.readySeq := rfl
@[simp] theorem State.bump_tiles (s : State) (addr n : Nat) : (s.bump addr n).tiles = s.tiles := rfl
@[simp] theorem State.bump_courses (s : State) (addr n : Nat) : (s.bump addr n).courses = s.courses := rfl
@[simp] theorem State.bump_ctxs (s : State) (addr n : Nat) : (s.bump addr n).ctxs = s.ctxs := rfl
@[simp] theorem State.bump_keys (s : State) (addr n : Nat) : (s.bump addr n).keys = s.keys := rfl
@[simp] theorem State.bump_commit (s : State) (addr n : Nat) : (s.bump addr n).commit = s.commit := rfl
@[simp] theorem State.bump_vault (s : State) (addr n : Nat) : (s.bump addr n).vault = s.vault := rfl
@[simp] theorem State.bump_guard (s : State) (addr n : Nat) : (s.bump addr n).guard = s.guard := rfl
@[simp] theorem State.bump_dram (s : State) (addr n : Nat) : (s.bump addr n).dram = s.dram := rfl
@[simp] theorem State.bump_ent (s : State) (addr n : Nat) : (s.bump addr n).ent = s.ent := rfl
@[simp] theorem State.bump_tabs (s : State) (addr n : Nat) : (s.bump addr n).tabs = s.tabs := rfl
@[simp] theorem State.bump_life (s : State) (addr n : Nat) : (s.bump addr n).life = s.life := rfl
@[simp] theorem State.bump_pair (s : State) (addr n : Nat) : (s.bump addr n).pair = s.pair := rfl
@[simp] theorem State.bump_mgmt (s : State) (addr n : Nat) : (s.bump addr n).mgmt = s.mgmt := rfl
@[simp] theorem State.bump_copyA (s : State) (addr n : Nat) : (s.bump addr n).copyA = s.copyA := rfl
@[simp] theorem State.bump_copyB (s : State) (addr n : Nat) : (s.bump addr n).copyB = s.copyB := rfl
@[simp] theorem State.bump_boot (s : State) (addr n : Nat) : (s.bump addr n).boot = s.boot := rfl
@[simp] theorem State.bump_log (s : State) (addr n : Nat) : (s.bump addr n).log = s.log := rfl
@[simp] theorem State.bump_io (s : State) (addr n : Nat) : (s.bump addr n).io = s.io := rfl
@[simp] theorem State.bump_sel (s : State) (addr n : Nat) : (s.bump addr n).sel = s.sel := rfl
@[simp] theorem State.bump_sent (s : State) (addr n : Nat) : (s.bump addr n).sent = s.sent := rfl

/-! `State.notice` changes `regs` alone. -/

@[simp] theorem State.notice_pending (s : State) (addr bit : Nat) : (s.notice addr bit).pending = s.pending := rfl
@[simp] theorem State.notice_free (s : State) (addr bit : Nat) : (s.notice addr bit).free = s.free := rfl
@[simp] theorem State.notice_clock (s : State) (addr bit : Nat) : (s.notice addr bit).clock = s.clock := rfl
@[simp] theorem State.notice_power (s : State) (addr bit : Nat) : (s.notice addr bit).power = s.power := rfl
@[simp] theorem State.notice_thermal (s : State) (addr bit : Nat) : (s.notice addr bit).thermal = s.thermal := rfl
@[simp] theorem State.notice_net (s : State) (addr bit : Nat) : (s.notice addr bit).net = s.net := rfl
@[simp] theorem State.notice_qps (s : State) (addr bit : Nat) : (s.notice addr bit).qps = s.qps := rfl
@[simp] theorem State.notice_qpMax (s : State) (addr bit : Nat) : (s.notice addr bit).qpMax = s.qpMax := rfl
@[simp] theorem State.notice_rdMax (s : State) (addr bit : Nat) : (s.notice addr bit).rdMax = s.rdMax := rfl
@[simp] theorem State.notice_jobs (s : State) (addr bit : Nat) : (s.notice addr bit).jobs = s.jobs := rfl
@[simp] theorem State.notice_jobSeq (s : State) (addr bit : Nat) : (s.notice addr bit).jobSeq = s.jobSeq := rfl
@[simp] theorem State.notice_readySeq (s : State) (addr bit : Nat) : (s.notice addr bit).readySeq = s.readySeq := rfl
@[simp] theorem State.notice_tiles (s : State) (addr bit : Nat) : (s.notice addr bit).tiles = s.tiles := rfl
@[simp] theorem State.notice_courses (s : State) (addr bit : Nat) : (s.notice addr bit).courses = s.courses := rfl
@[simp] theorem State.notice_ctxs (s : State) (addr bit : Nat) : (s.notice addr bit).ctxs = s.ctxs := rfl
@[simp] theorem State.notice_keys (s : State) (addr bit : Nat) : (s.notice addr bit).keys = s.keys := rfl
@[simp] theorem State.notice_commit (s : State) (addr bit : Nat) : (s.notice addr bit).commit = s.commit := rfl
@[simp] theorem State.notice_vault (s : State) (addr bit : Nat) : (s.notice addr bit).vault = s.vault := rfl
@[simp] theorem State.notice_guard (s : State) (addr bit : Nat) : (s.notice addr bit).guard = s.guard := rfl
@[simp] theorem State.notice_dram (s : State) (addr bit : Nat) : (s.notice addr bit).dram = s.dram := rfl
@[simp] theorem State.notice_ent (s : State) (addr bit : Nat) : (s.notice addr bit).ent = s.ent := rfl
@[simp] theorem State.notice_tabs (s : State) (addr bit : Nat) : (s.notice addr bit).tabs = s.tabs := rfl
@[simp] theorem State.notice_life (s : State) (addr bit : Nat) : (s.notice addr bit).life = s.life := rfl
@[simp] theorem State.notice_pair (s : State) (addr bit : Nat) : (s.notice addr bit).pair = s.pair := rfl
@[simp] theorem State.notice_mgmt (s : State) (addr bit : Nat) : (s.notice addr bit).mgmt = s.mgmt := rfl
@[simp] theorem State.notice_copyA (s : State) (addr bit : Nat) : (s.notice addr bit).copyA = s.copyA := rfl
@[simp] theorem State.notice_copyB (s : State) (addr bit : Nat) : (s.notice addr bit).copyB = s.copyB := rfl
@[simp] theorem State.notice_boot (s : State) (addr bit : Nat) : (s.notice addr bit).boot = s.boot := rfl
@[simp] theorem State.notice_log (s : State) (addr bit : Nat) : (s.notice addr bit).log = s.log := rfl
@[simp] theorem State.notice_io (s : State) (addr bit : Nat) : (s.notice addr bit).io = s.io := rfl
@[simp] theorem State.notice_sel (s : State) (addr bit : Nat) : (s.notice addr bit).sel = s.sel := rfl
@[simp] theorem State.notice_sent (s : State) (addr bit : Nat) : (s.notice addr bit).sent = s.sent := rfl

end Sys2Proof.Machine
end

