-- ==== Sys2Proof/Laws/Ops.lean ====
section
/-! SUPPORT. What the shared operations do: looking up a queue, job, tile or register after a named update, and what the operations in
which tile opcodes end leave unchanged. -/

namespace Sys2Proof.Machine

/-! ### Lookups after an update -/

/-- Looking an element up by its key after a change of the elements of another key, or of its own, that keeps keys. -/
theorem find?_modWhere {α : Type} (key : α → Nat) (f : α → α) (l : List α) (n m : Nat) (h : ∀ x, key x = n → key (f x) = n) :
    (modWhere (fun x => key x == n) f l).find? (fun x => key x == m) =
      (l.find? (fun x => key x == m)).map (fun x => if m = n then f x else x) := by
  induction l with
  | nil => rfl
  | cons x l ih =>
    simp only [modWhere, List.map_cons] at ih ⊢
    by_cases hx : key x = n
    · have hf := h x hx
      by_cases hm : n = m
      · subst hm; simp [hx, hf]
      · have : ¬ m = n := fun e => hm e.symm
        simp [hx, hf, hm]; simpa [this] using ih
    · by_cases hm : key x = m
      · have : ¬ m = n := by omega
        subst hm; simp [hx]
      · simp [hx, hm]; simpa using ih

@[simp] theorem State.tile?_modTile (s : State) (t n : Nat) (f : Tile → Tile) (h : ∀ x, x.num = t → (f x).num = t) :
    (s.modTile t f).tile? n = (s.tile? n).map (fun x => if n = t then f x else x) := find?_modWhere Tile.num f s.tiles t n h

@[simp] theorem State.qp?_modQp (s : State) (q n : Nat) (f : Qp → Qp) (h : ∀ x, x.cfg.queue = q → (f x).cfg.queue = q) :
    (s.modQp q f).qp? n = (s.qp? n).map (fun x => if n = q then f x else x) := find?_modWhere (fun x : Qp => x.cfg.queue) f s.qps q n h

@[simp] theorem State.chan?_modChan (s : State) (c n : Nat) (f : Channel → Channel) (h : ∀ x, x.num = c → (f x).num = c) :
    (s.modChan c f).chan? n = (s.chan? n).map (fun x => if n = c then f x else x) := find?_modWhere Channel.num f s.dram.channels c n h

@[simp] theorem State.course?_modCourse (s : State) (c n : Nat) (f : Course → Course) (h : ∀ x, x.num = c → (f x).num = c) :
    (s.modCourse c f).course? n = (s.course? n).map (fun x => if n = c then f x else x) := find?_modWhere Course.num f s.courses c n h

@[simp] theorem State.ring?_modRing (s : State) (r n : Nat) (f : Ring → Ring) (h : ∀ x, x.num = r → (f x).num = r) :
    (s.modRing r f).ring? n = (s.ring? n).map (fun x => if n = r then f x else x) := find?_modWhere Ring.num f s.log.rings r n h

/-- The job of an id after a change of one job that keeps ids. -/
theorem State.job?_modJob (s : State) (i k : JobId) (f : Job → Job) (h : ∀ x, x.id = i → (f x).id = i) :
    (s.modJob i f).job? k = (s.job? k).map (fun x => if k = i then f x else x) := by
  simp only [State.modJob, State.job?]
  induction s.jobs with
  | nil => rfl
  | cons x l ih =>
    simp only [modWhere, List.map_cons] at ih ⊢
    by_cases hx : x.id = i
    · have hf := h x hx
      by_cases hm : i = k
      · subst hm; simp [hx, hf]
      · have : ¬ k = i := fun e => hm e.symm
        simp [hx, hf, hm]; simpa [this] using ih
    · by_cases hm : x.id = k
      · have : ¬ k = i := fun e => hx (hm.trans e)
        subst hm; simp [hx]
      · simp [hx, hm]; simpa using ih

/-- A value put under a key is found under it, and no other key changes. -/
@[simp] theorem alook_aput {β : Type} (k n : Nat) (v : β) (l : List (Nat × β)) :
    alook n (aput k v l) = if n = k then some v else alook n l := by
  induction l with
  | nil => by_cases h : k = n <;> simp [aput, alook, h, eq_comm]
  | cons e l ih =>
    obtain ⟨a, w⟩ := e
    simp only [aput]
    split
    · by_cases h : k = n <;> simp [alook, h, eq_comm]
    · split
      · rename_i _ ha
        subst ha
        by_cases h : n = a
        · simp [alook, h]
        · have : ¬ a = n := fun e => h e.symm
          simp [alook, h, this]
      · by_cases h : a = n
        · subst h; simp [alook, *]
        · simp [alook, h, ih]

/-- R443: a register of the space reads what was written to it, and no other register changes. -/
theorem State.reg_setReg (s : State) (a b i k v : Nat) (ha : a < 2 ^ 20) (hb : b < 2 ^ 20) :
    (s.setReg a i v).reg b k = if b = a ∧ k = i then v % 2 ^ 32 else s.reg b k := by
  have hk : (regKey b k = regKey a i) = (b = a ∧ k = i) := by
    simp only [regKey, eq_iff_iff]; omega
  simp only [State.reg, State.setReg, alook_aput, hk]
  by_cases h : b = a ∧ k = i
  · simp [h]
  · simp [h]

/-! ### What the ends of tile opcodes leave unchanged -/

/-- What the end of a tile opcode may change: the job it ran, its tile's key cache, the event log and the recorder's notice. -/
structure TileFrame (t : Nat) (id : JobId) (s u : State) : Prop where
  rest : u = { s with jobs := u.jobs, tiles := u.tiles, log := u.log, regs := u.regs }
  jobs : ∀ k, k ≠ id → u.job? k = s.job? k
  tiles : ∀ n, n ≠ t → u.tile? n = s.tile? n
  cache : ∀ x, s.tile? t = some x → ∃ k, u.tile? t = some { x with cache := k }
  regs : ∀ addr idx, addr < 2 ^ 20 → addr ≠ Reg.evrNotice → u.reg addr idx = s.reg addr idx

theorem TileFrame.refl (t : Nat) (id : JobId) (s : State) : TileFrame t id s s :=
  ⟨rfl, fun _ _ => rfl, fun _ _ => rfl, fun x h => ⟨x.cache, h⟩, fun _ _ _ _ => rfl⟩

theorem TileFrame.trans {t : Nat} {id : JobId} {s u w : State} (h : TileFrame t id s u) (g : TileFrame t id u w) : TileFrame t id s w := by
  refine ⟨?_, fun k hk => (g.jobs k hk).trans (h.jobs k hk), fun n hn => (g.tiles n hn).trans (h.tiles n hn), ?_,
    fun a i h1 h2 => (g.regs a i h1 h2).trans (h.regs a i h1 h2)⟩
  · have hu := h.rest; have hw := g.rest
    rw [hu] at hw; simpa using hw
  · intro x hx
    obtain ⟨k, hk⟩ := h.cache x hx
    obtain ⟨l, hl⟩ := g.cache _ hk
    exact ⟨l, by simpa using hl⟩

/-- R100: an answer changes its job alone. -/
theorem State.answer_frame (s : State) (t : Nat) (j : Job) (r : Result) : TileFrame t j.id s (s.answer j r) := by
  refine ⟨rfl, ?_, fun _ _ => rfl, fun x h => ⟨x.cache, h⟩, fun _ _ _ _ => rfl⟩
  intro k hk
  unfold State.answer
  rw [State.job?_modJob]
  · simp [hk]
  · intro x hx; exact hx

/-- R144: caching a key changes the tile's cache alone. -/
theorem State.cacheKey_frame (s : State) (t p h ver : Nat) (m : Bytes) (up : List Nat) (id : JobId) :
    TileFrame t id s (s.cacheKey t p h ver m up) := by
  refine ⟨rfl, fun _ _ => rfl, ?_, ?_, fun _ _ _ _ => rfl⟩
  · intro n h2
    unfold State.cacheKey
    rw [State.tile?_modTile]
    · simp [h2]
    · intro x hx
      dsimp only
      repeat' split
      all_goals exact hx
  · intro x hx
    unfold State.cacheKey
    rw [State.tile?_modTile]
    · simp only [hx, Option.map_some, if_true]
      split
      · exact ⟨_, rfl⟩
      · split
        · exact ⟨_, rfl⟩
        · split
          · exact ⟨x.cache, rfl⟩
          · exact ⟨_, rfl⟩
    · intro x hx
      dsimp only
      repeat' split
      all_goals exact hx

/-- Writing records changes the log and the recorder's notice alone. -/
structure LogFrame (s u : State) : Prop where
  rest : u = { s with log := u.log, regs := u.regs }
  regs : ∀ addr idx, addr < 2 ^ 20 → addr ≠ Reg.evrNotice → u.reg addr idx = s.reg addr idx

theorem LogFrame.refl (s : State) : LogFrame s s := ⟨rfl, fun _ _ _ _ => rfl⟩

theorem LogFrame.trans {s u w : State} (h : LogFrame s u) (g : LogFrame u w) : LogFrame s w :=
  ⟨by have hw := g.rest; rw [h.rest] at hw; simpa using hw, fun a i h1 h2 => (g.regs a i h1 h2).trans (h.regs a i h1 h2)⟩

theorem LogFrame.log {s u : State} (h : u = { s with log := u.log }) : LogFrame s u :=
  ⟨by rw [h], fun a i _ _ => by rw [h]; rfl⟩

theorem State.evrNotice_frame (s : State) (b : Nat) : LogFrame s (s.notice Reg.evrNotice b) := by
  refine ⟨rfl, ?_⟩
  intro a i h1 h2
  unfold State.notice
  rw [State.reg_setReg _ _ _ _ _ _ (by decide) h1]
  simp [h2]

theorem State.takeToken_frame (s : State) (ring : Nat) (e : Event) : LogFrame s (s.takeToken ring e).1 := by
  unfold State.takeToken
  dsimp only
  repeat' split
  all_goals first
    | exact LogFrame.log rfl
    | (refine LogFrame.trans ?_ (LogFrame.log rfl); refine LogFrame.trans (LogFrame.log rfl) (State.evrNotice_frame _ _))

theorem State.putRec_frame (s : State) (ring : Nat) (e : Event) : LogFrame s (s.putRec ring e) := by
  have ht := State.takeToken_frame s ring e
  have tail : ∀ a : State, LogFrame s a → LogFrame s (match a.ring? ring with
      | none => a
      | some r => if (r.push a.clock.mono e).2 then a.modRing ring (fun _ => (r.push a.clock.mono e).1)
          else (a.modRing ring (fun _ => (r.push a.clock.mono e).1)).notice Reg.evrNotice 1) := by
    intro a ha
    split
    · exact ha
    · split
      · exact ha.trans (LogFrame.log rfl)
      · exact (ha.trans (LogFrame.log rfl)).trans (State.evrNotice_frame _ _)
  unfold State.putRec
  split
  · exact LogFrame.refl s
  · by_cases hf : (e.sev == 7 || e.code == 0x0C01 || e.code == 0x0C02) = true
    · simp only [hf, if_true]
      exact tail s (LogFrame.refl s)
    · simp only [hf]
      cases hk : s.takeToken ring e with
      | mk a ok =>
        rw [hk] at ht
        cases ok
        · exact ht
        · exact tail a ht

theorem State.ringLevel_frame (s : State) (n : Nat) : LogFrame s (s.ringLevel n) := by
  unfold State.ringLevel
  split
  · exact LogFrame.refl s
  · dsimp only
    split
    · exact LogFrame.log rfl
    · split
      · refine LogFrame.trans ?_ (State.evrNotice_frame _ _)
        refine LogFrame.trans ?_ (State.putRec_frame _ _ _)
        exact LogFrame.log rfl
      · exact LogFrame.log rfl

/-- R456, R466: a record changes the log and the recorder's notice alone. -/
theorem State.writeRec_frame (s : State) (ring sev code part island : Nat) (payload : Bytes) :
    LogFrame s (s.writeRec ring sev code part island payload) := by
  unfold State.writeRec
  split
  · exact LogFrame.refl s
  · exact (State.putRec_frame _ _ _).trans (State.ringLevel_frame _ _)

theorem LogFrame.tile {s u : State} (h : LogFrame s u) (t : Nat) (id : JobId) : TileFrame t id s u := by
  obtain ⟨h1, h2⟩ := h
  refine ⟨?_, ?_, ?_, ?_, h2⟩
  · rw [h1]
  · intro k _; rw [h1]; rfl
  · intro n _; rw [h1]; rfl
  · intro x hx; exact ⟨x.cache, by rw [h1]; exact hx⟩

/-- R159: the event of a failed tag changes the log and the recorder's notice alone. -/
theorem State.tagFault_frame (s : State) (t p h : Nat) : LogFrame s (s.tagFault t p h) := State.writeRec_frame _ _ _ _ _ _ _

/-- R158: an operation that runs with a key's material keeps to the tile's frame when what follows does. -/
theorem State.withKey_frame (s : State) (t : Nat) (j : Job) (slot : Nat) (f : State → KeyRec → Bytes → State)
    (h : ∀ (u : State) (r : KeyRec) (m : Bytes), TileFrame t j.id u (f u r m)) : TileFrame t j.id s (s.withKey t j slot f) := by
  unfold State.withKey
  split
  · exact State.answer_frame _ _ _ _
  · split
    · exact ((State.tagFault_frame _ _ _ _).tile t j.id).trans (State.answer_frame _ _ _ _)
    · exact (State.cacheKey_frame _ _ _ _ _ _ _ _).trans (h _ _ _)

/-- A tile opcode does nothing unless its tile runs it, and what it does concerns the job that the tile runs. -/
theorem State.onTile_cases (s : State) (t op : Nat) (f : State → Job → State) :
    s.onTile t op f = s ∨ ∃ j, (s.tile? t).bind (fun x => x.job) = some j.id ∧ s.job? j.id = some j ∧ j.desc.opcode = op ∧
      j.result = none ∧ j.streams = false ∧ (s.tile? t).map s.tileRuns = some true ∧ j.phase = .running t ∧ s.onTile t op f = f s j := by
  unfold State.onTile
  split
  · exact Or.inl rfl
  · split
    · exact Or.inl rfl
    · split
      · exact Or.inl rfl
      · rename_i id hid _ j hj hn
        refine Or.inr ⟨j, ?_⟩
        have e : j.id = id := by simpa using List.find?_some hj
        subst e
        simp only [not_or, Decidable.not_not, Bool.not_eq_true, Option.isSome_eq_false_iff, Option.isNone_iff_eq_none] at hn
        exact ⟨hid, hj, hn.1, hn.2.1, hn.2.2.1, hn.2.2.2.1, hn.2.2.2.2, rfl⟩

end Sys2Proof.Machine
end

