-- ==== Sys2Proof/Laws/PerInstr.lean ====
section
/-! SUPPORT. One statement for every command: a well-formed command's operands lie in the ranges the spec numbers them in. -/

namespace Sys2Proof.Laws.Ranges

/-- The ranges of a command's operands, as numbers. -/
def Bounded : Instr → Prop
  | .coldStart _ _ => True
  | .sealKeyDraw => True
  | .channelTrainingDone _ => True
  | .portLinkUp port iface => port < 2 ∧ iface < 4
  | .portLinkDown port iface => port < 2 ∧ iface < 4
  | .resetNowExpiry => True
  | .powerModeSet q i => q < 4096 ∧ i < 2 ^ 32
  | .standbyDrained => True
  | .standbyExitDone _ _ => True
  | .portCfgWrite q i => q < 4096 ∧ i < 2 ^ 32
  | .arpNdRequestRx port iface _ _ => port < 2 ∧ iface < 4
  | .pauseFrameRx port prio _ => port < 2 ∧ prio < 8
  | .inboundPacketRx port prio q _ _ => port < 2 ∧ prio < 8 ∧ q < 4096
  | .cnpRx q => q < 4096
  | .rateRecoverTick q => q < 4096
  | .ptpEventMessageRx port iface _ _ _ _ => port < 2 ∧ iface < 4
  | .ptpLossTimeout port => port < 2
  | .producerDoorbell q _ _ => q < 4096
  | .consumerDoorbell q _ _ => q < 4096
  | .inboundReadNak q _ _ => q < 4096
  | .inboundUnsupportedNak q _ => q < 4096
  | .ackTimeout q => q < 4096
  | .psnSequenceNakRx q psn => q < 4096 ∧ psn < 2 ^ 24
  | .rnrNakRx q => q < 4096
  | .rnrRetryExpiry q => q < 4096
  | .remoteErrorNakRx q _ => q < 4096
  | .writeAckRx q psn => q < 4096 ∧ psn < 2 ^ 24
  | .fetchPass p => p < 256
  | .descriptorArrival q _ => q < 4096
  | .contextTokenArrival q i => q < 4096 ∧ i < 2 ^ 32
  | .payloadTokenArrival q i _ => q < 4096 ∧ i < 2 ^ 32
  | .keyTokenArrival q i slot => q < 4096 ∧ i < 2 ^ 32 ∧ slot < 6
  | .entropyTokenArrival q i => q < 4096 ∧ i < 2 ^ 32
  | .chainTokenArrival q i => q < 4096 ∧ i < 2 ^ 32
  | .errorTokenArrival q i _ => q < 4096 ∧ i < 2 ^ 32
  | .jobPlace course => course < 6
  | .continuationPacket t _ _ => t < 48
  | .jobStart t _ => t < 48
  | .jobEnd t => t < 48
  | .completionWrite q => q < 4096
  | .qpCreate q i => q < 4096 ∧ i < 2 ^ 32
  | .qpDestroy q i => q < 4096 ∧ i < 2 ^ 32
  | .qpDestroyDrained q => q < 4096
  | .qpQuery q i => q < 4096 ∧ i < 2 ^ 32
  | .regionDeclare q i => q < 4096 ∧ i < 2 ^ 32
  | .regionRemove q i => q < 4096 ∧ i < 2 ^ 32
  | .qpSealOffer t => t < 48
  | .qpSealEstablish t => t < 48
  | .queueEcho t => t < 48
  | .ctxBind q i => q < 4096 ∧ i < 2 ^ 32
  | .ctxReplace q i => q < 4096 ∧ i < 2 ^ 32
  | .ctxUnbind q i => q < 4096 ∧ i < 2 ^ 32
  | .ctxUnbindDrained id => id < 2 ^ 22
  | .ctxQuery q i => q < 4096 ∧ i < 2 ^ 32
  | .qcourseWrite q i => q < 4096 ∧ i < 2 ^ 32
  | .qcourseDrained q => q < 4096
  | .keyGenerate t => t < 48
  | .keyImport t => t < 48
  | .keyExport t => t < 48
  | .keyReplace t => t < 48
  | .keyRevoke t => t < 48
  | .keyPinRelease handle => handle < 2 ^ 64
  | .keyErase t => t < 48
  | .keyQuery t => t < 48
  | .keyPublic t => t < 48
  | .persistAttach q i => q < 4096 ∧ i < 2 ^ 32
  | .persistRegionDeclare q i => q < 4096 ∧ i < 2 ^ 32
  | .persistRegionRemove q i => q < 4096 ∧ i < 2 ^ 32
  | .batchOpen => True
  | .batchPersisted => True
  | .pageLoadStart o => 1 ≤ o.kind ∧ o.kind ≤ 3 ∧ o.part < 256 ∧ o.level < 5 ∧ o.num < 2 ^ 32
  | .pageImageArrival o frame _ => 1 ≤ o.kind ∧ o.kind ≤ 3 ∧ o.part < 256 ∧ o.level < 5 ∧ o.num < 2 ^ 32 ∧ frame < 2
  | .leaseRequest t p => t < 48 ∧ p < 256
  | .leafLeaseRequest t handle => t < 48 ∧ handle < 2 ^ 64
  | .symEncrypt t => t < 48
  | .symDecrypt t => t < 48
  | .macGenerate t => t < 48
  | .macVerify t => t < 48
  | .hash t => t < 48
  | .symReencrypt t => t < 48
  | .parityError t _ _ => t < 48
  | .pkSign t => t < 48
  | .pkVerify t => t < 48
  | .pkEncrypt t => t < 48
  | .pkDecrypt t => t < 48
  | .keyAgree t => t < 48
  | .kemEncap t => t < 48
  | .kemDecap t => t < 48
  | .yieldPoint t => t < 48
  | .yieldWindowEnd t => t < 48
  | .slotBoundary t => t < 48
  | .pinTranslate t => t < 48
  | .pinVerify t => t < 48
  | .pinValueGenerate t => t < 48
  | .payMacGenerate t => t < 48
  | .payMacVerify t => t < 48
  | .valueGenerate t => t < 48
  | .valueVerify t => t < 48
  | .emvArqcVerify t => t < 48
  | .dukptInitExport t => t < 48
  | .componentBegin q i => q < 4096 ∧ i < 2 ^ 32
  | .componentAdd q i => q < 4096 ∧ i < 2 ^ 32
  | .componentCommit q i => q < 4096 ∧ i < 2 ^ 32
  | .componentLoadExpiry load => load < 2 ^ 32
  | .objSeal t => t < 48
  | .objOpen t => t < 48
  | .manifestBuild t => t < 48
  | .manifestSign t => t < 48
  | .custodySign t => t < 48
  | .timestamp t => t < 48
  | .timeQuery t => t < 48
  | .chainAppend t => t < 48
  | .repointOpen q i => q < 4096 ∧ i < 2 ^ 32
  | .repointQuery q i => q < 4096 ∧ i < 2 ^ 32
  | .repointCommit q i => q < 4096 ∧ i < 2 ^ 32
  | .repointCommitDrained => True
  | .repointAbandon q i => q < 4096 ∧ i < 2 ^ 32
  | .campaignStep => True
  | .lineReadReturn ch _ _ => ch < 8
  | .patrolScrubStep ch _ => ch < 8
  | .ecsPass ch _ => ch < 8
  | .refreshTick ch _ => ch < 8
  | .sidebandPoll ch _ => ch < 8
  | .retrain q i => q < 4096 ∧ i < 2 ^ 32
  | .retrainDone => True
  | .evacuate q i => q < 4096 ∧ i < 2 ^ 32
  | .evacuateDone => True
  | .powerDown q i => q < 4096 ∧ i < 2 ^ 32
  | .restore q i => q < 4096 ∧ i < 2 ^ 32
  | .restoreSupplySettled _ => True
  | .restoreDone => True
  | .markAbsent q i => q < 4096 ∧ i < 2 ^ 32
  | .entropyStart _ _ => True
  | .entropyWindow src _ => src < 22
  | .entropyRequest p _ _ => p < 256
  | .restart q i => q < 4096 ∧ i < 2 ^ 32
  | .kat q i _ => q < 4096 ∧ i < 2 ^ 32
  | .sourceOut q i => q < 4096 ∧ i < 2 ^ 32
  | .sourceIn q i _ => q < 4096 ∧ i < 2 ^ 32
  | .rngGenerate t => t < 48
  | .rngStatus t => t < 48
  | .prtStage q i => q < 4096 ∧ i < 2 ^ 32
  | .prtApply q i => q < 4096 ∧ i < 2 ^ 32
  | .liveRestartHodBound => True
  | .liveRestartDone => True
  | .prtQuery q i => q < 4096 ∧ i < 2 ^ 32
  | .drain q i => q < 4096 ∧ i < 2 ^ 32
  | .tileDrained t => t < 48
  | .ret q i => q < 4096 ∧ i < 2 ^ 32
  | .tileSelfTestDone t _ => t < 48
  | .tilReset q i => q < 4096 ∧ i < 2 ^ 32
  | .lcyTransition q i _ => q < 4096 ∧ i < 2 ^ 32
  | .userErase q i => q < 4096 ∧ i < 2 ^ 32
  | .lcySvnAdvance q i _ => q < 4096 ∧ i < 2 ^ 32
  | .debugChallenge q i => q < 4096 ∧ i < 2 ^ 32
  | .debugOpen q i => q < 4096 ∧ i < 2 ^ 32
  | .attest t => t < 48
  | .railGlitch rail => rail < 8
  | .railExcursion rail => rail < 8
  | .meshSample rx => rx.length = 8
  | .enclosureSample _ => True
  | .clockWindow island _ _ _ => island < 64
  | .dieTempSample temps => temps.length = 10
  | .cellExcursion cell mv => cell < 2 ∧ mv < 2 ^ 16
  | .purgeRecoveryPass _ => True
  | .episodeEnd => True
  | .tamperClear q i => q < 4096 ∧ i < 2 ^ 32
  | .vaultPolarityRefresh => True
  | .cellSupplySwitch mvA mvB => mvA < 2 ^ 16 ∧ mvB < 2 ^ 16
  | .cellChargeControl cell mv _ => cell < 2 ∧ mv < 2 ^ 16
  | .cellPeriodicLoadTest cell => cell < 2
  | .remove q i => q < 4096 ∧ i < 2 ^ 32
  | .cellInserted cell mv => cell < 2 ∧ mv < 2 ^ 16
  | .loadTest q i => q < 4096 ∧ i < 2 ^ 32
  | .depassivate q i => q < 4096 ∧ i < 2 ^ 32
  | .depassivationPulse cell mv => cell < 2 ∧ mv < 2 ^ 16
  | .gaugeReset q i => q < 4096 ∧ i < 2 ^ 32
  | .vaultAdopt q i => q < 4096 ∧ i < 2 ^ 32
  | .feedBelowLow mv => mv < 2 ^ 16
  | .deglitchExpiry => True
  | .switchoverComplete => True
  | .tileResume => True
  | .feedAboveHigh feed mv => feed < 2 ∧ mv < 2 ^ 16
  | .feedGood feed mv => feed < 2 ∧ mv < 2 ^ 16
  | .autoReturnExpiry => True
  | .selectA q i => q < 4096 ∧ i < 2 ^ 32
  | .selectB q i => q < 4096 ∧ i < 2 ^ 32
  | .thermalTick _ _ => True
  | .fanStall rpm => rpm < 2 ^ 16
  | .heartbeatSend => True
  | .heartbeatRx _ => True
  | .heartbeatMiss => True
  | .probeRx => True
  | .probeAckRx => True
  | .probeTimeout => True
  | .svcLinkLossExpiry => True
  | .witnessCasResult value => value < 2 ^ 64
  | .witnessTimeout => True
  | .witnessRetry => True
  | .queueResume q _ => q < 4096
  | .mirrorBatchRx _ => True
  | .batchAckRx _ => True
  | .transportSend => True
  | .transportRx _ => True
  | .pageReqRx o => 1 ≤ o.kind ∧ o.kind ≤ 3 ∧ o.part < 256 ∧ o.level < 5 ∧ o.num < 2 ^ 32
  | .pageDataRx o _ => 1 ≤ o.kind ∧ o.kind ≤ 3 ∧ o.part < 256 ∧ o.level < 5 ∧ o.num < 2 ^ 32
  | .resyncRx _ => True
  | .mirrorLinkUp _ => True
  | .mirrorPathReturn => True
  | .pairBind q i _ _ _ => q < 4096 ∧ i < 2 ^ 32
  | .pairQuery q i => q < 4096 ∧ i < 2 ^ 32
  | .pairUnbind q i => q < 4096 ∧ i < 2 ^ 32
  | .pairUnfence q i => q < 4096 ∧ i < 2 ^ 32
  | .pairSwitch q i => q < 4096 ∧ i < 2 ^ 32
  | .cfgRead q i => q < 4096 ∧ i < 2 ^ 32
  | .cfgWrite q i => q < 4096 ∧ i < 2 ^ 32
  | .cfgStage q i => q < 4096 ∧ i < 2 ^ 32
  | .cfgApply q i => q < 4096 ∧ i < 2 ^ 32
  | .sessionChallenge q i => q < 4096 ∧ i < 2 ^ 32
  | .sessionOpen q i => q < 4096 ∧ i < 2 ^ 32
  | .sessionClose q i => q < 4096 ∧ i < 2 ^ 32
  | .sessionIdleExpiry q => q < 4096
  | .ceremonyBegin q i => q < 4096 ∧ i < 2 ^ 32
  | .ceremonyJoin q i => q < 4096 ∧ i < 2 ^ 32
  | .ceremonyEnd q i => q < 4096 ∧ i < 2 ^ 32
  | .ceremonyExpiry => True
  | .actorEnrol q i => q < 4096 ∧ i < 2 ^ 32
  | .actorRemove q i => q < 4096 ∧ i < 2 ^ 32
  | .fwStage q i => q < 4096 ∧ i < 2 ^ 32
  | .fwWriteBank q i => q < 4096 ∧ i < 2 ^ 32
  | .fwActivate q i => q < 4096 ∧ i < 2 ^ 32
  | .fwRelease q i => q < 4096 ∧ i < 2 ^ 32
  | .floodEnd ring _ => ring < 258
  | .eventSendTimer ring => ring < 258
  | .evqAttach t => t < 48
  | .evqMark t => t < 48
  | .evqRewind t => t < 48
  | .cardDetect n => n < 4
  | .cardCmd1Poll n _ => n < 4
  | .cardIdentify n _ mv => n < 4 ∧ mv < 2 ^ 16
  | .cardResponse n _ => n < 4
  | .cardBusyTimeout n => n < 4
  | .cardRemove n => n < 4
  | .cardQuery q i => q < 4096 ∧ i < 2 ^ 32
  | .cardLock q i => q < 4096 ∧ i < 2 ^ 32
  | .cardUnlock q i => q < 4096 ∧ i < 2 ^ 32
  | .cardForceErase q i => q < 4096 ∧ i < 2 ^ 32
  | .cardWrite q i => q < 4096 ∧ i < 2 ^ 32
  | .cardShareOpen q i => q < 4096 ∧ i < 2 ^ 32
  | .estateCreate q i => q < 4096 ∧ i < 2 ^ 32
  | .bootRecordWrite q i => q < 4096 ∧ i < 2 ^ 32
  | .pmbusPoll rail _ _ _ _ => rail < 8
  | .pmbusAlert master _ _ => master < 2
  | .bypass => True
  | .idcode => True
  | .samplePreload => True
  | .identity => True
  | .extest => True
  | .clamp => True
  | .highz => True
  | .debugAccess => True
  | .feedLost feed mv => feed < 2 ∧ mv < 2 ^ 16
  | .feedGlitch => True
  | .mirrorLinkDown => True
  | .cellLow cell mv => cell < 2 ∧ mv < 2 ^ 16
  | .vaultSupplyBelowRetention => True
  | .tamperSourceInactive src => src < 12
  | .ptpGeneralMessageRx port iface _ _ _ => port < 2 ∧ iface < 4
  | .arpNdReplyRx _ _ => True
  | .pauseTimeExpiry port prio => port < 2 ∧ prio < 8
  | .flashWriteDone _ => True
  | .loadTestDone cell mv => cell < 2 ∧ mv < 2 ^ 16
  | .cellRemoveHoldExpiry cell => cell < 2

/-- A command that is well formed has its operands in range. -/
def Statement (i : Instr) : Prop := i.wf = true → Bounded i

theorem coldStart : ∀ x0 x1, Statement (.coldStart x0 x1) :=
  fun _ _ _ => trivial
theorem sealKeyDraw : Statement .sealKeyDraw := fun _ => trivial
theorem channelTrainingDone : ∀ x0, Statement (.channelTrainingDone x0) :=
  fun _ _ => trivial
theorem portLinkUp : ∀ x0 x1, Statement (.portLinkUp x0 x1) :=
  fun x0 x1 h => (show (okPort x0 && okIface x1) = true → x0 < 2 ∧ x1 < 4 by
  simp only [okPort, okIface, Bool.and_eq_true, decide_eq_true_eq, imp_self]) h
theorem portLinkDown : ∀ x0 x1, Statement (.portLinkDown x0 x1) :=
  fun x0 x1 h => (show (okPort x0 && okIface x1) = true → x0 < 2 ∧ x1 < 4 by
  simp only [okPort, okIface, Bool.and_eq_true, decide_eq_true_eq, and_assoc, imp_self]) h
theorem resetNowExpiry : Statement .resetNowExpiry := fun _ => trivial
theorem powerModeSet : ∀ x0 x1, Statement (.powerModeSet x0 x1) :=
  fun x0 x1 h => (show (okQueue x0 && okIndex x1) = true → x0 < 4096 ∧ x1 < 2 ^ 32 by
  simp only [okQueue, okIndex, Bool.and_eq_true, decide_eq_true_eq, imp_self]) h
theorem standbyDrained : Statement .standbyDrained := fun _ => trivial
theorem standbyExitDone : ∀ x0 x1, Statement (.standbyExitDone x0 x1) :=
  fun _ _ _ => trivial
theorem portCfgWrite : ∀ x0 x1, Statement (.portCfgWrite x0 x1) :=
  fun x0 x1 h => (show (okQueue x0 && okIndex x1) = true → x0 < 4096 ∧ x1 < 2 ^ 32 by
  simp only [okQueue, okIndex, Bool.and_eq_true, decide_eq_true_eq, imp_self]) h
theorem arpNdRequestRx : ∀ x0 x1 x2 x3, Statement (.arpNdRequestRx x0 x1 x2 x3) :=
  fun x0 x1 x2 x3 h => (show (okPort x0 && okIface x1) = true → x0 < 2 ∧ x1 < 4 by
  simp only [okPort, okIface, Bool.and_eq_true, decide_eq_true_eq, imp_self]) h
theorem pauseFrameRx : ∀ x0 x1 x2, Statement (.pauseFrameRx x0 x1 x2) :=
  fun x0 x1 x2 h => (show (okPort x0 && okPrio x1) = true → x0 < 2 ∧ x1 < 8 by
  simp only [okPort, okPrio, Bool.and_eq_true, decide_eq_true_eq, imp_self]) h
theorem inboundPacketRx : ∀ x0 x1 x2 x3 x4, Statement (.inboundPacketRx x0 x1 x2 x3 x4) :=
  fun x0 x1 x2 x3 x4 h => (show (okPort x0 && okPrio x1 && okQueue x2) = true → x0 < 2 ∧ x1 < 8 ∧ x2 < 4096 by
  simp only [okPort, okPrio, okQueue, Bool.and_eq_true, decide_eq_true_eq, and_assoc, imp_self]) h
theorem cnpRx : ∀ x0, Statement (.cnpRx x0) :=
  fun x0 h => (show (okQueue x0) = true → x0 < 4096 by
  simp only [okQueue, decide_eq_true_eq, imp_self]) h
theorem rateRecoverTick : ∀ x0, Statement (.rateRecoverTick x0) :=
  fun x0 h => (show (okQueue x0) = true → x0 < 4096 by
  simp only [okQueue, Bool.and_eq_true, decide_eq_true_eq, and_assoc, imp_self]) h
theorem ptpEventMessageRx : ∀ x0 x1 x2 x3 x4 x5, Statement (.ptpEventMessageRx x0 x1 x2 x3 x4 x5) :=
  fun x0 x1 x2 x3 x4 x5 h => (show (okPort x0 && okIface x1) = true → x0 < 2 ∧ x1 < 4 by
  simp only [okPort, okIface, Bool.and_eq_true, decide_eq_true_eq, imp_self]) h
theorem ptpLossTimeout : ∀ x0, Statement (.ptpLossTimeout x0) :=
  fun x0 h => (show (okPort x0) = true → x0 < 2 by
  simp only [okPort, decide_eq_true_eq, imp_self]) h
theorem producerDoorbell : ∀ x0 x1 x2, Statement (.producerDoorbell x0 x1 x2) :=
  fun x0 x1 x2 h => (show (okQueue x0) = true → x0 < 4096 by
  simp only [okQueue, decide_eq_true_eq, imp_self]) h
theorem consumerDoorbell : ∀ x0 x1 x2, Statement (.consumerDoorbell x0 x1 x2) :=
  fun x0 x1 x2 h => (show (okQueue x0) = true → x0 < 4096 by
  simp only [okQueue, decide_eq_true_eq, imp_self]) h
theorem inboundReadNak : ∀ x0 x1 x2, Statement (.inboundReadNak x0 x1 x2) :=
  fun x0 x1 x2 h => (show (okQueue x0) = true → x0 < 4096 by
  simp only [okQueue, decide_eq_true_eq, imp_self]) h
theorem inboundUnsupportedNak : ∀ x0 x1, Statement (.inboundUnsupportedNak x0 x1) :=
  fun x0 x1 h => (show (okQueue x0) = true → x0 < 4096 by
  simp only [okQueue, decide_eq_true_eq, imp_self]) h
theorem ackTimeout : ∀ x0, Statement (.ackTimeout x0) :=
  fun x0 h => (show (okQueue x0) = true → x0 < 4096 by
  simp only [okQueue, Bool.and_eq_true, decide_eq_true_eq, and_assoc, imp_self]) h
theorem psnSequenceNakRx : ∀ x0 x1, Statement (.psnSequenceNakRx x0 x1) :=
  fun x0 x1 h => (show (okQueue x0 && okPsn x1) = true → x0 < 4096 ∧ x1 < 2 ^ 24 by
  simp only [okQueue, okPsn, Bool.and_eq_true, decide_eq_true_eq, imp_self]) h
theorem rnrNakRx : ∀ x0, Statement (.rnrNakRx x0) :=
  fun x0 h => (show (okQueue x0) = true → x0 < 4096 by
  simp only [okQueue, decide_eq_true_eq, imp_self]) h
theorem rnrRetryExpiry : ∀ x0, Statement (.rnrRetryExpiry x0) :=
  fun x0 h => (show (okQueue x0) = true → x0 < 4096 by
  simp only [okQueue, decide_eq_true_eq, imp_self]) h
theorem remoteErrorNakRx : ∀ x0 x1, Statement (.remoteErrorNakRx x0 x1) :=
  fun x0 x1 h => (show (okQueue x0) = true → x0 < 4096 by
  simp only [okQueue, Bool.and_eq_true, decide_eq_true_eq, and_assoc, imp_self]) h
theorem writeAckRx : ∀ x0 x1, Statement (.writeAckRx x0 x1) :=
  fun x0 x1 h => (show (okQueue x0 && okPsn x1) = true → x0 < 4096 ∧ x1 < 2 ^ 24 by
  simp only [okQueue, okPsn, Bool.and_eq_true, decide_eq_true_eq, imp_self]) h
theorem fetchPass : ∀ x0, Statement (.fetchPass x0) :=
  fun x0 h => (show (okPart x0) = true → x0 < 256 by
  simp only [okPart, decide_eq_true_eq, imp_self]) h
theorem descriptorArrival : ∀ x0 x1, Statement (.descriptorArrival x0 x1) :=
  fun x0 x1 h => (show (okQueue x0) = true → x0 < 4096 by
  simp only [okQueue, decide_eq_true_eq, imp_self]) h
theorem contextTokenArrival : ∀ x0 x1, Statement (.contextTokenArrival x0 x1) :=
  fun x0 x1 h => (show (okQueue x0 && okIndex x1) = true → x0 < 4096 ∧ x1 < 2 ^ 32 by
  simp only [okQueue, okIndex, Bool.and_eq_true, decide_eq_true_eq, imp_self]) h
theorem payloadTokenArrival : ∀ x0 x1 x2, Statement (.payloadTokenArrival x0 x1 x2) :=
  fun x0 x1 x2 h => (show (okQueue x0 && okIndex x1) = true → x0 < 4096 ∧ x1 < 2 ^ 32 by
  simp only [okQueue, okIndex, Bool.and_eq_true, decide_eq_true_eq, and_assoc, imp_self]) h
theorem keyTokenArrival : ∀ x0 x1 x2, Statement (.keyTokenArrival x0 x1 x2) :=
  fun x0 x1 x2 h => (show (okQueue x0 && okIndex x1 && okSlot x2) = true → x0 < 4096 ∧ x1 < 2 ^ 32 ∧ x2 < 6 by
  simp only [okQueue, okIndex, okSlot, Bool.and_eq_true, decide_eq_true_eq, and_assoc, imp_self]) h
theorem entropyTokenArrival : ∀ x0 x1, Statement (.entropyTokenArrival x0 x1) :=
  fun x0 x1 h => (show (okQueue x0 && okIndex x1) = true → x0 < 4096 ∧ x1 < 2 ^ 32 by
  simp only [okQueue, okIndex, Bool.and_eq_true, decide_eq_true_eq, imp_self]) h
theorem chainTokenArrival : ∀ x0 x1, Statement (.chainTokenArrival x0 x1) :=
  fun x0 x1 h => (show (okQueue x0 && okIndex x1) = true → x0 < 4096 ∧ x1 < 2 ^ 32 by
  simp only [okQueue, okIndex, Bool.and_eq_true, decide_eq_true_eq, imp_self]) h
theorem errorTokenArrival : ∀ x0 x1 x2, Statement (.errorTokenArrival x0 x1 x2) :=
  fun x0 x1 x2 h => (show (okQueue x0 && okIndex x1) = true → x0 < 4096 ∧ x1 < 2 ^ 32 by
  simp only [okQueue, okIndex, Bool.and_eq_true, decide_eq_true_eq, and_assoc, imp_self]) h
theorem jobPlace : ∀ x0, Statement (.jobPlace x0) :=
  fun x0 h => (show (okCourse x0) = true → x0 < 6 by
  simp only [okCourse, decide_eq_true_eq, imp_self]) h
theorem continuationPacket : ∀ x0 x1 x2, Statement (.continuationPacket x0 x1 x2) :=
  fun x0 x1 x2 h => (show (okTile x0) = true → x0 < 48 by
  simp only [okTile, decide_eq_true_eq, imp_self]) h
theorem jobStart : ∀ x0 x1, Statement (.jobStart x0 x1) :=
  fun x0 x1 h => (show (okTile x0) = true → x0 < 48 by
  simp only [okTile, decide_eq_true_eq, imp_self]) h
theorem jobEnd : ∀ x0, Statement (.jobEnd x0) :=
  fun x0 h => (show (okTile x0) = true → x0 < 48 by
  simp only [okTile, Bool.and_eq_true, decide_eq_true_eq, and_assoc, imp_self]) h
theorem completionWrite : ∀ x0, Statement (.completionWrite x0) :=
  fun x0 h => (show (okQueue x0) = true → x0 < 4096 by
  simp only [okQueue, decide_eq_true_eq, imp_self]) h
theorem qpCreate : ∀ x0 x1, Statement (.qpCreate x0 x1) :=
  fun x0 x1 h => (show (okQueue x0 && okIndex x1) = true → x0 < 4096 ∧ x1 < 2 ^ 32 by
  simp only [okQueue, okIndex, Bool.and_eq_true, decide_eq_true_eq, imp_self]) h
theorem qpDestroy : ∀ x0 x1, Statement (.qpDestroy x0 x1) :=
  fun x0 x1 h => (show (okQueue x0 && okIndex x1) = true → x0 < 4096 ∧ x1 < 2 ^ 32 by
  simp only [okQueue, okIndex, Bool.and_eq_true, decide_eq_true_eq, and_assoc, imp_self]) h
theorem qpDestroyDrained : ∀ x0, Statement (.qpDestroyDrained x0) :=
  fun x0 h => (show (okQueue x0) = true → x0 < 4096 by
  simp only [okQueue, decide_eq_true_eq, imp_self]) h
theorem qpQuery : ∀ x0 x1, Statement (.qpQuery x0 x1) :=
  fun x0 x1 h => (show (okQueue x0 && okIndex x1) = true → x0 < 4096 ∧ x1 < 2 ^ 32 by
  simp only [okQueue, okIndex, Bool.and_eq_true, decide_eq_true_eq, imp_self]) h
theorem regionDeclare : ∀ x0 x1, Statement (.regionDeclare x0 x1) :=
  fun x0 x1 h => (show (okQueue x0 && okIndex x1) = true → x0 < 4096 ∧ x1 < 2 ^ 32 by
  simp only [okQueue, okIndex, Bool.and_eq_true, decide_eq_true_eq, imp_self]) h
theorem regionRemove : ∀ x0 x1, Statement (.regionRemove x0 x1) :=
  fun x0 x1 h => (show (okQueue x0 && okIndex x1) = true → x0 < 4096 ∧ x1 < 2 ^ 32 by
  simp only [okQueue, okIndex, Bool.and_eq_true, decide_eq_true_eq, and_assoc, imp_self]) h
theorem qpSealOffer : ∀ x0, Statement (.qpSealOffer x0) :=
  fun x0 h => (show (okTile x0) = true → x0 < 48 by
  simp only [okTile, decide_eq_true_eq, imp_self]) h
theorem qpSealEstablish : ∀ x0, Statement (.qpSealEstablish x0) :=
  fun x0 h => (show (okTile x0) = true → x0 < 48 by
  simp only [okTile, decide_eq_true_eq, imp_self]) h
theorem queueEcho : ∀ x0, Statement (.queueEcho x0) :=
  fun x0 h => (show (okTile x0) = true → x0 < 48 by
  simp only [okTile, Bool.and_eq_true, decide_eq_true_eq, and_assoc, imp_self]) h
theorem ctxBind : ∀ x0 x1, Statement (.ctxBind x0 x1) :=
  fun x0 x1 h => (show (okQueue x0 && okIndex x1) = true → x0 < 4096 ∧ x1 < 2 ^ 32 by
  simp only [okQueue, okIndex, Bool.and_eq_true, decide_eq_true_eq, imp_self]) h
theorem ctxReplace : ∀ x0 x1, Statement (.ctxReplace x0 x1) :=
  fun x0 x1 h => (show (okQueue x0 && okIndex x1) = true → x0 < 4096 ∧ x1 < 2 ^ 32 by
  simp only [okQueue, okIndex, Bool.and_eq_true, decide_eq_true_eq, imp_self]) h
theorem ctxUnbind : ∀ x0 x1, Statement (.ctxUnbind x0 x1) :=
  fun x0 x1 h => (show (okQueue x0 && okIndex x1) = true → x0 < 4096 ∧ x1 < 2 ^ 32 by
  simp only [okQueue, okIndex, Bool.and_eq_true, decide_eq_true_eq, and_assoc, imp_self]) h
theorem ctxUnbindDrained : ∀ x0, Statement (.ctxUnbindDrained x0) :=
  fun x0 h => (show (okCtx x0) = true → x0 < 2 ^ 22 by
  simp only [okCtx, decide_eq_true_eq, imp_self]) h
theorem ctxQuery : ∀ x0 x1, Statement (.ctxQuery x0 x1) :=
  fun x0 x1 h => (show (okQueue x0 && okIndex x1) = true → x0 < 4096 ∧ x1 < 2 ^ 32 by
  simp only [okQueue, okIndex, Bool.and_eq_true, decide_eq_true_eq, imp_self]) h
theorem qcourseWrite : ∀ x0 x1, Statement (.qcourseWrite x0 x1) :=
  fun x0 x1 h => (show (okQueue x0 && okIndex x1) = true → x0 < 4096 ∧ x1 < 2 ^ 32 by
  simp only [okQueue, okIndex, Bool.and_eq_true, decide_eq_true_eq, and_assoc, imp_self]) h
theorem qcourseDrained : ∀ x0, Statement (.qcourseDrained x0) :=
  fun x0 h => (show (okQueue x0) = true → x0 < 4096 by
  simp only [okQueue, decide_eq_true_eq, imp_self]) h
theorem keyGenerate : ∀ x0, Statement (.keyGenerate x0) :=
  fun x0 h => (show (okTile x0) = true → x0 < 48 by
  simp only [okTile, decide_eq_true_eq, imp_self]) h
theorem keyImport : ∀ x0, Statement (.keyImport x0) :=
  fun x0 h => (show (okTile x0) = true → x0 < 48 by
  simp only [okTile, decide_eq_true_eq, imp_self]) h
theorem keyExport : ∀ x0, Statement (.keyExport x0) :=
  fun x0 h => (show (okTile x0) = true → x0 < 48 by
  simp only [okTile, decide_eq_true_eq, imp_self]) h
theorem keyReplace : ∀ x0, Statement (.keyReplace x0) :=
  fun x0 h => (show (okTile x0) = true → x0 < 48 by
  simp only [okTile, decide_eq_true_eq, imp_self]) h
theorem keyRevoke : ∀ x0, Statement (.keyRevoke x0) :=
  fun x0 h => (show (okTile x0) = true → x0 < 48 by
  simp only [okTile, Bool.and_eq_true, decide_eq_true_eq, and_assoc, imp_self]) h
theorem keyPinRelease : ∀ x0, Statement (.keyPinRelease x0) :=
  fun x0 h => (show (okHandle x0) = true → x0 < 2 ^ 64 by
  simp only [okHandle, decide_eq_true_eq, imp_self]) h
theorem keyErase : ∀ x0, Statement (.keyErase x0) :=
  fun x0 h => (show (okTile x0) = true → x0 < 48 by
  simp only [okTile, decide_eq_true_eq, imp_self]) h
theorem keyQuery : ∀ x0, Statement (.keyQuery x0) :=
  fun x0 h => (show (okTile x0) = true → x0 < 48 by
  simp only [okTile, decide_eq_true_eq, imp_self]) h
theorem keyPublic : ∀ x0, Statement (.keyPublic x0) :=
  fun x0 h => (show (okTile x0) = true → x0 < 48 by
  simp only [okTile, Bool.and_eq_true, decide_eq_true_eq, and_assoc, imp_self]) h
theorem persistAttach : ∀ x0 x1, Statement (.persistAttach x0 x1) :=
  fun x0 x1 h => (show (okQueue x0 && okIndex x1) = true → x0 < 4096 ∧ x1 < 2 ^ 32 by
  simp only [okQueue, okIndex, Bool.and_eq_true, decide_eq_true_eq, imp_self]) h
theorem persistRegionDeclare : ∀ x0 x1, Statement (.persistRegionDeclare x0 x1) :=
  fun x0 x1 h => (show (okQueue x0 && okIndex x1) = true → x0 < 4096 ∧ x1 < 2 ^ 32 by
  simp only [okQueue, okIndex, Bool.and_eq_true, decide_eq_true_eq, imp_self]) h
theorem persistRegionRemove : ∀ x0 x1, Statement (.persistRegionRemove x0 x1) :=
  fun x0 x1 h => (show (okQueue x0 && okIndex x1) = true → x0 < 4096 ∧ x1 < 2 ^ 32 by
  simp only [okQueue, okIndex, Bool.and_eq_true, decide_eq_true_eq, and_assoc, imp_self]) h
theorem batchOpen : Statement .batchOpen := fun _ => trivial
theorem batchPersisted : Statement .batchPersisted := fun _ => trivial
theorem pageLoadStart : ∀ x0, Statement (.pageLoadStart x0) :=
  fun x0 h => (show (okObj x0) = true → 1 ≤ x0.kind ∧ x0.kind ≤ 3 ∧ x0.part < 256 ∧ x0.level < 5 ∧ x0.num < 2 ^ 32 by
  simp only [okObj, Bool.and_eq_true, decide_eq_true_eq, and_assoc, imp_self]) h
theorem pageImageArrival : ∀ x0 x1 x2, Statement (.pageImageArrival x0 x1 x2) :=
  fun x0 x1 x2 h => (show (okObj x0 && okFrame x1) = true → 1 ≤ x0.kind ∧ x0.kind ≤ 3 ∧ x0.part < 256 ∧ x0.level < 5 ∧ x0.num < 2 ^ 32 ∧ x1 < 2 by
  simp only [okObj, okFrame, Bool.and_eq_true, decide_eq_true_eq, and_assoc, imp_self]) h
theorem leaseRequest : ∀ x0 x1, Statement (.leaseRequest x0 x1) :=
  fun x0 x1 h => (show (okTile x0 && okPart x1) = true → x0 < 48 ∧ x1 < 256 by
  simp only [okTile, okPart, Bool.and_eq_true, decide_eq_true_eq, imp_self]) h
theorem leafLeaseRequest : ∀ x0 x1, Statement (.leafLeaseRequest x0 x1) :=
  fun x0 x1 h => (show (okTile x0 && okHandle x1) = true → x0 < 48 ∧ x1 < 2 ^ 64 by
  simp only [okTile, okHandle, Bool.and_eq_true, decide_eq_true_eq, imp_self]) h
theorem symEncrypt : ∀ x0, Statement (.symEncrypt x0) :=
  fun x0 h => (show (okTile x0) = true → x0 < 48 by
  simp only [okTile, decide_eq_true_eq, imp_self]) h
theorem symDecrypt : ∀ x0, Statement (.symDecrypt x0) :=
  fun x0 h => (show (okTile x0) = true → x0 < 48 by
  simp only [okTile, decide_eq_true_eq, imp_self]) h
theorem macGenerate : ∀ x0, Statement (.macGenerate x0) :=
  fun x0 h => (show (okTile x0) = true → x0 < 48 by
  simp only [okTile, decide_eq_true_eq, imp_self]) h
theorem macVerify : ∀ x0, Statement (.macVerify x0) :=
  fun x0 h => (show (okTile x0) = true → x0 < 48 by
  simp only [okTile, decide_eq_true_eq, imp_self]) h
theorem hash : ∀ x0, Statement (.hash x0) :=
  fun x0 h => (show (okTile x0) = true → x0 < 48 by
  simp only [okTile, decide_eq_true_eq, imp_self]) h
theorem symReencrypt : ∀ x0, Statement (.symReencrypt x0) :=
  fun x0 h => (show (okTile x0) = true → x0 < 48 by
  simp only [okTile, decide_eq_true_eq, imp_self]) h
theorem parityError : ∀ x0 x1 x2, Statement (.parityError x0 x1 x2) :=
  fun x0 x1 x2 h => (show (okTile x0) = true → x0 < 48 by
  simp only [okTile, decide_eq_true_eq, imp_self]) h
theorem pkSign : ∀ x0, Statement (.pkSign x0) :=
  fun x0 h => (show (okTile x0) = true → x0 < 48 by
  simp only [okTile, decide_eq_true_eq, imp_self]) h
theorem pkVerify : ∀ x0, Statement (.pkVerify x0) :=
  fun x0 h => (show (okTile x0) = true → x0 < 48 by
  simp only [okTile, decide_eq_true_eq, imp_self]) h
theorem pkEncrypt : ∀ x0, Statement (.pkEncrypt x0) :=
  fun x0 h => (show (okTile x0) = true → x0 < 48 by
  simp only [okTile, decide_eq_true_eq, imp_self]) h
theorem pkDecrypt : ∀ x0, Statement (.pkDecrypt x0) :=
  fun x0 h => (show (okTile x0) = true → x0 < 48 by
  simp only [okTile, decide_eq_true_eq, imp_self]) h
theorem keyAgree : ∀ x0, Statement (.keyAgree x0) :=
  fun x0 h => (show (okTile x0) = true → x0 < 48 by
  simp only [okTile, decide_eq_true_eq, imp_self]) h
theorem kemEncap : ∀ x0, Statement (.kemEncap x0) :=
  fun x0 h => (show (okTile x0) = true → x0 < 48 by
  simp only [okTile, decide_eq_true_eq, imp_self]) h
theorem kemDecap : ∀ x0, Statement (.kemDecap x0) :=
  fun x0 h => (show (okTile x0) = true → x0 < 48 by
  simp only [okTile, decide_eq_true_eq, imp_self]) h
theorem yieldPoint : ∀ x0, Statement (.yieldPoint x0) :=
  fun x0 h => (show (okTile x0) = true → x0 < 48 by
  simp only [okTile, decide_eq_true_eq, imp_self]) h
theorem yieldWindowEnd : ∀ x0, Statement (.yieldWindowEnd x0) :=
  fun x0 h => (show (okTile x0) = true → x0 < 48 by
  simp only [okTile, decide_eq_true_eq, imp_self]) h
theorem slotBoundary : ∀ x0, Statement (.slotBoundary x0) :=
  fun x0 h => (show (okTile x0) = true → x0 < 48 by
  simp only [okTile, decide_eq_true_eq, imp_self]) h
theorem pinTranslate : ∀ x0, Statement (.pinTranslate x0) :=
  fun x0 h => (show (okTile x0) = true → x0 < 48 by
  simp only [okTile, decide_eq_true_eq, imp_self]) h
theorem pinVerify : ∀ x0, Statement (.pinVerify x0) :=
  fun x0 h => (show (okTile x0) = true → x0 < 48 by
  simp only [okTile, decide_eq_true_eq, imp_self]) h
theorem pinValueGenerate : ∀ x0, Statement (.pinValueGenerate x0) :=
  fun x0 h => (show (okTile x0) = true → x0 < 48 by
  simp only [okTile, decide_eq_true_eq, imp_self]) h
theorem payMacGenerate : ∀ x0, Statement (.payMacGenerate x0) :=
  fun x0 h => (show (okTile x0) = true → x0 < 48 by
  simp only [okTile, decide_eq_true_eq, imp_self]) h
theorem payMacVerify : ∀ x0, Statement (.payMacVerify x0) :=
  fun x0 h => (show (okTile x0) = true → x0 < 48 by
  simp only [okTile, decide_eq_true_eq, imp_self]) h
theorem valueGenerate : ∀ x0, Statement (.valueGenerate x0) :=
  fun x0 h => (show (okTile x0) = true → x0 < 48 by
  simp only [okTile, decide_eq_true_eq, imp_self]) h
theorem valueVerify : ∀ x0, Statement (.valueVerify x0) :=
  fun x0 h => (show (okTile x0) = true → x0 < 48 by
  simp only [okTile, decide_eq_true_eq, imp_self]) h
theorem emvArqcVerify : ∀ x0, Statement (.emvArqcVerify x0) :=
  fun x0 h => (show (okTile x0) = true → x0 < 48 by
  simp only [okTile, decide_eq_true_eq, imp_self]) h
theorem dukptInitExport : ∀ x0, Statement (.dukptInitExport x0) :=
  fun x0 h => (show (okTile x0) = true → x0 < 48 by
  simp only [okTile, Bool.and_eq_true, decide_eq_true_eq, and_assoc, imp_self]) h
theorem componentBegin : ∀ x0 x1, Statement (.componentBegin x0 x1) :=
  fun x0 x1 h => (show (okQueue x0 && okIndex x1) = true → x0 < 4096 ∧ x1 < 2 ^ 32 by
  simp only [okQueue, okIndex, Bool.and_eq_true, decide_eq_true_eq, imp_self]) h
theorem componentAdd : ∀ x0 x1, Statement (.componentAdd x0 x1) :=
  fun x0 x1 h => (show (okQueue x0 && okIndex x1) = true → x0 < 4096 ∧ x1 < 2 ^ 32 by
  simp only [okQueue, okIndex, Bool.and_eq_true, decide_eq_true_eq, imp_self]) h
theorem componentCommit : ∀ x0 x1, Statement (.componentCommit x0 x1) :=
  fun x0 x1 h => (show (okQueue x0 && okIndex x1) = true → x0 < 4096 ∧ x1 < 2 ^ 32 by
  simp only [okQueue, okIndex, Bool.and_eq_true, decide_eq_true_eq, and_assoc, imp_self]) h
theorem componentLoadExpiry : ∀ x0, Statement (.componentLoadExpiry x0) :=
  fun x0 h => (show (okLoad x0) = true → x0 < 2 ^ 32 by
  simp only [okLoad, decide_eq_true_eq, imp_self]) h
theorem objSeal : ∀ x0, Statement (.objSeal x0) :=
  fun x0 h => (show (okTile x0) = true → x0 < 48 by
  simp only [okTile, decide_eq_true_eq, imp_self]) h
theorem objOpen : ∀ x0, Statement (.objOpen x0) :=
  fun x0 h => (show (okTile x0) = true → x0 < 48 by
  simp only [okTile, decide_eq_true_eq, imp_self]) h
theorem manifestBuild : ∀ x0, Statement (.manifestBuild x0) :=
  fun x0 h => (show (okTile x0) = true → x0 < 48 by
  simp only [okTile, decide_eq_true_eq, imp_self]) h
theorem manifestSign : ∀ x0, Statement (.manifestSign x0) :=
  fun x0 h => (show (okTile x0) = true → x0 < 48 by
  simp only [okTile, decide_eq_true_eq, imp_self]) h
theorem custodySign : ∀ x0, Statement (.custodySign x0) :=
  fun x0 h => (show (okTile x0) = true → x0 < 48 by
  simp only [okTile, decide_eq_true_eq, imp_self]) h
theorem timestamp : ∀ x0, Statement (.timestamp x0) :=
  fun x0 h => (show (okTile x0) = true → x0 < 48 by
  simp only [okTile, decide_eq_true_eq, imp_self]) h
theorem timeQuery : ∀ x0, Statement (.timeQuery x0) :=
  fun x0 h => (show (okTile x0) = true → x0 < 48 by
  simp only [okTile, decide_eq_true_eq, imp_self]) h
theorem chainAppend : ∀ x0, Statement (.chainAppend x0) :=
  fun x0 h => (show (okTile x0) = true → x0 < 48 by
  simp only [okTile, Bool.and_eq_true, decide_eq_true_eq, and_assoc, imp_self]) h
theorem repointOpen : ∀ x0 x1, Statement (.repointOpen x0 x1) :=
  fun x0 x1 h => (show (okQueue x0 && okIndex x1) = true → x0 < 4096 ∧ x1 < 2 ^ 32 by
  simp only [okQueue, okIndex, Bool.and_eq_true, decide_eq_true_eq, imp_self]) h
theorem repointQuery : ∀ x0 x1, Statement (.repointQuery x0 x1) :=
  fun x0 x1 h => (show (okQueue x0 && okIndex x1) = true → x0 < 4096 ∧ x1 < 2 ^ 32 by
  simp only [okQueue, okIndex, Bool.and_eq_true, decide_eq_true_eq, imp_self]) h
theorem repointCommit : ∀ x0 x1, Statement (.repointCommit x0 x1) :=
  fun x0 x1 h => (show (okQueue x0 && okIndex x1) = true → x0 < 4096 ∧ x1 < 2 ^ 32 by
  simp only [okQueue, okIndex, Bool.and_eq_true, decide_eq_true_eq, imp_self]) h
theorem repointCommitDrained : Statement .repointCommitDrained := fun _ => trivial
theorem repointAbandon : ∀ x0 x1, Statement (.repointAbandon x0 x1) :=
  fun x0 x1 h => (show (okQueue x0 && okIndex x1) = true → x0 < 4096 ∧ x1 < 2 ^ 32 by
  simp only [okQueue, okIndex, Bool.and_eq_true, decide_eq_true_eq, and_assoc, imp_self]) h
theorem campaignStep : Statement .campaignStep := fun _ => trivial
theorem lineReadReturn : ∀ x0 x1 x2, Statement (.lineReadReturn x0 x1 x2) :=
  fun x0 x1 x2 h => (show (okChannel x0) = true → x0 < 8 by
  simp only [okChannel, decide_eq_true_eq, imp_self]) h
theorem patrolScrubStep : ∀ x0 x1, Statement (.patrolScrubStep x0 x1) :=
  fun x0 x1 h => (show (okChannel x0) = true → x0 < 8 by
  simp only [okChannel, decide_eq_true_eq, imp_self]) h
theorem ecsPass : ∀ x0 x1, Statement (.ecsPass x0 x1) :=
  fun x0 x1 h => (show (okChannel x0) = true → x0 < 8 by
  simp only [okChannel, decide_eq_true_eq, imp_self]) h
theorem refreshTick : ∀ x0 x1, Statement (.refreshTick x0 x1) :=
  fun x0 x1 h => (show (okChannel x0) = true → x0 < 8 by
  simp only [okChannel, decide_eq_true_eq, imp_self]) h
theorem sidebandPoll : ∀ x0 x1, Statement (.sidebandPoll x0 x1) :=
  fun x0 x1 h => (show (okChannel x0) = true → x0 < 8 by
  simp only [okChannel, Bool.and_eq_true, decide_eq_true_eq, and_assoc, imp_self]) h
theorem retrain : ∀ x0 x1, Statement (.retrain x0 x1) :=
  fun x0 x1 h => (show (okQueue x0 && okIndex x1) = true → x0 < 4096 ∧ x1 < 2 ^ 32 by
  simp only [okQueue, okIndex, Bool.and_eq_true, decide_eq_true_eq, imp_self]) h
theorem retrainDone : Statement .retrainDone := fun _ => trivial
theorem evacuate : ∀ x0 x1, Statement (.evacuate x0 x1) :=
  fun x0 x1 h => (show (okQueue x0 && okIndex x1) = true → x0 < 4096 ∧ x1 < 2 ^ 32 by
  simp only [okQueue, okIndex, Bool.and_eq_true, decide_eq_true_eq, imp_self]) h
theorem evacuateDone : Statement .evacuateDone := fun _ => trivial
theorem powerDown : ∀ x0 x1, Statement (.powerDown x0 x1) :=
  fun x0 x1 h => (show (okQueue x0 && okIndex x1) = true → x0 < 4096 ∧ x1 < 2 ^ 32 by
  simp only [okQueue, okIndex, Bool.and_eq_true, decide_eq_true_eq, imp_self]) h
theorem restore : ∀ x0 x1, Statement (.restore x0 x1) :=
  fun x0 x1 h => (show (okQueue x0 && okIndex x1) = true → x0 < 4096 ∧ x1 < 2 ^ 32 by
  simp only [okQueue, okIndex, Bool.and_eq_true, decide_eq_true_eq, and_assoc, imp_self]) h
theorem restoreSupplySettled : ∀ x0, Statement (.restoreSupplySettled x0) :=
  fun _ _ => trivial
theorem restoreDone : Statement .restoreDone := fun _ => trivial
theorem markAbsent : ∀ x0 x1, Statement (.markAbsent x0 x1) :=
  fun x0 x1 h => (show (okQueue x0 && okIndex x1) = true → x0 < 4096 ∧ x1 < 2 ^ 32 by
  simp only [okQueue, okIndex, Bool.and_eq_true, decide_eq_true_eq, imp_self]) h
theorem entropyStart : ∀ x0 x1, Statement (.entropyStart x0 x1) :=
  fun _ _ _ => trivial
theorem entropyWindow : ∀ x0 x1, Statement (.entropyWindow x0 x1) :=
  fun x0 x1 h => (show (okSource x0) = true → x0 < 22 by
  simp only [okSource, decide_eq_true_eq, imp_self]) h
theorem entropyRequest : ∀ x0 x1 x2, Statement (.entropyRequest x0 x1 x2) :=
  fun x0 x1 x2 h => (show (okPart x0) = true → x0 < 256 by
  simp only [okPart, decide_eq_true_eq, imp_self]) h
theorem restart : ∀ x0 x1, Statement (.restart x0 x1) :=
  fun x0 x1 h => (show (okQueue x0 && okIndex x1) = true → x0 < 4096 ∧ x1 < 2 ^ 32 by
  simp only [okQueue, okIndex, Bool.and_eq_true, decide_eq_true_eq, imp_self]) h
theorem kat : ∀ x0 x1 x2, Statement (.kat x0 x1 x2) :=
  fun x0 x1 x2 h => (show (okQueue x0 && okIndex x1) = true → x0 < 4096 ∧ x1 < 2 ^ 32 by
  simp only [okQueue, okIndex, Bool.and_eq_true, decide_eq_true_eq, imp_self]) h
theorem sourceOut : ∀ x0 x1, Statement (.sourceOut x0 x1) :=
  fun x0 x1 h => (show (okQueue x0 && okIndex x1) = true → x0 < 4096 ∧ x1 < 2 ^ 32 by
  simp only [okQueue, okIndex, Bool.and_eq_true, decide_eq_true_eq, imp_self]) h
theorem sourceIn : ∀ x0 x1 x2, Statement (.sourceIn x0 x1 x2) :=
  fun x0 x1 x2 h => (show (okQueue x0 && okIndex x1) = true → x0 < 4096 ∧ x1 < 2 ^ 32 by
  simp only [okQueue, okIndex, Bool.and_eq_true, decide_eq_true_eq, and_assoc, imp_self]) h
theorem rngGenerate : ∀ x0, Statement (.rngGenerate x0) :=
  fun x0 h => (show (okTile x0) = true → x0 < 48 by
  simp only [okTile, decide_eq_true_eq, imp_self]) h
theorem rngStatus : ∀ x0, Statement (.rngStatus x0) :=
  fun x0 h => (show (okTile x0) = true → x0 < 48 by
  simp only [okTile, Bool.and_eq_true, decide_eq_true_eq, and_assoc, imp_self]) h
theorem prtStage : ∀ x0 x1, Statement (.prtStage x0 x1) :=
  fun x0 x1 h => (show (okQueue x0 && okIndex x1) = true → x0 < 4096 ∧ x1 < 2 ^ 32 by
  simp only [okQueue, okIndex, Bool.and_eq_true, decide_eq_true_eq, imp_self]) h
theorem prtApply : ∀ x0 x1, Statement (.prtApply x0 x1) :=
  fun x0 x1 h => (show (okQueue x0 && okIndex x1) = true → x0 < 4096 ∧ x1 < 2 ^ 32 by
  simp only [okQueue, okIndex, Bool.and_eq_true, decide_eq_true_eq, and_assoc, imp_self]) h
theorem liveRestartHodBound : Statement .liveRestartHodBound := fun _ => trivial
theorem liveRestartDone : Statement .liveRestartDone := fun _ => trivial
theorem prtQuery : ∀ x0 x1, Statement (.prtQuery x0 x1) :=
  fun x0 x1 h => (show (okQueue x0 && okIndex x1) = true → x0 < 4096 ∧ x1 < 2 ^ 32 by
  simp only [okQueue, okIndex, Bool.and_eq_true, decide_eq_true_eq, imp_self]) h
theorem drain : ∀ x0 x1, Statement (.drain x0 x1) :=
  fun x0 x1 h => (show (okQueue x0 && okIndex x1) = true → x0 < 4096 ∧ x1 < 2 ^ 32 by
  simp only [okQueue, okIndex, Bool.and_eq_true, decide_eq_true_eq, and_assoc, imp_self]) h
theorem tileDrained : ∀ x0, Statement (.tileDrained x0) :=
  fun x0 h => (show (okTile x0) = true → x0 < 48 by
  simp only [okTile, decide_eq_true_eq, imp_self]) h
theorem ret : ∀ x0 x1, Statement (.ret x0 x1) :=
  fun x0 x1 h => (show (okQueue x0 && okIndex x1) = true → x0 < 4096 ∧ x1 < 2 ^ 32 by
  simp only [okQueue, okIndex, Bool.and_eq_true, decide_eq_true_eq, imp_self]) h
theorem tileSelfTestDone : ∀ x0 x1, Statement (.tileSelfTestDone x0 x1) :=
  fun x0 x1 h => (show (okTile x0) = true → x0 < 48 by
  simp only [okTile, decide_eq_true_eq, imp_self]) h
theorem tilReset : ∀ x0 x1, Statement (.tilReset x0 x1) :=
  fun x0 x1 h => (show (okQueue x0 && okIndex x1) = true → x0 < 4096 ∧ x1 < 2 ^ 32 by
  simp only [okQueue, okIndex, Bool.and_eq_true, decide_eq_true_eq, imp_self]) h
theorem lcyTransition : ∀ x0 x1 x2, Statement (.lcyTransition x0 x1 x2) :=
  fun x0 x1 x2 h => (show (okQueue x0 && okIndex x1) = true → x0 < 4096 ∧ x1 < 2 ^ 32 by
  simp only [okQueue, okIndex, Bool.and_eq_true, decide_eq_true_eq, imp_self]) h
theorem userErase : ∀ x0 x1, Statement (.userErase x0 x1) :=
  fun x0 x1 h => (show (okQueue x0 && okIndex x1) = true → x0 < 4096 ∧ x1 < 2 ^ 32 by
  simp only [okQueue, okIndex, Bool.and_eq_true, decide_eq_true_eq, imp_self]) h
theorem lcySvnAdvance : ∀ x0 x1 x2, Statement (.lcySvnAdvance x0 x1 x2) :=
  fun x0 x1 x2 h => (show (okQueue x0 && okIndex x1) = true → x0 < 4096 ∧ x1 < 2 ^ 32 by
  simp only [okQueue, okIndex, Bool.and_eq_true, decide_eq_true_eq, imp_self]) h
theorem debugChallenge : ∀ x0 x1, Statement (.debugChallenge x0 x1) :=
  fun x0 x1 h => (show (okQueue x0 && okIndex x1) = true → x0 < 4096 ∧ x1 < 2 ^ 32 by
  simp only [okQueue, okIndex, Bool.and_eq_true, decide_eq_true_eq, imp_self]) h
theorem debugOpen : ∀ x0 x1, Statement (.debugOpen x0 x1) :=
  fun x0 x1 h => (show (okQueue x0 && okIndex x1) = true → x0 < 4096 ∧ x1 < 2 ^ 32 by
  simp only [okQueue, okIndex, Bool.and_eq_true, decide_eq_true_eq, and_assoc, imp_self]) h
theorem attest : ∀ x0, Statement (.attest x0) :=
  fun x0 h => (show (okTile x0) = true → x0 < 48 by
  simp only [okTile, decide_eq_true_eq, imp_self]) h
theorem railGlitch : ∀ x0, Statement (.railGlitch x0) :=
  fun x0 h => (show (okRail x0) = true → x0 < 8 by
  simp only [okRail, decide_eq_true_eq, imp_self]) h
theorem railExcursion : ∀ x0, Statement (.railExcursion x0) :=
  fun x0 h => (show (okRail x0) = true → x0 < 8 by
  simp only [okRail, Bool.and_eq_true, decide_eq_true_eq, and_assoc, imp_self]) h
theorem meshSample : ∀ x0, Statement (.meshSample x0) :=
  fun x0 h => (show (okMesh x0) = true → x0.length = 8 by
  simp only [okMesh, decide_eq_true_eq, imp_self]) h
theorem enclosureSample : ∀ x0, Statement (.enclosureSample x0) :=
  fun _ _ => trivial
theorem clockWindow : ∀ x0 x1 x2 x3, Statement (.clockWindow x0 x1 x2 x3) :=
  fun x0 x1 x2 x3 h => (show (okIsland x0) = true → x0 < 64 by
  simp only [okIsland, decide_eq_true_eq, imp_self]) h
theorem dieTempSample : ∀ x0, Statement (.dieTempSample x0) :=
  fun x0 h => (show (okTemps x0) = true → x0.length = 10 by
  simp only [okTemps, decide_eq_true_eq, imp_self]) h
theorem cellExcursion : ∀ x0 x1, Statement (.cellExcursion x0 x1) :=
  fun x0 x1 h => (show (okCell x0 && okMv x1) = true → x0 < 2 ∧ x1 < 2 ^ 16 by
  simp only [okCell, okMv, Bool.and_eq_true, decide_eq_true_eq, imp_self]) h
theorem purgeRecoveryPass : ∀ x0, Statement (.purgeRecoveryPass x0) :=
  fun _ _ => trivial
theorem episodeEnd : Statement .episodeEnd := fun _ => trivial
theorem tamperClear : ∀ x0 x1, Statement (.tamperClear x0 x1) :=
  fun x0 x1 h => (show (okQueue x0 && okIndex x1) = true → x0 < 4096 ∧ x1 < 2 ^ 32 by
  simp only [okQueue, okIndex, Bool.and_eq_true, decide_eq_true_eq, imp_self]) h
theorem vaultPolarityRefresh : Statement .vaultPolarityRefresh := fun _ => trivial
theorem cellSupplySwitch : ∀ x0 x1, Statement (.cellSupplySwitch x0 x1) :=
  fun x0 x1 h => (show (okMv x0 && okMv x1) = true → x0 < 2 ^ 16 ∧ x1 < 2 ^ 16 by
  simp only [okMv, Bool.and_eq_true, decide_eq_true_eq, imp_self]) h
theorem cellChargeControl : ∀ x0 x1 x2, Statement (.cellChargeControl x0 x1 x2) :=
  fun x0 x1 x2 h => (show (okCell x0 && okMv x1) = true → x0 < 2 ∧ x1 < 2 ^ 16 by
  simp only [okCell, okMv, Bool.and_eq_true, decide_eq_true_eq, imp_self]) h
theorem cellPeriodicLoadTest : ∀ x0, Statement (.cellPeriodicLoadTest x0) :=
  fun x0 h => (show (okCell x0) = true → x0 < 2 by
  simp only [okCell, decide_eq_true_eq, imp_self]) h
theorem remove : ∀ x0 x1, Statement (.remove x0 x1) :=
  fun x0 x1 h => (show (okQueue x0 && okIndex x1) = true → x0 < 4096 ∧ x1 < 2 ^ 32 by
  simp only [okQueue, okIndex, Bool.and_eq_true, decide_eq_true_eq, imp_self]) h
theorem cellInserted : ∀ x0 x1, Statement (.cellInserted x0 x1) :=
  fun x0 x1 h => (show (okCell x0 && okMv x1) = true → x0 < 2 ∧ x1 < 2 ^ 16 by
  simp only [okCell, okMv, Bool.and_eq_true, decide_eq_true_eq, imp_self]) h
theorem loadTest : ∀ x0 x1, Statement (.loadTest x0 x1) :=
  fun x0 x1 h => (show (okQueue x0 && okIndex x1) = true → x0 < 4096 ∧ x1 < 2 ^ 32 by
  simp only [okQueue, okIndex, Bool.and_eq_true, decide_eq_true_eq, imp_self]) h
theorem depassivate : ∀ x0 x1, Statement (.depassivate x0 x1) :=
  fun x0 x1 h => (show (okQueue x0 && okIndex x1) = true → x0 < 4096 ∧ x1 < 2 ^ 32 by
  simp only [okQueue, okIndex, Bool.and_eq_true, decide_eq_true_eq, and_assoc, imp_self]) h
theorem depassivationPulse : ∀ x0 x1, Statement (.depassivationPulse x0 x1) :=
  fun x0 x1 h => (show (okCell x0 && okMv x1) = true → x0 < 2 ∧ x1 < 2 ^ 16 by
  simp only [okCell, okMv, Bool.and_eq_true, decide_eq_true_eq, imp_self]) h
theorem gaugeReset : ∀ x0 x1, Statement (.gaugeReset x0 x1) :=
  fun x0 x1 h => (show (okQueue x0 && okIndex x1) = true → x0 < 4096 ∧ x1 < 2 ^ 32 by
  simp only [okQueue, okIndex, Bool.and_eq_true, decide_eq_true_eq, imp_self]) h
theorem vaultAdopt : ∀ x0 x1, Statement (.vaultAdopt x0 x1) :=
  fun x0 x1 h => (show (okQueue x0 && okIndex x1) = true → x0 < 4096 ∧ x1 < 2 ^ 32 by
  simp only [okQueue, okIndex, Bool.and_eq_true, decide_eq_true_eq, and_assoc, imp_self]) h
theorem feedBelowLow : ∀ x0, Statement (.feedBelowLow x0) :=
  fun x0 h => (show (okMv x0) = true → x0 < 2 ^ 16 by
  simp only [okMv, decide_eq_true_eq, imp_self]) h
theorem deglitchExpiry : Statement .deglitchExpiry := fun _ => trivial
theorem switchoverComplete : Statement .switchoverComplete := fun _ => trivial
theorem tileResume : Statement .tileResume := fun _ => trivial
theorem feedAboveHigh : ∀ x0 x1, Statement (.feedAboveHigh x0 x1) :=
  fun x0 x1 h => (show (okFeed x0 && okMv x1) = true → x0 < 2 ∧ x1 < 2 ^ 16 by
  simp only [okFeed, okMv, Bool.and_eq_true, decide_eq_true_eq, imp_self]) h
theorem feedGood : ∀ x0 x1, Statement (.feedGood x0 x1) :=
  fun x0 x1 h => (show (okFeed x0 && okMv x1) = true → x0 < 2 ∧ x1 < 2 ^ 16 by
  simp only [okFeed, okMv, Bool.and_eq_true, decide_eq_true_eq, and_assoc, imp_self]) h
theorem autoReturnExpiry : Statement .autoReturnExpiry := fun _ => trivial
theorem selectA : ∀ x0 x1, Statement (.selectA x0 x1) :=
  fun x0 x1 h => (show (okQueue x0 && okIndex x1) = true → x0 < 4096 ∧ x1 < 2 ^ 32 by
  simp only [okQueue, okIndex, Bool.and_eq_true, decide_eq_true_eq, imp_self]) h
theorem selectB : ∀ x0 x1, Statement (.selectB x0 x1) :=
  fun x0 x1 h => (show (okQueue x0 && okIndex x1) = true → x0 < 4096 ∧ x1 < 2 ^ 32 by
  simp only [okQueue, okIndex, Bool.and_eq_true, decide_eq_true_eq, and_assoc, imp_self]) h
theorem thermalTick : ∀ x0 x1, Statement (.thermalTick x0 x1) :=
  fun _ _ _ => trivial
theorem fanStall : ∀ x0, Statement (.fanStall x0) :=
  fun x0 h => (show (okMv x0) = true → x0 < 2 ^ 16 by
  simp only [okMv, decide_eq_true_eq, imp_self]) h
theorem heartbeatSend : Statement .heartbeatSend := fun _ => trivial
theorem heartbeatRx : ∀ x0, Statement (.heartbeatRx x0) :=
  fun _ _ => trivial
theorem heartbeatMiss : Statement .heartbeatMiss := fun _ => trivial
theorem probeRx : Statement .probeRx := fun _ => trivial
theorem probeAckRx : Statement .probeAckRx := fun _ => trivial
theorem probeTimeout : Statement .probeTimeout := fun _ => trivial
theorem svcLinkLossExpiry : Statement .svcLinkLossExpiry := fun _ => trivial
theorem witnessCasResult : ∀ x0, Statement (.witnessCasResult x0) :=
  fun x0 h => (show (okWord64 x0) = true → x0 < 2 ^ 64 by
  simp only [okWord64, decide_eq_true_eq, imp_self]) h
theorem witnessTimeout : Statement .witnessTimeout := fun _ => trivial
theorem witnessRetry : Statement .witnessRetry := fun _ => trivial
theorem queueResume : ∀ x0 x1, Statement (.queueResume x0 x1) :=
  fun x0 x1 h => (show (okQueue x0) = true → x0 < 4096 by
  simp only [okQueue, decide_eq_true_eq, imp_self]) h
theorem mirrorBatchRx : ∀ x0, Statement (.mirrorBatchRx x0) :=
  fun _ _ => trivial
theorem batchAckRx : ∀ x0, Statement (.batchAckRx x0) :=
  fun _ _ => trivial
theorem transportSend : Statement .transportSend := fun _ => trivial
theorem transportRx : ∀ x0, Statement (.transportRx x0) :=
  fun _ _ => trivial
theorem pageReqRx : ∀ x0, Statement (.pageReqRx x0) :=
  fun x0 h => (show (okObj x0) = true → 1 ≤ x0.kind ∧ x0.kind ≤ 3 ∧ x0.part < 256 ∧ x0.level < 5 ∧ x0.num < 2 ^ 32 by
  simp only [okObj, Bool.and_eq_true, decide_eq_true_eq, and_assoc, imp_self]) h
theorem pageDataRx : ∀ x0 x1, Statement (.pageDataRx x0 x1) :=
  fun x0 x1 h => (show (okObj x0) = true → 1 ≤ x0.kind ∧ x0.kind ≤ 3 ∧ x0.part < 256 ∧ x0.level < 5 ∧ x0.num < 2 ^ 32 by
  simp only [okObj, Bool.and_eq_true, decide_eq_true_eq, and_assoc, imp_self]) h
theorem resyncRx : ∀ x0, Statement (.resyncRx x0) :=
  fun _ _ => trivial
theorem mirrorLinkUp : ∀ x0, Statement (.mirrorLinkUp x0) :=
  fun _ _ => trivial
theorem mirrorPathReturn : Statement .mirrorPathReturn := fun _ => trivial
theorem pairBind : ∀ x0 x1 x2 x3 x4, Statement (.pairBind x0 x1 x2 x3 x4) :=
  fun x0 x1 x2 x3 x4 h => (show (okQueue x0 && okIndex x1) = true → x0 < 4096 ∧ x1 < 2 ^ 32 by
  simp only [okQueue, okIndex, Bool.and_eq_true, decide_eq_true_eq, imp_self]) h
theorem pairQuery : ∀ x0 x1, Statement (.pairQuery x0 x1) :=
  fun x0 x1 h => (show (okQueue x0 && okIndex x1) = true → x0 < 4096 ∧ x1 < 2 ^ 32 by
  simp only [okQueue, okIndex, Bool.and_eq_true, decide_eq_true_eq, imp_self]) h
theorem pairUnbind : ∀ x0 x1, Statement (.pairUnbind x0 x1) :=
  fun x0 x1 h => (show (okQueue x0 && okIndex x1) = true → x0 < 4096 ∧ x1 < 2 ^ 32 by
  simp only [okQueue, okIndex, Bool.and_eq_true, decide_eq_true_eq, imp_self]) h
theorem pairUnfence : ∀ x0 x1, Statement (.pairUnfence x0 x1) :=
  fun x0 x1 h => (show (okQueue x0 && okIndex x1) = true → x0 < 4096 ∧ x1 < 2 ^ 32 by
  simp only [okQueue, okIndex, Bool.and_eq_true, decide_eq_true_eq, imp_self]) h
theorem pairSwitch : ∀ x0 x1, Statement (.pairSwitch x0 x1) :=
  fun x0 x1 h => (show (okQueue x0 && okIndex x1) = true → x0 < 4096 ∧ x1 < 2 ^ 32 by
  simp only [okQueue, okIndex, Bool.and_eq_true, decide_eq_true_eq, imp_self]) h
theorem cfgRead : ∀ x0 x1, Statement (.cfgRead x0 x1) :=
  fun x0 x1 h => (show (okQueue x0 && okIndex x1) = true → x0 < 4096 ∧ x1 < 2 ^ 32 by
  simp only [okQueue, okIndex, Bool.and_eq_true, decide_eq_true_eq, imp_self]) h
theorem cfgWrite : ∀ x0 x1, Statement (.cfgWrite x0 x1) :=
  fun x0 x1 h => (show (okQueue x0 && okIndex x1) = true → x0 < 4096 ∧ x1 < 2 ^ 32 by
  simp only [okQueue, okIndex, Bool.and_eq_true, decide_eq_true_eq, imp_self]) h
theorem cfgStage : ∀ x0 x1, Statement (.cfgStage x0 x1) :=
  fun x0 x1 h => (show (okQueue x0 && okIndex x1) = true → x0 < 4096 ∧ x1 < 2 ^ 32 by
  simp only [okQueue, okIndex, Bool.and_eq_true, decide_eq_true_eq, imp_self]) h
theorem cfgApply : ∀ x0 x1, Statement (.cfgApply x0 x1) :=
  fun x0 x1 h => (show (okQueue x0 && okIndex x1) = true → x0 < 4096 ∧ x1 < 2 ^ 32 by
  simp only [okQueue, okIndex, Bool.and_eq_true, decide_eq_true_eq, imp_self]) h
theorem sessionChallenge : ∀ x0 x1, Statement (.sessionChallenge x0 x1) :=
  fun x0 x1 h => (show (okQueue x0 && okIndex x1) = true → x0 < 4096 ∧ x1 < 2 ^ 32 by
  simp only [okQueue, okIndex, Bool.and_eq_true, decide_eq_true_eq, imp_self]) h
theorem sessionOpen : ∀ x0 x1, Statement (.sessionOpen x0 x1) :=
  fun x0 x1 h => (show (okQueue x0 && okIndex x1) = true → x0 < 4096 ∧ x1 < 2 ^ 32 by
  simp only [okQueue, okIndex, Bool.and_eq_true, decide_eq_true_eq, imp_self]) h
theorem sessionClose : ∀ x0 x1, Statement (.sessionClose x0 x1) :=
  fun x0 x1 h => (show (okQueue x0 && okIndex x1) = true → x0 < 4096 ∧ x1 < 2 ^ 32 by
  simp only [okQueue, okIndex, Bool.and_eq_true, decide_eq_true_eq, and_assoc, imp_self]) h
theorem sessionIdleExpiry : ∀ x0, Statement (.sessionIdleExpiry x0) :=
  fun x0 h => (show (okQueue x0) = true → x0 < 4096 by
  simp only [okQueue, decide_eq_true_eq, imp_self]) h
theorem ceremonyBegin : ∀ x0 x1, Statement (.ceremonyBegin x0 x1) :=
  fun x0 x1 h => (show (okQueue x0 && okIndex x1) = true → x0 < 4096 ∧ x1 < 2 ^ 32 by
  simp only [okQueue, okIndex, Bool.and_eq_true, decide_eq_true_eq, imp_self]) h
theorem ceremonyJoin : ∀ x0 x1, Statement (.ceremonyJoin x0 x1) :=
  fun x0 x1 h => (show (okQueue x0 && okIndex x1) = true → x0 < 4096 ∧ x1 < 2 ^ 32 by
  simp only [okQueue, okIndex, Bool.and_eq_true, decide_eq_true_eq, imp_self]) h
theorem ceremonyEnd : ∀ x0 x1, Statement (.ceremonyEnd x0 x1) :=
  fun x0 x1 h => (show (okQueue x0 && okIndex x1) = true → x0 < 4096 ∧ x1 < 2 ^ 32 by
  simp only [okQueue, okIndex, Bool.and_eq_true, decide_eq_true_eq, imp_self]) h
theorem ceremonyExpiry : Statement .ceremonyExpiry := fun _ => trivial
theorem actorEnrol : ∀ x0 x1, Statement (.actorEnrol x0 x1) :=
  fun x0 x1 h => (show (okQueue x0 && okIndex x1) = true → x0 < 4096 ∧ x1 < 2 ^ 32 by
  simp only [okQueue, okIndex, Bool.and_eq_true, decide_eq_true_eq, imp_self]) h
theorem actorRemove : ∀ x0 x1, Statement (.actorRemove x0 x1) :=
  fun x0 x1 h => (show (okQueue x0 && okIndex x1) = true → x0 < 4096 ∧ x1 < 2 ^ 32 by
  simp only [okQueue, okIndex, Bool.and_eq_true, decide_eq_true_eq, imp_self]) h
theorem fwStage : ∀ x0 x1, Statement (.fwStage x0 x1) :=
  fun x0 x1 h => (show (okQueue x0 && okIndex x1) = true → x0 < 4096 ∧ x1 < 2 ^ 32 by
  simp only [okQueue, okIndex, Bool.and_eq_true, decide_eq_true_eq, imp_self]) h
theorem fwWriteBank : ∀ x0 x1, Statement (.fwWriteBank x0 x1) :=
  fun x0 x1 h => (show (okQueue x0 && okIndex x1) = true → x0 < 4096 ∧ x1 < 2 ^ 32 by
  simp only [okQueue, okIndex, Bool.and_eq_true, decide_eq_true_eq, imp_self]) h
theorem fwActivate : ∀ x0 x1, Statement (.fwActivate x0 x1) :=
  fun x0 x1 h => (show (okQueue x0 && okIndex x1) = true → x0 < 4096 ∧ x1 < 2 ^ 32 by
  simp only [okQueue, okIndex, Bool.and_eq_true, decide_eq_true_eq, imp_self]) h
theorem fwRelease : ∀ x0 x1, Statement (.fwRelease x0 x1) :=
  fun x0 x1 h => (show (okQueue x0 && okIndex x1) = true → x0 < 4096 ∧ x1 < 2 ^ 32 by
  simp only [okQueue, okIndex, Bool.and_eq_true, decide_eq_true_eq, and_assoc, imp_self]) h
theorem floodEnd : ∀ x0 x1, Statement (.floodEnd x0 x1) :=
  fun x0 x1 h => (show (okRing x0) = true → x0 < 258 by
  simp only [okRing, decide_eq_true_eq, imp_self]) h
theorem eventSendTimer : ∀ x0, Statement (.eventSendTimer x0) :=
  fun x0 h => (show (okRing x0) = true → x0 < 258 by
  simp only [okRing, Bool.and_eq_true, decide_eq_true_eq, and_assoc, imp_self]) h
theorem evqAttach : ∀ x0, Statement (.evqAttach x0) :=
  fun x0 h => (show (okTile x0) = true → x0 < 48 by
  simp only [okTile, decide_eq_true_eq, imp_self]) h
theorem evqMark : ∀ x0, Statement (.evqMark x0) :=
  fun x0 h => (show (okTile x0) = true → x0 < 48 by
  simp only [okTile, decide_eq_true_eq, imp_self]) h
theorem evqRewind : ∀ x0, Statement (.evqRewind x0) :=
  fun x0 h => (show (okTile x0) = true → x0 < 48 by
  simp only [okTile, Bool.and_eq_true, decide_eq_true_eq, and_assoc, imp_self]) h
theorem cardDetect : ∀ x0, Statement (.cardDetect x0) :=
  fun x0 h => (show (okCardPort x0) = true → x0 < 4 by
  simp only [okCardPort, decide_eq_true_eq, imp_self]) h
theorem cardCmd1Poll : ∀ x0 x1, Statement (.cardCmd1Poll x0 x1) :=
  fun x0 x1 h => (show (okCardPort x0) = true → x0 < 4 by
  simp only [okCardPort, Bool.and_eq_true, decide_eq_true_eq, and_assoc, imp_self]) h
theorem cardIdentify : ∀ x0 x1 x2, Statement (.cardIdentify x0 x1 x2) :=
  fun x0 x1 x2 h => (show (okCardPort x0 && okMv x2) = true → x0 < 4 ∧ x2 < 2 ^ 16 by
  simp only [okCardPort, okMv, Bool.and_eq_true, decide_eq_true_eq, imp_self]) h
theorem cardResponse : ∀ x0 x1, Statement (.cardResponse x0 x1) :=
  fun x0 x1 h => (show (okCardPort x0) = true → x0 < 4 by
  simp only [okCardPort, decide_eq_true_eq, imp_self]) h
theorem cardBusyTimeout : ∀ x0, Statement (.cardBusyTimeout x0) :=
  fun x0 h => (show (okCardPort x0) = true → x0 < 4 by
  simp only [okCardPort, decide_eq_true_eq, imp_self]) h
theorem cardRemove : ∀ x0, Statement (.cardRemove x0) :=
  fun x0 h => (show (okCardPort x0) = true → x0 < 4 by
  simp only [okCardPort, Bool.and_eq_true, decide_eq_true_eq, and_assoc, imp_self]) h
theorem cardQuery : ∀ x0 x1, Statement (.cardQuery x0 x1) :=
  fun x0 x1 h => (show (okQueue x0 && okIndex x1) = true → x0 < 4096 ∧ x1 < 2 ^ 32 by
  simp only [okQueue, okIndex, Bool.and_eq_true, decide_eq_true_eq, imp_self]) h
theorem cardLock : ∀ x0 x1, Statement (.cardLock x0 x1) :=
  fun x0 x1 h => (show (okQueue x0 && okIndex x1) = true → x0 < 4096 ∧ x1 < 2 ^ 32 by
  simp only [okQueue, okIndex, Bool.and_eq_true, decide_eq_true_eq, imp_self]) h
theorem cardUnlock : ∀ x0 x1, Statement (.cardUnlock x0 x1) :=
  fun x0 x1 h => (show (okQueue x0 && okIndex x1) = true → x0 < 4096 ∧ x1 < 2 ^ 32 by
  simp only [okQueue, okIndex, Bool.and_eq_true, decide_eq_true_eq, imp_self]) h
theorem cardForceErase : ∀ x0 x1, Statement (.cardForceErase x0 x1) :=
  fun x0 x1 h => (show (okQueue x0 && okIndex x1) = true → x0 < 4096 ∧ x1 < 2 ^ 32 by
  simp only [okQueue, okIndex, Bool.and_eq_true, decide_eq_true_eq, imp_self]) h
theorem cardWrite : ∀ x0 x1, Statement (.cardWrite x0 x1) :=
  fun x0 x1 h => (show (okQueue x0 && okIndex x1) = true → x0 < 4096 ∧ x1 < 2 ^ 32 by
  simp only [okQueue, okIndex, Bool.and_eq_true, decide_eq_true_eq, imp_self]) h
theorem cardShareOpen : ∀ x0 x1, Statement (.cardShareOpen x0 x1) :=
  fun x0 x1 h => (show (okQueue x0 && okIndex x1) = true → x0 < 4096 ∧ x1 < 2 ^ 32 by
  simp only [okQueue, okIndex, Bool.and_eq_true, decide_eq_true_eq, imp_self]) h
theorem estateCreate : ∀ x0 x1, Statement (.estateCreate x0 x1) :=
  fun x0 x1 h => (show (okQueue x0 && okIndex x1) = true → x0 < 4096 ∧ x1 < 2 ^ 32 by
  simp only [okQueue, okIndex, Bool.and_eq_true, decide_eq_true_eq, imp_self]) h
theorem bootRecordWrite : ∀ x0 x1, Statement (.bootRecordWrite x0 x1) :=
  fun x0 x1 h => (show (okQueue x0 && okIndex x1) = true → x0 < 4096 ∧ x1 < 2 ^ 32 by
  simp only [okQueue, okIndex, Bool.and_eq_true, decide_eq_true_eq, and_assoc, imp_self]) h
theorem pmbusPoll : ∀ x0 x1 x2 x3 x4, Statement (.pmbusPoll x0 x1 x2 x3 x4) :=
  fun x0 x1 x2 x3 x4 h => (show (okRail x0) = true → x0 < 8 by
  simp only [okRail, decide_eq_true_eq, imp_self]) h
theorem pmbusAlert : ∀ x0 x1 x2, Statement (.pmbusAlert x0 x1 x2) :=
  fun x0 x1 x2 h => (show (okPort x0) = true → x0 < 2 by
  simp only [okPort, decide_eq_true_eq, imp_self]) h
theorem bypass : Statement .bypass := fun _ => trivial
theorem idcode : Statement .idcode := fun _ => trivial
theorem samplePreload : Statement .samplePreload := fun _ => trivial
theorem identity : Statement .identity := fun _ => trivial
theorem extest : Statement .extest := fun _ => trivial
theorem clamp : Statement .clamp := fun _ => trivial
theorem highz : Statement .highz := fun _ => trivial
theorem debugAccess : Statement .debugAccess := fun _ => trivial
theorem feedLost : ∀ x0 x1, Statement (.feedLost x0 x1) :=
  fun x0 x1 h => (show (okFeed x0 && okMv x1) = true → x0 < 2 ∧ x1 < 2 ^ 16 by
  simp only [okFeed, okMv, Bool.and_eq_true, decide_eq_true_eq, imp_self]) h
theorem feedGlitch : Statement .feedGlitch := fun _ => trivial
theorem mirrorLinkDown : Statement .mirrorLinkDown := fun _ => trivial
theorem cellLow : ∀ x0 x1, Statement (.cellLow x0 x1) :=
  fun x0 x1 h => (show (okCell x0 && okMv x1) = true → x0 < 2 ∧ x1 < 2 ^ 16 by
  simp only [okCell, okMv, Bool.and_eq_true, decide_eq_true_eq, imp_self]) h
theorem vaultSupplyBelowRetention : Statement .vaultSupplyBelowRetention := fun _ => trivial
theorem tamperSourceInactive : ∀ x0, Statement (.tamperSourceInactive x0) :=
  fun x0 h => (show (okTamper x0) = true → x0 < 12 by
  simp only [okTamper, decide_eq_true_eq, imp_self]) h
theorem ptpGeneralMessageRx : ∀ x0 x1 x2 x3 x4, Statement (.ptpGeneralMessageRx x0 x1 x2 x3 x4) :=
  fun x0 x1 x2 x3 x4 h => (show (okPort x0 && okIface x1) = true → x0 < 2 ∧ x1 < 4 by
  simp only [okPort, okIface, Bool.and_eq_true, decide_eq_true_eq, imp_self]) h
theorem arpNdReplyRx : ∀ x0 x1, Statement (.arpNdReplyRx x0 x1) :=
  fun _ _ _ => trivial
theorem pauseTimeExpiry : ∀ x0 x1, Statement (.pauseTimeExpiry x0 x1) :=
  fun x0 x1 h => (show (okPort x0 && okPrio x1) = true → x0 < 2 ∧ x1 < 8 by
  simp only [okPort, okPrio, Bool.and_eq_true, decide_eq_true_eq, imp_self]) h
theorem flashWriteDone : ∀ x0, Statement (.flashWriteDone x0) :=
  fun _ _ => trivial
theorem loadTestDone : ∀ x0 x1, Statement (.loadTestDone x0 x1) :=
  fun x0 x1 h => (show (okCell x0 && okMv x1) = true → x0 < 2 ∧ x1 < 2 ^ 16 by
  simp only [okCell, okMv, Bool.and_eq_true, decide_eq_true_eq, imp_self]) h
theorem cellRemoveHoldExpiry : ∀ x0, Statement (.cellRemoveHoldExpiry x0) :=
  fun x0 h => (show (okCell x0) = true → x0 < 2 by
  simp only [okCell, decide_eq_true_eq, imp_self]) h

end Sys2Proof.Laws.Ranges
end

