-- ==== Sys2Proof/Laws/Ready.lean ====
section
/-! SUPPORT. A command whose job stands ready runs its effect: the guards of the shared operations answer as the ready-terms say. -/

namespace Sys2Proof.Machine

/-- R25: a management command that stands ready runs. -/
theorem ctl_ready {s : State} {q i op : Nat} {j : Job} (h : CtlReady s q i op j) (f : State → Job → State) : s.ctl q i op f = f s j := by
  obtain ⟨h1, h2, h3, h4, h5, h6, h7⟩ := h
  unfold State.ctl
  simp only [h1, h2, h3, h4, h6, h7]
  rcases h5 with h5 | h5 <;> simp_all

/-- R100: a job that its tile runs has its effect. -/
theorem tile_ready {s : State} {t op : Nat} {j : Job} (h : TileReady s t op j) (f : State → Job → State) : s.onTile t op f = f s j := by
  obtain ⟨h1, h2, h3, h4, h5, h6, h7⟩ := h
  unfold State.onTile
  simp [h1, h2, h3, h4, h5, h6, h7]

/-- R438: a CFG_WRITE of a register with a row of its own runs. -/
theorem cfgRow_ready {s : State} {q i addr : Nat} {j : Job} (h : CtlReady s q i Op.cfgWrite j) (ha : j.cfgAddr = addr)
    (hm : j.cfgMask ≠ 0) (f : State → Job → State) : s.cfgRow q i addr f = f s j := by
  unfold State.cfgRow
  rw [ctl_ready h]; simp [ha, hm]

/-- R438: a CFG_WRITE of an action runs that action. -/
theorem cfgAction_ready {s : State} {q i addr hi lo act : Nat} {j : Job} (h : CtlReady s q i Op.cfgWrite j) (ha : j.cfgAddr = addr)
    (hm : j.cfgMask ≠ 0) (hv : bitsOf hi lo (j.merge 0) = act) (f : State → Job → State) : s.cfgAction q i addr hi lo act f = f s j := by
  unfold State.cfgAction
  rw [cfgRow_ready h ha hm]; simp [hv]

/-- R438: the same, from one hypothesis. -/
theorem act_ready {s : State} {q i addr hi lo act : Nat} {j : Job} (h : ActReady s q i addr hi lo act j) (f : State → Job → State)
    : s.cfgAction q i addr hi lo act f = f s j := cfgAction_ready h.1 h.2 h.3 h.4 f

/-- R144, R158: an operation runs with the material its tile has. -/
theorem key_ready {s : State} {t slot : Nat} {j : Job} {r : KeyRec} {m : Bytes} (h : KeyReady s t j slot r m)
    (f : State → KeyRec → Bytes → State) :
    s.withKey t j slot f = f (s.cacheKey t j.part (j.handle slot) (j.ver slot) m (j.upOf slot)) r m := by
  obtain ⟨h1, h2⟩ := h
  unfold State.withKey
  simp only [h1, h2]

end Sys2Proof.Machine
end

