-- ==== Sys2Proof/Laws/SpineBase.lean ====
section
/-! SUPPORT. What every command keeps: how the spine of a state goes through record updates, loops and the changes of one part. -/

namespace Sys2Proof.Machine

/-- Changing list elements keeps a projection that the change keeps. -/
@[simp] theorem map_modWhere {α β : Type} (p : α → Bool) (f : α → α) (g : α → β) (l : List α) (h : ∀ x, p x = true → g (f x) = g x) :
    (modWhere p f l).map g = l.map g := by
  simp only [modWhere, List.map_map]
  apply List.map_congr_left
  intro x _
  simp only [Function.comp]
  split
  · exact h x (by assumption)
  · rfl

/-- A loop keeps the spine that each turn keeps. -/
@[simp] theorem forEach_spine {α : Type} (l : List α) (f : α → State → State) (s : State) (h : ∀ x t, (f x t).spine = t.spine) :
    (forEach l f s).spine = s.spine := by
  unfold forEach
  induction l generalizing s with
  | nil => rfl
  | cons x l ih => simp only [List.foldl_cons]; rw [ih, h]

/-- A loop keeps what each turn keeps. -/
theorem forEach_kept {α : Type} {p : List Instr} {f0 : Fuses} (l : List α) (f : α → State → State) (s : State)
    (h : ∀ x t, t.spine.Kept p f0 → (f x t).spine.Kept p f0) (hs : s.spine.Kept p f0) : (forEach l f s).spine.Kept p f0 := by
  unfold forEach
  induction l generalizing s with
  | nil => exact hs
  | cons x l ih => simp only [List.foldl_cons]; exact ih _ (h _ _ hs)

@[simp] theorem Tile.num_ite (p : Prop) [Decidable p] (a b : Tile) : (if p then a else b).num = if p then a.num else b.num :=
  apply_ite _ p a b

@[simp] theorem Course.num_ite (p : Prop) [Decidable p] (a b : Course) : (if p then a else b).num = if p then a.num else b.num :=
  apply_ite _ p a b

@[simp] theorem Course.scratch_ite (p : Prop) [Decidable p] (a b : Course) : (if p then a else b).scratch = if p then a.scratch else b.scratch :=
  apply_ite _ p a b

@[simp] theorem Channel.num_ite (p : Prop) [Decidable p] (a b : Channel) : (if p then a else b).num = if p then a.num else b.num :=
  apply_ite _ p a b

@[simp] theorem CardPort.num_ite (p : Prop) [Decidable p] (a b : CardPort) : (if p then a else b).num = if p then a.num else b.num :=
  apply_ite _ p a b

@[simp] theorem Source.num_ite (p : Prop) [Decidable p] (a b : Source) : (if p then a else b).num = if p then a.num else b.num :=
  apply_ite _ p a b

/-- A state literal has the spine of the state its parts come from. -/
@[simp] theorem State.spine_mk (X : State)
    (free' : Nat) (clock' : Clock) (power' : Power) (thermal' : Thermal) (net' : Net) (qps' : List Qp) (qpMax' : Nat)
    (rdMax' : Nat) (jobs' : List Job) (jobSeq' : Nat) (readySeq' : Nat) (tiles' : List Tile) (courses' : List Course)
    (ctxs' : Contexts) (keys' : KeyStore) (commit' : Commit) (vault' : Vault) (guard' : Guard) (dram' : Dram) (ent' :
    Entropy) (tabs' : Tables) (life' : Life) (pair' : Pair) (mgmt' : Mgmt) (copyA' : Option Snapshot) (copyB' : Option
    Snapshot) (boot' : Bytes) (log' : Recorder) (io' : Local) (regs' : List (Nat × BitVec 32)) (sel' : List (Nat × BitVec
    32)) (sent' : List Frame)
    (h1 : tiles'.map (fun x => x.num) = X.tiles.map (fun x => x.num))
    (h2 : dram'.channels.map (fun x => x.num) = X.dram.channels.map (fun x => x.num))
    (h3 : io'.ports.map (fun x => x.num) = X.io.ports.map (fun x => x.num))
    (h4 : ent'.sources.map (fun x => x.num) = X.ent.sources.map (fun x => x.num))
    (h5 : courses'.map (fun c => (c.num, c.scratch)) = X.courses.map (fun c => (c.num, c.scratch)))
    (h6 : life'.fuses = X.life.fuses) (h7 : power'.gateA = X.power.gateA) (h8 : power'.gateB = X.power.gateB)
    (h9 : power'.active = X.power.active)
    (h10 : power'.switching.map (fun w => (w.step, w.target)) = X.power.switching.map (fun w => (w.step, w.target))) :
    State.spine
      { pending := X.pending, free := free', clock := clock', power := power', thermal := thermal', net := net', qps := qps',
        qpMax := qpMax', rdMax := rdMax', jobs := jobs', jobSeq := jobSeq', readySeq := readySeq', tiles := tiles', courses :=
        courses', ctxs := ctxs', keys := keys', commit := commit', vault := vault', guard := guard', dram := dram', ent :=
        ent', tabs := tabs', life := life', pair := pair', mgmt := mgmt', copyA := copyA', copyB := copyB', boot := boot', log
        := log', io := io', regs := regs', sel := sel', sent := sent' } = X.spine := by
  simp only [State.spine, h1, h2, h3, h4, h5, h6, h7, h8, h9, h10]

@[simp] theorem State.modTile_spine (s : State) (t : Nat) (f : Tile → Tile) (h : ∀ x, x.num = t → (f x).num = x.num) :
    (s.modTile t f).spine = s.spine := by
  simp only [State.modTile, State.spine]
  rw [map_modWhere _ _ _ _ (fun x hx => h x (by simpa using hx))]

@[simp] theorem State.modCourse_spine (s : State) (c : Nat) (f : Course → Course)
    (h : ∀ x, x.num = c → ((f x).num, (f x).scratch) = (x.num, x.scratch)) : (s.modCourse c f).spine = s.spine := by
  simp only [State.modCourse, State.spine]
  rw [map_modWhere _ _ _ _ (fun x hx => h x (by simpa using hx))]

/-- Either branch kept, the choice is kept. -/
@[simp] theorem ite_kept {p : List Instr} {f0 : Fuses} (c : Prop) [Decidable c] {a b : State} (ha : a.spine.Kept p f0) (hb : b.spine.Kept p f0) :
    (if c then a else b).spine.Kept p f0 := by
  split
  · exact ha
  · exact hb

end Sys2Proof.Machine
end

