-- ==== Sys2Proof/Laws/SpineRegisters.lean ====
section
/-! SUPPORT. What keeps the spine of a state, for the definitions of registers, notices, event records, jobs, keys and the execution of a command. -/

namespace Sys2Proof.Machine

/-! ### Machine/RegFile.lean -/

@[simp] theorem State.setReg_spine (s : State) (addr : Nat) (idx : Nat) (v : Nat) :
    (State.setReg s addr idx v).spine = s.spine := by
  unfold State.setReg
  simp

@[simp] theorem State.setSel_spine (s : State) (q : Nat) (addr : Nat) (v : Nat) :
    (State.setSel s q addr v).spine = s.spine := by
  unfold State.setSel
  simp

/-! ### Machine/Flags.lean -/

@[simp] theorem State.notice_spine (s : State) (addr : Nat) (bit : Nat) :
    (State.notice s addr bit).spine = s.spine := by
  unfold State.notice
  simp

@[simp] theorem State.bump_spine (s : State) (addr : Nat) (n : Nat) :
    (State.bump s addr n).spine = s.spine := by
  unfold State.bump
  simp

/-! ### Machine/Events.lean -/

@[simp] theorem State.modRing_spine (s : State) (n : Nat) (f : Ring → Ring) :
    (State.modRing s n f).spine = s.spine := by
  unfold State.modRing
  simp

@[simp] theorem State.takeToken_spine (s : State) (ring : Nat) (e : Event) : (s.takeToken ring e).1.spine = s.spine := by
  unfold State.takeToken
  dsimp only
  repeat' split
  all_goals first | rfl | (simp; try rfl)

@[simp] theorem State.putRec_spine (s : State) (ring : Nat) (e : Event) : (s.putRec ring e).spine = s.spine := by
  have h : ∀ b : Bool, (if b = true then (s, true) else s.takeToken ring e).1.spine = s.spine := by
    intro b; cases b <;> simp
  unfold State.putRec
  dsimp only
  repeat' split
  all_goals simp

@[simp] theorem State.ringLevel_spine (s : State) (n : Nat) :
    (State.ringLevel s n).spine = s.spine := by
  unfold State.ringLevel
  dsimp only
  repeat' split
  all_goals simp

@[simp] theorem State.writeRec_spine (s : State) (ring : Nat) (sev : Nat) (code : Nat) (part : Nat) (island : Nat) (payload : Bytes) :
    (State.writeRec s ring sev code part island payload).spine = s.spine := by
  unfold State.writeRec
  repeat' split
  all_goals simp

@[simp] theorem State.devEvent_spine (s : State) (sev : Nat) (code : Nat) (island : Nat) (payload : Bytes) (part : Nat) :
    (State.devEvent s sev code island payload part).spine = s.spine := by
  unfold State.devEvent
  simp

@[simp] theorem State.partEvent_spine (s : State) (part : Nat) (sev : Nat) (code : Nat) (island : Nat) (payload : Bytes) :
    (State.partEvent s part sev code island payload).spine = s.spine := by
  unfold State.partEvent
  simp

/-! ### Machine/Ops.lean -/

@[simp] theorem State.modQp_spine (s : State) (q : Nat) (f : Qp → Qp) :
    (State.modQp s q f).spine = s.spine := by
  unfold State.modQp
  simp

@[simp] theorem State.modJob_spine (s : State) (id : JobId) (f : Job → Job) :
    (State.modJob s id f).spine = s.spine := by
  unfold State.modJob
  simp

@[simp] theorem State.advanceTo_spine (s : State) (mono : Nat) :
    (State.advanceTo s mono).spine = s.spine := by
  unfold State.advanceTo
  simp

@[simp] theorem State.draw_spine (s : State) (n : Nat) : (s.draw n).2.spine = s.spine := rfl

@[simp] theorem State.send_spine (s : State) (f : Frame) :
    (State.send s f).spine = s.spine := by
  unfold State.send
  simp

@[simp] theorem State.msWatermark_spine (s : State) (c : Nat) :
    (State.msWatermark s c).spine = s.spine := by
  unfold State.msWatermark
  dsimp only
  repeat' split
  all_goals simp

@[simp] theorem State.queueWatermark_spine (s : State) (n : Nat) (k : Nat) :
    (State.queueWatermark s n k).spine = s.spine := by
  unfold State.queueWatermark
  dsimp only
  repeat' split
  all_goals simp

@[simp] theorem State.noteHqi_spine (s : State) :
    (State.noteHqi s).spine = s.spine := by
  unfold State.noteHqi
  simp

@[simp] theorem State.issue_spine (s : State) (q : Nat) (kind : ReqKind) (addr : Nat) (rkey : Nat) (len : Nat) (data : Bytes) (cseq : Nat) (idx : (BitVec 32)) :
    (State.issue s q kind addr rkey len data cseq idx).spine = s.spine := by
  unfold State.issue
  simp

@[simp] theorem State.postOne_spine (s : State) (n : Nat) :
    (State.postOne s n).spine = s.spine := by
  unfold State.postOne
  dsimp only
  repeat' split
  all_goals simp

@[simp] theorem State.postMany_spine (s : State) (n k : Nat) : (s.postMany n k).spine = s.spine := by
  induction k generalizing s with
  | zero => rfl
  | succ k ih => simp only [State.postMany]; rw [ih, State.postOne_spine]

@[simp] theorem State.readDone_spine (s : State) (q : Nat) (a2 : Req → Bool) :
    (State.readDone s q a2).spine = s.spine := by
  unfold State.readDone
  dsimp only
  repeat' split
  all_goals simp

@[simp] theorem State.releaseGens_spine (s : State) :
    (State.releaseGens s).spine = s.spine := by
  unfold State.releaseGens
  simp

@[simp] theorem State.freeDone_spine (s : State) :
    (State.freeDone s).spine = s.spine := by
  unfold State.freeDone
  simp

@[simp] theorem State.orphan_spine (s : State) (part : Nat) (queue : Nat) (tag : Nat) (idx : Nat) (status : Nat) :
    (State.orphan s part queue tag idx status).spine = s.spine := by
  unfold State.orphan
  simp

@[simp] theorem State.countChain_spine (s : State) (r : Result) :
    (State.countChain s r).spine = s.spine := by
  unfold State.countChain
  repeat' split
  all_goals simp

@[simp] theorem State.toSuccessor_spine (s : State) (j : Job) (r : Result) :
    (State.toSuccessor s j r).spine = s.spine := by
  unfold State.toSuccessor
  repeat' split
  all_goals simp

@[simp] theorem State.finishCore_spine (s : State) (j : Job) (r : Result) (tile : Nat) (committed : Bool) :
    (State.finishCore s j r tile committed).spine = s.spine := by
  unfold State.finishCore
  dsimp only
  repeat' split
  all_goals simp

@[simp] theorem State.settleOnce_spine (s : State) :
    (State.settleOnce s).spine = s.spine := by
  unfold State.settleOnce
  dsimp only
  repeat' split
  all_goals simp

@[simp] theorem State.settleN_spine (n : Nat) (s : State) : (State.settleN n s).spine = s.spine := by
  induction n generalizing s with
  | zero => rfl
  | succ n ih => simp only [State.settleN]; rw [ih, State.settleOnce_spine]

@[simp] theorem State.settle_spine (s : State) :
    (State.settle s).spine = s.spine := by
  unfold State.settle
  simp

@[simp] theorem State.finish_spine (s : State) (id : JobId) (r : Result) (tile : Nat) (committed : Bool) :
    (State.finish s id r tile committed).spine = s.spine := by
  unfold State.finish
  repeat' split
  all_goals simp

@[simp] theorem State.errToken_spine (s : State) (id : JobId) (st : Nat) (dt : Nat) (tok : (Option Tok)) :
    (State.errToken s id st dt tok).spine = s.spine := by
  unfold State.errToken
  simp

@[simp] theorem State.errAll_spine (s : State) (a1 : Job → Bool) (st : Nat) (dt : Nat) :
    (State.errAll s a1 st dt).spine = s.spine := by
  unfold State.errAll
  simp

@[simp] theorem State.deliver_spine (s : State) (id : JobId) (t : Tok) (f : Job → Job) :
    (State.deliver s id t f).spine = s.spine := by
  unfold State.deliver
  simp

@[simp] theorem Tile.planEnds_num (x : Tile) : x.planEnds.num = x.num := rfl

@[simp] theorem Tile.wipe_num (x : Tile) : x.wipe.num = x.num := rfl

@[simp] theorem State.wipeTile_spine (s : State) (t : Nat) : (State.wipeTile s t).spine = s.spine := by
  unfold State.wipeTile
  exact State.modTile_spine _ _ _ (fun x _ => Tile.wipe_num x)

@[simp] theorem Tile.takeWipes_num (n : Nat) (x : Tile) : (Tile.takeWipes n x).num = x.num := by
  induction n generalizing x with
  | zero => rfl
  | succ n ih =>
    unfold Tile.takeWipes
    repeat' split
    all_goals simp [ih]

@[simp] theorem Tile.pass_num (x : Tile) : x.pass.num = x.num := by
  unfold Tile.pass
  repeat' split
  all_goals rfl

@[simp] theorem Tile.flow_num (n : Nat) (x : Tile) : (Tile.flow n x).num = x.num := by
  induction n generalizing x with
  | zero => rfl
  | succ n ih => simp only [Tile.flow]; rw [ih, Tile.pass_num]

@[simp] theorem Tile.offer_num (x : Tile) (r : Nat) (p : Packet) : (x.offer r p).num = x.num := rfl

@[simp] theorem State.flowTile_spine (s : State) (t : Nat) : (State.flowTile s t).spine = s.spine := by
  unfold State.flowTile
  apply State.modTile_spine
  intro x _
  split <;> simp

@[simp] theorem State.sendPacket_spine (s : State) (t : Nat) (req : Nat) (a3 : Packet) :
    (State.sendPacket s t req a3).spine = s.spine := by
  unfold State.sendPacket
  first
    | (simp; done)
    | ((try dsimp only)
       repeat' (first
         | (simp; done)
         | split
         | (refine Eq.trans (forEach_spine _ _ _ (fun _ _ => ?_)) ?_ <;> try dsimp only)
         | (simp; done)
         | (simp_all; done)
         | with_reducible rfl)
       done)
    | with_reducible rfl

@[simp] theorem State.wipeFor_spine (s : State) (t : Nat) (a2 : Nat) :
    (State.wipeFor s t a2).spine = s.spine := by
  unfold State.wipeFor
  simp

@[simp] theorem State.dropLeases_spine (s : State) (t : Nat) :
    (State.dropLeases s t).spine = s.spine := by
  unfold State.dropLeases
  simp

@[simp] theorem State.dropAllLeases_spine (s : State) :
    (State.dropAllLeases s).spine = s.spine := by
  unfold State.dropAllLeases
  simp

@[simp] theorem State.discardHod_spine (s : State) (t : Nat) :
    (State.discardHod s t).spine = s.spine := by
  unfold State.discardHod
  dsimp only
  repeat' split
  all_goals simp

@[simp] theorem State.abortRunning_spine (s : State) (t : Nat) (r : Result) :
    (State.abortRunning s t r).spine = s.spine := by
  unfold State.abortRunning
  simp

@[simp] theorem State.quarantine_spine (s : State) (t : Nat) :
    (State.quarantine s t).spine = s.spine := by
  unfold State.quarantine
  simp

@[simp] theorem State.dropRefs_spine (s : State) (t : Nat) :
    (State.dropRefs s t).spine = s.spine := by
  unfold State.dropRefs
  simp

/-! ### Machine/KeyOps.lean -/

@[simp] theorem State.modPage_spine (s : State) (a1 : Nat) (n : Nat) (f : KeyPage → KeyPage) :
    (State.modPage s a1 n f).spine = s.spine := by
  unfold State.modPage
  simp

theorem State.reserve_spine (s : State) (p cls a b c : Nat) (t : State) (h : s.reserve p cls = some (a, b, c, t)) : t.spine = s.spine := by
  unfold State.reserve at h
  dsimp only at h
  repeat' split at h
  all_goals simp_all
  all_goals (obtain ⟨_, _, _, rfl⟩ := h; first | rfl | (simp; done) | (simp; rfl))

@[simp] theorem State.unreserve_spine (s : State) (a1 : Nat) (page : Nat) (slot : Nat) :
    (State.unreserve s a1 page slot).spine = s.spine := by
  unfold State.unreserve
  simp

@[simp] theorem State.dropEntries_spine (s : State) (hit : KeyCacheEntry → Bool) :
    (State.dropEntries s hit).spine = s.spine := by
  unfold State.dropEntries
  simp

@[simp] theorem State.dropCached_spine (s : State) (hs : List Nat) :
    (State.dropCached s hs).spine = s.spine := by
  unfold State.dropCached
  simp

@[simp] theorem State.dropFamily_spine (s : State) (h : Nat) :
    (State.dropFamily s h).spine = s.spine := by
  unfold State.dropFamily
  simp

@[simp] theorem State.sweepCaches_spine (s : State) :
    (State.sweepCaches s).spine = s.spine := by
  unfold State.sweepCaches
  simp

@[simp] theorem State.cacheKey_spine (s : State) (t p h ver : Nat) (m : Bytes) (up : List Nat) :
    (s.cacheKey t p h ver m up).spine = s.spine := by
  unfold State.cacheKey
  apply State.modTile_spine
  intro x _
  dsimp only
  repeat' split
  all_goals rfl

/-! ### Machine/CommitOps.lean -/

@[simp] theorem State.askHost_spine (s : State) (r : QpRec) :
    (State.askHost s r).spine = s.spine := by
  unfold State.askHost
  repeat' split
  all_goals simp

@[simp] theorem State.divideCtxCache_spine (s : State) :
    (State.divideCtxCache s).spine = s.spine := by
  unfold State.divideCtxCache
  repeat' split
  all_goals simp

@[simp] theorem State.dropCtxCache_spine (s : State) (id : Nat) :
    (State.dropCtxCache s id).spine = s.spine := by
  unfold State.dropCtxCache
  simp

@[simp] theorem State.supersede_spine (s : State) (id : Nat) :
    (State.supersede s id).spine = s.spine := by
  unfold State.supersede
  repeat' split
  all_goals simp

@[simp] theorem State.setRevoked_spine (s : State) (h : Nat) (b : Bool) :
    (State.setRevoked s h b).spine = s.spine := by
  unfold State.setRevoked
  dsimp only
  repeat' split
  all_goals simp

@[simp] theorem State.rewrapPage_spine (s : State) (a1 : Nat) (n : Nat) (g : Nat) :
    (State.rewrapPage s a1 n g).spine = s.spine := by
  unfold State.rewrapPage
  repeat' split
  all_goals simp

@[simp] theorem State.levelPage_spine (s : State) (a1 : Nat) (n : Nat) :
    (State.levelPage s a1 n).spine = s.spine := by
  unfold State.levelPage
  dsimp only
  repeat' split
  all_goals simp

@[simp] theorem State.modPort_spine (s : State) (n : Nat) (f : Port → Port) :
    (State.modPort s n f).spine = s.spine := by
  unfold State.modPort
  repeat' split
  all_goals simp

@[simp] theorem State.portChange_spine (s : State) (addr : Nat) (old : Nat) (new : Nat) :
    (State.portChange s addr old new).spine = s.spine := by
  unfold State.portChange
  repeat' split
  all_goals simp

@[simp] theorem State.cardEnable_spine (s : State) (addr new : Nat) : (s.cardEnable addr new).spine = s.spine := by
  unfold State.cardEnable
  simp only [State.spine, List.map_map]
  congr 1
  apply List.map_congr_left
  intro x _
  simp only [Function.comp]
  repeat' split
  all_goals rfl

@[simp] theorem State.applyChange_spine (s : State) (c : Change) : (s.applyChange c).spine = s.spine := by
  cases c
  all_goals (unfold State.applyChange; dsimp only)
  case markAbsent ch =>
    show State.spine { (s.setReg Reg.semCtrl 0 _) with dram := _ } = s.spine
    rw [← State.setReg_spine s Reg.semCtrl 0 (setBits (24 + ch) (24 + ch) 0 (s.reg Reg.semCtrl))]
    simp [State.spine, map_modWhere]
  all_goals (repeat' split)
  all_goals first | rfl | (simp; done) | (simp; rfl)

@[simp] theorem State.applyAll_spine (s : State) (b : Batch) :
    (State.applyAll s b).spine = s.spine := by
  unfold State.applyAll
  simp

@[simp] theorem State.writeSnapshot_spine (s : State) (x : Snapshot) :
    (State.writeSnapshot s x).spine = s.spine := by
  unfold State.writeSnapshot
  repeat' split
  all_goals simp

@[simp] theorem State.enqueue_spine (s : State) (e : Entry) :
    (State.enqueue s e).spine = s.spine := by
  unfold State.enqueue
  simp

@[simp] theorem State.undo_spine (s : State) (e : Entry) : (s.undo e).spine = s.spine := by
  unfold State.undo
  apply forEach_spine
  intro c t
  cases c <;> dsimp only
  all_goals (repeat' split)
  all_goals first | rfl | simp

@[simp] theorem State.forget_spine (s : State) (id : JobId) :
    (State.forget s id).spine = s.spine := by
  unfold State.forget
  simp

@[simp] theorem State.release_spine (s : State) (j : Job) :
    (State.release s j).spine = s.spine := by
  unfold State.release
  repeat' split
  all_goals simp

@[simp] theorem State.endRunning_spine (s : State) (t : Nat) (r : Result) :
    (State.endRunning s t r).spine = s.spine := by
  unfold State.endRunning
  simp

@[simp] theorem State.failAwaiting_spine (s : State) (t : Nat) (owner : Nat) (st : Nat) (dt : Nat) :
    (State.failAwaiting s t owner st dt).spine = s.spine := by
  unfold State.failAwaiting
  simp

@[simp] theorem State.failEntry_spine (s : State) (e : Entry) (st dt : Nat) : (s.failEntry e st dt).spine = s.spine := by
  unfold State.failEntry
  dsimp only
  rw [forEach_spine]
  · split <;> simp
  · intro c t
    split <;> simp

@[simp] theorem State.bring_spine (s : State) (e : Entry) :
    (State.bring s e).spine = s.spine := by
  unfold State.bring
  repeat' split
  all_goals simp

@[simp] theorem State.bringCtl_spine (s : State) (j : Job) (changes : List Change) (objs : List Obj) (res : Result) :
    (State.bringCtl s j changes objs res).spine = s.spine := by
  unfold State.bringCtl
  simp

@[simp] theorem State.cancelReplace_spine (s : State) (h : Nat) (st : Nat) :
    (State.cancelReplace s h st).spine = s.spine := by
  unfold State.cancelReplace
  refine forEach_spine _ _ _ (fun _ _ => ?_)
  dsimp only
  repeat' split
  all_goals simp_all

/-! ### Machine/Exec.lean -/

@[simp] theorem State.ctl_spine (s : State) (q i op : Nat) (f : State → Job → State) (hf : ∀ t j, (f t j).spine = t.spine) :
    (s.ctl q i op f).spine = s.spine := by
  unfold State.ctl
  repeat' split
  all_goals simp [hf]

theorem State.ctl_kept {p : List Instr} {f0 : Fuses} (s : State) (q i op : Nat) (f : State → Job → State)
    (hf : ∀ t j, t.spine.Kept p f0 → (f t j).spine.Kept p f0) (h : s.spine.Kept p f0) : (s.ctl q i op f).spine.Kept p f0 := by
  unfold State.ctl
  repeat' split
  all_goals simp [hf, h]

@[simp] theorem State.done_spine (s : State) (j : Job) (r : Result) :
    (State.done s j r).spine = s.spine := by
  unfold State.done
  simp

@[simp] theorem State.deny_spine (s : State) (j : Job) (st : Nat) (dt : Nat) :
    (State.deny s j st dt).spine = s.spine := by
  unfold State.deny
  simp

@[simp] theorem State.block_spine (s : State) (j : Job) :
    (State.block s j).spine = s.spine := by
  unfold State.block
  simp

@[simp] theorem State.sessionEnds_spine (s : State) (q : Nat) :
    (State.sessionEnds s q).spine = s.spine := by
  unfold State.sessionEnds
  simp

@[simp] theorem State.onTile_spine (s : State) (t : Nat) (op : Nat) (f : State → Job → State) (hf : ∀ v0 v1, (f v0 v1).spine = v0.spine) :
    (State.onTile s t op f).spine = s.spine := by
  unfold State.onTile
  repeat' split
  all_goals simp_all

@[simp] theorem State.answer_spine (s : State) (j : Job) (r : Result) :
    (State.answer s j r).spine = s.spine := by
  unfold State.answer
  simp

@[simp] theorem State.answerBring_spine (s : State) (j : Job) (changes : List Change) (objs : List Obj) (r : Result) :
    (State.answerBring s j changes objs r).spine = s.spine := by
  unfold State.answerBring
  simp

@[simp] theorem State.tagFault_spine (s : State) (t : Nat) (a2 : Nat) (h : Nat) :
    (State.tagFault s t a2 h).spine = s.spine := by
  unfold State.tagFault
  simp

@[simp] theorem State.withKey_spine (s : State) (t : Nat) (j : Job) (slot : Nat) (f : State → KeyRec → Bytes → State) (hf : ∀ v0 v1 v2, (f v0 v1 v2).spine = v0.spine) :
    (State.withKey s t j slot f).spine = s.spine := by
  unfold State.withKey
  first
    | (simp; done)
    | ((try dsimp only)
       repeat' (first
         | (simp; done)
         | split
         | (refine Eq.trans (forEach_spine _ _ _ (fun _ _ => ?_)) ?_ <;> try dsimp only)
         | (refine Eq.trans (State.withKey_spine _ _ _ _ _ (fun _ _ _ => ?_)) ?_ <;> try dsimp only)
         | (refine Eq.trans (State.ctl_spine _ _ _ _ _ (fun _ _ => ?_)) ?_ <;> try dsimp only)
         | (refine Eq.trans (State.onTile_spine _ _ _ _ (fun _ _ => ?_)) ?_ <;> try dsimp only)
         | (simp [Function.comp_def]; done)
         | (simp_all; done)
         | with_reducible rfl)
       done)
    | with_reducible rfl

/-! ### Machine/Plans.lean -/

@[simp] theorem State.layPlan_spine (s : State) (t : Nat) (j : Job) :
    (State.layPlan s t j).spine = s.spine := by
  unfold State.layPlan
  repeat' split
  all_goals simp

@[simp] theorem State.placeKey_spine (s : State) (t : Nat) (r : KeyRec) (mat : Bytes) (input : Bytes) :
    (State.placeKey s t r mat input).spine = s.spine := by
  unfold State.placeKey
  simp

@[simp] theorem State.answerDest_spine (s : State) (t : Nat) (j : Job) (r : Result) :
    (State.answerDest s t j r).spine = s.spine := by
  unfold State.answerDest
  simp

end Sys2Proof.Machine
end

