-- ==== Sys2Proof/Laws/SpineServices.lean ====
section
/-! SUPPORT. What keeps the spine of a state, for the definitions of sealed-memory and entropy operations, commit batches and operand forms. -/

namespace Sys2Proof.Machine

/-! ### Machine/SealedOps.lean -/

@[simp] theorem State.modChan_spine (s : State) (t : Nat) (f : Channel → Channel) (h : ∀ x, x.num = t → (f x).num = x.num) :
    (s.modChan t f).spine = s.spine := by
  simp only [State.modChan, State.spine]
  rw [map_modWhere _ _ _ _ (fun x hx => h x (by simpa using hx))]

theorem State.chan?_num {s : State} {n : Nat} {c : Channel} (h : s.chan? n = some c) : c.num = n := by
  have := List.find?_some h
  simpa using this

theorem Channel.retire_num (c : Channel) (x : CtrLine) : (c.retire x).1.num = c.num := by
  unfold Channel.retire; split <;> rfl

@[simp] theorem Channel.putCtr_num (c : Channel) (x : CtrLine) : (c.putCtr x).num = c.num := by unfold Channel.putCtr; rfl

@[simp] theorem State.putCtr_spine (s : State) (n : Nat) (x : CtrLine) : (s.modChan n (fun c => c.putCtr x)).spine = s.spine :=
  State.modChan_spine _ _ _ (fun _ _ => rfl)

@[simp] theorem State.raiseMinors_spine (s : State) (ch level n : Nat) (is : List Nat) : (s.raiseMinors ch level n is).spine = s.spine := by
  unfold State.raiseMinors
  split
  · rfl
  · rename_i c hc
    have hn := State.chan?_num hc
    dsimp only
    have key : ∀ c' : Channel, c'.num = c.num → (s.modChan ch (fun _ => c')).spine = s.spine := by
      intro c' h'
      apply State.modChan_spine
      intro x hx
      omega
    repeat' split
    all_goals simp [key, Channel.retire_num]

@[simp] theorem State.touchCtr_spine (s : State) (ch : Nat) (level : Nat) (n : Nat) (dirty : Bool) :
    (State.touchCtr s ch level n dirty).spine = s.spine := by
  unfold State.touchCtr
  repeat' split
  all_goals simp

@[simp] theorem State.evictCtrs_spine (n : Nat) (s : State) : (State.evictCtrs n s).spine = s.spine := by
  induction n generalizing s with
  | zero => rfl
  | succ n ih =>
    unfold State.evictCtrs
    (try dsimp only)
    repeat' split
    all_goals simp [ih]

@[simp] theorem State.queueWrites_spine (s : State) (n : Nat) :
    (State.queueWrites s n).spine = s.spine := by
  unfold State.queueWrites
  dsimp only
  repeat' split
  all_goals simp

@[simp] theorem State.writeBlock_spine (s : State) (ch : Nat) (block : Nat) :
    (State.writeBlock s ch block).spine = s.spine := by
  unfold State.writeBlock
  simp

@[simp] theorem State.writeFrameLines_spine (s : State) (ch : Nat) (frame : Nat) :
    (State.writeFrameLines s ch frame).spine = s.spine := by
  unfold State.writeFrameLines
  simp

@[simp] theorem State.unload_spine (s : State) (o : Obj) :
    (State.unload s o).spine = s.spine := by
  unfold State.unload
  simp

@[simp] theorem State.dropFrame_spine (s : State) (o : Obj) :
    (State.dropFrame s o).spine = s.spine := by
  unfold State.dropFrame
  simp

@[simp] theorem State.useObj_spine (s : State) (o : Obj) :
    (State.useObj s o).spine = s.spine := by
  unfold State.useObj
  repeat' split
  all_goals simp

@[simp] theorem State.makeRoom_spine (s : State) (o : Obj) :
    (State.makeRoom s o).spine = s.spine := by
  unfold State.makeRoom
  repeat' split
  all_goals simp

@[simp] theorem State.placeFrame_spine (s : State) (o : Obj) :
    (State.placeFrame s o).spine = s.spine := by
  unfold State.placeFrame
  dsimp only
  repeat' split
  all_goals simp

@[simp] theorem State.placeWork_spine (s : State) (kind : Nat) (ref : Nat) (n : Nat) :
    (State.placeWork s kind ref n).spine = s.spine := by
  unfold State.placeWork
  dsimp only
  repeat' split
  all_goals simp

@[simp] theorem State.placeSpares_spine (s : State) (os : List Obj) :
    (State.placeSpares s os).spine = s.spine := by
  unfold State.placeSpares
  refine forEach_spine _ _ _ (fun _ _ => ?_)
  dsimp only
  repeat' split
  all_goals simp_all

@[simp] theorem State.commitSpares_spine (s : State) (os : List Obj) :
    (State.commitSpares s os).spine = s.spine := by
  unfold State.commitSpares
  refine forEach_spine _ _ _ (fun _ _ => ?_)
  dsimp only
  repeat' split
  all_goals simp_all

@[simp] theorem State.dropSpares_spine (s : State) (os : List Obj) :
    (State.dropSpares s os).spine = s.spine := by
  unfold State.dropSpares
  simp

@[simp] theorem State.chDone_spine (s : State) :
    (State.chDone s).spine = s.spine := by
  unfold State.chDone
  repeat' split
  all_goals simp

/-! ### Machine/EntropyOps.lean -/

@[simp] theorem State.modSource_spine (s : State) (n : Nat) (f : Source → Source) (h : ∀ x, x.num = n → (f x).num = x.num) :
    (s.modSource n f).spine = s.spine := by
  simp only [State.modSource, State.spine]
  rw [map_modWhere _ _ _ _ (fun x hx => h x (by simpa using hx))]

@[simp] theorem State.modInst_spine (s : State) (a1 : Nat) (f : Instance → Instance) :
    (State.modInst s a1 f).spine = s.spine := by
  unfold State.modInst
  simp

@[simp] theorem State.entZero_spine (s : State) :
    (State.entZero s).spine = s.spine := by
  unfold State.entZero
  simp

@[simp] theorem State.entRefuse_spine (s : State) (r : EntReq) :
    (State.entRefuse s r).spine = s.spine := by
  unfold State.entRefuse
  repeat' split
  all_goals simp

@[simp] theorem State.entFail_spine (s : State) (cause : Nat) :
    (State.entFail s cause).spine = s.spine := by
  unfold State.entFail
  simp

@[simp] theorem State.entActionDone_spine (s : State) :
    (State.entActionDone s).spine = s.spine := by
  unfold State.entActionDone
  simp

@[simp] theorem State.entRestart_spine (s : State) :
    (State.entRestart s).spine = s.spine := by
  unfold State.entRestart
  simp

@[simp] theorem State.instantiate_spine (s : State) (a1 : Nat) (block : Bytes) :
    (State.instantiate s a1 block).spine = s.spine := by
  unfold State.instantiate
  simp

@[simp] theorem State.reseed_spine (s : State) (a1 : Nat) (block : Bytes) :
    (State.reseed s a1 block).spine = s.spine := by
  unfold State.reseed
  dsimp only
  repeat' split
  all_goals simp

@[simp] theorem State.takeReserve_spine (s : State) (a1 : Nat) :
    (State.takeReserve s a1).spine = s.spine := by
  unfold State.takeReserve
  repeat' split
  all_goals simp

@[simp] theorem State.giveReserve_spine (s : State) (a1 : Nat) (block : Bytes) :
    (State.giveReserve s a1 block).spine = s.spine := by
  unfold State.giveReserve
  repeat' split
  all_goals simp

@[simp] theorem State.dueReseed_spine (s : State) (a1 : Nat) :
    (State.dueReseed s a1).spine = s.spine := by
  unfold State.dueReseed
  repeat' split
  all_goals simp

theorem State.generate_spine (s : State) (p n : Nat) (b : Bytes) (t : State) (h : s.generate p n = some (b, t)) : t.spine = s.spine := by
  unfold State.generate at h
  dsimp only at h
  repeat' split at h
  all_goals simp_all
  all_goals (obtain ⟨_, rfl⟩ := h; simp)

theorem State.random_spine {s : State} {p n : Nat} {b : Bytes} {t : State} (h : s.random p n = .bits b t) : t.spine = s.spine := by
  unfold State.random at h
  split at h
  · cases h
  · split at h
    · rename_i b' t' hg
      cases h
      exact State.generate_spine _ _ _ _ _ hg
    · cases h

@[simp] theorem State.withRandom_spine (s : State) (j : Job) (n : Nat) (f : State → Bytes → State) (hf : ∀ t b, (f t b).spine = t.spine) :
    (s.withRandom j n f).spine = s.spine := by
  unfold State.withRandom
  split
  · rename_i h
    rw [hf, State.random_spine h]
  · rfl
  · simp

@[simp] theorem State.refill_spine (n : Nat) (s : State) : (State.refill n s).spine = s.spine := by
  induction n generalizing s with
  | zero => rfl
  | succ n ih =>
    unfold State.refill
    split
    · rw [ih]; simp
    · rfl

@[simp] theorem State.strictBlock_spine (s : State) (block : Bytes) :
    (State.strictBlock s block).spine = s.spine := by
  unfold State.strictBlock
  dsimp only
  repeat' split
  all_goals simp

@[simp] theorem State.newBlock_spine (s : State) (block : Bytes) :
    (State.newBlock s block).spine = s.spine := by
  unfold State.newBlock
  repeat' split
  all_goals simp

@[simp] theorem State.notePool_spine (s : State) :
    (State.notePool s).spine = s.spine := by
  unfold State.notePool
  simp

/-! ### Machine/KeyMake.lean -/

theorem State.makeRec_spine {s : State} {p : Nat} {k : NewKey} {h n : Nat} {r : KeyRec} {t : State} (e : s.makeRec p k = .ok h n r t) :
    t.spine = s.spine := by
  unfold State.makeRec at e
  repeat' split at e
  all_goals first | cases e | skip
  rename_i hr _ _
  exact State.reserve_spine _ _ _ _ _ _ _ (by assumption)

@[simp] theorem State.storeKey_spine (s : State) (j : Job) (k : NewKey) (before more : Bytes) (extra : Nat → List Change) :
    (s.storeKey j k before more extra).spine = s.spine := by
  unfold State.storeKey
  split
  · rfl
  · split <;> simp
  · rename_i h
    simp [State.makeRec_spine h]

/-! ### Machine/Commit.lean -/

@[simp] theorem State.modBatches_spine (s : State) (a1 : Batch → Bool) (f : Batch → Batch) :
    (State.modBatches s a1 f).spine = s.spine := by
  unfold State.modBatches
  simp

@[simp] theorem State.modObj_spine (s : State) (o : Obj) (f : ObjState → ObjState) :
    (State.modObj s o f).spine = s.spine := by
  unfold State.modObj
  simp

@[simp] theorem State.writeRing_spine (s : State) (n : Nat) (kind : ReqKind) (clear : Bool) (b : Nat → Bytes) :
    (State.writeRing s n kind clear b).spine = s.spine := by
  unfold State.writeRing
  repeat' split
  all_goals simp

@[simp] theorem State.noticeWatermark_spine (s : State) :
    (State.noticeWatermark s).spine = s.spine := by
  unfold State.noticeWatermark
  dsimp only
  repeat' split
  all_goals simp

@[simp] theorem State.writeFrame_spine (s : State) (pq : Nat) (q : Qp) (epoch : Nat) (o : Obj) (img : Bytes) :
    (State.writeFrame s pq q epoch o img).spine = s.spine := by
  unfold State.writeFrame
  repeat' split
  all_goals simp

@[simp] theorem State.pumpFrames_spine (n : Nat) (s : State) : (State.pumpFrames n s).spine = s.spine := by
  induction n generalizing s with
  | zero => rfl
  | succ n ih =>
    unfold State.pumpFrames
    repeat' split
    all_goals first | rfl | (dsimp only; rw [ih]; simp)

@[simp] theorem State.pump_spine (s : State) :
    (State.pump s).spine = s.spine := by
  unfold State.pump
  simp

@[simp] theorem State.ackNotices_spine (s : State) (q : Nat) :
    (State.ackNotices s q).spine = s.spine := by
  unfold State.ackNotices
  repeat' split
  all_goals simp

@[simp] theorem State.rejectEntry_spine (s : State) (e : Entry) (st : Nat) (dt : Nat) :
    (State.rejectEntry s e st dt).spine = s.spine := by
  unfold State.rejectEntry
  simp

@[simp] theorem State.rejectUnfit_spine (s : State) :
    (State.rejectUnfit s).spine = s.spine := by
  unfold State.rejectUnfit
  dsimp only
  repeat' (first
    | (simp; done)
    | split
    | (refine Eq.trans (forEach_spine _ _ _ (fun _ _ => ?_)) ?_ <;> try dsimp only))

@[simp] theorem State.batchOpen_spine (s : State) :
    (State.batchOpen s).spine = s.spine := by
  unfold State.batchOpen
  dsimp only
  repeat' split
  all_goals simp

@[simp] theorem State.finishRevokes_spine (s : State) :
    (State.finishRevokes s).spine = s.spine := by
  unfold State.finishRevokes
  simp

@[simp] theorem State.moveNotices_spine (s : State) :
    (State.moveNotices s).spine = s.spine := by
  unfold State.moveNotices
  simp

@[simp] theorem State.commitEntry_spine (s : State) (epoch : Nat) (e : Entry) : (s.commitEntry epoch e).spine = s.spine := by
  unfold State.commitEntry
  extract_lets s1 s2
  have h1 : s1.spine = s.spine := by simp only [s1]; split <;> first | rfl | simp
  have h2 : s2.spine = s.spine := by simp only [s2]; split <;> simp [h1]
  clear_value s1 s2
  split
  · exact h2
  · extract_lets s3 s4 b out
    have h3 : s3.spine = s.spine := by simp [s3, h2]
    have h4 : s4.spine = s.spine := by
      refine Eq.trans (forEach_spine _ _ _ ?_) h3
      intro c t
      split <;> first | rfl | simp
    clear_value s3 s4
    split <;> simp [h4]

@[simp] theorem State.commitBatch_spine (s : State) (b : Batch) :
    (State.commitBatch s b).spine = s.spine := by
  unfold State.commitBatch
  simp

@[simp] theorem State.failBehind_spine (s : State) (lost : List Nat) :
    (State.failBehind s lost).spine = s.spine := by
  unfold State.failBehind
  simp

@[simp] theorem State.failBatch_spine (s : State) :
    (State.failBatch s).spine = s.spine := by
  unfold State.failBatch
  repeat' split
  all_goals simp

@[simp] theorem State.rootBatch_spine (s : State) (b : Batch) :
    (State.rootBatch s b).spine = s.spine := by
  unfold State.rootBatch
  dsimp only
  repeat' first | (simp; done) | split | (refine Eq.trans (forEach_spine _ _ _ (fun _ _ => ?_)) ?_) | dsimp only

@[simp] theorem State.journalWatermark_spine (s : State) :
    (State.journalWatermark s).spine = s.spine := by
  unfold State.journalWatermark
  dsimp only
  repeat' split
  all_goals simp

@[simp] theorem State.mirrorOne_spine (s : State) (b : Batch) :
    (State.mirrorOne s b).spine = s.spine := by
  unfold State.mirrorOne
  dsimp only
  repeat' split
  all_goals simp

@[simp] theorem State.mirrorSend_spine (s : State) :
    (State.mirrorSend s).spine = s.spine := by
  unfold State.mirrorSend
  simp

@[simp] theorem State.batchPersisted_spine (s : State) :
    (State.batchPersisted s).spine = s.spine := by
  unfold State.batchPersisted
  dsimp only
  repeat' split
  all_goals simp

@[simp] theorem State.readFrame_spine (s : State) (o : Obj) (frame : Nat) :
    (State.readFrame s o frame).spine = s.spine := by
  unfold State.readFrame
  repeat' split
  all_goals simp

@[simp] theorem State.setLoad_spine (s : State) (o : Obj) (l : Load) :
    (State.setLoad s o l).spine = s.spine := by
  unfold State.setLoad
  simp

@[simp] theorem State.pageLoadStart_spine (s : State) (o : Obj) :
    (State.pageLoadStart s o).spine = s.spine := by
  unfold State.pageLoadStart
  repeat' split
  all_goals simp

@[simp] theorem State.install_spine (s : State) (o : Obj) (frame : Nat) (img : Bytes) (plain : Bytes) :
    (State.install s o frame img plain).spine = s.spine := by
  unfold State.install
  repeat' split
  all_goals simp

@[simp] theorem State.lose_spine (s : State) (o : Obj) :
    (State.lose s o).spine = s.spine := by
  unfold State.lose
  simp

@[simp] theorem State.pageImage_spine (s : State) (o : Obj) (frame : Nat) (img : Bytes) :
    (State.pageImage s o frame img).spine = s.spine := by
  unfold State.pageImage
  dsimp only
  repeat' split
  all_goals simp

@[simp] theorem State.persistAttach_spine (s : State) (j : Job) :
    (State.persistAttach s j).spine = s.spine := by
  unfold State.persistAttach
  dsimp only
  repeat' split
  all_goals simp

@[simp] theorem State.persistRegionDeclare_spine (s : State) (j : Job) :
    (State.persistRegionDeclare s j).spine = s.spine := by
  unfold State.persistRegionDeclare
  dsimp only
  repeat' split
  all_goals simp

@[simp] theorem State.persistRegionRemove_spine (s : State) (j : Job) :
    (State.persistRegionRemove s j).spine = s.spine := by
  unfold State.persistRegionRemove
  dsimp only
  repeat' split
  all_goals simp

/-! ### Machine/Operands.lean -/

@[simp] theorem State.cfgRow_spine (s : State) (q i addr : Nat) (f : State → Job → State) (hf : ∀ t j, (f t j).spine = t.spine) :
    (s.cfgRow q i addr f).spine = s.spine := by
  unfold State.cfgRow
  apply State.ctl_spine
  intro t j
  repeat' split
  all_goals simp [hf]

theorem State.cfgRow_kept {p : List Instr} {f0 : Fuses} (s : State) (q i addr : Nat) (f : State → Job → State)
    (hf : ∀ t j, t.spine.Kept p f0 → (f t j).spine.Kept p f0) (h : s.spine.Kept p f0) : (s.cfgRow q i addr f).spine.Kept p f0 := by
  unfold State.cfgRow
  refine State.ctl_kept _ _ _ _ _ ?_ h
  intro t j ht
  repeat' split
  all_goals simp [hf, ht]

@[simp] theorem State.keepTarget_spine (s : State) (j : Job) (addr : Nat) :
    (State.keepTarget s j addr).spine = s.spine := by
  unfold State.keepTarget
  repeat' split
  all_goals simp

@[simp] theorem State.cfgAction_spine (s : State) (q i addr hi lo act : Nat) (f : State → Job → State) (hf : ∀ t j, (f t j).spine = t.spine) :
    (s.cfgAction q i addr hi lo act f).spine = s.spine := by
  unfold State.cfgAction
  apply State.cfgRow_spine
  intro t j
  repeat' split
  all_goals simp [hf]

theorem State.cfgAction_kept {p : List Instr} {f0 : Fuses} (s : State) (q i addr hi lo act : Nat) (f : State → Job → State)
    (hf : ∀ t j, t.spine.Kept p f0 → (f t j).spine.Kept p f0) (h : s.spine.Kept p f0) :
    (s.cfgAction q i addr hi lo act f).spine.Kept p f0 := by
  unfold State.cfgAction
  refine State.cfgRow_kept _ _ _ _ _ ?_ h
  intro t j ht
  repeat' split
  all_goals simp [hf, ht]

end Sys2Proof.Machine
end

