-- ==== Sys2Proof/Laws/SpineJobs.lean ====
section
/-! SUPPORT. What keeps the spine of a state, for the definitions of queues, tamper handling, fetching, ciphers, streams, scratchpads, dispatching and contexts. -/

namespace Sys2Proof.Machine

/-! ### Machine/Queues.lean -/

@[simp] theorem State.touch_spine (s : State) (q : Nat) :
    (State.touch s q).spine = s.spine := by
  unfold State.touch
  repeat' split
  all_goals simp

@[simp] theorem State.badDoorbell_spine (s : State) (q : Nat) :
    (State.badDoorbell s q).spine = s.spine := by
  unfold State.badDoorbell
  simp

@[simp] theorem State.inbound_spine (s : State) (q : Nat) :
    (State.inbound s q).spine = s.spine := by
  unfold State.inbound
  simp

@[simp] theorem State.outsideBlock_spine (s : State) (n off len : Nat) (f : State → State) (hf : ∀ u, (f u).spine = u.spine) :
    (s.outsideBlock n off len f).spine = s.spine := by
  unfold State.outsideBlock
  split
  · simp
  · rw [hf]
    simp

@[simp] theorem State.producerDoorbell_spine (s : State) (n off : Nat) (data : Bytes) :
    (s.producerDoorbell n off data).spine = s.spine := by
  unfold State.producerDoorbell
  split
  · rfl
  · apply State.outsideBlock_spine
    intro u
    repeat' split
    all_goals simp

@[simp] theorem State.consumerDoorbell_spine (s : State) (n : Nat) (off : Nat) (data : Bytes) :
    (State.consumerDoorbell s n off data).spine = s.spine := by
  unfold State.consumerDoorbell
  repeat' split
  all_goals simp

@[simp] theorem State.nakInbound_spine (s : State) (q : Nat) (syndrome : Nat) :
    (State.nakInbound s q syndrome).spine = s.spine := by
  unfold State.nakInbound
  repeat' split
  all_goals simp

@[simp] theorem State.dropCpls_spine (s : State) (q : Qp) (zero : Bool) :
    (State.dropCpls s q zero).spine = s.spine := by
  unfold State.dropCpls
  refine forEach_spine _ _ _ (fun _ _ => ?_)
  dsimp only
  repeat' split
  all_goals simp

@[simp] theorem State.enterError_spine (s : State) (n : Nat) (syndrome : Nat) :
    (State.enterError s n syndrome).spine = s.spine := by
  unfold State.enterError
  dsimp only
  repeat' split
  all_goals simp

@[simp] theorem State.ackTimeout_spine (s : State) (n : Nat) :
    (State.ackTimeout s n).spine = s.spine := by
  unfold State.ackTimeout
  dsimp only
  repeat' split
  all_goals simp

@[simp] theorem State.acked_spine (s : State) (n : Nat) (r : Req) :
    (State.acked s n r).spine = s.spine := by
  unfold State.acked
  repeat' split
  all_goals simp

@[simp] theorem State.ackUpTo_spine (s : State) (n : Nat) (a2 : BitVec 24) :
    (State.ackUpTo s n a2).spine = s.spine := by
  unfold State.ackUpTo
  repeat' split
  all_goals simp

@[simp] theorem State.psnNak_spine (s : State) (n : Nat) (psn : Nat) :
    (State.psnNak s n psn).spine = s.spine := by
  unfold State.psnNak
  simp

@[simp] theorem State.rnrNak_spine (s : State) (n : Nat) :
    (State.rnrNak s n).spine = s.spine := by
  unfold State.rnrNak
  dsimp only
  repeat' split
  all_goals simp

@[simp] theorem State.rnrExpiry_spine (s : State) (n : Nat) :
    (State.rnrExpiry s n).spine = s.spine := by
  unfold State.rnrExpiry
  split <;> simp

@[simp] theorem State.writeRuns_spine (s : State) (q addr rkey : Nat) (l : List Bytes) : (s.writeRuns q addr rkey l).spine = s.spine := by
  induction l generalizing s addr with
  | nil => rfl
  | cons b bs ih => simp only [State.writeRuns]; rw [ih, State.issue_spine]

@[simp] theorem State.writeOutput_spine (s : State) (n : Nat) (c : Cpl) :
    (State.writeOutput s n c).spine = s.spine := by
  unfold State.writeOutput
  dsimp only
  repeat' split
  all_goals simp

@[simp] theorem State.deliverNotices_spine (s : State) (n : Nat) (carried : BitVec 3) :
    (State.deliverNotices s n carried).spine = s.spine := by
  unfold State.deliverNotices
  simp

@[simp] theorem State.mirrorKeys_spine (s : State) (n : Nat) (idx : Nat) :
    (State.mirrorKeys s n idx).spine = s.spine := by
  unfold State.mirrorKeys
  repeat' split
  all_goals simp

@[simp] theorem State.resetTimer_spine (s : State) (id : JobId) :
    (State.resetTimer s id).spine = s.spine := by
  unfold State.resetTimer
  repeat' split
  all_goals simp

@[simp] theorem State.completionWrite_spine (s : State) (n : Nat) :
    (State.completionWrite s n).spine = s.spine := by
  unfold State.completionWrite
  dsimp only
  repeat' split
  all_goals simp

@[simp] theorem State.qpCreate_spine (s : State) (j : Job) :
    (State.qpCreate s j).spine = s.spine := by
  unfold State.qpCreate
  dsimp only
  repeat' split
  all_goals simp

@[simp] theorem State.qpDestroy_spine (s : State) (j : Job) :
    (State.qpDestroy s j).spine = s.spine := by
  unfold State.qpDestroy
  dsimp only
  repeat' split
  all_goals simp

@[simp] theorem State.qpDestroyDrained_spine (s : State) (n : Nat) :
    (State.qpDestroyDrained s n).spine = s.spine := by
  unfold State.qpDestroyDrained
  repeat' split
  all_goals simp

@[simp] theorem State.qpQuery_spine (s : State) (j : Job) :
    (State.qpQuery s j).spine = s.spine := by
  unfold State.qpQuery
  dsimp only
  repeat' split
  all_goals simp

@[simp] theorem State.regionDeclare_spine (s : State) (j : Job) :
    (State.regionDeclare s j).spine = s.spine := by
  unfold State.regionDeclare
  dsimp only
  repeat' split
  all_goals simp

@[simp] theorem State.regionRemove_spine (s : State) (j : Job) :
    (State.regionRemove s j).spine = s.spine := by
  unfold State.regionRemove
  dsimp only
  repeat' split
  all_goals simp

@[simp] theorem State.queueEcho_spine (s : State) (j : Job) :
    (State.queueEcho s j).spine = s.spine := by
  unfold State.queueEcho
  simp

/-! ### Machine/TamperOps.lean -/

@[simp] theorem State.forgetDram_spine (s : State) :
    (State.forgetDram s).spine = s.spine := by
  unfold State.forgetDram
  dsimp only
  repeat' split
  all_goals simp

@[simp] theorem State.emptyLogs_spine (s : State) :
    (State.emptyLogs s).spine = s.spine := by
  unfold State.emptyLogs
  simp

@[simp] theorem State.resetTiles_spine (s : State) :
    (State.resetTiles s).spine = s.spine := by
  unfold State.resetTiles
  dsimp only
  repeat' split
  all_goals simp

@[simp] theorem State.purgeSeals_spine (s : State) :
    (State.purgeSeals s).spine = s.spine := by
  unfold State.purgeSeals
  simp

@[simp] theorem State.haltJobs_spine (s : State) :
    (State.haltJobs s).spine = s.spine := by
  unfold State.haltJobs
  simp

@[simp] theorem State.purgeBatches_spine (s : State) :
    (State.purgeBatches s).spine = s.spine := by
  unfold State.purgeBatches
  simp

@[simp] theorem State.purgeMgmt_spine (s : State) :
    (State.purgeMgmt s).spine = s.spine := by
  unfold State.purgeMgmt
  simp

@[simp] theorem State.purgePair_spine (s : State) :
    (State.purgePair s).spine = s.spine := by
  unfold State.purgePair
  dsimp only
  repeat' split
  all_goals simp

@[simp] theorem State.purge_spine (s : State) :
    (State.purge s).spine = s.spine := by
  unfold State.purge
  simp

@[simp] theorem State.zeroize_spine (s : State) :
    (State.zeroize s).spine = s.spine := by
  unfold State.zeroize
  simp

theorem State.volatileLost_kept_spine (s : State) : s.volatileLost.spine =
    { s.spine with tiles := List.range 48, channels := List.range 8, sources := List.range 22,
                   scratch := (List.range 6).map (fun n => (n, [])) } := by
  unfold State.volatileLost State.spine
  simp only [List.map_map, Function.comp_def]
  rfl

@[simp] theorem State.volatileLost_kept {p : List Instr} {f0 : Fuses} (s : State) (h : s.spine.Kept p f0) : s.volatileLost.spine.Kept p f0 := by
  rw [State.volatileLost_kept_spine]
  obtain ⟨h1, ⟨_, _, h4, _, _, _, h8⟩, h9⟩ := h
  refine ⟨h1, ⟨rfl, rfl, h4, rfl, rfl, ?_, ⟨h8.active, h8.offA, h8.offB, h8.target, h8.both⟩⟩, h9⟩
  intro c hc
  obtain ⟨n, _, rfl⟩ := List.mem_map.mp hc
  rfl

@[simp] theorem State.halt_kept {p : List Instr} {f0 : Fuses} (s : State) (h : s.spine.Kept p f0) :
    (State.halt s).spine.Kept p f0 := by
  unfold State.halt
  simp [h]

@[simp] theorem State.alertAll_spine (s : State) (e : Event) :
    (State.alertAll s e).spine = s.spine := by
  unfold State.alertAll
  simp

/-- Blowing more fuses keeps what is kept. -/
theorem Spine.Kept.withFuses {p : List Instr} {f0 : Fuses} {x : Spine} (h : x.Kept p f0) (g : Fuses) (hg : f0.Grows g) :
    Spine.Kept p f0 { x with fuses := g } :=
  ⟨h.pending, ⟨h.inv.tiles, h.inv.channels, h.inv.cards, h.inv.sources, h.inv.courses, h.inv.scratch,
    ⟨h.inv.gates.active, h.inv.gates.offA, h.inv.gates.offB, h.inv.gates.target, h.inv.gates.both⟩⟩, hg⟩

/-- Raising one evidence counter to at most 255 keeps every fuse. -/
theorem Fuses.Grows.raise {a b : Fuses} (h : a.Grows b) (cls n : Nat) :
    a.Grows { b with evidence := b.evidence.set cls (min 255 (b.evidence.getD cls 0 + n)) } := by
  refine ⟨h.dus, h.dusCheck, h.serial, h.certDigest, h.slot0, h.slot1, h.slot2, h.slot3, h.owner0, h.owner1, h.owner2, h.owner3,
    h.hyRevoke, h.minSvn, ?_, h.trim⟩
  intro k
  have hk := h.evidence k
  simp only [List.getD_eq_getElem?_getD, List.getElem?_set] at hk ⊢
  split
  · rename_i e
    subst e
    split
    · simp only [Option.getD_some]
      omega
    · rename_i hl
      rw [List.getElem?_eq_none (l := b.evidence) (by omega)] at hk
      exact hk
  · exact hk

@[simp] theorem State.blow_kept {p : List Instr} {f0 : Fuses} (s : State) (cls n : Nat) (h : s.spine.Kept p f0) :
    (s.blow cls n).spine.Kept p f0 := by
  unfold State.blow
  have key := h.withFuses _ (h.fuses.raise cls n)
  dsimp only
  cases s.guard.io18Out
  · simp only [Bool.false_eq_true, if_false]
    repeat' split
    · exact h
    · rw [State.notice_spine, State.notice_spine]
      exact key
    · rw [State.notice_spine]
      exact key
  · simp [h]

@[simp] theorem State.latchUp_spine (s : State) (cls : Nat) :
    (State.latchUp s cls).spine = s.spine := by
  unfold State.latchUp
  simp

@[simp] theorem State.evidence_kept {p : List Instr} {f0 : Fuses} (s : State) (h : s.spine.Kept p f0) :
    (State.evidence s).spine.Kept p f0 := by
  unfold State.evidence
  dsimp only
  repeat' (first
    | (simp [*]; done)
    | split
    | (refine forEach_kept _ _ _ (fun _ _ hk => ?_) ?_ <;> try dsimp only))

@[simp] theorem State.perform_spine (s : State) (bit : Nat) :
    (State.perform s bit).spine = s.spine := by
  unfold State.perform
  simp

@[simp] theorem State.freezeNow_spine (s : State) :
    (State.freezeNow s).spine = s.spine := by
  unfold State.freezeNow
  simp

@[simp] theorem State.alert_spine (s : State) (e : Event) :
    (State.alert s e).spine = s.spine := by
  unfold State.alert
  dsimp only
  repeat' split
  all_goals simp

@[simp] theorem State.respond_kept {p : List Instr} {f0 : Fuses} (s : State) (src island cause : Nat) (h : s.spine.Kept p f0) :
    (s.respond src island cause).spine.Kept p f0 := by
  unfold State.respond
  extract_lets e s1 ad hd g s2 s3 s4 s5 s6 v s7
  have h1 : s1.spine.Kept p f0 := by simp [s1, h]
  have h2 : s2.spine.Kept p f0 := by simp only [s2]; apply ite_kept <;> simp [h1]
  have h3 : s3.spine.Kept p f0 := by simp only [s3]; apply ite_kept <;> simp [h2]
  have h4 : s4.spine.Kept p f0 := by simp only [s4]; apply ite_kept <;> simp [h3]
  have h5 : s5.spine.Kept p f0 := by simp only [s5]; apply ite_kept <;> simp [h4]
  have h6 : s6.spine.Kept p f0 := by simp only [s6]; apply ite_kept <;> simp [h5]
  have h7 : s7.spine.Kept p f0 := by simp only [s7]; repeat' (apply ite_kept) <;> simp [h6]
  apply ite_kept <;> simp [h7]

@[simp] theorem State.respondOnCells_spine (s : State) (src : Nat) (cause : Nat) :
    (State.respondOnCells s src cause).spine = s.spine := by
  unfold State.respondOnCells
  dsimp only
  repeat' split
  all_goals simp

@[simp] theorem State.fire_kept {p : List Instr} {f0 : Fuses} (s : State) (src : Nat) (island : Nat) (cause : Nat) (h : s.spine.Kept p f0) :
    (State.fire s src island cause).spine.Kept p f0 := by
  unfold State.fire
  dsimp only
  repeat' split
  all_goals simp [h]

@[simp] theorem State.calm_spine (s : State) (src : Nat) :
    (State.calm s src).spine = s.spine := by
  unfold State.calm
  simp

/-! ### Machine/Entropy.lean -/

@[simp] theorem State.dropSource_spine (s : State) (n : Nat) :
    (State.dropSource s n).spine = s.spine := by
  unfold State.dropSource
  simp

@[simp] theorem State.entropyStart_kept {p : List Instr} {f0 : Fuses} (s : State) (failed : List Nat) (katOk : Bool) (h : s.spine.Kept p f0) :
    (State.entropyStart s failed katOk).spine.Kept p f0 := by
  unfold State.entropyStart
  dsimp only
  repeat' (first
    | (simp [*]; done)
    | split
    | (refine forEach_kept _ _ _ (fun _ _ hk => ?_) ?_ <;> try dsimp only))

@[simp] theorem State.leaveWindow_spine (s : State) (n : Nat) :
    (State.leaveWindow s n).spine = s.spine := by
  unfold State.leaveWindow
  repeat' split
  all_goals simp

@[simp] theorem State.noteFailed_spine (s : State) (x : Source) (test : Nat) :
    (State.noteFailed s x test).spine = s.spine := by
  unfold State.noteFailed
  first
    | (simp; done)
    | ((try dsimp only)
       repeat' (first
         | (simp; done)
         | split
         | (refine Eq.trans (forEach_spine _ _ _ (fun _ _ => ?_)) ?_ <;> try dsimp only)
         | (refine Eq.trans (State.withKey_spine _ _ _ _ _ (fun _ _ _ => ?_)) ?_ <;> try dsimp only)
         | (refine Eq.trans (State.ctl_spine _ _ _ _ _ (fun _ _ => ?_)) ?_ <;> try dsimp only)
         | (refine Eq.trans (State.onTile_spine _ _ _ _ (fun _ _ => ?_)) ?_ <;> try dsimp only)
         | (refine Eq.trans (State.withRandom_spine _ _ _ _ (fun _ _ => ?_)) ?_ <;> try dsimp only)
         | (refine Eq.trans (State.cfgRow_spine _ _ _ _ _ (fun _ _ => ?_)) ?_ <;> try dsimp only)
         | (refine Eq.trans (State.cfgAction_spine _ _ _ _ _ _ _ _ (fun _ _ => ?_)) ?_ <;> try dsimp only)
         | (refine Eq.trans (State.entAction_spine _ _ _ _ _ (fun _ _ _ => ?_)) ?_ <;> try dsimp only)
         | (simp [Function.comp_def]; done)
         | (simp_all; done)
         | with_reducible rfl)
       done)
    | with_reducible rfl

@[simp] theorem State.windowFailed_kept {p : List Instr} {f0 : Fuses} (s : State) (x : Source) (test : Nat) (h : s.spine.Kept p f0) :
    (State.windowFailed s x test).spine.Kept p f0 := by
  unfold State.windowFailed
  dsimp only
  split
  · simp [h]
  · refine State.fire_kept _ _ _ _ ?_
    repeat' split
    all_goals simp [h]

@[simp] theorem State.windowPassed_spine (s : State) (x : Source) (samples : Bytes) :
    (State.windowPassed s x samples).spine = s.spine := by
  unfold State.windowPassed
  have h1 : (s.modSource x.num (fun y => { y with run := 0 })).spine = s.spine := State.modSource_spine _ _ _ (fun _ _ => rfl)
  dsimp only
  rw [← h1]
  generalize s.modSource x.num (fun y => { y with run := 0 }) = s1
  repeat' split
  all_goals simp

@[simp] theorem State.entropyWindow_kept {p : List Instr} {f0 : Fuses} (s : State) (n : Nat) (raw : Bytes) (h : s.spine.Kept p f0) :
    (State.entropyWindow s n raw).spine.Kept p f0 := by
  unfold State.entropyWindow
  repeat' split
  all_goals simp [h]

@[simp] theorem State.served_spine (s : State) (r : EntReq) (bits : Option Bytes) :
    (State.served s r bits).spine = s.spine := by
  unfold State.served
  simp

@[simp] theorem State.serve_spine (s : State) (r : EntReq) : (s.serve r).spine = s.spine := by
  unfold State.serve
  dsimp only
  repeat' split
  all_goals first
    | rfl
    | (simp; done)
    | (rename_i hg; simp [State.generate_spine _ _ _ _ _ hg]; done)

@[simp] theorem State.entropyRequest_spine (s : State) (a1 : Nat) (n : Nat) (pr : Bool) :
    (State.entropyRequest s a1 n pr).spine = s.spine := by
  unfold State.entropyRequest
  dsimp only
  repeat' split
  all_goals simp

@[simp] theorem State.entAction_spine (s : State) (q : Nat) (i : Nat) (act : Nat) (f : State → Job → Nat → State) (hf : ∀ v0 v1 v2, (f v0 v1 v2).spine = v0.spine) :
    (State.entAction s q i act f).spine = s.spine := by
  unfold State.entAction
  refine State.ctl_spine _ _ _ _ _ (fun _ _ => ?_)
  dsimp only
  repeat' split
  all_goals simp_all

@[simp] theorem State.entRestartCmd_spine (s : State) (j : Job) (_src : Nat) :
    (State.entRestartCmd s j _src).spine = s.spine := by
  unfold State.entRestartCmd
  simp

@[simp] theorem State.entKat_spine (pass : Bool) (s : State) (j : Job) (_src : Nat) :
    (State.entKat pass s j _src).spine = s.spine := by
  unfold State.entKat
  repeat' split
  all_goals simp

@[simp] theorem State.setSrcEn_spine (s : State) (n : Nat) (on : Bool) :
    (State.setSrcEn s n on).spine = s.spine := by
  unfold State.setSrcEn
  simp

@[simp] theorem State.entSourceOut_spine (s : State) (j : Job) (n : Nat) :
    (State.entSourceOut s j n).spine = s.spine := by
  unfold State.entSourceOut
  dsimp only
  repeat' split
  all_goals simp

@[simp] theorem State.entSourceIn_spine (pass : Bool) (s : State) (j : Job) (n : Nat) :
    (State.entSourceIn pass s j n).spine = s.spine := by
  unfold State.entSourceIn
  dsimp only
  repeat' split
  all_goals simp

@[simp] theorem State.rngGenerate_spine (s : State) (j : Job) :
    (State.rngGenerate s j).spine = s.spine := by
  unfold State.rngGenerate
  dsimp only
  repeat' split
  all_goals simp

@[simp] theorem State.rngStatus_spine (s : State) (j : Job) :
    (State.rngStatus s j).spine = s.spine := by
  unfold State.rngStatus
  simp

/-! ### Machine/Fetch.lean -/

@[simp] theorem State.refuse_spine (s : State) (n : Nat) :
    (State.refuse s n).spine = s.spine := by
  unfold State.refuse
  simp

@[simp] theorem State.fetchRead_spine (s : State) (q : Qp) (k : Nat) :
    (State.fetchRead s q k).spine = s.spine := by
  unfold State.fetchRead
  simp

@[simp] theorem State.fetchTurn_spine (s : State) (q : Qp) :
    (State.fetchTurn s q).spine = s.spine := by
  unfold State.fetchTurn
  dsimp only
  repeat' split
  all_goals simp

@[simp] theorem State.fetchPass_spine (s : State) (a1 : Nat) :
    (State.fetchPass s a1).spine = s.spine := by
  unfold State.fetchPass
  repeat' split
  all_goals simp

@[simp] theorem State.askEntropy_spine (s : State) (j : Job) :
    (State.askEntropy s j).spine = s.spine := by
  unfold State.askEntropy
  repeat' split
  all_goals simp

@[simp] theorem State.askPayload_spine (s : State) (j : Job) :
    (State.askPayload s j).spine = s.spine := by
  unfold State.askPayload
  dsimp only
  repeat' split
  all_goals simp

@[simp] theorem State.askOperands_spine (s : State) (id : JobId) :
    (State.askOperands s id).spine = s.spine := by
  unfold State.askOperands
  dsimp only
  repeat' split
  all_goals simp

@[simp] theorem State.countSealFail_spine (s : State) (n : Nat) :
    (State.countSealFail s n).spine = s.spine := by
  unfold State.countSealFail
  simp

@[simp] theorem State.createEntry_spine (s : State) (n : Nat) (e : Held) (chained alone : Bool) :
    (s.createEntry n e chained alone).spine = s.spine := by
  unfold State.createEntry
  split
  · rfl
  · rename_i q hq
    extract_lets d pred err bad inp entry j0 j1 s1 len s2 s3 mg s4 s5 s6
    have h1 : s1.spine = s.spine := by simp [s1]
    have h2 : s2.spine = s.spine := by simp [s2, h1]
    clear_value s2
    have h3 : s3.spine = s.spine := by simp only [s3]; split <;> simp [h2]
    clear_value s3
    have h4 : s4.spine = s.spine := by simp only [s4]; split <;> simp [h3]
    clear_value s4
    have h5 : s5.spine = s.spine := by simp only [s5]; repeat' split
                                       all_goals simp [h4]
    clear_value s5
    have h6 : s6.spine = s.spine := by simp [s6, h5]
    clear_value s6
    repeat' split
    all_goals simp [h6]

@[simp] theorem State.createAll_spine (s : State) (n : Nat) (next : Option Held) (l : List Held) :
    (s.createAll n next l).spine = s.spine := by
  induction l generalizing s with
  | nil => rfl
  | cons e l ih =>
    cases l with
    | nil => simp [State.createAll]
    | cons f l => simp only [State.createAll]; rw [ih]; simp

@[simp] theorem State.descriptorArrival_spine (s : State) (n : Nat) (data : Bytes) :
    (State.descriptorArrival s n data).spine = s.spine := by
  unfold State.descriptorArrival
  dsimp only
  repeat' split
  all_goals simp

@[simp] theorem State.cacheCtx_spine (s : State) (course : Nat) (hit : Bool) (c : CtxRec) :
    (State.cacheCtx s course hit c).spine = s.spine := by
  unfold State.cacheCtx
  dsimp only
  refine Eq.trans (b := ((s.bump _).modCourse course _).spine) rfl ?_
  simp

@[simp] theorem State.takeContext_spine (s : State) (j : Job) (hit : Bool) (c : CtxRec) :
    (State.takeContext s j hit c).spine = s.spine := by
  unfold State.takeContext
  repeat' split
  all_goals simp

@[simp] theorem State.contextToken_spine (s : State) (id : JobId) :
    (State.contextToken s id).spine = s.spine := by
  unfold State.contextToken
  repeat' split
  all_goals simp

@[simp] theorem State.payloadSealFail_spine (s : State) (id : JobId) :
    (State.payloadSealFail s id).spine = s.spine := by
  unfold State.payloadSealFail
  simp

@[simp] theorem State.keyToken_spine (s : State) (id : JobId) (slot : Nat) :
    (State.keyToken s id slot).spine = s.spine := by
  unfold State.keyToken
  dsimp only
  repeat' split
  all_goals simp

@[simp] theorem State.entropyToken_spine (s : State) (id : JobId) :
    (State.entropyToken s id).spine = s.spine := by
  unfold State.entropyToken
  repeat' split
  all_goals simp

@[simp] theorem State.chainToken_spine (s : State) (id : JobId) :
    (State.chainToken s id).spine = s.spine := by
  unfold State.chainToken
  repeat' split
  all_goals simp

@[simp] theorem State.errorToken_spine (s : State) (id : JobId) (c : ErrCause) :
    (State.errorToken s id c).spine = s.spine := by
  unfold State.errorToken
  repeat' split
  all_goals simp

/-! ### Machine/Symmetric.lean -/

@[simp] theorem State.askLease_spine (s : State) (t : Nat) (a2 : Nat) :
    (State.askLease s t a2).spine = s.spine := by
  unfold State.askLease
  dsimp only
  repeat' split
  all_goals simp

theorem State.takeCounter_spine {s : State} {t p n : Nat} {u : State} (h : s.takeCounter t p = some (n, u)) : u.spine = s.spine := by
  unfold State.takeCounter at h
  split at h
  · cases h
  · cases h
    simp

@[simp] theorem State.retireKey_spine (s : State) (h : Nat) :
    (State.retireKey s h).spine = s.spine := by
  unfold State.retireKey
  simp

@[simp] theorem State.withCounter_spine (s : State) (t : Nat) (j : Job) (slot : Nat) (f : State → Nat → State)
    (hf : ∀ u n, (f u n).spine = u.spine) : (s.withCounter t j slot f).spine = s.spine := by
  unfold State.withCounter
  (try dsimp only)
  repeat' split
  all_goals first | rfl | exact hf _ _ | (rename_i h; rw [hf, State.takeCounter_spine h]; done) | simp

@[simp] theorem State.leaseRequest_spine (s : State) (t : Nat) (a2 : Nat) :
    (State.leaseRequest s t a2).spine = s.spine := by
  unfold State.leaseRequest
  dsimp only
  repeat' split
  all_goals simp

@[simp] theorem State.sealWith_spine (s : State) (t : Nat) (j : Job) (slot : Nat) (x : SymBlock) (alg : Nat) (key : Bytes) (hostIv : Bytes) (aad : Bytes) (pt : Bytes) (first : (Option (Bytes × Bytes × Bytes))) :
    (State.sealWith s t j slot x alg key hostIv aad pt first).spine = s.spine := by
  unfold State.sealWith
  repeat' split
  all_goals simp

@[simp] theorem State.symEncrypt_spine (t : Nat) (s : State) (j : Job) :
    (State.symEncrypt t s j).spine = s.spine := by
  unfold State.symEncrypt
  refine State.withKey_spine _ _ _ _ _ (fun _ _ _ => ?_)
  dsimp only
  repeat' split
  all_goals simp_all

@[simp] theorem State.symDecrypt_spine (t : Nat) (s : State) (j : Job) :
    (State.symDecrypt t s j).spine = s.spine := by
  unfold State.symDecrypt
  try dsimp only
  repeat' first
    | (simp; done)
    | split
    | (refine Eq.trans (State.withKey_spine _ _ _ _ _ (fun _ _ _ => ?_)) ?_)
    | dsimp only
    | (simp_all; done)
    | with_reducible rfl

@[simp] theorem State.symReencrypt_spine (t : Nat) (s : State) (j : Job) :
    (State.symReencrypt t s j).spine = s.spine := by
  unfold State.symReencrypt
  try dsimp only
  repeat' first
    | (simp; done)
    | split
    | (refine Eq.trans (State.withKey_spine _ _ _ _ _ (fun _ _ _ => ?_)) ?_)
    | dsimp only
    | (simp_all; done)
    | with_reducible rfl

@[simp] theorem State.macGenerate_spine (t : Nat) (s : State) (j : Job) :
    (State.macGenerate t s j).spine = s.spine := by
  unfold State.macGenerate
  try dsimp only
  repeat' first
    | (simp; done)
    | split
    | (refine Eq.trans (State.withKey_spine _ _ _ _ _ (fun _ _ _ => ?_)) ?_)
    | dsimp only
    | (simp_all; done)
    | with_reducible rfl

@[simp] theorem State.macVerify_spine (t : Nat) (s : State) (j : Job) :
    (State.macVerify t s j).spine = s.spine := by
  unfold State.macVerify
  refine State.withKey_spine _ _ _ _ _ (fun _ _ _ => ?_)
  dsimp only
  repeat' split
  all_goals simp_all

@[simp] theorem State.hash_spine (s : State) (j : Job) :
    (State.hash s j).spine = s.spine := by
  unfold State.hash
  simp

@[simp] theorem State.parityError_kept {p : List Instr} {f0 : Fuses} (s : State) (t : Nat) (engine : Nat) (lane : Nat) (h : s.spine.Kept p f0) :
    (State.parityError s t engine lane).spine.Kept p f0 := by
  unfold State.parityError
  repeat' split
  all_goals simp [h]

/-! ### Machine/Streams.lean -/

@[simp] theorem State.readAhead_spine (s : State) (id : JobId) (n : Nat) : (s.readAhead id n).spine = s.spine := by
  induction n generalizing s with
  | zero => rfl
  | succ n ih =>
    unfold State.readAhead
    dsimp only
    repeat' split
    all_goals simp [ih]

@[simp] theorem State.readsEnd_spine (s : State) (id : JobId) (got n : Nat) : (s.readsEnd id got n).spine = s.spine := by
  induction n generalizing s with
  | zero => exact State.readAhead_spine s id 4
  | succ n ih =>
    unfold State.readsEnd
    split
    · rfl
    · rw [ih, State.readDone_spine]

@[simp] theorem State.writeProduced_spine (s : State) (t : Nat) (j : Job) :
    (State.writeProduced s t j).spine = s.spine := by
  unfold State.writeProduced
  dsimp only
  repeat' split
  all_goals simp

@[simp] theorem State.makeObjKey_spine (s : State) (j : Job) (r : KeyRec) : (s.makeObjKey j r).spine = s.spine := by
  unfold State.makeObjKey
  dsimp only
  split
  · rfl
  · split <;> simp
  · rename_i h
    rw [State.modJob_spine, State.makeRec_spine h]

@[simp] theorem State.payloadToken_spine (s : State) (id : JobId) (data : Bytes) :
    (State.payloadToken s id data).spine = s.spine := by
  unfold State.payloadToken
  dsimp only
  repeat' split
  all_goals simp

/-! ### Machine/Scratch.lean -/

@[simp] theorem State.countConflicts_spine (s : State) (t : Nat) (a2 : Nat) (acc : List ScratchAcc) :
    (State.countConflicts s t a2 acc).spine = s.spine := by
  unfold State.countConflicts
  simp

/-- March C- leaves every scratchpad empty. -/
@[simp] theorem State.marchAll_kept {p : List Instr} {f0 : Fuses} (s : State) (fails : List RowFail) (h : s.spine.Kept p f0) :
    (s.marchAll fails).spine.Kept p f0 := by
  have key : ({ s with courses := s.courses.map (fun (c : Course) => c.march fails) } : State).spine.Kept p f0 := by
    obtain ⟨h1, ⟨a, b, c, d, e, _, g⟩, h9⟩ := h
    refine ⟨h1, ⟨a, b, c, d, ?_, ?_, ⟨g.active, g.offA, g.offB, g.target, g.both⟩⟩, h9⟩
    · rw [← e]
      simp [State.spine, Course.march]
    · intro x hx
      simp only [State.spine, List.map_map, List.mem_map] at hx
      obtain ⟨y, _, rfl⟩ := hx
      rfl
  unfold State.marchAll
  dsimp only
  repeat' split
  all_goals first | exact key | (simp only [State.notice_spine]; exact key)

/-! ### Machine/Dispatching.lean -/

@[simp] theorem State.refreshRefs_spine (s : State) (c : Nat) :
    (State.refreshRefs s c).spine = s.spine := by
  unfold State.refreshRefs
  simp

@[simp] theorem State.place_spine (s : State) (j : Job) (t : Tile) :
    (State.place s j t).spine = s.spine := by
  unfold State.place
  dsimp only
  repeat' split
  all_goals simp

@[simp] theorem State.jobPlace_spine (s : State) (c : Nat) :
    (State.jobPlace s c).spine = s.spine := by
  unfold State.jobPlace
  dsimp only
  repeat' split
  all_goals simp

@[simp] theorem State.takeBehind_spine (s : State) (t : Nat) : (s.takeBehind t).spine = s.spine := by
  unfold State.takeBehind
  apply State.modTile_spine
  intro x _
  split <;> rfl

@[simp] theorem State.streamFails_spine (s : State) (t : Nat) (j : Job) (st : Nat) :
    (State.streamFails s t j st).spine = s.spine := by
  unfold State.streamFails
  repeat' split
  all_goals simp

@[simp] theorem State.prepareStream_spine (s : State) (t : Nat) (j : Job) : (s.prepareStream t j).spine = s.spine := by
  unfold State.prepareStream
  dsimp only
  repeat' split
  all_goals first | rfl | (rename_i h; rw [State.modJob_spine, State.takeCounter_spine h]; done) | simp

@[simp] theorem State.streamOutput_spine (s : State) (t : Nat) (id : JobId) :
    (State.streamOutput s t id).spine = s.spine := by
  unfold State.streamOutput
  dsimp only
  repeat' split
  all_goals simp

@[simp] theorem State.secondPass_spine (s : State) (id : JobId) :
    (State.secondPass s id).spine = s.spine := by
  unfold State.secondPass
  simp

@[simp] theorem State.continuation_spine (s : State) (t : Nat) (data : Bytes) (error : Option Nat) :
    (State.continuation s t data error).spine = s.spine := by
  unfold State.continuation
  dsimp only
  repeat' split
  all_goals simp

/-- Writing a byte keeps a scratchpad's canonical form. -/
theorem memWrite_wfFrom (n a : Nat) (v : BitVec 8) (m : Mem) (hn : n ≤ a) (h : memWfFrom n m = true) : memWfFrom n (memWrite a v m) = true := by
  induction m generalizing n with
  | nil =>
    unfold memWrite
    split
    · rfl
    · simp_all [memWfFrom]
  | cons e m ih =>
    obtain ⟨b, w⟩ := e
    simp only [memWfFrom, Bool.and_eq_true, decide_eq_true_eq, bne_iff_ne, ne_eq] at h
    obtain ⟨⟨hb, hw⟩, hm⟩ := h
    have lift : ∀ k, k ≤ b + 1 → memWfFrom k m = true := by
      intro k hk
      cases m with
      | nil => rfl
      | cons e' m' =>
        obtain ⟨b', w'⟩ := e'
        simp only [memWfFrom, Bool.and_eq_true, decide_eq_true_eq, bne_iff_ne, ne_eq] at hm ⊢
        exact ⟨⟨by omega, hm.1.2⟩, hm.2⟩
    unfold memWrite
    split
    · split
      · simp only [memWfFrom, Bool.and_eq_true, decide_eq_true_eq, bne_iff_ne, ne_eq]
        exact ⟨⟨hb, hw⟩, hm⟩
      · simp only [memWfFrom, Bool.and_eq_true, decide_eq_true_eq, bne_iff_ne, ne_eq]
        exact ⟨⟨by omega, by assumption⟩, ⟨by omega, hw⟩, hm⟩
    · split
      · split
        · exact lift n (by omega)
        · simp only [memWfFrom, Bool.and_eq_true, decide_eq_true_eq, bne_iff_ne, ne_eq]
          exact ⟨⟨by omega, by assumption⟩, lift _ (by omega)⟩
      · simp only [memWfFrom, Bool.and_eq_true, decide_eq_true_eq, bne_iff_ne, ne_eq]
        exact ⟨⟨hb, hw⟩, ih (b + 1) (by omega) hm⟩

theorem memWrite_wf (a : Nat) (v : BitVec 8) (m : Mem) (h : Memory.wf m = true) : Memory.wf (memWrite a v m) = true :=
  memWrite_wfFrom 0 a v m (Nat.zero_le a) h

theorem memWriteBytes_wf (a : Nat) (bs : Bytes) (m : Mem) (h : Memory.wf m = true) : Memory.wf (memWriteBytes a bs m) = true := by
  induction bs generalizing a m with
  | nil => exact h
  | cons b bs ih => exact ih _ _ (memWrite_wf a b m h)

theorem putWord_wf (w : Nat) (v : BitVec 64) (m : Mem) (h : Memory.wf m = true) : Memory.wf (putWord w v m) = true :=
  memWriteBytes_wf _ _ _ h

theorem State.scratchAccess_wf (s : State) (p c : Nat) (m : Mem) (a : ScratchAcc) (h : Memory.wf m = true) :
    Memory.wf (s.scratchAccess p c m a).1 = true := by
  unfold State.scratchAccess
  repeat' split
  all_goals first | exact h | exact putWord_wf _ _ _ h

/-- Port B's access keeps a scratchpad's canonical form. -/
theorem State.portBAccess_wf (s : State) (c : Nat) (m : Mem) (a : ScratchAcc) (h : Memory.wf m = true) :
    Memory.wf (s.portBAccess c m a) = true := by
  unfold State.portBAccess
  repeat' split
  all_goals first | exact h | exact putWord_wf _ _ _ h

/-- A job's accesses keep its scratchpad's canonical form. -/
theorem State.scratchRun_wf (s : State) (p c : Nat) (l : List ScratchAcc) (r : Mem × Bool) (h : Memory.wf r.1 = true) :
    Memory.wf (s.scratchRun p c l r).1 = true := by
  induction l generalizing r with
  | nil => exact h
  | cons a l ih => exact ih _ (s.portBAccess_wf c _ a (s.scratchAccess_wf p c r.1 a h))

/-- Replacing the contents of one scratchpad by contents in canonical form keeps what is kept. -/
theorem State.setScratch_kept {p : List Instr} {f0 : Fuses} (s : State) (c : Nat) (m : Mem) (hm : Memory.wf m = true) (h : s.spine.Kept p f0) :
    (s.modCourse c (fun x => { x with scratch := m })).spine.Kept p f0 := by
  obtain ⟨h1, ⟨a, b, c', d, e, f, g⟩, h9⟩ := h
  refine ⟨h1, ⟨a, b, c', d, ?_, ?_, ⟨g.active, g.offA, g.offB, g.target, g.both⟩⟩, h9⟩
  · rw [← e]
    simp only [State.spine, State.modCourse, modWhere, List.map_map]
    apply List.map_congr_left
    intro x _
    simp only [Function.comp]
    split <;> rfl
  · intro x hx
    simp only [State.spine, State.modCourse, modWhere, List.map_map, List.mem_map, Function.comp] at hx
    obtain ⟨y, hy, rfl⟩ := hx
    split
    · exact hm
    · exact f (y.num, y.scratch) (List.mem_map.mpr ⟨y, hy, rfl⟩)

@[simp] theorem State.scratchFaults_kept {p : List Instr} {f0 : Fuses} (s : State) (t : Nat) (j : Job) (acc : List ScratchAcc)
    (h : s.spine.Kept p f0) : (s.scratchFaults t j acc).spine.Kept p f0 := by
  unfold State.scratchFaults
  extract_lets c
  split
  · exact h
  · rename_i x hx
    have hx' : Memory.wf x.scratch = true := by
      have hm := List.mem_of_find?_eq_some hx
      exact h.inv.scratch (x.num, x.scratch) (List.mem_map.mpr ⟨x, hm, rfl⟩)
    have key := s.setScratch_kept c _ (s.scratchRun_wf j.part c acc (x.scratch, false) hx') h
    dsimp only
    repeat' split
    · exact h
    · simp [h]
    · simp [key]
    · simp [key]

@[simp] theorem State.closeIdle_spine (s : State) (t : Nat) :
    (State.closeIdle s t).spine = s.spine := by
  unfold State.closeIdle
  repeat' split
  all_goals simp

@[simp] theorem State.jobStart_kept {p : List Instr} {f0 : Fuses} (s : State) (t : Nat) (acc : List ScratchAcc) (h : s.spine.Kept p f0) :
    (State.jobStart s t acc).spine.Kept p f0 := by
  unfold State.jobStart
  dsimp only
  repeat' split
  all_goals simp [h]

@[simp] theorem State.leaveTile_spine (s : State) (t : Nat) :
    (State.leaveTile s t).spine = s.spine := by
  unfold State.leaveTile
  dsimp only
  repeat' split
  all_goals simp

@[simp] theorem State.jobEnd_spine (s : State) (t : Nat) :
    (State.jobEnd s t).spine = s.spine := by
  unfold State.jobEnd
  repeat' split
  all_goals simp

@[simp] theorem State.yieldPoint_spine (s : State) (t : Nat) :
    (State.yieldPoint s t).spine = s.spine := by
  unfold State.yieldPoint
  repeat' split
  all_goals simp

@[simp] theorem State.yieldWindowEnd_spine (s : State) (t : Nat) :
    (State.yieldWindowEnd s t).spine = s.spine := by
  unfold State.yieldWindowEnd
  repeat' split
  all_goals simp

@[simp] theorem State.abortLong_spine (s : State) (t : Nat) (dt : Nat) :
    (State.abortLong s t dt).spine = s.spine := by
  unfold State.abortLong
  dsimp only
  repeat' split
  all_goals simp

@[simp] theorem State.slotBoundary_spine (s : State) (t : Nat) :
    (State.slotBoundary s t).spine = s.spine := by
  unfold State.slotBoundary
  dsimp only
  repeat' split
  all_goals simp

/-! ### Machine/Contexts.lean -/

@[simp] theorem State.quotaDeny_spine (s : State) (j : Job) :
    (State.quotaDeny s j).spine = s.spine := by
  unfold State.quotaDeny
  simp

@[simp] theorem State.ctxBind_spine (s : State) (j : Job) :
    (State.ctxBind s j).spine = s.spine := by
  unfold State.ctxBind
  dsimp only
  repeat' split
  all_goals simp

@[simp] theorem State.ctxReplace_spine (s : State) (j : Job) :
    (State.ctxReplace s j).spine = s.spine := by
  unfold State.ctxReplace
  dsimp only
  repeat' split
  all_goals simp

@[simp] theorem State.ctxUnbind_spine (s : State) (j : Job) :
    (State.ctxUnbind s j).spine = s.spine := by
  unfold State.ctxUnbind
  dsimp only
  repeat' split
  all_goals simp

@[simp] theorem State.ctxUnbindDrained_spine (s : State) (id : Nat) :
    (State.ctxUnbindDrained s id).spine = s.spine := by
  unfold State.ctxUnbindDrained
  dsimp only
  repeat' split
  all_goals simp

@[simp] theorem State.ctxQuery_spine (s : State) (j : Job) :
    (State.ctxQuery s j).spine = s.spine := by
  unfold State.ctxQuery
  dsimp only
  repeat' split
  all_goals simp

@[simp] theorem State.qcourseWrite_spine (s : State) (j : Job) :
    (State.qcourseWrite s j).spine = s.spine := by
  unfold State.qcourseWrite
  dsimp only
  repeat' split
  all_goals simp

@[simp] theorem State.qcourseDrained_spine (s : State) (n : Nat) :
    (State.qcourseDrained s n).spine = s.spine := by
  unfold State.qcourseDrained
  repeat' split
  all_goals simp

end Sys2Proof.Machine
end

