-- ==== Sys2Proof/Laws/SpineOpcodes.lean ====
section
/-! SUPPORT. What keeps the spine of a state, for the definitions of the opcodes that tiles run, components and repointing. -/

namespace Sys2Proof.Machine

/-! ### Machine/PublicKey.lean -/

@[simp] theorem State.withPk_spine (s : State) (t : Nat) (j : Job) (f : State → KeyRec → Bytes → State) (hf : ∀ v0 v1 v2, (f v0 v1 v2).spine = v0.spine) :
    (State.withPk s t j f).spine = s.spine := by
  unfold State.withPk
  repeat' split
  all_goals simp_all

@[simp] theorem State.pkSign_spine (t : Nat) (s : State) (j : Job) :
    (State.pkSign t s j).spine = s.spine := by
  unfold State.pkSign
  refine State.withKey_spine _ _ _ _ _ (fun _ _ _ => ?_)
  dsimp only
  repeat' split
  all_goals simp_all

@[simp] theorem State.pkVerify_spine (t : Nat) (s : State) (j : Job) :
    (State.pkVerify t s j).spine = s.spine := by
  unfold State.pkVerify
  refine State.withKey_spine _ _ _ _ _ (fun _ _ _ => ?_)
  dsimp only
  repeat' split
  all_goals simp_all

@[simp] theorem State.pkEncrypt_spine (t : Nat) (s : State) (j : Job) :
    (State.pkEncrypt t s j).spine = s.spine := by
  unfold State.pkEncrypt
  refine State.withKey_spine _ _ _ _ _ (fun _ _ _ => ?_)
  dsimp only
  repeat' split
  all_goals simp_all

@[simp] theorem State.pkDecrypt_spine (t : Nat) (s : State) (j : Job) :
    (State.pkDecrypt t s j).spine = s.spine := by
  unfold State.pkDecrypt
  refine State.withKey_spine _ _ _ _ _ (fun _ _ _ => ?_)
  dsimp only
  repeat' split
  all_goals simp_all

@[simp] theorem State.giveKey_spine (s : State) (t : Nat) (j : Job) (before : Bytes) (mat : Bytes) :
    (State.giveKey s t j before mat).spine = s.spine := by
  unfold State.giveKey
  dsimp only
  repeat' split
  all_goals simp

@[simp] theorem State.keyAgree_spine (t : Nat) (s : State) (j : Job) :
    (State.keyAgree t s j).spine = s.spine := by
  unfold State.keyAgree
  refine State.withKey_spine _ _ _ _ _ (fun _ _ _ => ?_)
  dsimp only
  repeat' split
  all_goals simp_all

@[simp] theorem State.kemEncap_spine (t : Nat) (s : State) (j : Job) :
    (State.kemEncap t s j).spine = s.spine := by
  unfold State.kemEncap
  repeat' split
  all_goals simp

@[simp] theorem State.kemDecap_spine (t : Nat) (s : State) (j : Job) :
    (State.kemDecap t s j).spine = s.spine := by
  unfold State.kemDecap
  refine State.withKey_spine _ _ _ _ _ (fun _ _ _ => ?_)
  dsimp only
  repeat' split
  all_goals simp_all

/-! ### Machine/Payment.lean -/

@[simp] theorem State.withPin_spine (s : State) (t : Nat) (j : Job) (f : State → Bytes → List Nat → State) (hf : ∀ v0 v1 v2, (f v0 v1 v2).spine = v0.spine) :
    (State.withPin s t j f).spine = s.spine := by
  unfold State.withPin
  refine State.withKey_spine _ _ _ _ _ (fun _ _ _ => ?_)
  dsimp only
  repeat' split
  all_goals simp_all

@[simp] theorem State.pinTranslate_spine (t : Nat) (s : State) (j : Job) :
    (State.pinTranslate t s j).spine = s.spine := by
  unfold State.pinTranslate
  dsimp only
  repeat' split
  all_goals simp

@[simp] theorem State.pinVerify_spine (t : Nat) (s : State) (j : Job) :
    (State.pinVerify t s j).spine = s.spine := by
  unfold State.pinVerify
  dsimp only
  repeat' split
  all_goals simp

@[simp] theorem State.pinValueGenerate_spine (t : Nat) (s : State) (j : Job) :
    (State.pinValueGenerate t s j).spine = s.spine := by
  unfold State.pinValueGenerate
  repeat' split
  all_goals simp

@[simp] theorem State.payMacGenerate_spine (t : Nat) (s : State) (j : Job) :
    (State.payMacGenerate t s j).spine = s.spine := by
  unfold State.payMacGenerate
  repeat' split
  all_goals simp

@[simp] theorem State.payMacVerify_spine (t : Nat) (s : State) (j : Job) :
    (State.payMacVerify t s j).spine = s.spine := by
  unfold State.payMacVerify
  dsimp only
  repeat' split
  all_goals simp

@[simp] theorem State.valueGenerate_spine (t : Nat) (s : State) (j : Job) :
    (State.valueGenerate t s j).spine = s.spine := by
  unfold State.valueGenerate
  repeat' split
  all_goals simp

@[simp] theorem State.valueVerify_spine (t : Nat) (s : State) (j : Job) :
    (State.valueVerify t s j).spine = s.spine := by
  unfold State.valueVerify
  repeat' split
  all_goals simp

@[simp] theorem State.emvArqcVerify_spine (t : Nat) (s : State) (j : Job) :
    (State.emvArqcVerify t s j).spine = s.spine := by
  unfold State.emvArqcVerify
  dsimp only
  repeat' first | (simp; done) | split | (refine Eq.trans (State.withKey_spine _ _ _ _ _ (fun _ _ _ => ?_)) ?_) | dsimp only

@[simp] theorem State.dukptInitExport_spine (t : Nat) (s : State) (j : Job) :
    (State.dukptInitExport t s j).spine = s.spine := by
  unfold State.dukptInitExport
  dsimp only
  repeat' split
  all_goals simp

/-! ### Machine/Keys.lean -/

@[simp] theorem State.keyGenerate_spine (s : State) (j : Job) :
    (State.keyGenerate s j).spine = s.spine := by
  unfold State.keyGenerate
  dsimp only
  repeat' split
  all_goals simp

@[simp] theorem State.keyImport_spine (t : Nat) (s : State) (j : Job) :
    (State.keyImport t s j).spine = s.spine := by
  unfold State.keyImport
  dsimp only
  repeat' first | (simp; done) | split | (refine Eq.trans (State.withKey_spine _ _ _ _ _ (fun _ _ _ => ?_)) ?_) | dsimp only

@[simp] theorem State.keyExport_spine (t : Nat) (s : State) (j : Job) :
    (State.keyExport t s j).spine = s.spine := by
  unfold State.keyExport
  try dsimp only
  repeat' first
    | (simp; done)
    | split
    | (refine Eq.trans (State.withKey_spine _ _ _ _ _ (fun _ _ _ => ?_)) ?_)
    | dsimp only
    | (simp_all; done)
    | with_reducible rfl

@[simp] theorem State.putReplacement_spine (t : Nat) (s : State) (j : Job) (page : Nat) (r : KeyRec) (mat : Bytes) :
    (State.putReplacement t s j page r mat).spine = s.spine := by
  unfold State.putReplacement
  dsimp only
  repeat' split
  all_goals simp

@[simp] theorem State.keyReplace_spine (t : Nat) (s : State) (j : Job) :
    (State.keyReplace t s j).spine = s.spine := by
  unfold State.keyReplace
  dsimp only
  repeat' first | (simp; done) | split | (refine Eq.trans (State.withKey_spine _ _ _ _ _ (fun _ _ _ => ?_)) ?_) | dsimp only

@[simp] theorem State.keyRevoke_spine (s : State) (j : Job) :
    (State.keyRevoke s j).spine = s.spine := by
  unfold State.keyRevoke
  dsimp only
  repeat' split
  all_goals simp

@[simp] theorem State.keyErase_spine (t : Nat) (s : State) (j : Job) :
    (State.keyErase t s j).spine = s.spine := by
  unfold State.keyErase
  dsimp only
  repeat' split
  all_goals simp

@[simp] theorem State.keyPinRelease_spine (s : State) (h : Nat) :
    (State.keyPinRelease s h).spine = s.spine := by
  unfold State.keyPinRelease
  dsimp only
  repeat' first | (simp; done) | split | (refine Eq.trans (forEach_spine _ _ _ (fun _ _ => ?_)) ?_) | dsimp only

theorem State.checkOf_spine {s : State} {p k : Nat} {r : KeyRec} {b : Bytes} {u : State} (h : s.checkOf p k r = some (b, u)) :
    u.spine = s.spine := by
  unfold State.checkOf at h
  split at h
  · cases h
    rfl
  · simp only [Option.map_eq_some_iff] at h
    obtain ⟨_, _, h⟩ := h
    cases h
    rfl

@[simp] theorem State.keyQuery_spine (t : Nat) (s : State) (j : Job) : (State.keyQuery t s j).spine = s.spine := by
  unfold State.keyQuery
  dsimp only
  repeat' split
  all_goals first
    | rfl
    | (simp; done)
    | (rename_i hg; simp [State.checkOf_spine hg]; done)
    | (rename_i hg _; simp [State.checkOf_spine hg]; done)
    | (rename_i hg _ _; simp [State.checkOf_spine hg]; done)

@[simp] theorem State.keyPublic_spine (t : Nat) (s : State) (j : Job) :
    (State.keyPublic t s j).spine = s.spine := by
  unfold State.keyPublic
  try dsimp only
  repeat' first
    | (simp; done)
    | split
    | (refine Eq.trans (State.withKey_spine _ _ _ _ _ (fun _ _ _ => ?_)) ?_)
    | dsimp only
    | (simp_all; done)
    | with_reducible rfl

/-! ### Machine/Components.lean -/

@[simp] theorem State.componentBegin_spine (s : State) (j : Job) :
    (State.componentBegin s j).spine = s.spine := by
  unfold State.componentBegin
  dsimp only
  repeat' split
  all_goals simp

@[simp] theorem State.componentAdd_spine (s : State) (j : Job) :
    (State.componentAdd s j).spine = s.spine := by
  unfold State.componentAdd
  repeat' split
  all_goals simp

@[simp] theorem State.closeLoad_spine (s : State) (id : Nat) :
    (State.closeLoad s id).spine = s.spine := by
  unfold State.closeLoad
  simp

@[simp] theorem State.componentCommit_spine (s : State) (j : Job) : (s.componentCommit j).spine = s.spine := by
  unfold State.componentCommit
  split
  · simp
  · rename_i l hl
    extract_lets m len check shut k
    have hs : ∀ st dt, (shut st dt).spine = s.spine := by intro st dt; simp [shut]
    clear_value shut
    repeat' split
    all_goals first
      | rfl
      | (simp [hs]; done)
      | (rename_i hg _ _ _ _; simp [State.makeRec_spine hg]; done)
      | (rename_i hg _ _ _; simp [hs, State.makeRec_spine hg]; done)
      | (rename_i hg _ _; simp [hs, State.makeRec_spine hg]; done)

@[simp] theorem State.componentLoadExpiry_spine (s : State) (load : Nat) :
    (State.componentLoadExpiry s load).spine = s.spine := by
  unfold State.componentLoadExpiry
  repeat' split
  all_goals simp

/-! ### Machine/Custody.lean -/

@[simp] theorem State.objSeal_spine (t : Nat) (s : State) (j : Job) : (State.objSeal t s j).spine = s.spine := by
  unfold State.objSeal
  apply State.withKey_spine
  intro u r m
  dsimp only
  repeat' split
  all_goals first
    | rfl
    | (simp; done)
    | (rename_i hg; simp [State.makeRec_spine hg]; done)

@[simp] theorem State.objOpen_spine (t : Nat) (s : State) (j : Job) :
    (State.objOpen t s j).spine = s.spine := by
  unfold State.objOpen
  dsimp only
  repeat' first | (simp; done) | split | (refine Eq.trans (State.withKey_spine _ _ _ _ _ (fun _ _ _ => ?_)) ?_) | dsimp only

@[simp] theorem State.manifestBuild_spine (s : State) (j : Job) :
    (State.manifestBuild s j).spine = s.spine := by
  unfold State.manifestBuild
  dsimp only
  repeat' split
  all_goals simp

@[simp] theorem State.askLeaf_spine (s : State) (t : Nat) (h : Nat) :
    (State.askLeaf s t h).spine = s.spine := by
  unfold State.askLeaf
  dsimp only
  repeat' split
  all_goals simp

@[simp] theorem State.leafLeaseRequest_spine (s : State) (t : Nat) (h : Nat) :
    (State.leafLeaseRequest s t h).spine = s.spine := by
  unfold State.leafLeaseRequest
  repeat' split
  all_goals simp

theorem State.takeLeaf_spine {s : State} {t k n : Nat} {u : State} (h : s.takeLeaf t k = some (n, u)) : u.spine = s.spine := by
  unfold State.takeLeaf at h
  split at h
  · cases h
  · cases h
    simp

@[simp] theorem State.withLeaf_spine (s : State) (t : Nat) (j : Job) (k : Nat) (f : State → Nat → State)
    (hf : ∀ u n, (f u n).spine = u.spine) : (s.withLeaf t j k f).spine = s.spine := by
  unfold State.withLeaf
  (try dsimp only)
  repeat' split
  all_goals first | rfl | (rename_i h; rw [hf, State.takeLeaf_spine h]; done) | simp

@[simp] theorem State.custSign_spine (s : State) (t : Nat) (j : Job) (slot : Nat) (m : Bytes) :
    (State.custSign s t j slot m).spine = s.spine := by
  unfold State.custSign
  try dsimp only
  repeat' first
    | (simp; done)
    | split
    | (refine Eq.trans (State.withKey_spine _ _ _ _ _ (fun _ _ _ => ?_)) ?_)
    | (refine Eq.trans (State.withLeaf_spine _ _ _ _ _ (fun _ _ => ?_)) ?_)
    | dsimp only
    | (simp_all; done)
    | with_reducible rfl

@[simp] theorem State.manifestSign_spine (t : Nat) (s : State) (j : Job) :
    (State.manifestSign t s j).spine = s.spine := by
  unfold State.manifestSign
  dsimp only
  repeat' split
  all_goals simp

@[simp] theorem State.custodySign_spine (t : Nat) (s : State) (j : Job) :
    (State.custodySign t s j).spine = s.spine := by
  unfold State.custodySign
  simp

@[simp] theorem State.timestamp_spine (t : Nat) (s : State) (j : Job) :
    (State.timestamp t s j).spine = s.spine := by
  unfold State.timestamp
  dsimp only
  repeat' first | (simp; done) | split | (refine Eq.trans (State.withKey_spine _ _ _ _ _ (fun _ _ _ => ?_)) ?_) | dsimp only

@[simp] theorem State.timeQuery_spine (s : State) (j : Job) :
    (State.timeQuery s j).spine = s.spine := by
  unfold State.timeQuery
  simp

@[simp] theorem State.chainAppend_spine (t : Nat) (s : State) (j : Job) :
    (State.chainAppend t s j).spine = s.spine := by
  unfold State.chainAppend
  dsimp only
  repeat' first | (simp; done) | split | (refine Eq.trans (State.withKey_spine _ _ _ _ _ (fun _ _ _ => ?_)) ?_) | dsimp only

/-! ### Machine/Repoint.lean -/

@[simp] theorem State.repointOpen_spine (s : State) (j : Job) :
    (State.repointOpen s j).spine = s.spine := by
  unfold State.repointOpen
  dsimp only
  repeat' split
  all_goals simp

@[simp] theorem State.repointQuery_spine (s : State) (j : Job) :
    (State.repointQuery s j).spine = s.spine := by
  unfold State.repointQuery
  simp

@[simp] theorem State.repointCommit_spine (s : State) (j : Job) :
    (State.repointCommit s j).spine = s.spine := by
  unfold State.repointCommit
  repeat' split
  all_goals simp

@[simp] theorem State.repointCommitDrained_spine (s : State) :
    (State.repointCommitDrained s).spine = s.spine := by
  unfold State.repointCommitDrained
  dsimp only
  repeat' split
  all_goals simp

@[simp] theorem State.repointAbandon_spine (s : State) (j : Job) :
    (State.repointAbandon s j).spine = s.spine := by
  unfold State.repointAbandon
  dsimp only
  repeat' split
  all_goals simp

@[simp] theorem State.campaignEnd_spine (s : State) :
    (State.campaignEnd s).spine = s.spine := by
  unfold State.campaignEnd
  dsimp only
  repeat' split
  all_goals simp

@[simp] theorem State.campaignStep_spine (s : State) :
    (State.campaignStep s).spine = s.spine := by
  unfold State.campaignStep
  dsimp only
  repeat' split
  all_goals simp

end Sys2Proof.Machine
end

