-- ==== Sys2Proof/Laws/SpineUnits.lean ====
section
/-! SUPPORT. What keeps the spine of a state, for the definitions of sealed memory, the live restart, the configuration space and power. -/

namespace Sys2Proof.Machine

/-! ### Machine/SealedMemory.lean -/

@[simp] theorem State.startEvacuate_spine (s : State) (ch : Nat) :
    (State.startEvacuate s ch).spine = s.spine := by
  unfold State.startEvacuate
  simp

@[simp] theorem State.degrade_spine (s : State) (ch : Nat) :
    (State.degrade s ch).spine = s.spine := by
  unfold State.degrade
  dsimp only
  repeat' split
  all_goals simp

@[simp] theorem State.countCe_spine (s : State) (ch : Nat) (line : Nat) (device : Nat) :
    (State.countCe s ch line device).spine = s.spine := by
  unfold State.countCe
  dsimp only
  repeat' split
  all_goals simp

@[simp] theorem State.countUe_spine (s : State) (ch : Nat) (kind : Nat) (line : Nat) :
    (State.countUe s ch kind line).spine = s.spine := by
  unfold State.countUe
  simp

@[simp] theorem State.countMac_spine (s : State) (ch : Nat) (kind : Nat) (line : Nat) :
    (State.countMac s ch kind line).spine = s.spine := by
  unfold State.countMac
  simp

@[simp] theorem State.integrity_kept {p : List Instr} {f0 : Fuses} (s : State) (ch : Nat) (kind : Nat) (line : Nat) (h : s.spine.Kept p f0) :
    (State.integrity s ch kind line).spine.Kept p f0 := by
  unfold State.integrity
  simp [h]

@[simp] theorem State.modWork_spine (s : State) (w : WorkFrame) (f : WorkFrame → WorkFrame) :
    (State.modWork s w f).spine = s.spine := by
  unfold State.modWork
  simp

@[simp] theorem State.loseWork_spine (s : State) (w : WorkFrame) :
    (State.loseWork s w).spine = s.spine := by
  unfold State.loseWork
  dsimp only
  repeat' split
  all_goals simp

@[simp] theorem State.workDamaged_spine (s : State) (w : WorkFrame) (first : Bool) :
    (State.workDamaged s w first).spine = s.spine := by
  unfold State.workDamaged
  dsimp only
  repeat' split
  all_goals simp

@[simp] theorem State.workSound_spine (s : State) (w : WorkFrame) (first : Bool) :
    (State.workSound s w first).spine = s.spine := by
  unfold State.workSound
  dsimp only
  repeat' split
  all_goals simp

@[simp] theorem State.dropGoverned_spine (s : State) (ch : Nat) (level : Nat) (n : Nat) :
    (State.dropGoverned s ch level n).spine = s.spine := by
  unfold State.dropGoverned
  dsimp only
  repeat' first | (simp; done) | split | (refine Eq.trans (forEach_spine _ _ _ (fun _ _ => ?_)) ?_) | dsimp only

@[simp] theorem State.recoverNode_spine (s : State) (ch level n : Nat) : (s.recoverNode ch level n).spine = s.spine := by
  unfold State.recoverNode
  split
  · rfl
  · rename_i c hc
    have hn := State.chan?_num hc
    have key : ∀ (s : State) (c' : Channel), c'.num = c.num → (s.modChan ch (fun _ => c')).spine = s.spine := by
      intro s c' h'
      apply State.modChan_spine
      intro x hx
      omega
    dsimp only
    split
    all_goals simp [key, Channel.retire_num]

@[simp] theorem State.dataFailed_spine (s : State) (ch : Nat) (line : Nat) :
    (State.dataFailed s ch line).spine = s.spine := by
  unfold State.dataFailed
  repeat' split
  all_goals simp

@[simp] theorem State.cacheMacLine_spine (s : State) (ch : Nat) (line : Nat) (b : Bytes) :
    (State.cacheMacLine s ch line b).spine = s.spine := by
  unfold State.cacheMacLine
  simp

@[simp] theorem State.checkLine_kept {p : List Instr} {f0 : Fuses} (s : State) (c : Channel) (line : Nat) (k : LineKind) (b : Bytes)
    (h : s.spine.Kept p f0) : (s.checkLine c line k b).spine.Kept p f0 := by
  unfold State.checkLine
  split
  · split
    extract_lets ready s1
    have h1 : s1.spine.Kept p f0 := by simp only [s1]; split <;> simp [h]
    clear_value s1
    split
    · dsimp only
      repeat' split
      all_goals simp +zetaDelta [h1]
    · exact h1
  · exact h

@[simp] theorem State.readLine_kept {p : List Instr} {f0 : Fuses} (s : State) (ch line : Nat) (burst : Bytes) (h : s.spine.Kept p f0) :
    (s.readLine ch line burst).spine.Kept p f0 := by
  unfold State.readLine
  split
  · exact h
  · rename_i c hc
    extract_lets k free good s1
    clear_value k
    split
    · exact h
    · have hg : ∀ (t : State) (b : Bytes), t.spine.Kept p f0 → (good t b).spine.Kept p f0 := by
        intro t b ht
        simp only [good]
        repeat' split
        all_goals simp [ht]
      clear_value good
      split
      · exact hg _ _ h
      · exact hg _ _ (by simp [h])
      · have h1 : s1.spine.Kept p f0 := by simp [s1, h]
        clear_value s1
        have one : ∀ (l : List Nat) (f : Nat → State → State), (∀ i t, (f i t).spine = t.spine) → (forEach l f s1).spine.Kept p f0 := by
          intro l f hf
          rw [forEach_spine l f s1 hf]
          exact h1
        split
        · simp [h1]
        · simp [h1]
        · exact one _ _ (fun i t => by simp)
        · exact one _ _ (fun i t => by split <;> simp)
        · exact one _ _ (fun i t => by (repeat' split); all_goals simp)
        · exact h1

@[simp] theorem State.scrubWrap_spine (s : State) :
    (State.scrubWrap s).spine = s.spine := by
  unfold State.scrubWrap
  repeat' split
  all_goals simp

@[simp] theorem State.scrubStep_kept {p : List Instr} {f0 : Fuses} (s : State) (ch : Nat) (bursts : List (Nat × Bytes)) (h : s.spine.Kept p f0) :
    (s.scrubStep ch bursts).spine.Kept p f0 := by
  unfold State.scrubStep
  split
  · exact h
  · extract_lets k s1
    split
    · exact h
    · have h1 : s1.spine.Kept p f0 := by
        refine forEach_kept _ _ _ ?_ h
        intro e t ht
        split <;> simp [ht]
      clear_value s1
      simp [h1]

@[simp] theorem State.ecsPass_spine (s : State) (ch : Nat) (counts : List (Nat × Nat × Nat)) :
    (State.ecsPass s ch counts).spine = s.spine := by
  unfold State.ecsPass
  repeat' split
  all_goals simp

@[simp] theorem State.refreshTick_spine (s : State) (ch : Nat) (rfm : Bool) :
    (State.refreshTick s ch rfm).spine = s.spine := by
  unfold State.refreshTick
  simp

@[simp] theorem State.sidebandPoll_spine (s : State) (ch : Nat) (temp : Int) :
    (State.sidebandPoll s ch temp).spine = s.spine := by
  unfold State.sidebandPoll
  simp

@[simp] theorem State.failChannel_spine (s : State) (ch : Nat) (reason : Nat) :
    (State.failChannel s ch reason).spine = s.spine := by
  unfold State.failChannel
  simp

@[simp] theorem State.writeQueued_spine (s : State) :
    (State.writeQueued s).spine = s.spine := by
  unfold State.writeQueued
  dsimp only
  repeat' split
  all_goals simp

@[simp] theorem State.placeFixed_spine (s : State) :
    (State.placeFixed s).spine = s.spine := by
  unfold State.placeFixed
  dsimp only
  repeat' split
  all_goals simp

@[simp] theorem State.fillQuota_spine (s : State) :
    (State.fillQuota s).spine = s.spine := by
  unfold State.fillQuota
  repeat' split
  all_goals simp

@[simp] theorem State.trainOne_spine (s : State) (ref : Option TrainResult) (r : Option TrainResult) (n : Nat) :
    (State.trainOne s ref r n).spine = s.spine := by
  unfold State.trainOne
  repeat' split
  all_goals simp

@[simp] theorem State.trainingDone_spine (s : State) (rs : List TrainResult) :
    (State.trainingDone s rs).spine = s.spine := by
  unfold State.trainingDone
  dsimp only
  split
  · rfl
  · split <;> simp [forEach_spine]

@[simp] theorem State.seedMesh_spine (s : State) : s.seedMesh.spine = s.spine := by
  unfold State.seedMesh
  repeat' split
  all_goals first
    | rfl
    | (rename_i hg; simp [State.random_spine hg]; done)

@[simp] theorem State.sealKeyDraw_spine (s : State) : s.sealKeyDraw.spine = s.spine := by
  unfold State.sealKeyDraw
  split
  · rfl
  · split
    · rename_i b u hg
      extract_lets z dr d s1
      have h1 : s1.spine = s.spine := by
        simp only [s1, State.seedMesh_spine, ← State.random_spine hg]
        simp [d, z, Function.comp_def]
      clear_value s1
      split <;> simp [h1]
    · rfl

@[simp] theorem State.chAction_spine (s : State) (q : Nat) (i : Nat) (act : Nat) (from_ : List Nat) (f : State → Job → Nat → State) (hf : ∀ v0 v1 v2, (f v0 v1 v2).spine = v0.spine) :
    (State.chAction s q i act from_ f).spine = s.spine := by
  unfold State.chAction
  refine State.ctl_spine _ _ _ _ _ (fun _ _ => ?_)
  dsimp only
  repeat' split
  all_goals simp_all

@[simp] theorem State.chBegin_spine (s : State) (j : Job) (act : Nat) (ch : Nat) (st : Nat) :
    (State.chBegin s j act ch st).spine = s.spine := by
  unfold State.chBegin
  simp

@[simp] theorem State.chRetrain_spine (s : State) (j : Job) (ch : Nat) :
    (State.chRetrain s j ch).spine = s.spine := by
  unfold State.chRetrain
  simp

@[simp] theorem State.retrainDone_spine (s : State) :
    (State.retrainDone s).spine = s.spine := by
  unfold State.retrainDone
  repeat' split
  all_goals simp

@[simp] theorem State.chEvacuate_spine (s : State) (j : Job) (ch : Nat) :
    (State.chEvacuate s j ch).spine = s.spine := by
  unfold State.chEvacuate
  repeat' split
  all_goals simp

@[simp] theorem State.moveWork_spine (s : State) (ch : Nat) :
    (State.moveWork s ch).spine = s.spine := by
  unfold State.moveWork
  refine forEach_spine _ _ _ (fun _ _ => ?_)
  dsimp only
  repeat' split
  all_goals simp_all

@[simp] theorem State.evacuateDone_spine (s : State) :
    (State.evacuateDone s).spine = s.spine := by
  unfold State.evacuateDone
  repeat' split
  all_goals simp

@[simp] theorem State.chPowerDown_spine (s : State) (j : Job) (ch : Nat) :
    (State.chPowerDown s j ch).spine = s.spine := by
  unfold State.chPowerDown
  simp

@[simp] theorem State.chRestore_spine (s : State) (j : Job) (ch : Nat) :
    (State.chRestore s j ch).spine = s.spine := by
  unfold State.chRestore
  simp

@[simp] theorem State.restoreSettled_spine (s : State) (r : TrainResult) :
    (State.restoreSettled s r).spine = s.spine := by
  unfold State.restoreSettled
  dsimp only
  repeat' split
  all_goals simp

@[simp] theorem State.restoreDone_spine (s : State) :
    (State.restoreDone s).spine = s.spine := by
  unfold State.restoreDone
  dsimp only
  repeat' split
  all_goals simp

@[simp] theorem State.chMarkAbsent_spine (s : State) (j : Job) (ch : Nat) :
    (State.chMarkAbsent s j ch).spine = s.spine := by
  unfold State.chMarkAbsent
  simp

/-! ### Machine/Pins.lean -/

@[simp] theorem State.holdOutputs_spine (s : State) :
    (State.holdOutputs s).spine = s.spine := by
  unfold State.holdOutputs
  repeat' split
  all_goals simp

/-! ### Machine/RegView.lean -/

@[simp] theorem State.afterRead_spine (s : State) (q : Nat) (addr : Nat) :
    (State.afterRead s q addr).spine = s.spine := by
  unfold State.afterRead
  dsimp only
  repeat' split
  all_goals simp

/-! ### Machine/RestartOps.lean -/

@[simp] theorem State.dropClaim_spine (s : State) (a1 : Nat) (k : Nat) :
    (State.dropClaim s a1 k).spine = s.spine := by
  unfold State.dropClaim
  repeat' split
  all_goals simp

@[simp] theorem State.resolvePins_spine (s : State) :
    (State.resolvePins s).spine = s.spine := by
  unfold State.resolvePins
  simp

@[simp] theorem State.populate_spine (s : State) :
    (State.populate s).spine = s.spine := by
  unfold State.populate
  simp

@[simp] theorem State.applyEntries_spine (s : State) (l : List (BitVec 32 × BitVec 32 × BitVec 32)) :
    (State.applyEntries s l).spine = s.spine := by
  unfold State.applyEntries
  simp

@[simp] theorem State.restartBegin_spine (s : State) (j : Job) :
    (State.restartBegin s j).spine = s.spine := by
  unfold State.restartBegin
  repeat' split
  all_goals simp

/-- Dropping entries keeps a scratchpad's canonical form. -/
theorem memWfFrom_filter (n : Nat) (m : Mem) (q : Nat × BitVec 8 → Bool) (h : memWfFrom n m = true) : memWfFrom n (m.filter q) = true := by
  induction m generalizing n with
  | nil => rfl
  | cons e m ih =>
    obtain ⟨b, w⟩ := e
    simp only [memWfFrom, Bool.and_eq_true, decide_eq_true_eq, bne_iff_ne, ne_eq] at h
    have lower : ∀ (m : Mem) (k l : Nat), k ≤ l → memWfFrom l m = true → memWfFrom k m = true := by
      intro m k l hk hm
      cases m with
      | nil => rfl
      | cons e' m' =>
        obtain ⟨b', w'⟩ := e'
        simp only [memWfFrom, Bool.and_eq_true, decide_eq_true_eq, bne_iff_ne, ne_eq] at hm ⊢
        exact ⟨⟨by omega, hm.1.2⟩, hm.2⟩
    simp only [List.filter]
    split
    · simp only [memWfFrom, Bool.and_eq_true, decide_eq_true_eq, bne_iff_ne, ne_eq]
      exact ⟨⟨h.1.1, h.1.2⟩, ih _ h.2⟩
    · exact ih n (lower m n (b + 1) (by omega) h.2)

@[simp] theorem State.clearUnits_kept {p : List Instr} {f0 : Fuses} (s : State) (old new : Table) (h : s.spine.Kept p f0) :
    (s.clearUnits old new).spine.Kept p f0 := by
  obtain ⟨h1, ⟨a, b, c, d, e, f, g⟩, h9⟩ := h
  refine ⟨h1, ⟨a, b, c, d, ?_, ?_, ⟨g.active, g.offA, g.offB, g.target, g.both⟩⟩, h9⟩
  · rw [← e]
    simp [State.spine, State.clearUnits]
  · intro x hx
    simp only [State.spine, State.clearUnits, List.map_map, List.mem_map] at hx
    obtain ⟨y, hy, rfl⟩ := hx
    exact memWfFrom_filter _ _ _ (f (y.num, y.scratch) (List.mem_map.mpr ⟨y, hy, rfl⟩))

@[simp] theorem State.tableRings_spine (s : State) (t : Table) :
    (State.tableRings s t).spine = s.spine := by
  unfold State.tableRings
  simp

@[simp] theorem State.applyTable_kept {p : List Instr} {f0 : Fuses} (s : State) (b : Bytes) (changed : List Nat) (h : s.spine.Kept p f0) :
    (s.applyTable b changed).spine.Kept p f0 := by
  unfold State.applyTable
  dsimp only
  rw [State.divideCtxCache_spine, State.tableRings_spine]
  apply State.clearUnits_kept
  rw [forEach_spine]
  · simp [h]
  · intro x t
    rw [State.modTile_spine]
    · simp
    · intro y _
      rfl

/-- No bit of `a` outside `b`, said bit by bit. -/
theorem bits_sub_iff {w : Nat} (a b : BitVec w) : a &&& ~~~b = 0 ↔ ∀ i, a.getLsbD i = true → b.getLsbD i = true := by
  constructor
  · intro h i hi
    have := congrArg (fun x => x.getLsbD i) h
    have hw : i < w := BitVec.lt_of_getLsbD hi
    simp [hi, hw] at this
    exact this
  · intro h
    apply BitVec.eq_of_getLsbD_eq
    intro i hi
    have := h i
    cases ha : a.getLsbD i <;> simp_all

theorem bits_sub_trans {w : Nat} {a b c : BitVec w} (h : a &&& ~~~b = 0) (k : b &&& ~~~c = 0) : a &&& ~~~c = 0 := by
  rw [bits_sub_iff] at *
  exact fun i hi => k i (h i hi)

theorem bits_sub_or {w : Nat} {a b : BitVec w} (c : BitVec w) (h : a &&& ~~~b = 0) : a &&& ~~~(b ||| c) = 0 := by
  rw [bits_sub_iff] at *
  intro i hi
  simp [h i hi]

theorem LcSlot.Grows.trans {a b c : LcSlot} (h : a.Grows b) (k : b.Grows c) : a.Grows c :=
  ⟨bits_sub_trans h.state k.state, bits_sub_trans h.targetA k.targetA, bits_sub_trans h.targetB k.targetB⟩

/-- Blowing bits of one life-cycle slot keeps every fuse. -/
theorem Fuses.Grows.setLc {a b : Fuses} (h : a.Grows b) (k : Nat) (x : LcSlot) (hx : (b.lc k).Grows x) : a.Grows (b.setLc k x) := by
  unfold Fuses.setLc
  have h0 := h.slot0
  have h1 := h.slot1
  have h2 := h.slot2
  have h3 := h.slot3
  split
  · subst_vars
    exact { h with slot0 := h0.trans hx }
  · split
    · subst_vars
      exact { h with slot1 := h1.trans hx }
    · split
      · subst_vars
        exact { h with slot2 := h2.trans hx }
      · have : b.lc k = b.slot3 := by
          unfold Fuses.lc
          split <;> first | omega | rfl
        rw [this] at hx
        exact { h with slot3 := h3.trans hx }

theorem length_fixLen (n : Nat) (b : Bytes) : (fixLen n b).length = n := by
  simp [fixLen, zeros]

/-- Blowing bits of the OWNER field of a slot that can take a digest leaves the digest there and keeps every fuse. -/
theorem Fuses.Grows.setOwner {a b : Fuses} (h : a.Grows b) (k : Nat) (d : Bytes) (hl : d.length = 32) (hd : b.ownerTakes k d = true) :
    a.Grows (b.setOwner k d) := by
  have or_kept : ∀ (x y : Bytes), bitsKept 32 x y → List.zipWith (· ||| ·) y d = d → bitsKept 32 x d := by
    intro x y hxy hz i hi
    refine bits_sub_trans (hxy i hi) ?_
    have hy : 32 ≤ y.length := by
      have := congrArg List.length hz
      simp [hl] at this
      omega
    have hi' : (List.zipWith (· ||| ·) y d)[i]? = d[i]? := by rw [hz]
    rw [List.getElem?_zipWith, List.getElem?_eq_getElem (by omega), List.getElem?_eq_getElem (by omega)] at hi'
    simp only [Option.some.injEq] at hi'
    simp only [List.getD_eq_getElem?_getD, List.getElem?_eq_getElem (show i < y.length by omega),
      List.getElem?_eq_getElem (show i < d.length by omega), Option.getD_some]
    rw [← hi']
    apply bits_sub_or
    rw [bits_sub_iff]
    exact fun _ h => h
  have hz : List.zipWith (· ||| ·) (b.owner k) d = d := by simpa [Fuses.ownerTakes] using hd
  unfold Fuses.setOwner
  simp only [hz]
  split
  · subst_vars
    exact { h with owner0 := or_kept _ _ h.owner0 hz }
  · split
    · subst_vars
      exact { h with owner1 := or_kept _ _ h.owner1 hz }
    · split
      · subst_vars
        exact { h with owner2 := or_kept _ _ h.owner2 hz }
      · have : b.owner k = b.owner3 := by
          unfold Fuses.owner
          split <;> first | omega | rfl
        rw [this] at hz
        exact { h with owner3 := or_kept _ _ h.owner3 hz }

/-- R351: decoding the life cycle only blows bits. -/
theorem Fuses.Grows.decodeLife {a b : Fuses} (h : a.Grows b) (cut : Option Nat) : a.Grows (decodeLife b cut).1 := by
  unfold Sys2Proof.Machine.decodeLife
  extract_lets k st enters
  split
  extract_lets word ok old short g
  split
  · refine h.setLc _ _ ⟨bits_sub_or _ ?_, ?_, ?_⟩ <;> simp +zetaDelta
  · split
    · refine h.setLc _ _ ⟨bits_sub_or _ ?_, ?_, ?_⟩ <;> simp +zetaDelta
    · exact h

/-- R355: a transition's request only blows bits. -/
theorem Fuses.Grows.request {a b : Fuses} (h : a.Grows b) (state slot target : Nat) (owner : Bytes) (hl : owner.length = 32)
    (ho : target = 3 → b.ownerTakes slot owner = true) : a.Grows (b.request state slot target owner) := by
  unfold Fuses.request
  dsimp only
  refine Fuses.Grows.setLc ?_ _ _ ⟨?_, bits_sub_or _ ?_, bits_sub_or _ ?_⟩
  · split
    · exact h.setOwner _ _ hl (ho (by assumption))
    · exact h
  all_goals simp


theorem length_leBytes (n v : Nat) : (leBytes n v).length = n := by
  induction n generalizing v with
  | zero => rfl
  | succ n ih => simp [leBytes, ih]

/-- R357: an OWNER field partly blown towards a digest that it can take holds what it held, and can be blown so. -/
theorem Fuses.ownerTakes_cut (f : Fuses) (k n : Nat) (d : Bytes) (hl : d.length = 32) (hd : f.ownerTakes k d = true) :
    (cutOwner (f.owner k) d n).length = 32 ∧ f.ownerTakes k (cutOwner (f.owner k) d n) = true := by
  have hz : List.zipWith (· ||| ·) (f.owner k) d = d := by simpa [Fuses.ownerTakes] using hd
  have hy : 32 ≤ (f.owner k).length := by
    have := congrArg List.length hz
    simp [hl] at this
    omega
  have hc : (cutOwner (f.owner k) d n).length = 32 := by simp [cutOwner, length_leBytes]; omega
  refine ⟨hc, ?_⟩
  simp only [Fuses.ownerTakes, beq_iff_eq]
  apply List.ext_getElem
  · simp [hc]; omega
  · intro i _ _
    simp only [cutOwner, List.getElem_zipWith, ← BitVec.or_assoc, BitVec.or_self]

/-- R357: a transition's request that fails part of the way only blows bits. -/
theorem Fuses.Grows.requestCut {a b : Fuses} (h : a.Grows b) (state slot target : Nat) (owner : Bytes) (n : Nat) (hl : owner.length = 32)
    (ho : target = 3 → b.ownerTakes slot owner = true) : a.Grows (b.requestCut state slot target owner n) := by
  unfold Fuses.requestCut
  dsimp only
  refine Fuses.Grows.setLc ?_ _ _ ⟨?_, bits_sub_or _ ?_, bits_sub_or _ ?_⟩
  · split
    · rename_i ht
      have hc := b.ownerTakes_cut slot n owner hl (ho ht)
      exact h.setOwner _ _ hc.1 hc.2
    · exact h
  all_goals simp

@[simp] theorem Life.extend_fuses (l : Life) (k : Nat) (d : Bytes) : (l.extend k d).fuses = l.fuses := by unfold Life.extend; rfl

@[simp] theorem Life.measureState_fuses (l : Life) (d : Bytes) : (l.measureState d).fuses = l.fuses := by unfold Life.measureState; rfl

@[simp] theorem Life.measureImage_fuses (l : Life) (img : Bytes) : (l.measureImage img).fuses = l.fuses := by
  unfold Life.measureImage
  have : ∀ (cs : List (Nat × Nat × Bytes)) (l' : Life), (cs.foldl (fun l c => l.extend 1 c.2.2) l').fuses = l'.fuses := by
    intro cs
    induction cs with
    | nil => intro _; rfl
    | cons c cs ih => intro l'; simp only [List.foldl_cons]; rw [ih]; rfl
  rw [this]
  rfl

@[simp] theorem Life.run_fuses (l : Life) (img : Bytes) : (l.run img).fuses = l.fuses := by
  unfold Life.run
  simp

/-- R359: a TYPE 2 image only blows bits. -/
theorem Fuses.Grows.revoke {a : Fuses} {l : Life} (h : a.Grows l.fuses) (img : Bytes) : a.Grows (l.revoke img).fuses :=
  { h with hyRevoke := bits_sub_or _ h.hyRevoke }

@[simp] theorem State.applyImage_kept {p : List Instr} {f0 : Fuses} (s : State) (img : Bytes) (h : s.spine.Kept p f0) :
    (s.applyImage img).spine.Kept p f0 := by
  unfold State.applyImage
  split
  · have key := h.withFuses _ (h.fuses.revoke img)
    simpa [State.spine] using key
  · simp [Function.comp_def, h]

@[simp] theorem State.sealTables_spine (s : State) : s.sealTables.spine = s.spine := by
  unfold State.sealTables State.spine
  simp only [Life.extend_fuses]

@[simp] theorem State.passSnapshot_spine (s : State) :
    (State.passSnapshot s).spine = s.spine := by
  unfold State.passSnapshot
  simp

@[simp] theorem State.mirrorPass_spine (s : State) (table : Bool) (l : List (BitVec 32 × BitVec 32 × BitVec 32)) :
    (State.mirrorPass s table l).spine = s.spine := by
  unfold State.mirrorPass
  dsimp only
  repeat' split
  all_goals simp

@[simp] theorem State.applyStaged_kept {p : List Instr} {f0 : Fuses} (s : State) (changed : List Nat) (h : s.spine.Kept p f0) :
    (s.applyStaged changed).spine.Kept p f0 := by
  unfold State.applyStaged
  extract_lets table list img any s1 s2 s3 m0 mg t0 s4 before s5 write s6
  have h1 : s1.spine.Kept p f0 := by simp only [s1, table]; split <;> simp [h]
  have h2 : s2.spine.Kept p f0 := by simp only [s2, list]; split <;> simp [h1]
  have h3 : s3.spine.Kept p f0 := by simp only [s3]; generalize img = x; cases x <;> simp [h2]
  have h4 : s4.spine.Kept p f0 := by simp [s4, h3]
  have h5 : s5.spine.Kept p f0 := by simp [s5, h4]
  have h6 : s6.spine.Kept p f0 := by simp only [s6]; split <;> simp [h5]
  split <;> simp [h6]

@[simp] theorem State.restartDone_kept {p : List Instr} {f0 : Fuses} (s : State) (h : s.spine.Kept p f0) :
    (State.restartDone s).spine.Kept p f0 := by
  unfold State.restartDone
  repeat' split
  all_goals simp [h]

/-! ### Machine/CfgOps.lean -/

@[simp] theorem State.writeTakes_spine (s : State) (r : RegDef) (idx : Nat) (j : Job) :
    (State.writeTakes s r idx j).spine = s.spine := by
  unfold State.writeTakes
  dsimp only
  repeat' split
  all_goals simp

@[simp] theorem State.regWrite_spine (s : State) (r : RegDef) (idx : Nat) (j : Job) :
    (State.regWrite s r idx j).spine = s.spine := by
  unfold State.regWrite
  repeat' split
  all_goals simp

/-! ### Machine/CardOps.lean -/

@[simp] theorem State.adopted_spine (s : State) (seed : Bytes) (v : VaultItems) (fromCards : Bool) :
    (State.adopted s seed v fromCards).spine = s.spine := by
  unfold State.adopted
  simp

/-! ### Machine/PowerOps.lean -/

@[simp] theorem State.fanControl_spine (s : State) :
    (State.fanControl s).spine = s.spine := by
  unfold State.fanControl
  repeat' split
  all_goals simp

/-- Power settings that leave the gates, the active feed and the switchover as they stand keep the spine. -/
@[simp] theorem State.setPower_spine (s : State) (p : Power) (h1 : p.gateA = s.power.gateA) (h2 : p.gateB = s.power.gateB)
    (h3 : p.active = s.power.active)
    (h4 : p.switching.map (fun w => (w.step, w.target)) = s.power.switching.map (fun w => (w.step, w.target))) :
    (s.setPower p).spine = s.spine := by
  simp [State.setPower, State.spine, h1, h2, h3, h4]

/-- Feeds' settings that keep the rule of the gates. -/
theorem State.setPower_kept {p : List Instr} {f0 : Fuses} (s : State) (w : Power) (h : s.spine.Kept p f0)
    (hg : (s.setPower w).spine.Gates) : (s.setPower w).spine.Kept p f0 := by
  obtain ⟨h1, ⟨a, b, c, d, e, f, _⟩, h9⟩ := h
  exact ⟨h1, ⟨a, b, c, d, e, f, hg⟩, h9⟩

@[simp] theorem State.startDeglitch_kept {p : List Instr} {f0 : Fuses} (s : State) (h : s.spine.Kept p f0) : s.startDeglitch.spine.Kept p f0 := by
  unfold State.startDeglitch
  extract_lets w s1
  have h1 : s1.spine.Kept p f0 := by simp [s1, h]
  have ea : s1.power.active = s.power.active := congrArg Spine.active s.holdOutputs_spine
  apply State.setPower_kept _ _ h1
  have g := h1.inv.gates
  refine ⟨g.active, g.offA, g.offB, ?_, ?_⟩
  · intro x hx _
    simp only [State.setPower, State.spine, Option.map_some, Option.some.injEq] at hx
    subst hx
    show 1 - s.power.active = 1 - s1.power.active
    rw [ea]
  · intro x hx h2
    simp only [State.setPower, State.spine, Option.map_some, Option.some.injEq] at hx
    subst hx
    simp [w] at h2

theorem State.endSwitch_kept {p : List Instr} {f0 : Fuses} (s : State) (w : Power) (h : s.spine.Kept p f0)
    (h1 : w.gateA = s.power.gateA) (h2 : w.gateB = s.power.gateB) (h3 : w.active = s.power.active) :
    (s.endSwitch w).spine.Kept p f0 := by
  unfold State.endSwitch
  apply State.setPower_kept _ _ h
  have g := h.inv.gates
  have ga : s.power.active = 1 → s.power.gateA = false := g.offA
  have gb : s.power.active = 0 → s.power.gateB = false := g.offB
  refine ⟨?_, ?_, ?_, ?_, ?_⟩ <;> simp only [State.setPower, State.spine, h1, h2, h3, Option.map_none]
  · exact g.active
  · exact ga
  · exact gb
  · intro x hx
    cases hx
  · intro x hx
    cases hx

theorem State.pauseTiles_kept {p : List Instr} {f0 : Fuses} (s : State) (n : Nat) (b : Bool) (t : Nat) (h : s.spine.Kept p f0)
    (hn : n = 1 - s.power.active) : (s.pauseTiles n b t).spine.Kept p f0 := by
  unfold State.pauseTiles
  dsimp only
  have h1 : s.holdOutputs.spine.Kept p f0 := by simp [h]
  have ea : s.holdOutputs.power.active = s.power.active := congrArg Spine.active s.holdOutputs_spine
  rw [← ea] at hn
  generalize s.holdOutputs = s1 at *
  apply State.setPower_kept _ _ h1
  have g := h1.inv.gates
  have h01 : s1.power.active = 0 ∨ s1.power.active = 1 := g.active
  have ga : s1.power.active = 1 → s1.power.gateA = false := g.offA
  have gb : s1.power.active = 0 → s1.power.gateB = false := g.offB
  refine ⟨?_, ?_, ?_, ?_, ?_⟩
  · rcases h01 with e | e <;> simp [State.setPower, State.spine, Power.gate, e]
  · rcases h01 with e | e <;> simp [State.setPower, State.spine, Power.gate, e, ga]
  · rcases h01 with e | e <;> simp [State.setPower, State.spine, Power.gate, e, gb]
  · intro x hx _
    simp only [State.setPower, State.spine, Option.map_some, Option.some.injEq] at hx
    subst hx
    rcases h01 with e | e <;> simp [State.setPower, State.spine, Power.gate, e, hn]
  · intro x hx _
    rcases h01 with e | e <;> simp [State.setPower, State.spine, Power.gate, e, ga, gb]

@[simp] theorem State.enterVault_kept {p : List Instr} {f0 : Fuses} (s : State) (h : s.spine.Kept p f0) : s.enterVault.spine.Kept p f0 := by
  unfold State.enterVault
  dsimp only
  rw [forEach_spine]
  · have hv := s.volatileLost_kept h
    apply State.setPower_kept _ _ hv
    refine ⟨hv.inv.gates.active, fun _ => rfl, fun _ => rfl, ?_, ?_⟩
    all_goals
      intro w hw
      simp [State.setPower, State.spine] at hw
  · intro x t
    simp

/-! ### Machine/Parts.lean -/

@[simp] theorem State.prtStage_spine (s : State) (j : Job) :
    (State.prtStage s j).spine = s.spine := by
  unfold State.prtStage
  repeat' split
  all_goals simp

@[simp] theorem State.prtApply_spine (s : State) (j : Job) :
    (State.prtApply s j).spine = s.spine := by
  unfold State.prtApply
  repeat' split
  all_goals simp

@[simp] theorem State.hodBound_spine (s : State) :
    (State.hodBound s).spine = s.spine := by
  unfold State.hodBound
  repeat' split
  all_goals simp

@[simp] theorem State.prtQuery_spine (s : State) (j : Job) :
    (State.prtQuery s j).spine = s.spine := by
  unfold State.prtQuery
  repeat' split
  all_goals simp

@[simp] theorem State.tileAction_spine (s : State) (q : Nat) (i : Nat) (act : Nat) (f : State → Job → Tile → State) (hf : ∀ v0 v1 v2, (f v0 v1 v2).spine = v0.spine) :
    (State.tileAction s q i act f).spine = s.spine := by
  unfold State.tileAction
  refine State.ctl_spine _ _ _ _ _ (fun _ _ => ?_)
  dsimp only
  repeat' split
  all_goals simp_all

@[simp] theorem State.tileDrain_spine (s : State) (j : Job) (t : Tile) :
    (State.tileDrain s j t).spine = s.spine := by
  unfold State.tileDrain
  repeat' split
  all_goals simp

@[simp] theorem State.tileActionDone_spine (s : State) (t : Nat) :
    (State.tileActionDone s t).spine = s.spine := by
  unfold State.tileActionDone
  repeat' split
  all_goals simp

@[simp] theorem State.tileDrained_spine (s : State) (t : Nat) :
    (State.tileDrained s t).spine = s.spine := by
  unfold State.tileDrained
  repeat' split
  all_goals simp

@[simp] theorem State.tileReturn_spine (s : State) (j : Job) (t : Tile) :
    (State.tileReturn s j t).spine = s.spine := by
  unfold State.tileReturn
  repeat' split
  all_goals simp

@[simp] theorem State.tileTested_spine (s : State) (t : Nat) (failed : Option Nat) :
    (State.tileTested s t failed).spine = s.spine := by
  unfold State.tileTested
  repeat' split
  all_goals simp

@[simp] theorem State.tileReset_spine (s : State) (j : Job) (t : Tile) :
    (State.tileReset s j t).spine = s.spine := by
  unfold State.tileReset
  simp

end Sys2Proof.Machine
end

