-- ==== Sys2Proof/Laws/SpineDevice.lean ====
section
/-! SUPPORT. What keeps the spine of a state, for the definitions of sealing, life cycle, tamper, cells, feeds, network and cold start. -/

namespace Sys2Proof.Machine

/-! ### Machine/Sealing.lean -/

@[simp] theorem State.sealOffer_spine (s : State) (j : Job) :
    (State.sealOffer s j).spine = s.spine := by
  unfold State.sealOffer
  repeat' split
  all_goals simp

@[simp] theorem State.sealKeys_spine (s : State) (j : Job) (q : Qp) (o : Offer) (host : Bytes) :
    (State.sealKeys s j q o host).spine = s.spine := by
  unfold State.sealKeys
  repeat' split
  all_goals simp

@[simp] theorem State.sealEstablish_spine (s : State) (j : Job) :
    (State.sealEstablish s j).spine = s.spine := by
  unfold State.sealEstablish
  repeat' split
  all_goals simp

@[simp] theorem State.attest_spine (s : State) (j : Job) :
    (State.attest s j).spine = s.spine := by
  unfold State.attest
  dsimp only
  repeat' split
  all_goals simp

/-! ### Machine/LifeCycle.lean -/

theorem sha3_256_length (m : Bytes) : (sha3_256 m).length = 32 := by
  unfold sha3_256 hashOf hashLen
  simp [length_fixLen, digestLen]

@[simp] theorem State.lcyTransition_kept {p : List Instr} {f0 : Fuses} (cut : Option Nat) (s : State) (j : Job) (h : s.spine.Kept p f0) :
    (State.lcyTransition cut s j).spine.Kept p f0 := by
  unfold State.lcyTransition
  split
  · simp [h]
  · rename_i hr
    have ho : byteAt 0 j.input = 3 → s.life.fuses.ownerTakes s.life.slot (sha3_256 (j.input.drop 8)) = true := by
      intro h3
      unfold State.transitionRefusal at hr
      simp only [h3] at hr
      cases hc : s.life.fuses.ownerTakes s.life.slot (sha3_256 (j.input.drop 8)) with
      | true => rfl
      | false =>
        exfalso
        revert hr
        simp only [hc]
        split
        · simp
        · simp
    have hl := sha3_256_length (j.input.drop 8)
    dsimp only
    split
    · rename_i n _
      have key := h.withFuses _ (h.fuses.requestCut s.life.state s.life.slot _ _ n hl ho)
      rw [State.block_spine]
      exact key
    · have key := h.withFuses _ (h.fuses.request s.life.state s.life.slot _ _ hl ho)
      split <;> (simp; exact key)

@[simp] theorem State.userErase_spine (s : State) (j : Job) :
    (State.userErase s j).spine = s.spine := by
  unfold State.userErase
  repeat' split
  all_goals simp

@[simp] theorem State.svnAdvance_kept {p : List Instr} {f0 : Fuses} (cut : Option Nat) (s : State) (j : Job) (h : s.spine.Kept p f0) :
    (State.svnAdvance cut s j).spine.Kept p f0 := by
  unfold State.svnAdvance
  dsimp only
  split
  · simp [h]
  · rename_i hr
    have hm : f0.minSvn ≤ s.life.fuses.minSvn := h.fuses.minSvn
    have key (v : Nat) (hv : s.life.fuses.minSvn ≤ v) := h.withFuses { s.life.fuses with minSvn := v } { h.fuses with minSvn := by simp only; omega }
    split
    · rw [State.block_spine]
      exact key _ (by omega)
    · simp
      exact key _ (by omega)

@[simp] theorem State.debugChallenge_spine (s : State) (j : Job) :
    (State.debugChallenge s j).spine = s.spine := by
  unfold State.debugChallenge
  dsimp only
  repeat' split
  all_goals simp

@[simp] theorem State.debugOpen_spine (s : State) (j : Job) : (s.debugOpen j).spine = s.spine := by
  unfold State.debugOpen
  extract_lets scopes l0 l
  have hl : l.fuses = s.life.fuses := rfl
  clear_value l
  repeat' split
  all_goals simp [hl]

/-! ### Machine/Tamper.lean -/

@[simp] theorem State.railExcursion_kept {p : List Instr} {f0 : Fuses} (s : State) (rail : Nat) (h : s.spine.Kept p f0) :
    (s.railExcursion rail).spine.Kept p f0 := by
  unfold State.railExcursion
  split
  · extract_lets gd s1
    have h1 : s1.spine.Kept p f0 := by simp only [s1]; split <;> simp [h]
    simp [h1]
  · exact h

@[simp] theorem State.clockWindow_kept {p : List Instr} {f0 : Fuses} (s : State) (island : Nat) (percent : Nat) (stopped : Bool) (byDesign : Bool) (h : s.spine.Kept p f0) :
    (State.clockWindow s island percent stopped byDesign).spine.Kept p f0 := by
  unfold State.clockWindow
  split
  · exact h
  · extract_lets s1 others gd s2 s3
    have h1 : s1.spine.Kept p f0 := by simp only [s1]; split <;> simp [h]
    have h2 : s2.spine.Kept p f0 := h1
    have h3 : s3.spine.Kept p f0 := by
      simp only [s3]
      split
      · exact h2
      · simp [h2]
    split
    · simp [h3]
    · exact h3

@[simp] theorem State.meshSample_kept {p : List Instr} {f0 : Fuses} (s : State) (rx : List (BitVec 16)) (h : s.spine.Kept p f0) :
    (State.meshSample s rx).spine.Kept p f0 := by
  unfold State.meshSample
  dsimp only
  repeat' split
  all_goals simp [h]

@[simp] theorem State.enclosureSample_kept {p : List Instr} {f0 : Fuses} (s : State) (opened : BitVec 4) (h : s.spine.Kept p f0) :
    (State.enclosureSample s opened).spine.Kept p f0 := by
  unfold State.enclosureSample
  dsimp only
  repeat' split
  all_goals simp [h]

@[simp] theorem State.dieTempSample_kept {p : List Instr} {f0 : Fuses} (s : State) (temps : List Int) (h : s.spine.Kept p f0) :
    (s.dieTempSample temps).spine.Kept p f0 := by
  unfold State.dieTempSample
  extract_lets cells read die live th s1 s2 s3
  have h1 : s1.spine.Kept p f0 := by simp [s1, h, th]
  have h2 : s2.spine.Kept p f0 := by simp only [s2]; split <;> simp [h1]
  have h3 : s3.spine.Kept p f0 := by simp only [s3]; split <;> simp [h2]
  split <;> simp [h3]

@[simp] theorem State.modCell_spine (s : State) (n : Nat) (f : Cell → Cell) :
    (State.modCell s n f).spine = s.spine := by
  unfold State.modCell
  repeat' split
  all_goals simp

@[simp] theorem State.cellExcursion_kept {p : List Instr} {f0 : Fuses} (s : State) (n : Nat) (mv : Nat) (h : s.spine.Kept p f0) :
    (State.cellExcursion s n mv).spine.Kept p f0 := by
  unfold State.cellExcursion
  repeat' split
  all_goals simp [h]

@[simp] theorem State.episodeEnd_spine (s : State) :
    (State.episodeEnd s).spine = s.spine := by
  unfold State.episodeEnd
  repeat' split
  all_goals simp

@[simp] theorem State.tamperClear_spine (s : State) (j : Job) :
    (State.tamperClear s j).spine = s.spine := by
  unfold State.tamperClear
  repeat' split
  all_goals simp

@[simp] theorem State.placeSecrets_spine (s : State) :
    (State.placeSecrets s).spine = s.spine := by
  unfold State.placeSecrets
  simp

@[simp] theorem State.recoveryPass_kept {p : List Instr} {f0 : Fuses} (s : State) (fails : List RowFail) (h : s.spine.Kept p f0) :
    (State.recoveryPass s fails).spine.Kept p f0 := by
  unfold State.recoveryPass
  simp [h]

@[simp] theorem State.polarityStep_spine (s : State) :
    (State.polarityStep s).spine = s.spine := by
  unfold State.polarityStep
  simp

@[simp] theorem State.vaultLost_spine (s : State) :
    (State.vaultLost s).spine = s.spine := by
  unfold State.vaultLost
  repeat' split
  all_goals simp

@[simp] theorem State.adoptDone_spine (s : State) (j : Job) (seed : Bytes) (v : VaultItems) (fromCards : Bool) :
    (State.adoptDone s j seed v fromCards).spine = s.spine := by
  unfold State.adoptDone
  simp

@[simp] theorem State.adoptBackup_spine (s : State) (j : Job) (seed : Bytes) (b : Bytes) (time : Nat) :
    (State.adoptBackup s j seed b time).spine = s.spine := by
  unfold State.adoptBackup
  dsimp only
  repeat' split
  all_goals simp

@[simp] theorem State.adoptCards_spine (s : State) (j : Job) (seed : Bytes) :
    (State.adoptCards s j seed).spine = s.spine := by
  unfold State.adoptCards
  repeat' split
  all_goals simp

@[simp] theorem State.vaultAdopt_spine (s : State) (j : Job) :
    (State.vaultAdopt s j).spine = s.spine := by
  unfold State.vaultAdopt
  repeat' split
  all_goals simp

@[simp] theorem State.adoptPage_spine (s : State) (j : Job) (o : Obj) (frame : Nat) (img : Bytes) :
    (State.adoptPage s j o frame img).spine = s.spine := by
  unfold State.adoptPage
  dsimp only
  repeat' split
  all_goals simp

@[simp] theorem State.pageArrival_spine (s : State) (o : Obj) (frame : Nat) (img : Bytes) :
    (State.pageArrival s o frame img).spine = s.spine := by
  unfold State.pageArrival
  repeat' split
  all_goals simp

/-! ### Machine/Cells.lean -/

@[simp] theorem State.drawSupply_spine (s : State) :
    (State.drawSupply s).spine = s.spine := by
  unfold State.drawSupply
  repeat' split
  all_goals simp

@[simp] theorem State.pickSupply_spine (s : State) :
    (State.pickSupply s).spine = s.spine := by
  unfold State.pickSupply
  dsimp only
  repeat' split
  all_goals simp

@[simp] theorem State.supplySwitch_spine (s : State) (a : Nat) (b : Nat) :
    (State.supplySwitch s a b).spine = s.spine := by
  unfold State.supplySwitch
  simp

@[simp] theorem State.chargeControl_spine (s : State) (n : Nat) (mv : Nat) (ma : Nat) :
    (State.chargeControl s n mv ma).spine = s.spine := by
  unfold State.chargeControl
  dsimp only
  repeat' split
  all_goals simp

@[simp] theorem State.beginTest_spine (s : State) (n : Nat) :
    (State.beginTest s n).spine = s.spine := by
  unfold State.beginTest
  repeat' split
  all_goals simp

@[simp] theorem State.weaken_spine (s : State) (n : Nat) :
    (State.weaken s n).spine = s.spine := by
  unfold State.weaken
  repeat' split
  all_goals simp

@[simp] theorem State.testDone_spine (s : State) (n : Nat) (mv : Nat) :
    (State.testDone s n mv).spine = s.spine := by
  unfold State.testDone
  repeat' split
  all_goals simp

@[simp] theorem State.pulse_spine (s : State) (n : Nat) (mv : Nat) :
    (State.pulse s n mv).spine = s.spine := by
  unfold State.pulse
  repeat' split
  all_goals simp

@[simp] theorem State.cellLow_spine (s : State) (n : Nat) (mv : Nat) :
    (State.cellLow s n mv).spine = s.spine := by
  unfold State.cellLow
  dsimp only
  repeat' split
  all_goals simp

@[simp] theorem State.cellAction_spine (s : State) (q : Nat) (i : Nat) (act : Nat) (f : State → Job → Nat → State) (hf : ∀ v0 v1 v2, (f v0 v1 v2).spine = v0.spine) :
    (State.cellAction s q i act f).spine = s.spine := by
  unfold State.cellAction
  repeat' split
  all_goals simp_all

@[simp] theorem State.cellRemove_spine (s : State) (j : Job) (n : Nat) :
    (State.cellRemove s j n).spine = s.spine := by
  unfold State.cellRemove
  dsimp only
  repeat' split
  all_goals simp

@[simp] theorem State.cellLoadTest_spine (s : State) (j : Job) (n : Nat) :
    (State.cellLoadTest s j n).spine = s.spine := by
  unfold State.cellLoadTest
  repeat' split
  all_goals simp

@[simp] theorem State.cellDepassivate_spine (s : State) (j : Job) (n : Nat) :
    (State.cellDepassivate s j n).spine = s.spine := by
  unfold State.cellDepassivate
  repeat' split
  all_goals simp

@[simp] theorem State.gaugeReset_spine (s : State) (j : Job) (n : Nat) :
    (State.gaugeReset s j n).spine = s.spine := by
  unfold State.gaugeReset
  simp

@[simp] theorem State.cellInserted_spine (s : State) (n : Nat) (mv : Nat) :
    (State.cellInserted s n mv).spine = s.spine := by
  unfold State.cellInserted
  repeat' split
  all_goals simp

@[simp] theorem State.holdExpiry_kept {p : List Instr} {f0 : Fuses} (s : State) (n : Nat) (h : s.spine.Kept p f0) :
    (State.holdExpiry s n).spine.Kept p f0 := by
  unfold State.holdExpiry
  repeat' split
  all_goals simp [h]

/-! ### Machine/Feeds.lean -/

@[simp] theorem State.feedGone_spine (s : State) (n : Nat) : (s.feedGone n).spine = s.spine := by
  unfold State.feedGone
  split <;> simp

@[simp] theorem Power.sense_gateA (p : Power) (n mv : Nat) (g l : Bool) : (p.sense n mv g l).gateA = p.gateA := by
  unfold Power.sense; split <;> rfl

@[simp] theorem Power.sense_gateB (p : Power) (n mv : Nat) (g l : Bool) : (p.sense n mv g l).gateB = p.gateB := by
  unfold Power.sense; split <;> rfl

@[simp] theorem Power.sense_active (p : Power) (n mv : Nat) (g l : Bool) : (p.sense n mv g l).active = p.active := by
  unfold Power.sense; split <;> rfl

@[simp] theorem Power.sense_switching (p : Power) (n mv : Nat) (g l : Bool) : (p.sense n mv g l).switching = p.switching := by
  unfold Power.sense; split <;> rfl

/-- A notice leaves the feeds as they stand. -/
theorem State.power_notice (s : State) (a b : Nat) : (s.notice a b).power = s.power := rfl

theorem State.feedGone_power (s : State) (n : Nat) : (s.feedGone n).power = s.power := by
  unfold State.feedGone
  split <;> rfl

theorem State.power_advanceTo (s : State) (n : Nat) : (s.advanceTo n).power = s.power := rfl

@[simp] theorem State.feedBelowLow_kept {p : List Instr} {f0 : Fuses} (s : State) (mv : Nat) (h : s.spine.Kept p f0) :
    (s.feedBelowLow mv).spine.Kept p f0 := by
  unfold State.feedBelowLow
  extract_lets n was s1 s2
  have h2 : s2.spine.Kept p f0 := by simp [s2, s1, h]
  split
  · exact h
  · split <;> simp [h2]

@[simp] theorem State.feedLost_kept {p : List Instr} {f0 : Fuses} (s : State) (n mv : Nat) (h : s.spine.Kept p f0) :
    (s.feedLost n mv).spine.Kept p f0 := by
  unfold State.feedLost
  extract_lets s1 p1 s2 st
  have h2 : s2.spine.Kept p f0 := by simp [s2, s1, p1, h]
  split
  · exact h
  · split <;> simp [h2]

@[simp] theorem State.deglitchExpiry_kept {p : List Instr} {f0 : Fuses} (s : State) (h : s.spine.Kept p f0) : s.deglitchExpiry.spine.Kept p f0 := by
  unfold State.deglitchExpiry
  split
  · exact h
  · rename_i w hw
    extract_lets s1
    have h1 : s1.spine.Kept p f0 := by simp [s1, h]
    split
    · rename_i e1
      have ht : w.target = 1 - s1.power.active :=
        h.inv.gates.target (w.step, w.target) (by simp [State.spine, hw]) (Or.inl e1)
      repeat' split
      · simp [h1]
      · exact State.pauseTiles_kept _ _ _ _ h1 ht
      · exact State.endSwitch_kept _ _ h1 rfl rfl rfl
    · split <;> simp [h]

@[simp] theorem State.switchComplete_kept {p : List Instr} {f0 : Fuses} (s : State) (h : s.spine.Kept p f0) : s.switchComplete.spine.Kept p f0 := by
  unfold State.switchComplete
  split
  · exact h
  · rename_i w hw
    split
    · exact h
    · rename_i e2
      extract_lets s1 g1 p1 s2
      have h1 : s1.spine.Kept p f0 := by simp [s1, h]
      have hs : s.power.switching.map (fun w => (w.step, w.target)) = some (w.step, w.target) := by rw [hw]; rfl
      have e2' : w.step = 2 := by
        by_contra hne
        exact e2 (Or.inl hne)
      have h01 : s.power.active = 0 ∨ s.power.active = 1 := h.inv.gates.active
      have ht : w.target = 1 - s.power.active := h.inv.gates.target _ hs (Or.inr e2')
      have hb : s.power.gateA = false ∧ s.power.gateB = false := h.inv.gates.both _ hs e2'
      have t01 : w.target = 0 ∨ w.target = 1 := by omega
      have h2 : s2.spine.Kept p f0 := by
        simp only [s2, State.notice_spine, State.bump_spine]
        apply State.setPower_kept _ _ h1
        refine ⟨t01, ?_, ?_, ?_, ?_⟩
        · intro e
          have e' : w.target = 1 := e
          simp [State.setPower, State.spine, p1, g1, s1, Power.gate, State.power_advanceTo, e', hb.1]
        · intro e
          have e' : w.target = 0 := e
          simp [State.setPower, State.spine, p1, g1, s1, Power.gate, State.power_advanceTo, e', hb.2]
        all_goals
          intro w' hw' h12
          simp [State.setPower, State.spine, p1] at hw'
          subst hw'
          simp at h12
      split <;> simp [h2]

@[simp] theorem State.resumeTiles_kept {p : List Instr} {f0 : Fuses} (s : State) (h : s.spine.Kept p f0) : s.resumeTiles.spine.Kept p f0 := by
  unfold State.resumeTiles
  split
  · exact h
  · split
    · exact h
    · extract_lets pause p1 s1 s2 s3
      have h1 : s1.spine.Kept p f0 := State.endSwitch_kept _ _ h rfl rfl rfl
      have h2 : s2.spine.Kept p f0 := by simp [s2, h1]
      have h3 : s3.spine.Kept p f0 := by simp [s3, h2]
      split <;> simp [h3]

@[simp] theorem State.feedAboveHigh_kept {p : List Instr} {f0 : Fuses} (s : State) (n mv : Nat) (h : s.spine.Kept p f0) :
    (s.feedAboveHigh n mv).spine.Kept p f0 := by
  unfold State.feedAboveHigh
  extract_lets s1 p1 s2 s3
  split
  · exact h
  · have h1 : s1.spine.Kept p f0 := by simp [s1, h]
    have h2 : s2.spine.Kept p f0 := by
      apply State.setPower_kept _ _ h1
      have g := h1.inv.gates
      have ga : s1.power.active = 1 → s1.power.gateA = false := g.offA
      have gb : s1.power.active = 0 → s1.power.gateB = false := g.offB
      have gt := g.target
      have gw := g.both
      simp only [State.spine] at gt gw
      by_cases hn : n = 0
      · refine ⟨?_, ?_, ?_, ?_, ?_⟩ <;> simp only [State.setPower, State.spine, p1, Power.gate, hn, if_true, Power.sense_active,
          Power.sense_gateB, Power.sense_switching]
        · exact g.active
        · exact fun _ => trivial
        · exact gb
        · exact gt
        · exact fun w hw h2w => ⟨trivial, (gw w hw h2w).2⟩
      · refine ⟨?_, ?_, ?_, ?_, ?_⟩ <;> simp only [State.setPower, State.spine, p1, Power.gate, hn, if_false, Power.sense_active,
          Power.sense_gateA, Power.sense_switching]
        · exact g.active
        · exact ga
        · exact fun _ => trivial
        · exact gt
        · exact fun w hw h2w => ⟨(gw w hw h2w).1, trivial⟩
    have h3 : s3.spine.Kept p f0 := by simp [s3, h2]
    split
    · exact h3
    · rename_i hna
      have hn : n = s3.power.active := by
        by_contra hne
        exact hna (Or.inr hne)
      split
      · split
        · exact State.pauseTiles_kept _ _ _ _ h3 (by rw [← hn])
        · exact h3
      · simp [h3]

@[simp] theorem State.feedGood_kept {p : List Instr} {f0 : Fuses} (s : State) (n mv : Nat) (h : s.spine.Kept p f0) :
    (s.feedGood n mv).spine.Kept p f0 := by
  unfold State.feedGood
  extract_lets was s1 p1 ret cancel s2
  split
  · exact h
  · have e1 : s1.power = s.power := by simp only [s1]; split <;> rfl
    have h1 : s1.spine.Kept p f0 := by simp only [s1]; split <;> simp [h]
    have h2 : s2.spine.Kept p f0 := by
      apply State.setPower_kept _ _ h1
      have g := h1.inv.gates
      have ga : s1.power.active = 1 → s1.power.gateA = false := g.offA
      have gb : s1.power.active = 0 → s1.power.gateB = false := g.offB
      have gt := g.target
      have gw := g.both
      simp only [State.spine] at gt gw
      refine ⟨?_, ?_, ?_, ?_, ?_⟩ <;> simp only [State.setPower, State.spine, p1, Power.sense_active, Power.sense_gateA,
        Power.sense_gateB, Power.sense_switching]
      · exact g.active
      · exact ga
      · exact gb
      · intro w hw h12
        split at hw
        · simp at hw
        · exact gt w hw h12
      · intro w hw h2w
        split at hw
        · simp at hw
        · exact gw w hw h2w
    split <;> simp [h2]

@[simp] theorem State.autoReturn_kept {p : List Instr} {f0 : Fuses} (s : State) (h : s.spine.Kept p f0) : s.autoReturn.spine.Kept p f0 := by
  unfold State.autoReturn
  split
  · exact h
  · extract_lets pref s1
    split
    · exact h
    · rename_i hc
      refine State.pauseTiles_kept _ _ _ _ (by simp [s1, h]) ?_
      have hp : pref ≤ 1 := by
        simp only [pref, State.fld, bitsOf]
        omega
      have ga : s.power.active = 0 ∨ s.power.active = 1 := h.inv.gates.active
      have hne : pref ≠ s.power.active := fun e => hc (Or.inr (Or.inl e))
      show pref = 1 - s.power.active
      omega

theorem State.selectFeed_kept {p : List Instr} {f0 : Fuses} (s : State) (j : Job) (n : Nat) (hn : n ≤ 1) (h : s.spine.Kept p f0) :
    (s.selectFeed j n).spine.Kept p f0 := by
  unfold State.selectFeed
  split
  · simp [h]
  · split
    · simp [h]
    · split
      · exact h
      · rename_i h1 h2
        have hp : (s.pauseTiles n true s.clock.mono).spine.Kept p f0 := by
          refine State.pauseTiles_kept _ _ _ _ h ?_
          have ga : s.power.active = 0 ∨ s.power.active = 1 := h.inv.gates.active
          have hne : s.power.active ≠ n := by
            intro e
            exact h1 ⟨e, by cases hx : s.power.switching <;> simp_all⟩
          omega
        simp [hp]

@[simp] theorem State.readSensors_spine (s : State) (a : Option Int) (b : Option Int) :
    (State.readSensors s a b).spine = s.spine := by
  unfold State.readSensors
  dsimp only
  repeat' split
  all_goals simp

@[simp] theorem State.noteBelow_spine (s : State) :
    (State.noteBelow s).spine = s.spine := by
  unfold State.noteBelow
  dsimp only
  repeat' split
  all_goals simp

@[simp] theorem State.thermalTick_spine (s : State) (a : Option Int) (b : Option Int) :
    (State.thermalTick s a b).spine = s.spine := by
  unfold State.thermalTick
  dsimp only
  repeat' split
  all_goals simp

@[simp] theorem State.fanStall_spine (s : State) (rpm : Nat) :
    (State.fanStall s rpm).spine = s.spine := by
  unfold State.fanStall
  dsimp only
  repeat' split
  all_goals simp

/-! ### Machine/Net.lean -/

@[simp] theorem State.linkUp_spine (s : State) (n : Nat) (k : Nat) :
    (State.linkUp s n k).spine = s.spine := by
  unfold State.linkUp
  simp

@[simp] theorem State.portFirmware_spine (s : State) :
    (State.portFirmware s).spine = s.spine := by
  unfold State.portFirmware
  repeat' split
  all_goals simp

@[simp] theorem State.queueZero_spine (s : State) :
    (State.queueZero s).spine = s.spine := by
  unfold State.queueZero
  dsimp only
  repeat' split
  all_goals simp

@[simp] theorem State.queueAgain_spine (s : State) (r : QpRec) :
    (State.queueAgain s r).spine = s.spine := by
  unfold State.queueAgain
  simp

@[simp] theorem State.serviceBegins_spine (s : State) :
    (State.serviceBegins s).spine = s.spine := by
  unfold State.serviceBegins
  simp

@[simp] theorem State.portUp_spine (s : State) (n : Nat) (k : Nat) :
    (State.portUp s n k).spine = s.spine := by
  unfold State.portUp
  dsimp only
  repeat' split
  all_goals simp

@[simp] theorem State.portDown_spine (s : State) (n : Nat) (k : Nat) :
    (State.portDown s n k).spine = s.spine := by
  unfold State.portDown
  repeat' split
  all_goals simp

@[simp] theorem State.portCfgWrite_spine (s : State) (j : Job) :
    (State.portCfgWrite s j).spine = s.spine := by
  unfold State.portCfgWrite
  repeat' split
  all_goals simp

@[simp] theorem State.arpRequest_spine (s : State) (n : Nat) (k : Nat) (target : Bytes) (asker : Bytes) :
    (State.arpRequest s n k target asker).spine = s.spine := by
  unfold State.arpRequest
  repeat' split
  all_goals simp

@[simp] theorem State.arpReply_spine (s : State) (addr : Bytes) (mac : Bytes) :
    (State.arpReply s addr mac).spine = s.spine := by
  unfold State.arpReply
  simp

@[simp] theorem State.pauseFrame_spine (s : State) (n : Nat) (prio : Nat) (time : Nat) :
    (State.pauseFrame s n prio time).spine = s.spine := by
  unfold State.pauseFrame
  repeat' split
  all_goals simp

@[simp] theorem State.pauseEnds_spine (s : State) (n : Nat) (prio : Nat) :
    (State.pauseEnds s n prio).spine = s.spine := by
  unfold State.pauseEnds
  repeat' split
  all_goals simp

@[simp] theorem State.rxLevel_spine (s : State) (n : Nat) (prio : Nat) (len : Nat) :
    (State.rxLevel s n prio len).spine = s.spine := by
  unfold State.rxLevel
  dsimp only
  repeat' split
  all_goals simp

@[simp] theorem State.ceMark_spine (s : State) (q : Nat) :
    (State.ceMark s q).spine = s.spine := by
  unfold State.ceMark
  dsimp only
  repeat' split
  all_goals simp

@[simp] theorem State.packetIn_spine (s : State) (n : Nat) (prio : Nat) (q : Nat) (len : Nat) (ce : Bool) :
    (State.packetIn s n prio q len ce).spine = s.spine := by
  unfold State.packetIn
  repeat' split
  all_goals simp

@[simp] theorem State.cnpIn_spine (s : State) (q : Nat) :
    (State.cnpIn s q).spine = s.spine := by
  unfold State.cnpIn
  dsimp only
  repeat' split
  all_goals simp

@[simp] theorem State.rateStep_spine (s : State) (q : Nat) :
    (State.rateStep s q).spine = s.spine := by
  unfold State.rateStep
  repeat' split
  all_goals simp

@[simp] theorem State.logCorrection_spine (s : State) (offset : Int) :
    (State.logCorrection s offset).spine = s.spine := by
  unfold State.logCorrection
  dsimp only
  repeat' split
  all_goals simp

@[simp] theorem State.ptpEvent_spine (s : State) (n : Nat) (k : Nat) (dom : Nat) (tr : Nat) (offset : Int) (delay : Nat) :
    (State.ptpEvent s n k dom tr offset delay).spine = s.spine := by
  unfold State.ptpEvent
  dsimp only
  repeat' split
  all_goals simp

@[simp] theorem State.ptpGeneral_spine (s : State) (n : Nat) (k : Nat) (dom : Nat) (tr : Nat) (utc : Option Int) :
    (State.ptpGeneral s n k dom tr utc).spine = s.spine := by
  unfold State.ptpGeneral
  repeat' split
  all_goals simp

@[simp] theorem State.ptpLoss_spine (s : State) (n : Nat) :
    (State.ptpLoss s n).spine = s.spine := by
  unfold State.ptpLoss
  dsimp only
  repeat' split
  all_goals simp

/-! ### Machine/Boot.lean -/

@[simp] theorem State.coldBegin_kept {p : List Instr} {f0 : Fuses} (s : State) (h : s.spine.Kept p f0) : s.coldBegin.spine.Kept p f0 := by
  unfold State.coldBegin
  extract_lets s1 n g p1 latch s2 s3
  have h1 : s1.spine.Kept p f0 := by simp [s1, h]
  have hn : n = 0 ∨ n = 1 := by
    have b : s1.fld Reg.pwrCtrl 0 0 ≤ 1 := by
      simp only [State.fld, bitsOf]
      omega
    simp only [n, State.startFeed]
    generalize s1.fld Reg.pwrCtrl 0 0 = k at b
    split <;> omega
  have h2 : s2.spine.Kept p f0 := by
    apply State.setPower_kept _ _ h1
    rcases hn with e | e
    all_goals
      refine ⟨?_, ?_, ?_, ?_, ?_⟩
      · simp [State.setPower, State.spine, p1, e]
      · simp [State.setPower, State.spine, p1, g, e, Power.gate]
      · simp [State.setPower, State.spine, p1, g, e, Power.gate]
      all_goals
        intro w hw
        simp [State.setPower, State.spine, p1] at hw
  have h3 : s3.spine.Kept p f0 := by
    refine forEach_kept _ _ _ ?_ h2
    intro k u hu
    simp [hu]
  simp [h3]

@[simp] theorem State.transitionErase_spine (s : State) :
    (State.transitionErase s).spine = s.spine := by
  unfold State.transitionErase
  simp

@[simp] theorem State.coldLife_kept {p : List Instr} {f0 : Fuses} (s : State) (cut : Option Nat) (h : s.spine.Kept p f0) :
    (s.coldLife cut).spine.Kept p f0 := by
  unfold State.coldLife
  extract_lets r st fs fuses ls s1 s2 s3
  have hr : f0.Grows r.1 := h.fuses.decodeLife cut
  have hf : f0.Grows fuses := by
    simp only [fuses]
    split
    · refine { hr with dus := ?_ }
      intro i hi
      simp only [List.getD_eq_getElem?_getD, List.getElem?_replicate, hi, if_true, Option.getD_some]
      apply BitVec.eq_of_getLsbD_eq
      intro k hk
      have : (0xFF : BitVec 8) = BitVec.allOnes 8 := rfl
      simp [this]
    · exact hr
  have h1 : s1.spine.Kept p f0 := h.withFuses _ hf
  have h2 : s2.spine.Kept p f0 := by simp only [s2]; split <;> simp [h1]
  have h3 : s3.spine.Kept p f0 := by simp only [s3]; split <;> simp [h2]
  split <;> simp [h3]

@[simp] theorem State.coldVault_kept {p : List Instr} {f0 : Fuses} (s : State) (h : s.spine.Kept p f0) :
    (State.coldVault s).spine.Kept p f0 := by
  unfold State.coldVault
  dsimp only
  repeat' split
  all_goals simp [h]

@[simp] theorem State.coldSecrets_spine (s : State) :
    (State.coldSecrets s).spine = s.spine := by
  unfold State.coldSecrets
  simp

theorem Life.tryImage_grows {a : Fuses} {l : Life} (h : a.Grows l.fuses) (img : Bytes) : a.Grows (l.tryImage img).1.fuses := by
  unfold Life.tryImage
  dsimp only
  split
  · exact h
  · split
    · simpa using h.revoke img
    · simpa using h

theorem Life.tryBank_grows {a : Fuses} {l : Life} (h : a.Grows l.fuses) (f : Flash) (n : Nat) : a.Grows (l.tryBank f n).1.fuses := by
  unfold Life.tryBank
  exact Life.tryImage_grows h _

/-- R359, R360: looking for an image only blows fuses. -/
theorem State.findImage_grows {a : Fuses} (s : State) (h : a.Grows s.life.fuses) : a.Grows s.findImage.1.fuses := by
  unfold State.findImage
  extract_lets pref b1 l1 b2
  have h1 : a.Grows b1.1.fuses := Life.tryBank_grows h _ _
  have h2 : a.Grows b2.1.fuses := Life.tryBank_grows (l := { b1.1 with fallback := true }) h1 _ _
  split
  · exact h1
  · split
    · exact h2
    · split
      · exact h2
      · exact Life.tryImage_grows h2 _

theorem State.coldImage_kept {p : List Instr} {f0 : Fuses} (s : State) (h : s.spine.Kept p f0) : s.coldImage.1.spine.Kept p f0 := by
  unfold State.coldImage
  extract_lets s1 r nt pa pb s2
  have h1 : s1.spine.Kept p f0 := by simp [s1, h]
  have h2 : s2.spine.Kept p f0 := h1.withFuses _ (s1.findImage_grows h1.fuses)
  dsimp only
  split <;> simp [h2]

@[simp] theorem State.coldRestore_spine (s : State) (x : Snapshot) :
    (State.coldRestore s x).spine = s.spine := by
  unfold State.coldRestore
  dsimp only
  repeat' split
  all_goals simp

@[simp] theorem State.coldFallback_spine (s : State) :
    (State.coldFallback s).spine = s.spine := by
  unfold State.coldFallback
  simp

@[simp] theorem State.coldConfig_spine (s : State) : s.coldConfig.spine = s.spine := by
  unfold State.coldConfig
  extract_lets s1 boot
  have h1 : s1.spine = s.spine := by simp only [s1]; split <;> simp
  simp [h1]

@[simp] theorem State.coldTables_spine (s : State) :
    (State.coldTables s).spine = s.spine := by
  unfold State.coldTables
  simp

@[simp] theorem State.coldRings_spine (s : State) :
    (State.coldRings s).spine = s.spine := by
  unfold State.coldRings
  simp

@[simp] theorem State.coldChannels_spine (s : State) :
    (State.coldChannels s).spine = s.spine := by
  unfold State.coldChannels
  simp

@[simp] theorem State.coldCells_spine (s : State) :
    (State.coldCells s).spine = s.spine := by
  unfold State.coldCells
  try dsimp only
  repeat' first
    | (simp; done)
    | split
    | (refine Eq.trans (forEach_spine _ _ _ (fun _ _ => ?_)) ?_)
    | dsimp only
    | (simp_all; done)
    | with_reducible rfl

@[simp] theorem State.coldMarked_spine (s : State) : s.coldMarked.spine = s.spine := by
  unfold State.coldMarked
  dsimp only
  split
  · rfl
  · have e : ∀ (t : State) (g : Guard) (v : Vault), ({ t with guard := g, vault := v } : State).spine = t.spine := fun _ _ _ => rfl
    rw [e]
    simp

@[simp] theorem State.coldPair_spine (s : State) :
    (State.coldPair s).spine = s.spine := by
  unfold State.coldPair
  repeat' split
  all_goals simp

@[simp] theorem State.coldCards_spine (s : State) :
    (State.coldCards s).spine = s.spine := by
  unfold State.coldCards
  simp

@[simp] theorem State.coldRelease_kept {p : List Instr} {f0 : Fuses} (s : State) (fails : List RowFail) (h : s.spine.Kept p f0) :
    (s.coldRelease fails).spine.Kept p f0 := by
  unfold State.coldRelease
  extract_lets ms s1 pw s2 s3 s4 cause
  have h1 : s1.spine.Kept p f0 := by simp [s1, h]
  have h2 : s2.spine.Kept p f0 := by simp [s2, pw, h1]
  have h3 : s3.spine.Kept p f0 := by simp [s3, h2]
  have h4 : s4.spine.Kept p f0 := by simp [s4, h3]
  split <;> simp [h4]

@[simp] theorem State.coldStart_kept {p : List Instr} {f0 : Fuses} (s : State) (fails : List RowFail) (cut : Option Nat) (h : s.spine.Kept p f0) :
    (s.coldStart fails cut).spine.Kept p f0 := by
  unfold State.coldStart
  extract_lets s1 r
  have h1 : s1.spine.Kept p f0 := by simp [s1, h]
  have hr : r.1.spine.Kept p f0 := State.coldImage_kept _ (by simp [h1])
  split
  · exact h
  · split
    · exact h1
    · split <;> simp [hr]

@[simp] theorem State.resetNow_kept {p : List Instr} {f0 : Fuses} (s : State) (h : s.spine.Kept p f0) :
    (State.resetNow s).spine.Kept p f0 := by
  unfold State.resetNow
  repeat' split
  all_goals simp [h]

@[simp] theorem State.powerModeSet_spine (s : State) (j : Job) :
    (State.powerModeSet s j).spine = s.spine := by
  unfold State.powerModeSet
  repeat' split
  all_goals simp

@[simp] theorem State.standbyDrained_spine (s : State) :
    (State.standbyDrained s).spine = s.spine := by
  unfold State.standbyDrained
  repeat' split
  all_goals simp

@[simp] theorem State.testTiles_spine (s : State) (bad : List (Nat × Nat)) :
    (State.testTiles s bad).spine = s.spine := by
  unfold State.testTiles
  simp

@[simp] theorem State.standbyExitDone_kept {p : List Instr} {f0 : Fuses} (s : State) (fails : List RowFail) (bad : List (Nat × Nat))
    (h : s.spine.Kept p f0) : (s.standbyExitDone fails bad).spine.Kept p f0 := by
  unfold State.standbyExitDone
  split
  · exact h
  · extract_lets s1 pw s2
    have h1 : s1.spine.Kept p f0 := by simp [s1, h]
    have h2 : s2.spine.Kept p f0 := by simp [s2, pw, h1]
    split
    · exact h
    · split <;> simp [h2]

end Sys2Proof.Machine
end

