-- ==== Sys2Proof/Laws/SpinePairing.lean ====
section
/-! SUPPORT. What keeps the spine of a state, for the definitions of the pair, sessions, firmware. -/

namespace Sys2Proof.Machine

/-! ### Machine/PairOps.lean -/

@[simp] theorem State.modPair_spine (s : State) (f : Pair → Pair) :
    (State.modPair s f).spine = s.spine := by
  unfold State.modPair
  simp

@[simp] theorem State.setPath_spine (s : State) (n : Nat) :
    (State.setPath s n).spine = s.spine := by
  unfold State.setPath
  repeat' split
  all_goals simp

@[simp] theorem State.suspect_spine (s : State) :
    (State.suspect s).spine = s.spine := by
  unfold State.suspect
  simp

@[simp] theorem State.peerAlive_spine (s : State) :
    (State.peerAlive s).spine = s.spine := by
  unfold State.peerAlive
  simp

@[simp] theorem State.issueCas_spine (s : State) (a1 : Pairing) (cmp : Nat) (swp : Nat) (job : Option JobId) :
    (State.issueCas s a1 cmp swp job).spine = s.spine := by
  unfold State.issueCas
  dsimp only
  split <;> simp

@[simp] theorem State.casEnds_spine (s : State) :
    (State.casEnds s).spine = s.spine := by
  unfold State.casEnds
  repeat' split
  all_goals simp

@[simp] theorem State.commitHeld_spine (s : State) :
    (State.commitHeld s).spine = s.spine := by
  unfold State.commitHeld
  simp

@[simp] theorem State.fence_spine (s : State) (keep : Bool) :
    (State.fence s keep).spine = s.spine := by
  unfold State.fence
  simp

@[simp] theorem State.fenceBatches_spine (s : State) :
    (State.fenceBatches s).spine = s.spine := by
  unfold State.fenceBatches
  simp

@[simp] theorem State.joinPeer_spine (s : State) (member : Nat) (term : Nat) :
    (State.joinPeer s member term).spine = s.spine := by
  unfold State.joinPeer
  simp

@[simp] theorem State.announceAll_spine (s : State) :
    (State.announceAll s).spine = s.spine := by
  unfold State.announceAll
  simp

@[simp] theorem State.wake_spine (s : State) :
    (State.wake s).spine = s.spine := by
  unfold State.wake
  repeat' split
  all_goals simp

@[simp] theorem State.takeOver_spine (s : State) (term : Nat) : (s.takeOver term).spine = s.spine := by
  unfold State.takeOver
  extract_lets us s1 c s2 s3 s4 s5
  have h1 : s1.spine = s.spine := by simp [s1]
  clear_value s1
  have h2 : s2.spine = s.spine := h1
  clear_value s2
  have h3 : s3.spine = s.spine := by
    refine Eq.trans (forEach_spine _ _ _ ?_) h2
    intro t u
    simp
  have h4 : s4.spine = s.spine := h3
  have h5 : s5.spine = s.spine := by simp [s5, h4]
  simp [h5]

@[simp] theorem State.winWitness_spine (s : State) (term : Nat) :
    (State.winWitness s term).spine = s.spine := by
  unfold State.winWitness
  dsimp only
  repeat' split
  all_goals simp

@[simp] theorem State.decideRole_spine (s : State) :
    (State.decideRole s).spine = s.spine := by
  unfold State.decideRole
  repeat' split
  all_goals simp

@[simp] theorem State.switchCas_spine (s : State) :
    (State.switchCas s).spine = s.spine := by
  unfold State.switchCas
  repeat' split
  all_goals simp

@[simp] theorem State.switched_spine (s : State) (swp : Nat) :
    (State.switched s swp).spine = s.spine := by
  unfold State.switched
  simp

/-! ### Machine/Pair.lean -/

@[simp] theorem State.heartbeatOut_spine (s : State) :
    (State.heartbeatOut s).spine = s.spine := by
  unfold State.heartbeatOut
  repeat' split
  all_goals simp

@[simp] theorem State.followStandby_spine (s : State) (hb : Heartbeat) :
    (State.followStandby s hb).spine = s.spine := by
  unfold State.followStandby
  repeat' split
  all_goals simp

@[simp] theorem State.heartbeatIn_spine (s : State) (hb : Heartbeat) :
    (State.heartbeatIn s hb).spine = s.spine := by
  unfold State.heartbeatIn
  dsimp only
  repeat' split
  all_goals simp

@[simp] theorem State.heartbeatMiss_spine (s : State) :
    (State.heartbeatMiss s).spine = s.spine := by
  unfold State.heartbeatMiss
  dsimp only
  repeat' split
  all_goals simp

@[simp] theorem State.probeIn_spine (s : State) :
    (State.probeIn s).spine = s.spine := by
  unfold State.probeIn
  repeat' split
  all_goals simp

@[simp] theorem State.probeAck_spine (s : State) :
    (State.probeAck s).spine = s.spine := by
  unfold State.probeAck
  repeat' split
  all_goals simp

@[simp] theorem State.probeTimeout_spine (s : State) :
    (State.probeTimeout s).spine = s.spine := by
  unfold State.probeTimeout
  repeat' split
  all_goals simp

@[simp] theorem State.svcLinkLoss_spine (s : State) :
    (State.svcLinkLoss s).spine = s.spine := by
  unfold State.svcLinkLoss
  dsimp only
  repeat' split
  all_goals simp

@[simp] theorem State.formed_spine (s : State) (j : Job) :
    (State.formed s j).spine = s.spine := by
  unfold State.formed
  simp

@[simp] theorem State.casResult_spine (s : State) (v : Nat) :
    (State.casResult s v).spine = s.spine := by
  unfold State.casResult
  dsimp only
  repeat' split
  all_goals simp

@[simp] theorem State.casTimeout_spine (s : State) :
    (State.casTimeout s).spine = s.spine := by
  unfold State.casTimeout
  dsimp only
  repeat' split
  all_goals simp

@[simp] theorem State.casRetry_spine (s : State) :
    (State.casRetry s).spine = s.spine := by
  unfold State.casRetry
  repeat' split
  all_goals simp

@[simp] theorem State.resumeEntry_spine (s : State) (n : Nat) (landed : List Nat) (e : Held) :
    (State.resumeEntry s n landed e).spine = s.spine := by
  unfold State.resumeEntry
  dsimp only
  repeat' split
  all_goals simp

@[simp] theorem State.queueResume_spine (s : State) (n : Nat) (r : ResumeRead) :
    (State.queueResume s n r).spine = s.spine := by
  unfold State.queueResume
  dsimp only
  repeat' split
  all_goals simp

@[simp] theorem State.installImage_spine (s : State) (e : Obj × Bytes) :
    (State.installImage s e).spine = s.spine := by
  unfold State.installImage
  dsimp only
  repeat' split
  all_goals simp

@[simp] theorem State.mirrorTable_spine (s : State) (cs : List Change) :
    (State.mirrorTable s cs).spine = s.spine := by
  unfold State.mirrorTable
  repeat' split
  all_goals simp

@[simp] theorem State.holdQueues_spine (s : State) (cs : List Change) :
    (State.holdQueues s cs).spine = s.spine := by
  unfold State.holdQueues
  simp

@[simp] theorem State.mirrorSnapshot_spine (s : State) (cs : List Change) :
    (State.mirrorSnapshot s cs).spine = s.spine := by
  unfold State.mirrorSnapshot
  repeat' split
  all_goals simp

@[simp] theorem State.applyMirror_spine (s : State) (b : MirBatch) :
    (State.applyMirror s b).spine = s.spine := by
  unfold State.applyMirror
  simp

@[simp] theorem State.mirrorBatchIn_spine (s : State) (b : MirBatch) :
    (State.mirrorBatchIn s b).spine = s.spine := by
  unfold State.mirrorBatchIn
  dsimp only
  repeat' split
  all_goals simp

@[simp] theorem State.ackBatches_spine (s : State) (seq : Nat) :
    (State.ackBatches s seq).spine = s.spine := by
  unfold State.ackBatches
  simp

@[simp] theorem State.batchAckIn_spine (s : State) (n : Nat) :
    (State.batchAckIn s n).spine = s.spine := by
  unfold State.batchAckIn
  dsimp only
  repeat' split
  all_goals simp

@[simp] theorem State.sendRecords_spine (n : Nat) (l : List TransportRec) (s : State) : (State.sendRecords n l s).spine = s.spine := by
  induction n generalizing l s with
  | zero => cases l <;> rfl
  | succ n ih =>
    cases l with
    | nil => rfl
    | cons r rs => simp only [State.sendRecords]; rw [ih]; simp

@[simp] theorem State.pruneJournal_spine (s : State) :
    (State.pruneJournal s).spine = s.spine := by
  unfold State.pruneJournal
  simp

@[simp] theorem State.transportSend_spine (s : State) :
    (State.transportSend s).spine = s.spine := by
  unfold State.transportSend
  repeat' split
  all_goals simp

@[simp] theorem State.transportIn_spine (s : State) (r : TransportRec) :
    (State.transportIn s r).spine = s.spine := by
  unfold State.transportIn
  repeat' split
  all_goals simp

@[simp] theorem State.pageReq_spine (s : State) (o : Obj) :
    (State.pageReq s o).spine = s.spine := by
  unfold State.pageReq
  repeat' split
  all_goals simp

@[simp] theorem State.pageData_spine (s : State) (o : Obj) (img : Bytes) :
    (State.pageData s o img).spine = s.spine := by
  unfold State.pageData
  dsimp only
  repeat' split
  all_goals simp

@[simp] theorem State.resyncVault_spine (s : State) (r : Resync) :
    (State.resyncVault s r).spine = s.spine := by
  unfold State.resyncVault
  simp

@[simp] theorem State.resyncQueues_spine (s : State) (qs : List QpRec) :
    (State.resyncQueues s qs).spine = s.spine := by
  unfold State.resyncQueues
  dsimp only
  repeat' first | (simp; done) | split | (refine Eq.trans (forEach_spine _ _ _ (fun _ _ => ?_)) ?_) | dsimp only

@[simp] theorem State.resyncApply_spine (s : State) (r : Resync) :
    (State.resyncApply s r).spine = s.spine := by
  unfold State.resyncApply
  simp

@[simp] theorem State.resyncIn_spine (s : State) (r : Resync) :
    (State.resyncIn s r).spine = s.spine := by
  unfold State.resyncIn
  repeat' split
  all_goals simp

@[simp] theorem State.mirrorUp_spine (s : State) (nonce : Bytes) :
    (State.mirrorUp s nonce).spine = s.spine := by
  unfold State.mirrorUp
  dsimp only
  repeat' split
  all_goals simp

@[simp] theorem State.mirrorDown_spine (s : State) :
    (State.mirrorDown s).spine = s.spine := by
  unfold State.mirrorDown
  dsimp only
  repeat' split
  all_goals simp

@[simp] theorem State.pathReturn_spine (s : State) :
    (State.pathReturn s).spine = s.spine := by
  unfold State.pathReturn
  repeat' split
  all_goals simp

@[simp] theorem State.pairBind_spine (offerOk : Bool) (secret : Bytes) (peer : Nat × Nat) (s : State) (j : Job) :
    (State.pairBind offerOk secret peer s j).spine = s.spine := by
  unfold State.pairBind
  dsimp only
  repeat' split
  all_goals simp

@[simp] theorem State.pairQuery_spine (s : State) (j : Job) :
    (State.pairQuery s j).spine = s.spine := by
  unfold State.pairQuery
  simp

@[simp] theorem State.pairUnbind_spine (s : State) (j : Job) :
    (State.pairUnbind s j).spine = s.spine := by
  unfold State.pairUnbind
  dsimp only
  repeat' split
  all_goals simp

@[simp] theorem State.pairUnfence_spine (s : State) (j : Job) :
    (State.pairUnfence s j).spine = s.spine := by
  unfold State.pairUnfence
  dsimp only
  repeat' split
  all_goals simp

@[simp] theorem State.pairSwitch_spine (s : State) (j : Job) :
    (State.pairSwitch s j).spine = s.spine := by
  unfold State.pairSwitch
  repeat' split
  all_goals simp

/-! ### Machine/CfgSpace.lean -/

@[simp] theorem State.cfgRead_spine (s : State) (j : Job) :
    (State.cfgRead s j).spine = s.spine := by
  unfold State.cfgRead
  dsimp only
  repeat' split
  all_goals simp

@[simp] theorem State.noAction_spine (s : State) (j : Job) (act : Nat) :
    (State.noAction s j act).spine = s.spine := by
  unfold State.noAction
  repeat' split
  all_goals simp

@[simp] theorem State.selWrite_spine (s : State) (j : Job) (r : RegDef) :
    (State.selWrite s j r).spine = s.spine := by
  unfold State.selWrite
  dsimp only
  repeat' split
  all_goals simp

@[simp] theorem State.cfgWrite_spine (s : State) (j : Job) :
    (State.cfgWrite s j).spine = s.spine := by
  unfold State.cfgWrite
  dsimp only
  repeat' split
  all_goals simp

@[simp] theorem State.cfgStage_spine (s : State) (j : Job) :
    (State.cfgStage s j).spine = s.spine := by
  unfold State.cfgStage
  dsimp only
  repeat' split
  all_goals simp

@[simp] theorem State.cfgApply_spine (s : State) (j : Job) :
    (State.cfgApply s j).spine = s.spine := by
  unfold State.cfgApply
  repeat' split
  all_goals simp

/-! ### Machine/Sessions.lean -/

@[simp] theorem State.sessionChallenge_spine (s : State) (j : Job) :
    (State.sessionChallenge s j).spine = s.spine := by
  unfold State.sessionChallenge
  simp

@[simp] theorem State.openSession_spine (s : State) (q : Nat) (a : Actor) (ec : Bytes) (ctk : Bytes) :
    (State.openSession s q a ec ctk).spine = s.spine := by
  unfold State.openSession
  simp

@[simp] theorem State.sessionOpen_spine (s : State) (j : Job) :
    (State.sessionOpen s j).spine = s.spine := by
  unfold State.sessionOpen
  dsimp only
  repeat' split
  all_goals simp

@[simp] theorem State.sessionClose_spine (s : State) (j : Job) :
    (State.sessionClose s j).spine = s.spine := by
  unfold State.sessionClose
  simp

@[simp] theorem State.sessionIdle_spine (s : State) (q : Nat) :
    (State.sessionIdle s q).spine = s.spine := by
  unfold State.sessionIdle
  repeat' split
  all_goals simp

@[simp] theorem State.ceremonyBegin_spine (s : State) (j : Job) :
    (State.ceremonyBegin s j).spine = s.spine := by
  unfold State.ceremonyBegin
  repeat' split
  all_goals simp

@[simp] theorem State.ceremonyJoin_spine (s : State) (j : Job) :
    (State.ceremonyJoin s j).spine = s.spine := by
  unfold State.ceremonyJoin
  repeat' split
  all_goals simp

@[simp] theorem State.ceremonyEnd_spine (s : State) (j : Job) :
    (State.ceremonyEnd s j).spine = s.spine := by
  unfold State.ceremonyEnd
  repeat' split
  all_goals simp

@[simp] theorem State.ceremonyExpiry_spine (s : State) :
    (State.ceremonyExpiry s).spine = s.spine := by
  unfold State.ceremonyExpiry
  repeat' split
  all_goals simp

@[simp] theorem State.actorEnrol_spine (s : State) (j : Job) :
    (State.actorEnrol s j).spine = s.spine := by
  unfold State.actorEnrol
  dsimp only
  repeat' split
  all_goals simp

@[simp] theorem State.actorRemove_spine (s : State) (j : Job) :
    (State.actorRemove s j).spine = s.spine := by
  unfold State.actorRemove
  dsimp only
  repeat' split
  all_goals simp

/-! ### Machine/Firmware.lean -/

@[simp] theorem State.setClaim_spine (s : State) (n : Nat) (img : Option Bytes) :
    (State.setClaim s n img).spine = s.spine := by
  unfold State.setClaim
  simp

@[simp] theorem State.fwStage_spine (s : State) (j : Job) :
    (State.fwStage s j).spine = s.spine := by
  unfold State.fwStage
  dsimp only
  repeat' split
  all_goals simp

@[simp] theorem State.fwWriteBank_spine (s : State) (j : Job) :
    (State.fwWriteBank s j).spine = s.spine := by
  unfold State.fwWriteBank
  dsimp only
  repeat' split
  all_goals simp

@[simp] theorem State.flashDone_spine (s : State) (verified : Bool) :
    (State.flashDone s verified).spine = s.spine := by
  unfold State.flashDone
  dsimp only
  repeat' split
  all_goals simp

@[simp] theorem State.fwActivate_spine (s : State) (j : Job) :
    (State.fwActivate s j).spine = s.spine := by
  unfold State.fwActivate
  repeat' split
  all_goals simp

@[simp] theorem State.fwRelease_spine (s : State) (j : Job) :
    (State.fwRelease s j).spine = s.spine := by
  unfold State.fwRelease
  repeat' split
  all_goals simp

end Sys2Proof.Machine
end

