-- ==== Sys2Proof/Laws/SpineEdges.lean ====
section
/-! SUPPORT. What keeps the spine of a state, for the definitions of the recorder rows, the cards, local I/O and the idle step. -/

namespace Sys2Proof.Machine

/-! ### Machine/Recorder.lean -/

@[simp] theorem State.floodEnd_spine (s : State) (ring : Nat) (code : Nat) :
    (State.floodEnd s ring code).spine = s.spine := by
  unfold State.floodEnd
  dsimp only
  repeat' split
  all_goals simp

@[simp] theorem State.eventSend_spine (s : State) (ring : Nat) :
    (State.eventSend s ring).spine = s.spine := by
  unfold State.eventSend
  repeat' split
  all_goals simp

@[simp] theorem State.voidSends_spine (s : State) (q : Nat) :
    (State.voidSends s q).spine = s.spine := by
  unfold State.voidSends
  simp

@[simp] theorem State.attachRing_spine (s : State) (q : Nat) (ring : Nat) :
    (State.attachRing s q ring).spine = s.spine := by
  unfold State.attachRing
  dsimp only
  repeat' split
  all_goals simp

@[simp] theorem State.evqAttach_spine (s : State) (j : Job) :
    (State.evqAttach s j).spine = s.spine := by
  unfold State.evqAttach
  dsimp only
  repeat' split
  all_goals simp

@[simp] theorem State.evqMark_spine (s : State) (j : Job) :
    (State.evqMark s j).spine = s.spine := by
  unfold State.evqMark
  repeat' split
  all_goals simp

@[simp] theorem State.evqRewind_spine (s : State) (j : Job) :
    (State.evqRewind s j).spine = s.spine := by
  unfold State.evqRewind
  dsimp only
  repeat' split
  all_goals simp

/-! ### Machine/Cards.lean -/

@[simp] theorem State.modCard_spine (s : State) (n : Nat) (f : CardPort → CardPort) (h : ∀ x, x.num = n → (f x).num = x.num) :
    (s.modCard n f).spine = s.spine := by
  simp only [State.modCard, State.spine]
  rw [map_modWhere _ _ _ _ (fun x hx => h x (by simpa using hx))]

@[simp] theorem State.cardFailed_spine (s : State) (n : Nat) (reason : Nat) :
    (State.cardFailed s n reason).spine = s.spine := by
  unfold State.cardFailed
  simp

@[simp] theorem State.cardDetect_spine (s : State) (n : Nat) :
    (State.cardDetect s n).spine = s.spine := by
  unfold State.cardDetect
  repeat' split
  all_goals simp

@[simp] theorem State.cardPoll_spine (s : State) (n : Nat) (ready : Bool) :
    (State.cardPoll s n ready).spine = s.spine := by
  unfold State.cardPoll
  dsimp only
  repeat' split
  all_goals simp

@[simp] theorem State.cardSwitch_spine (s : State) (n : Nat) (info : CardInfo) :
    (State.cardSwitch s n info).spine = s.spine := by
  unfold State.cardSwitch
  dsimp only
  repeat' split
  all_goals simp

@[simp] theorem State.cardIdentify_spine (s : State) (n : Nat) (info : CardInfo) (mv : Nat) :
    (State.cardIdentify s n info mv).spine = s.spine := by
  unfold State.cardIdentify
  dsimp only
  repeat' split
  all_goals simp

@[simp] theorem State.cardBegin_spine (s : State) (n : Nat) (j : Job) (w : Option CardCopy) :
    (State.cardBegin s n j w).spine = s.spine := by
  unfold State.cardBegin
  simp

@[simp] theorem State.cardFree_spine (s : State) (n : Nat) (st : Nat) :
    (State.cardFree s n st).spine = s.spine := by
  unfold State.cardFree
  simp

@[simp] theorem State.cardClaimEnds_spine (s : State) (a1 : CardPort) :
    (State.cardClaimEnds s a1).spine = s.spine := by
  unfold State.cardClaimEnds
  repeat' split
  all_goals simp

@[simp] theorem State.cardEnd_spine (s : State) (n : Nat) (a2 : CardPort) (r : Result) (st : Nat) :
    (State.cardEnd s n a2 r st).spine = s.spine := by
  unfold State.cardEnd
  dsimp only
  repeat' split
  all_goals simp

theorem CardPort.putCopy_num (p : CardPort) (w : CardCopy) : (p.putCopy w).num = p.num := by
  unfold CardPort.putCopy
  repeat' split
  all_goals rfl

@[simp] theorem State.putCopy_spine (s : State) (n : Nat) (w : CardCopy) : (s.modCard n (fun x => x.putCopy w)).spine = s.spine :=
  State.modCard_spine _ _ _ (fun x _ => x.putCopy_num w)

@[simp] theorem State.cardBroken_spine (s : State) (n : Nat) (p : CardPort) : (s.cardBroken n p).spine = s.spine := by
  unfold State.cardBroken
  repeat' split
  · rfl
  · rfl
  · rename_i hd
    exact Eq.trans (State.putCopy_spine _ _ _) (congrArg (fun x => x.2.spine) hd).symm

@[simp] theorem State.cardFault_spine (s : State) (n : Nat) :
    (State.cardFault s n).spine = s.spine := by
  unfold State.cardFault
  simp

@[simp] theorem State.cardLocked_spine (s : State) (n : Nat) (a2 : CardPort) :
    (State.cardLocked s n a2).spine = s.spine := by
  unfold State.cardLocked
  dsimp only
  repeat' split
  all_goals simp

@[simp] theorem State.cardErased_spine (s : State) (n : Nat) (a2 : CardPort) :
    (State.cardErased s n a2).spine = s.spine := by
  unfold State.cardErased
  dsimp only
  repeat' split
  all_goals simp

@[simp] theorem State.shareSeen_spine (s : State) (w : CardCopy) :
    (State.shareSeen s w).spine = s.spine := by
  unfold State.shareSeen
  dsimp only
  repeat' split
  all_goals simp

@[simp] theorem State.cardWritten_spine (s : State) (n : Nat) (a2 : CardPort) :
    (State.cardWritten s n a2).spine = s.spine := by
  unfold State.cardWritten
  repeat' split
  all_goals simp

@[simp] theorem State.sharesRead_spine (s : State) (n : Nat) (a2 : CardPort) (j : Job) :
    (State.sharesRead s n a2 j).spine = s.spine := by
  unfold State.sharesRead
  dsimp only
  repeat' split
  all_goals simp

@[simp] theorem State.cardDone_spine (s : State) (n : Nat) (a2 : CardPort) :
    (State.cardDone s n a2).spine = s.spine := by
  unfold State.cardDone
  repeat' split
  all_goals simp

@[simp] theorem State.cardCrc_spine (s : State) (n : Nat) :
    (State.cardCrc s n).spine = s.spine := by
  unfold State.cardCrc
  dsimp only
  repeat' split
  all_goals simp

@[simp] theorem State.cardResponse_spine (s : State) (n : Nat) (a : CardAnswer) :
    (State.cardResponse s n a).spine = s.spine := by
  unfold State.cardResponse
  dsimp only
  repeat' split
  all_goals simp

@[simp] theorem State.cardBusy_spine (s : State) (n : Nat) :
    (State.cardBusy s n).spine = s.spine := by
  unfold State.cardBusy
  repeat' split
  all_goals simp

@[simp] theorem State.cardRemove_spine (s : State) (n : Nat) :
    (State.cardRemove s n).spine = s.spine := by
  unfold State.cardRemove
  dsimp only
  repeat' split
  all_goals simp

@[simp] theorem State.cardProtected_spine (s : State) (n : Nat) : (s.cardProtected n).2.spine = s.spine := by
  unfold State.cardProtected
  split
  · rfl
  · rfl

@[simp] theorem State.onCard_spine (s : State) (j : Job) (f : State → Nat → CardPort → State) (hf : ∀ v0 v1 v2, (f v0 v1 v2).spine = v0.spine) :
    (State.onCard s j f).spine = s.spine := by
  unfold State.onCard
  dsimp only
  repeat' split
  all_goals first | (simp; done) | (simp [Function.comp_def]; done) | (simp_all; done) | with_reducible rfl

@[simp] theorem State.cardQuery_spine (s : State) (j : Job) :
    (State.cardQuery s j).spine = s.spine := by
  unfold State.cardQuery
  simp

@[simp] theorem State.cardLock_spine (s : State) (j : Job) :
    (State.cardLock s j).spine = s.spine := by
  unfold State.cardLock
  refine State.onCard_spine _ _ _ (fun _ _ _ => ?_)
  dsimp only
  repeat' split
  all_goals simp_all

@[simp] theorem State.cardUnlock_spine (s : State) (j : Job) :
    (State.cardUnlock s j).spine = s.spine := by
  unfold State.cardUnlock
  try dsimp only
  repeat' first
    | (simp; done)
    | split
    | (refine Eq.trans (State.onCard_spine _ _ _ (fun _ _ _ => ?_)) ?_)
    | dsimp only
    | (simp_all; done)
    | with_reducible rfl

@[simp] theorem State.cardForceErase_spine (s : State) (j : Job) :
    (State.cardForceErase s j).spine = s.spine := by
  unfold State.cardForceErase
  refine State.onCard_spine _ _ _ (fun _ _ _ => ?_)
  dsimp only
  repeat' split
  all_goals simp

@[simp] theorem State.cardSealed_spine (s : State) (j : Job) (n : Nat) (kind : Nat) (c : CardInfo) :
    (State.cardSealed s j n kind c).spine = s.spine := by
  unfold State.cardSealed
  dsimp only
  repeat' first | (simp; done) | split | (refine Eq.trans (State.withRandom_spine _ _ _ _ (fun _ _ => ?_)) ?_) | dsimp only

@[simp] theorem State.cardImageWrite_spine (s : State) (j : Job) (n : Nat) (c : CardInfo) :
    (State.cardImageWrite s j n c).spine = s.spine := by
  unfold State.cardImageWrite
  dsimp only
  repeat' split
  all_goals simp

@[simp] theorem State.cardWrite_spine (s : State) (j : Job) :
    (State.cardWrite s j).spine = s.spine := by
  unfold State.cardWrite
  try dsimp only
  repeat' first
    | (simp; done)
    | split
    | (refine Eq.trans (State.onCard_spine _ _ _ (fun _ _ _ => ?_)) ?_)
    | dsimp only
    | (simp_all; done)
    | with_reducible rfl

@[simp] theorem State.cardShareOpen_spine (s : State) (j : Job) :
    (State.cardShareOpen s j).spine = s.spine := by
  unfold State.cardShareOpen
  dsimp only
  repeat' (first
    | (simp; done)
    | split
    | (refine Eq.trans (State.onCard_spine _ _ _ (fun _ _ _ => ?_)) ?_ <;> try dsimp only))

@[simp] theorem State.estateCreate_spine (s : State) (j : Job) :
    (State.estateCreate s j).spine = s.spine := by
  unfold State.estateCreate
  repeat' split
  all_goals simp

@[simp] theorem State.bootRecordWrite_spine (s : State) (j : Job) :
    (State.bootRecordWrite s j).spine = s.spine := by
  unfold State.bootRecordWrite
  repeat' split
  all_goals simp

/-! ### Machine/LocalIo.lean -/

@[simp] theorem State.vrmFault_spine (s : State) (rail : Nat) (status : Nat) :
    (State.vrmFault s rail status).spine = s.spine := by
  unfold State.vrmFault
  simp

@[simp] theorem State.vrmStatus_spine (s : State) (rail : Nat) (status : BitVec 16) :
    (State.vrmStatus s rail status).spine = s.spine := by
  unfold State.vrmStatus
  repeat' split
  all_goals simp

@[simp] theorem State.modVrm_spine (s : State) (rail : Nat) (f : Vrm → Vrm) :
    (State.modVrm s rail f).spine = s.spine := by
  unfold State.modVrm
  simp

@[simp] theorem State.pmbusPoll_spine (s : State) (rail : Nat) (status : Option (BitVec 16)) (vout : Nat) (iout : Nat) (temp : Nat) :
    (State.pmbusPoll s rail status vout iout temp).spine = s.spine := by
  unfold State.pmbusPoll
  dsimp only
  repeat' split
  all_goals simp

@[simp] theorem State.pmbusAlert_spine (s : State) (master : Nat) (addr : Nat) (status : BitVec 16) :
    (State.pmbusAlert s master addr status).spine = s.spine := by
  unfold State.pmbusAlert
  repeat' split
  all_goals simp

@[simp] theorem State.jtagSet_spine (s : State) (i : JtagInstr) (data : Bytes) :
    (State.jtagSet s i data).spine = s.spine := by
  unfold State.jtagSet
  repeat' split
  all_goals simp

@[simp] theorem State.jtagBypass_spine (s : State) :
    (State.jtagBypass s).spine = s.spine := by
  unfold State.jtagBypass
  simp

@[simp] theorem State.jtagBoundary_spine (s : State) (i : JtagInstr) :
    (State.jtagBoundary s i).spine = s.spine := by
  unfold State.jtagBoundary
  simp

@[simp] theorem State.jtagWhen_spine (s : State) (ok : Bool) (f : State → State) (hf : ∀ v0, (f v0).spine = v0.spine) :
    (State.jtagWhen s ok f).spine = s.spine := by
  unfold State.jtagWhen
  repeat' split
  all_goals simp_all

/-! ### Machine/Idle.lean -/

@[simp] theorem State.idle_spine (s : State) :
    (State.idle s).spine = s.spine := by
  unfold State.idle
  simp

end Sys2Proof.Machine
end

