-- ==== Sys2Proof/Tests/Slice0.lean ====
section
/-! SUPPORT. The model's own tests: terms that the well-formedness checks refuse, a few steps, and for every clause of the statements a
state and operands that meet all its hypotheses. -/

namespace Sys2Proof.Tests

open Sys2Proof.Machine

set_option Elab.async false

/-! ### The states and jobs the witnesses use -/

/-- A queue's record. -/
def qrec (n : Nat) : QpRec :=
  { queue := n, part := 0, iface := 0, flags := 0, pmtu := 5, rdDepth := 16, sqLog2 := 8, cqLog2 := 8, pcp := 0, vlan := 0, hostQpn := 5,
    hostPsn := 0, hostAddr := [], sqAddr := 0x1000, sqRkey := 1, cqRkey := 2, cqAddr := 0x9000, sqWm := 80, cqWm := 80, refuseWm := 10,
    hostKey := 0 }

/-- A queue pair in READY. -/
def qpair (n : Nat) : Qp := { cfg := qrec n, state := 1, devicePsn := 0, hostPsn := 0, dbRkey := 7 }

/-- A vault key, and a record of AES-256 in slot `slot` of page 0. -/
def vk : Bytes := List.replicate 32 1
def krec (slot : Nat) : KeyRec :=
  { slot := slot, cls := 0, revoked := false, depth := 4, usage := 1, attr := 5, alg := 0x02, kekGen := 1, gen := 0, parent := 0, domain := 0,
    len := 32, body := [] }

/-- An object that is loaded. -/
def loadedObj (o : Obj) : ObjState := { obj := o, version := 1, kekGen := 1, frame := 0, digest := [], load := .loaded }

/-- A device in SERVING: the vault is VALID with generation 1, channel 0 serves, the entropy island runs, queues 0 and 1 are READY and
queue 9 carries persistence, key page 0 and context page 0 of partition 0 are loaded. -/
def dev : State :=
  { State.reset with
    power := { mode := .serving, coresUp := true, serviceBegun := true, goodA := true, gateA := true, lowA := false },
    vault := { supplyLost := false, lost := false, seed := List.replicate 32 1, gens := [(1, wrapGen vk 1 (List.replicate 32 2))] },
    guard := { vaultKey := vk, identity := [1] },
    life := { dusBad := false, state := 1 },
    dram := { channels := { num := 0, state := 2, dimms := 1, capLog2 := 6, ranks := 1 } :: List.map (fun k => { num := k + 1 }) (List.range 7),
              key := some (zeros 64) },
    ent := { State.reset.ent with state := 2, instances := [{ part := 0, key := [] }] },
    qps := [qpair 0, qpair 1, qpair 9],
    keys := { persistQ := some 9, pages := [{ part := 0, num := 0, recs := [krec 4] }],
              objs := [loadedObj (keyPageObj 0 0), loadedObj (ctxPageObj 0)] } }

/-- The state with one job. -/
def put (j : Job) (s : State) : State := { s with jobs := [j] }

/-- A management command that the control cluster has: opcode, PARAM, input. -/
def mj (op : Nat) (par inp : Bytes) : Job :=
  { queue := 0, idx := 0, part := 0, course := 0, entry := none, seq := 0, desc := { opcode := op, param := fixLen 16 par }, input := inp,
    phase := .control, actor := (4, 0), ceremonyOk := true }

/-- A CFG_WRITE of a value to a register. -/
def wj (addr value : Nat) : Job := mj Op.cfgWrite (leBytes 4 addr ++ leBytes 4 value ++ leBytes 4 0xFFFFFFFF) []

/-- A job that tile 0 runs: opcode, PARAM, input, parameter block of its context, and its keys by slot. -/
def tj (op : Nat) (par inp params : Bytes) (ks : List (Nat × KeyRec)) : Job :=
  { queue := 0, idx := 0, part := 0, course := 0, entry := some 0, seq := 0, desc := { opcode := op, param := fixLen 16 par, outLen := 64 },
    ctx := some { id := 1, part := 0, order := 0, ops := [op], gen := 0, qpFirst := 0, qpLast := 9,
                  keys := [0x40000, 0x50000, 0, 0], params := fixLen 56 params },
    input := inp, phase := .running 0, entropy := List.replicate 64 3,
    keys := ks.map (fun e => { slot := e.1, handle := e.1 + 1, tile := some 0, kr := e.2, chain := [] }) }

/-- The state in which tile 0 runs a job and holds the material of its keys, by slot. -/
def run (j : Job) (ms : List (Nat × Bytes)) (s : State) : State :=
  { s with
    jobs := [j],
    tiles := { num := 0, state := 0, job := some j.id, cache := ms.map (fun e => ⟨e.1 + 1, false, e.2, 0, 0, []⟩) } :: State.reset.tiles.tail }

theorem put_ready (j : Job) (s : State) (op : Nat) (hi : j.id = (0, 0)) (h1 : j.desc.opcode = op) (h2 : j.phase = .control)
    (h3 : s.coresRun = true) (h4 : s.guard.freeze = false) (h5 : s.restarting = false) : CtlReady (put j s) 0 0 op j := by
  refine ⟨?_, h2, h1, h3, Or.inl h4, ?_, h5⟩
  · simp [put, State.job?, hi]
  · simp [put, State.turnOf]

theorem run_ready (j : Job) (ms : List (Nat × Bytes)) (s : State) (op : Nat) (h1 : j.desc.opcode = op) (h2 : j.result = none)
    (h3 : j.streams = false) (h4 : s.power.paused = false) (h5 : s.guard.stopped = []) (h6 : j.phase = .running 0) :
    TileReady (run j ms s) 0 op j := by
  refine ⟨rfl, ?_, h1, h2, h3, ?_, h6⟩
  · simp [run, State.job?]
  · simp [run, State.tile?, State.tileRuns, h4, h5]

/-- Right after reset the invariant holds. -/
theorem reset_inv : State.reset.Inv := by
  refine ⟨rfl, rfl, rfl, rfl, rfl, by decide, ⟨Or.inl rfl, fun h => ?_, fun _ => rfl, fun w h => ?_, fun w h => ?_⟩⟩ <;> cases h

/-- The generation secret of `dev`, and what opens and stores under it. -/
def sec : Bytes := fixLen 32 (List.replicate 32 2)

theorem sec_of {s : State} (hv : s.vault = dev.vault) (hk : s.guard.vaultKey = vk) : s.genSecret 1 = some sec := by
  apply genSecret_wrapGen
  · rw [hv, hk]; rfl
  · rw [hk]; decide

theorem own_of {s : State} (p : Nat) (r : KeyRec) (hv : s.vault = dev.vault) (hk : s.guard.vaultKey = vk) (hd : r.depth = 4)
    (hg : r.kekGen = 1) : s.ownKey p r = some (domainKey sec p r.domain) := by
  unfold State.ownKey
  rw [hg, sec_of hv hk]
  simp [hd]

theorem reserve_keeps {s s' : State} {p cls n x g : Nat} (h : s.reserve p cls = some (n, x, g, s')) :
    s'.vault = s.vault ∧ s'.guard = s.guard := by
  unfold State.reserve at h
  simp only at h
  split at h
  · simp only [Option.some.injEq, Prod.mk.injEq] at h
    obtain ⟨-, -, -, rfl⟩ := h
    exact ⟨rfl, rfl⟩
  · split at h
    · cases h
    · split at h
      · cases h
      · simp only [Option.some.injEq, Prod.mk.injEq] at h
        obtain ⟨-, -, -, rfl⟩ := h
        exact ⟨rfl, rfl⟩

theorem made_of {s s' : State} {p : Nat} {k : NewKey} {cls n x gen : Nat} (hv : s.vault = dev.vault) (hk : s.guard.vaultKey = vk)
    (h0 : k.parent = 0) (h2 : s.life.debug = 0) (h3 : classFor (matLen k.alg k.len) = some cls)
    (h4 : s.reserveWaits p cls = false) (h5 : s.reserve p cls = some (n, x, gen, s')) : ∃ h n r, s.makeRec p k = .ok h n r s' ∧ r.depth = 4 ∧ r.kekGen = 1 := by
  have hg : s'.kekNow = 1 := by unfold State.kekNow; rw [(reserve_keeps h5).1, hv]; rfl
  have hw : s.wrapKey p k.parent k.domain = some (domainKey sec p k.domain) := by
    have hg : s.kekNow = 1 := by unfold State.kekNow; rw [hv]; rfl
    unfold State.wrapKey
    rw [hg, sec_of hv hk]
    simp [h0]
  have hp : s.parentCheck p k.parent = .ok 4 := by simp [State.parentCheck, h0]
  unfold State.makeRec
  simp only [hp, h2, h3, hw, h4, h5, Nat.zero_ne_one, false_and, if_false, Bool.false_eq_true]
  exact ⟨_, _, _, rfl, rfl, hg⟩

theorem aes_class : classFor (matLen 2 32) = some 0 := rfl

/-- The state with channel 0 in a state `st`, and channel 1 serving. -/
def chan (st : Nat) (s : State) : State :=
  { s with dram := { s.dram with channels :=
      [{ num := 0, state := st, dimms := 1, capLog2 := 6, ranks := 1 }, { num := 1, state := 2, dimms := 1, capLog2 := 6, ranks := 1 }] } }

/-- The state with one noise source, in a state `st`. -/
def noise (st : Nat) (s : State) : State := { s with ent := { s.ent with sources := [{ num := 0, state := st }] } }

/-- The state with another set of members. -/
def pairAs (role sync peer : Nat) (s : State) : State := { s with pair := { role := role, sync := sync, peer := peer, path := 1 } }

/-- A pairing, and the state that retains it. -/
def pairing0 : Pairing :=
  { pairId := 1, member := 0, mode := 1, witnessQ := 1, witnessRkey := 0, witnessAddr := 0, peerId := [], peerAddr := [], peerIface := 0 }
def retains (p : Pairing) (s : State) : State :=
  { s with
    mgmt := { s.mgmt with goodA := true },
    copyA := some { regs := [], table := [], boot := [], qps := [], persistQ := none, pairing := some p, actors := [], m := 2, n := 3,
                    sessionIdle := 600 } }

/-- A host key as it stands wrapped in its page, a queue that offers under it, and the job that establishes. -/
def hostRec : KeyRec :=
  { krec 4 with usage := 4, body := (wrapRec (domainKey sec 0 0) 0x40000 { krec 4 with usage := 4 } (zeros 32)).body }
def hostQ : Qp :=
  { qpair 0 with cfg := { qrec 0 with flags := 2, hostKey := 0x40000 }, offer := some { id := 7, payload := [], kemKey := [], ecKey := [] } }
def hostDev : State := { dev with qps := [hostQ], keys := { dev.keys with pages := [{ part := 0, num := 0, recs := [hostRec] }] } }
def hostJob : Job := tj Op.qpSealEstablish [] (leBytes 4 7 ++ zeros 1092) [] []

/-! ### Terms that the well-formedness checks refuse -/

theorem test_wf_refuses_queue : Instr.wf (.cnpRx 4096) = false := by decide
theorem test_wf_refuses_index : Instr.wf (.powerModeSet 0 (2 ^ 32)) = false := by decide
theorem test_wf_refuses_tile : Instr.wf (.queueEcho 48) = false := by decide
theorem test_wf_refuses_port : Instr.wf (.portLinkUp 2 0) = false := by decide
theorem test_wf_refuses_iface : Instr.wf (.portLinkUp 0 4) = false := by decide
theorem test_wf_refuses_prio : Instr.wf (.pauseFrameRx 0 8 0) = false := by decide
theorem test_wf_refuses_part : Instr.wf (.fetchPass 256) = false := by decide
theorem test_wf_refuses_course : Instr.wf (.jobPlace 6) = false := by decide
theorem test_wf_refuses_channel : Instr.wf (.patrolScrubStep 8 []) = false := by decide
theorem test_wf_refuses_cell : Instr.wf (.cellExcursion 2 0) = false := by decide
theorem test_wf_refuses_feed : Instr.wf (.feedGood 2 0) = false := by decide
theorem test_wf_refuses_cardPort : Instr.wf (.cardDetect 4) = false := by decide
theorem test_wf_refuses_ring : Instr.wf (.eventSendTimer 258) = false := by decide
theorem test_wf_refuses_source : Instr.wf (.entropyWindow 22 []) = false := by decide
theorem test_wf_refuses_tamper : Instr.wf (.tamperSourceInactive 12) = false := by decide
theorem test_wf_refuses_rail : Instr.wf (.railGlitch 8) = false := by decide
theorem test_wf_refuses_psn : Instr.wf (.writeAckRx 0 (2 ^ 24)) = false := by decide
theorem test_wf_refuses_slot : Instr.wf (.keyTokenArrival 0 0 6) = false := by decide
theorem test_wf_refuses_context : Instr.wf (.ctxUnbindDrained (2 ^ 22)) = false := by decide
theorem test_wf_refuses_load : Instr.wf (.componentLoadExpiry (2 ^ 32)) = false := by decide
theorem test_wf_refuses_frame : Instr.wf (.pageImageArrival ⟨1, 0, 0, 0⟩ 2 []) = false := by decide
theorem test_wf_refuses_temps : Instr.wf (.dieTempSample [20]) = false := by decide
theorem test_wf_refuses_mesh : Instr.wf (.meshSample []) = false := by decide
theorem test_wf_refuses_word64 : Instr.wf (.witnessCasResult (2 ^ 64)) = false := by decide
theorem test_wf_refuses_island : Instr.wf (.clockWindow 64 0 false false) = false := by decide
theorem test_wf_refuses_handle : Instr.wf (.keyPinRelease (2 ^ 64)) = false := by decide
theorem test_wf_refuses_millivolts : Instr.wf (.feedGood 0 (2 ^ 16)) = false := by decide
theorem test_wf_refuses_object : Instr.wf (.pageLoadStart ⟨0, 0, 0, 0⟩) = false := by decide

/-! ### Single steps -/

/-- The check value of CRC-32C in its standard (RFC 3720 gives the polynomial; "123456789" gives E3069283). -/
theorem test_crc32c : crc32c (ascii "123456789") = 0xE3069283 := by decide +kernel

/-- With no command waiting one nanosecond passes. -/
theorem test_idle_step : ∃ t, step State.reset = .next t ∧ t.clock.mono = 1 := ⟨_, rfl, rfl⟩

/-- The first command in is the first out. -/
theorem test_first_in_first_out :
    ∃ t, step { dev with pending := [.producerDoorbell 0 0 [1, 0, 0, 0, 0, 0, 0, 0], .queueEcho 0] } = .next t ∧ t.pending = [.queueEcho 0] ∧
      (t.qp? 0).map (fun q => q.sqDoorbell) = some 1 := ⟨_, rfl, rfl, rfl⟩

/-- R54: a doorbell of 4 bytes is ignored and counted. -/
theorem test_short_doorbell :
    ∃ t, exec (.producerDoorbell 0 0 [1, 0, 0, 0]) dev = .next t ∧ (t.qp? 0).map (fun q => (q.sqDoorbell, q.dbBad)) = some (0, 1) :=
  ⟨_, rfl, rfl⟩

/-- R104: QUEUE_ECHO answers its input. -/
theorem test_queue_echo :
    ∃ t, exec (.queueEcho 0) (run (tj Op.queueEcho [] [1, 2, 3] [] []) [] dev) = .next t ∧
      ((t.job? (0, 0)).bind (fun j => j.result)).map (fun r => (r.status, r.out)) = some (0, [1, 2, 3]) := ⟨_, rfl, rfl⟩

/-- R59: QP_QUERY of an absent queue number answers STATE 0. -/
theorem test_query_absent :
    ∃ t, exec (.qpQuery 0 0) (put (mj Op.qpQuery (leBytes 2 77) []) dev) = .next t ∧ (t.qp? 0).any (fun q => q.cpls.length == 1) = true :=
  ⟨_, rfl, rfl⟩

/-- R280: one device's error in a burst of 80 bytes is corrected; two are not. -/
theorem test_burst_corrected : decodeBurst [] (fixLen 80 [1]) = .corrected (zeros 64) 0 := by decide +kernel
theorem test_burst_lost : decodeBurst [] (fixLen 80 [1, 2]) = .lost := by decide +kernel

/-- R402: the active feed below LOW starts the deglitch time. -/
theorem test_feed_lost :
    ∃ t, exec (.feedBelowLow 10000) dev = .next t ∧ t.power.switching.map (fun w => (w.target, w.step)) = some (1, 1) := ⟨_, rfl, rfl⟩

/-- R315: a window over the cut-off fails its source's test. -/
theorem test_cut_offs : (rctCut 10, aptCut 10) = (41, 794) := rfl

/-- R384: a disabled source never fires. -/
theorem test_disabled_source :
    ∃ t, exec (.railGlitch 0) { dev with regs := [(regKey Reg.vltSrcCfg 0, 0)] } = .next t ∧ t.guard.active = 0 := ⟨_, rfl, rfl⟩

/-! ### For each clause of a statement, a state and operands that meet its hypotheses -/
/-! ### The default table's image -/

theorem drop_chunks {α : Type} (f : α → Bytes) (w : Nat) (hf : ∀ a, (f a).length = w) (k : Nat) (l : List α) :
    (l.flatMap f).drop (w * k) = (l.drop k).flatMap f := by
  induction k generalizing l with
  | zero => simp
  | succ k ih =>
    cases l with
    | nil => simp
    | cons a l =>
      simp only [List.flatMap_cons, List.drop_succ_cons, ← ih l, List.drop_append, hf]
      rw [List.drop_eq_nil_of_le (by rw [hf, Nat.mul_succ]; omega), List.nil_append]
      congr 1
      rw [Nat.mul_succ]; omega

theorem sub_chunk {α : Type} (f : α → Bytes) (w : Nat) (hf : ∀ a, (f a).length = w) (hd tl : Bytes) (o : Nat) (ho : hd.length = o) (k : Nat)
    (l : List α) (a : α) (hk : l[k]? = some a) : sub (o + w * k) w (hd ++ (l.flatMap f ++ tl)) = f a := by
  have hlt : k < l.length := (List.getElem?_eq_some_iff.mp hk).1
  have hd' : l.drop k = a :: l.drop (k + 1) := by
    rw [List.drop_eq_getElem_cons hlt]; congr 1; exact (List.getElem?_eq_some_iff.mp hk).2
  have hle : w * k ≤ (l.flatMap f).length := by
    rw [List.length_flatMap, List.map_congr_left (fun a _ => hf a), List.map_const', List.sum_replicate]
    simp only [smul_eq_mul]; rw [Nat.mul_comm]; exact Nat.mul_le_mul_right _ (le_of_lt hlt)
  have e : (hd ++ (l.flatMap f ++ tl)).drop (o + w * k) = f a ++ ((l.drop (k + 1)).flatMap f ++ tl) := by
    rw [← ho, List.drop_append, List.drop_eq_nil_of_le (by omega), List.nil_append,
      show hd.length + w * k - hd.length = w * k by omega, List.drop_append_of_le_length hle, drop_chunks f w hf, hd', List.flatMap_cons,
      List.append_assoc]
  unfold sub fixLen
  rw [e, List.append_assoc, List.take_append_of_le_length (by rw [hf]), List.take_of_length_le (by rw [hf])]

/-- The default table's image in its three parts. -/
def defHead : Bytes := leBytes 2 1 ++ leBytes 1 0 ++ zeros 1 ++ leBytes 4 0 ++ zeros 56
def defPart (n : Nat) : Bytes := match defaultTable.parts.find? (fun p => p.num == n) with | some p => partBytes p | none => zeros 48
def defTile (k : Nat) : Bytes := tileBytes (defaultTable.tiles.getD k {})

theorem defPart_length (n : Nat) : (defPart n).length = 48 := by
  unfold defPart
  split
  · simp [partBytes]
  · simp
theorem defTile_length (n : Nat) : (defTile n).length = 32 := by
  simp [defTile, tileBytes]
theorem defTable_image : tableBytes defaultTable = defHead ++ ((List.range 256).flatMap defPart ++ (List.range 48).flatMap defTile) := by
  unfold tableBytes
  rw [List.append_assoc]; rfl
theorem defTable_part (n : Nat) (h : n < 256) : partSlice (tableBytes defaultTable) n = defPart n := by
  rw [defTable_image, partSlice, sub_chunk defPart 48 defPart_length defHead _ 64 rfl n _ n (by simp [h])]
theorem defTable_tile (n : Nat) (h : n < 48) : tileSlice (tableBytes defaultTable) n = defTile n := by
  have := sub_chunk defTile 32 defTile_length (defHead ++ (List.range 256).flatMap defPart) [] (64 + 256 * 48)
    (by
      rw [List.length_append, List.length_flatMap, List.map_congr_left (fun a _ => defPart_length a), List.map_const', List.sum_replicate,
        List.length_range]; rfl) n (List.range 48) n (by simp [h])
  rw [defTable_image, tileSlice, ← this, List.append_nil, List.append_assoc]

theorem defTable_length : (tableBytes defaultTable).length = tableLen := by
  rw [defTable_image, List.length_append, List.length_append, List.length_flatMap, List.length_flatMap,
    List.map_congr_left (fun a _ => defPart_length a), List.map_congr_left (fun a _ => defTile_length a), List.map_const', List.map_const',
    List.sum_replicate, List.sum_replicate, List.length_range, List.length_range]; rfl

theorem find_congr {α : Type} (p q : α → Bool) (l : List α) (h : ∀ a ∈ l, p a = q a) : l.find? p = l.find? q := by
  induction l with
  | nil => rfl
  | cons a l ih => simp only [List.find?_cons, h a (by simp), ih (fun b hb => h b (by simp [hb]))]

theorem defTable_parse : parseTable (tableBytes defaultTable) = { defaultTable with tiles := (List.range 48).map (fun k => parseTile (defTile k)) } := by
  have e1 : byteAt 2 (tableBytes defaultTable) = 0 := by rw [defTable_image]; rfl
  have e2 : leAt 4 4 (tableBytes defaultTable) = 0 := by
    rw [defTable_image]; rfl
  unfold parseTable
  rw [e1, e2, List.filter_congr (q := fun n => byteAt 0 (defPart n) == 1) (fun n hn => by rw [defTable_part n (by simpa using hn)]),
    List.map_congr_left (g := fun k => parseTile (defTile k)) (fun k hk => by rw [defTable_tile k (by simpa using hk)]),
    List.map_congr_left (g := fun n => parsePart n (defPart n)) (fun n hn => by
      rw [defTable_part n (by simpa using (List.mem_filter.mp hn).1)])]
  rw [show ((List.range 256).filter (fun n => byteAt 0 (defPart n) == 1)) = [0] by decide +kernel]
  rfl

theorem defTable_valid : tableRefusal (tableBytes defaultTable) = none := by
  have h1 : tableRule1 (tableBytes defaultTable) = none := by
    unfold tableRule1
    have hp : (List.range 256).find? (fun n => !partOk (partSlice (tableBytes defaultTable) n)) = none := by
      rw [find_congr _ (fun n => !partOk (defPart n)) _ (fun n hn => by rw [defTable_part n (by simpa using hn)])]
      decide +kernel
    have ht : (List.range 48).find? (fun k => !tileOk (tileSlice (tableBytes defaultTable) k)) = none := by
      rw [find_congr _ (fun k => !tileOk (defTile k)) _ (fun n hn => by rw [defTable_tile n (by simpa using hn)])]
      decide +kernel
    rw [if_neg, hp, ht]
    · rfl
    · rw [defTable_length, defTable_image]
      simp only [not_or]
      exact ⟨by simp, by simp; rfl, by decide +kernel, by decide +kernel, by decide +kernel⟩
  unfold tableRefusal
  rw [h1, defTable_parse]
  decide +kernel

/-- A ready job of a partition `p`, alone in the matching store. -/
def readyJob (p : Nat) : Job := { tj Op.hash [] [1] [] [] with phase := .ready, part := p }
def readyDev (p : Nat) : State := put (readyJob p) { dev with tiles := [{ num := 0, state := 0 }] }

theorem ready_jobs (p : Nat) : ((readyDev p).refreshRefs 0).readyJobs 0 = [readyJob p] := by
  unfold State.readyJobs
  rw [show ((readyDev p).refreshRefs 0).jobs.filter (fun j => j.course == 0 && j.phase == .ready) = [readyJob p] from rfl]
  exact List.mergeSort_singleton _

theorem witness_StepsTakeTheFrontCommand_2 :
    ∃ (c : Instr) (s t : State), s.Inv ∧ exec c s = .next t :=
  ⟨.queueEcho 0, State.reset, _, reset_inv, rfl⟩

theorem witness_StepsTakeTheFrontCommand_4 :
    ∃ (s : State), s.pending = [] :=
  ⟨dev, rfl⟩

theorem witness_EveryStepKeepsTheInvariant_1 :
    ∃ (s t : State), s.Inv ∧ step s = .next t :=
  ⟨State.reset, _, reset_inv, rfl⟩

theorem witness_FusesAreOnlyBlown_1 :
    ∃ (c : Instr) (s t : State), s.Inv ∧ exec c s = .next t :=
  ⟨.queueEcho 0, State.reset, _, reset_inv, rfl⟩

theorem witness_TileAnswersLeaveTheRest_1 :
    ∃ (s u : State) (t : Nat) (c : Instr), 
      c ∈ [Instr.queueEcho t, .hash t, .rngGenerate t, .rngStatus t, .timeQuery t, .manifestBuild t, .attest t] ∧ exec c s = .next u :=
  ⟨dev, _, 0, .hash 0, by simp, rfl⟩

theorem witness_TileAnswersLeaveTheRest_2 :
    ∃ (s u : State) (t : Nat) (c : Instr), 
      c ∈ [Instr.symDecrypt t, .macGenerate t, .macVerify t, .pinTranslate t, .pinVerify t, .pinValueGenerate t, .payMacGenerate t,
        .payMacVerify t, .valueGenerate t, .valueVerify t, .emvArqcVerify t, .dukptInitExport t] ∧ exec c s = .next u :=
  ⟨dev, _, 0, .macVerify 0, by simp, rfl⟩

theorem witness_DoorbellsMoveTheirIndex_1 :
    ∃ (s : State) (n : Nat) (q : Qp) (data : Bytes) (p : BitVec 32), s.qp? n = some q ∧ data.length = 8 ∧ zeroAt 4 4 data = true ∧
      p = BitVec.ofNat 32 (leAt 0 4 data) ∧ s.keys.persistQ ≠ some n ∧ (p - q.sqDoorbell).toNat ≤ 2 ^ q.cfg.sqLog2 ∧
      (p - q.fetchIndex).toNat ≤ 2 ^ q.cfg.sqLog2 :=
  ⟨dev, 0, qpair 0, [1, 0, 0, 0, 0, 0, 0, 0], _, rfl, rfl, rfl, rfl, (by decide), (by decide), (by decide)⟩

theorem witness_DoorbellsMoveTheirIndex_2 :
    ∃ (s : State) (n : Nat) (q : Qp) (data : Bytes) (c : BitVec 32), s.qp? n = some q ∧ data.length = 8 ∧ zeroAt 4 4 data = true ∧
      c = BitVec.ofNat 32 (leAt 0 4 data) ∧ (c - q.cqDoorbell).toNat ≤ 2 ^ q.cfg.cqLog2 ∧ (q.cqPosted - c).toNat ≤ 2 ^ q.cfg.cqLog2 :=
  ⟨{ dev with qps := [{ qpair 0 with cqPosted := 2 }] }, 0, _, [1, 0, 0, 0, 0, 0, 0, 0], _, rfl, rfl, rfl, rfl, (by decide), (by
    decide)⟩

theorem witness_DoorbellsMoveTheirIndex_3 :
    ∃ (s : State) (n off : Nat) (q : Qp) (data : Bytes), s.qp? n = some q ∧ off + data.length ≤ 64 :=
  ⟨dev, 0, 0, _, [], rfl, (by decide)⟩

theorem witness_DoorbellsMoveTheirIndex_4 :
    ∃ (s : State) (n : Nat) (q : Qp) (data : Bytes) (p : BitVec 32), s.qp? n = some q ∧ doorbellIndex data = some p ∧
      (s.keys.persistQ = some n ∨ 2 ^ q.cfg.sqLog2 < (p - q.sqDoorbell).toNat ∨ 2 ^ q.cfg.sqLog2 < (p - q.fetchIndex).toNat) :=
  ⟨dev, 9, qpair 9, [1, 0, 0, 0, 0, 0, 0, 0], 1, rfl, rfl, (by decide)⟩

theorem witness_DoorbellsMoveTheirIndex_5 :
    ∃ (s : State) (n off : Nat) (q : Qp) (data : Bytes), s.qp? n = some q ∧ 64 < off + data.length :=
  ⟨dev, 0, 60, _, zeros 8, rfl, (by decide)⟩

theorem witness_DoorbellsMoveTheirIndex_6 :
    ∃ (s : State) (n : Nat), s.qp? n = none :=
  ⟨dev, 7, rfl⟩

theorem witness_ConsumerIndicesAreJudged_1 :
    ∃ (s : State) (n : Nat) (q : Qp) (data : Bytes) (c : BitVec 32), s.qp? n = some q ∧ data.length = 8 ∧ zeroAt 4 4 data = true ∧
      c = BitVec.ofNat 32 (leAt 0 4 data) :=
  ⟨dev, 0, qpair 0, [1, 0, 0, 0, 0, 0, 0, 0], _, rfl, rfl, rfl, rfl⟩

theorem witness_TransportAnswers_1 :
    ∃ (s : State) (n : Nat), (s.qp? n).isSome :=
  ⟨dev, 0, (by decide)⟩

theorem witness_TransportAnswers_2 :
    ∃ (s : State) (n : Nat), (s.qp? n).isSome :=
  ⟨dev, 0, (by decide)⟩

theorem witness_TransportAnswers_3 :
    ∃ (s u : State) (n : Nat) (q : Qp) (r : Req) (rest : List Req), s.qp? n = some q ∧ q.reqs = r :: rest ∧
      u = s.advanceTo (max s.clock.mono (r.at_ + s.ackTime)) :=
  ⟨{ dev with qps := [{ qpair 0 with reqs := [{ psn := 0, kind := .send, addr := 0, rkey := 0, len := 8, data := [] }] }] }, _, 0, _, _,
    _, rfl, rfl, rfl⟩

theorem witness_TransportAnswers_4 :
    ∃ (s : State) (n : Nat) (q : Qp) (r : Req), s.qp? n = some q ∧ q.reqs.find? (fun r => r.kind == .send) = some r :=
  ⟨{ dev with qps := [{ qpair 0 with reqs := [{ psn := 0, kind := .send, addr := 0, rkey := 0, len := 8, data := [] }] }] }, 0, _, _,
    rfl, rfl⟩

theorem witness_TransportAnswers_5 :
    ∃ (s u : State) (n : Nat) (q : Qp) (r : Req), s.qp? n = some q ∧ q.reqs.find? (fun r => r.rnrWait) = some r ∧
      u = s.advanceTo (max s.clock.mono (r.at_ + rnrTime (s.fld Reg.hqiTransport 15 11))) :=
  ⟨{ dev with qps := [{ qpair 0 with reqs := [{ psn := 0, kind := .send, addr := 0, rkey := 0, len := 8, data := [], rnrWait := true }] }] },
    _, 0, _, _, rfl, rfl, rfl⟩

theorem witness_TransportAnswers_7 :
    ∃ (s : State) (n : Nat) (q : Qp), s.qp? n = some q :=
  ⟨dev, 0, qpair 0, rfl⟩

theorem witness_QueuesDropTheirRequests_1 :
    ∃ (s : State) (n : Nat) (q : Qp), s.qp? n = some q ∧ q.state ≠ 4 ∧ q.state ≠ 5 ∧ s.keys.persistQ ≠ some n :=
  ⟨dev, 0, qpair 0, rfl, (by decide), (by decide), (by decide)⟩

theorem witness_QueuesDropTheirRequests_2 :
    ∃ (s : State) (n : Nat) (q : Qp), s.qp? n = some q :=
  ⟨dev, 0, qpair 0, rfl⟩

theorem witness_QueueCommandsRun_1 :
    ∃ (s : State) (q ix : Nat) (j : Job) (r : QpRec), CtlReady s q ix Op.qpCreate j ∧ r = parseQp j.input ∧ j.input.length = 128 ∧
      s.qpRecOk r j.input = true ∧ s.qpRecAllowed r = true ∧ s.qp? r.queue = none ∧ s.creating r.queue = false ∧
      ((s.hostKeyCheck r = .status Status.done ∨ ∃ n k, s.hostKeyCheck r = .rec_ n k)) :=
  ⟨put (mj Op.qpCreate [] (leBytes 2 5 ++ [0, 0, 4, 5, 16, 8, 8, 0, 0, 0] ++ leBytes 4 5 ++ zeros 8 ++ [1] ++ zeros 15 ++ zeros 88))
    (dev), 0, 0, _, _, put_ready _ _ _ rfl rfl rfl rfl rfl rfl, rfl, rfl, (by decide +kernel), rfl, rfl, rfl, (Or.inl rfl)⟩

theorem witness_QueueCommandsRun_2 :
    ∃ (s : State) (q ix n : Nat) (j : Job) (x : Qp), CtlReady s q ix Op.qpDestroy j ∧ n = j.desc.pLe 48 2 ∧ s.qp? n = some x ∧
      n ≠ j.queue ∧ x.state ≠ 5 :=
  ⟨put (mj Op.qpDestroy (leBytes 2 1) []) (dev), 0, 0, 1, _, qpair 1, put_ready _ _ _ rfl rfl rfl rfl rfl rfl, rfl, rfl, (by decide),
    (by decide)⟩

theorem witness_QueueCommandsRun_3 :
    ∃ (s : State) (q ix n : Nat) (j : Job), CtlReady s q ix Op.qpDestroy j ∧ n = j.desc.pLe 48 2 ∧
      (s.qp? n = none ∨ n = j.queue ∨ (s.qp? n).map (fun x => x.state) = some 5) :=
  ⟨put (mj Op.qpDestroy [] []) dev, 0, 0, _, _, put_ready _ _ _ rfl rfl rfl rfl rfl rfl, rfl, (by decide)⟩

theorem witness_QueueCommandsRun_4 :
    ∃ (s : State) (n : Nat) (x : Qp) (id : JobId) (j : Job), s.qp? n = some x ∧ x.destroyBy = some id ∧ s.job? id = some j ∧
      x.state = 5 ∧ s.liveJobs n = 0 ∧ j.phase = .blocked :=
  ⟨put { mj Op.qpDestroy [] [] with phase := .blocked } { dev with qps := [{ qpair 1 with state := 5, destroyBy := some (0, 0) }] }, 1,
    { qpair 1 with state := 5, destroyBy := some (0, 0) }, _, _, rfl, rfl, rfl, rfl, rfl, rfl⟩

theorem witness_QueueCommandsRun_5 :
    ∃ (s : State) (q ix n : Nat) (j : Job), CtlReady s q ix Op.qpQuery j ∧ n = j.desc.pLe 48 2 ∧ n ≤ 4095 :=
  ⟨put (mj Op.qpQuery [] []) dev, 0, 0, _, _, put_ready _ _ _ rfl rfl rfl rfl rfl rfl, rfl, (by decide)⟩

theorem witness_QueueCommandsRun_6 :
    ∃ (s : State) (q ix n : Nat) (j : Job), CtlReady s q ix Op.qpQuery j ∧ n = j.desc.pLe 48 2 ∧ 4095 < n :=
  ⟨put (mj Op.qpQuery (leBytes 2 5000) []) (dev), 0, 0, 5000, _, put_ready _ _ _ rfl rfl rfl rfl rfl rfl, rfl, (by decide)⟩

theorem witness_QueueCommandsRun_7 :
    ∃ (s : State) (q ix n : Nat) (j : Job) (x : Qp) (r : Region), CtlReady s q ix Op.regionDeclare j ∧ n = leAt 0 2 j.input ∧
      s.qp? n = some x ∧ j.input.length = 32 ∧
      r =
        { num := byteAt 2 j.input, read := bitOf 0 (byteAt 3 j.input), write := bitOf 1 (byteAt 3 j.input), rkey := leAt 4 4 j.input, base := leAt 8 8 j.input, len := leAt 16 8 j.input }
        ∧ r.num < 16 ∧ byteAt 3 j.input < 4 ∧ 0 < r.len ∧ r.len ≤ 2 ^ 48 ∧ r.base + r.len ≤ 2 ^ 64 ∧ zeroAt 24 8 j.input = true ∧
      x.regions.any (fun y => y.num == r.num) = false ∧ s.declaring n r.num = false :=
  ⟨put (mj Op.regionDeclare [] ([1, 0, 2, 3] ++ leBytes 4 77 ++ leBytes 8 0x1000 ++ leBytes 8 0x1000 ++ zeros 8)) (dev), 0, 0, 1, _,
    qpair 1, _, put_ready _ _ _ rfl rfl rfl rfl rfl rfl, rfl, rfl, rfl, rfl, (by decide), (by decide), (by decide), (by decide), (by
    decide), rfl, rfl, rfl⟩

theorem witness_QueueCommandsRun_8 :
    ∃ (s : State) (q ix n k : Nat) (j : Job) (x : Qp), CtlReady s q ix Op.regionRemove j ∧ n = j.desc.pLe 48 2 ∧ k = j.desc.p8 50 ∧
      s.qp? n = some x ∧ (x.regions.find? (fun y => y.num == k)).isSome = true ∧ s.removing n k = false :=
  ⟨put (mj Op.regionRemove [1, 0, 2] [])
    ({ dev with qps := [{ qpair 1 with regions := [{ num := 2, read := true, write := true, rkey := 1, base := 0, len := 16 }] }] }), 0,
    0, 1, 2, _, _, put_ready _ _ _ rfl rfl rfl rfl rfl rfl, rfl, rfl, rfl, rfl, rfl⟩

theorem witness_QueueCommandsRun_9 :
    ∃ (s : State) (t : Nat) (j : Job), TileReady s t Op.queueEcho j :=
  ⟨run (tj Op.queueEcho [] [] [] []) [] dev, 0, _, run_ready _ _ _ _ rfl rfl rfl rfl rfl rfl⟩

theorem witness_CompletionIsWritten_1 :
    ∃ (s : State) (n : Nat) (q : Qp) (c : Cpl) (b : Bytes), s.qp? n = some q ∧ q.state ≠ 4 ∧ q.state ≠ 5 ∧
      q.nextCpl s.withholds = some c ∧ b = (c.outBytes n).drop c.zeroFill :=
  ⟨{ dev with qps := [{ qpair 0 with cpls := [{ tag := 0, idx := 0, res := {}, tile := 0xFF, doneTime := 0, outAddr := 0, outRkey := 0 }] }] },
    0, _, _, _, rfl, (by decide), (by decide), rfl, rfl⟩

theorem witness_ContextCommandsRun_1 :
    ∃ (s : State) (q ix id : Nat) (j : Job) (c : CtxRec) (k : KeyRec), CtlReady s q ix Op.ctxBind j ∧ c = parseCtx j.input ∧
      j.manages c.part = true ∧ s.life.erased = false ∧ s.ctxRangeOk j.input true = true ∧ s.ctxKeyCheck c = .ok k ∧
      s.quotaUsed c.part + 128 ≤ s.quotaOf c.part ∧ s.freeCtxId = some id ∧
      (s.stand (ctxPageObj id) = .loaded ∨ s.stand (ctxPageObj id) = .absent) :=
  ⟨put (mj Op.ctxBind [] (zeros 4 ++ [0, 0, 1, 0] ++ zeros 4 ++ leBytes 2 0 ++ leBytes 2 9 ++ leBytes 2 Op.rngGenerate ++ zeros 110))
    ({ dev with tabs := { dev.tabs with table := { defaultTable with parts := defaultTable.parts.map (fun p => { p with quota := 4 }) } } }),
    0, 0, 1, _, _, _, put_ready _ _ _ rfl rfl rfl rfl rfl rfl, rfl, rfl, rfl, (by decide +kernel), rfl, (by decide), (by
    decide +kernel), (by decide)⟩

theorem witness_ContextCommandsRun_2 :
    ∃ (s : State) (q ix : Nat) (j : Job) (c cur : CtxRec) (k : KeyRec), CtlReady s q ix Op.ctxReplace j ∧ c = parseCtx j.input ∧
      j.manages c.part = true ∧ s.ctxRangeOk j.input false = true ∧ s.ctxBusy j c.id = false ∧
      (s.stand (ctxPageObj c.id) = .loaded ∨ s.stand (ctxPageObj c.id) = .absent) ∧
      s.ctxs.bound.find? (fun x => x.id == c.id && x.part == c.part) = some cur ∧ cur.gen ≠ 0xFFFFFFFF ∧ c.gen = cur.gen ∧
      s.ctxKeyCheck c = .ok k :=
  ⟨put (mj Op.ctxReplace [] (leBytes 4 1 ++ [0, 0, 1, 0] ++ leBytes 4 3 ++ leBytes 2 0 ++ leBytes 2 9 ++ leBytes 2 Op.rngGenerate ++
    zeros 110))
    ({ dev with ctxs := { bound := [{ id := 1, part := 0, order := 0, ops := [Op.rngGenerate], gen := 3, qpFirst := 0, qpLast := 9, keys := [0, 0, 0, 0], params := zeros 56 }] } }),
    0, 0, _, _, _, _, put_ready _ _ _ rfl rfl rfl rfl rfl rfl, rfl, rfl, (by decide +kernel), rfl, (by decide), rfl, (by decide), rfl,
    rfl⟩

theorem witness_ContextCommandsRun_3 :
    ∃ (s : State) (q ix id : Nat) (j : Job) (cur : CtxRec), CtlReady s q ix Op.ctxUnbind j ∧ id = j.desc.pLe 48 4 % 2 ^ 22 ∧
      s.ctxBusy j id = false ∧ (s.stand (ctxPageObj id) = .loaded ∨ s.stand (ctxPageObj id) = .absent) ∧
      s.ctxs.bound.find? (fun x => x.id == id && j.manages x.part) = some cur :=
  ⟨put (mj Op.ctxUnbind (leBytes 4 1) [])
    ({ dev with ctxs := { bound := [{ id := 1, part := 0, order := 0, ops := [Op.rngGenerate], gen := 3, qpFirst := 0, qpLast := 9, keys := [0, 0, 0, 0], params := zeros 56 }] } }),
    0, 0, 1, _, _, put_ready _ _ _ rfl rfl rfl rfl rfl rfl, rfl, rfl, (by decide), rfl⟩

theorem witness_ContextCommandsRun_4 :
    ∃ (s : State) (id : Nat) (e : Nat × JobId) (j : Job), s.ctxs.unbinding.find? (fun e => e.1 == id) = some e ∧ s.ctxPins id = 0 ∧
      s.job? e.2 = some j :=
  ⟨put { mj Op.ctxUnbind (leBytes 4 1) [] with phase := .blocked } { dev with ctxs := { unbinding := [(1, (0, 0))] } }, 1, _, _, rfl,
    rfl, rfl⟩

theorem witness_ContextCommandsRun_5 :
    ∃ (s : State) (q ix id : Nat) (j : Job) (c : CtxRec), CtlReady s q ix Op.ctxQuery j ∧ id = j.desc.pLe 48 4 % 2 ^ 22 ∧
      (s.stand (ctxPageObj id) = .loaded ∨ s.stand (ctxPageObj id) = .absent) ∧
      s.ctxs.bound.find? (fun x => x.id == id && j.manages x.part) = some c :=
  ⟨put (mj Op.ctxQuery (leBytes 4 1) [])
    ({ dev with ctxs := { bound := [{ id := 1, part := 0, order := 0, ops := [Op.rngGenerate], gen := 3, qpFirst := 0, qpLast := 9, keys := [0, 0, 0, 0], params := zeros 56 }] } }),
    0, 0, 1, _, _, put_ready _ _ _ rfl rfl rfl rfl rfl rfl, rfl, (by decide), rfl⟩

theorem witness_ContextCommandsRun_6 :
    ∃ (s : State) (q ix n c : Nat) (j : Job) (x : Qp), CtlReady s q ix Op.cfgWrite j ∧ j.cfgAddr = Reg.dspQcourse ∧ j.cfgMask ≠ 0 ∧
      n = s.selOf j.queue Reg.dspQsel ∧ s.qp? n = some x ∧ c = bitsOf 2 0 (j.merge x.homeCourse) ∧ c < 6 :=
  ⟨put (wj Reg.dspQcourse 2) dev, 0, 0, 0, 2, wj Reg.dspQcourse 2, qpair 0, put_ready _ _ _ rfl rfl rfl rfl rfl rfl, rfl, (by decide),
    rfl, rfl, rfl, (by decide)⟩

theorem witness_ContextCommandsRun_7 :
    ∃ (s : State) (n c : Nat) (x : Qp), s.qp? n = some x ∧ x.newCourse = some c ∧ s.jobs.any (fun j => j.queue == n) = false ∧
      x.fetches = [] :=
  ⟨{ dev with qps := [{ qpair 0 with newCourse := some 2 }] }, 0, 2, _, rfl, rfl, rfl, rfl⟩

theorem witness_OperandsAreFetched_1 :
    ∃ (s : State) (p : Nat) (q : Qp) (a : State), s.nextTurn p = some q ∧
      a = { s with tabs := { s.tabs with turns := aput p q.cfg.queue s.tabs.turns } } ∧ q.heldIn = none ∧ q.readsOut < q.cfg.rdDepth ∧
      s.readsOut < 32768 :=
  ⟨{ dev with qps := [{ qpair 0 with sqDoorbell := 1 }] }, 0, _, _, rfl, rfl, rfl, (by decide), (by decide)⟩

theorem witness_OperandsAreFetched_2 :
    ∃ (s : State) (p : Nat) (q : Qp) (a : State), s.nextTurn p = some q ∧
      a = { s with tabs := { s.tabs with turns := aput p q.cfg.queue s.tabs.turns } } ∧ q.heldIn.isSome = true :=
  ⟨{ dev with qps := [{ qpair 0 with sqDoorbell := 1, heldIn := some 0 }] }, 0, _, _, rfl, rfl, rfl⟩

theorem witness_OperandsAreFetched_3 :
    ∃ (s : State) (n : Nat) (data : Bytes) (q q' : Qp) (f : Fetch) (rest : List Fetch) (opened got : List Held) (e : Held) (a b c : State), 
      s.qp? n = some q ∧ q.fetches = f :: rest ∧ openEntries q q.sqStride f.first f.count data [] = (q', opened) ∧
      got = opened.map (s.sampled q) ∧ got.getLast? = some e ∧
      a = (s.modQp n (fun x => { x with fetches := rest, session := q'.session })).readDone n (fun r => r.kind == ReqKind.readDesc) ∧
      b = (if e.establishes then ((a.modQp n (fun x => x.stopAt e.idx)).postMany n (countOf (fun r => r.kind == ReqKind.readDesc)
        (((a.qp? n).map (fun x => x.reqs)).getD []))).touch n else a) ∧ c = b.modQp n (fun x => { x with held := none }) :=
  ⟨{ dev with qps := [{ qpair 0 with fetches := [⟨0, 1⟩] }] }, 0, zeros 64, _, _, _, _, _, _, _, _, _, _, rfl, rfl, rfl, rfl, rfl, rfl,
    rfl, rfl⟩

theorem witness_OperandsAreFetched_4 :
    ∃ (s : State) (q ix : Nat) (j : Job) (c : CtxRec) (hit : Bool), s.job? (q, BitVec.ofNat 32 ix) = some j ∧ j.wants .context = true ∧
      j.desc.ctxId ≠ 0 ∧
      ((s.cachedCtx j.course j.desc.ctxId = some c ∧ hit = true) ∨ (s.cachedCtx j.course j.desc.ctxId = none ∧ hit = false ∧ (s.stand
        (ctxPageObj j.desc.ctxId) = .loaded ∨ s.stand (ctxPageObj j.desc.ctxId) = .absent) ∧ s.ctxs.bound.find? (fun c => c.id ==
        j.desc.ctxId) = some c)) ∧ j.admitted c = true ∧ c.ops.contains j.desc.opcode = true ∧ j.err = none :=
  ⟨put
    { tj Op.rngGenerate [] [] [] [] with phase := .waiting, want := [.context], ctx := none, desc := { opcode := Op.rngGenerate, ctxWord := 1 } }
    { dev with ctxs := { bound := [{ id := 1, part := 0, order := 0, ops := [Op.rngGenerate], gen := 3, qpFirst := 0, qpLast := 9, keys := [0, 0, 0, 0], params := zeros 56 }] } },
    0, 0, _, _, _, rfl, rfl, (by decide), (Or.inr ⟨rfl, rfl, Or.inl rfl, rfl⟩), rfl, rfl, rfl⟩

theorem witness_OperandsAreFetched_5 :
    ∃ (s : State) (q ix : Nat) (id : JobId) (j : Job) (data raw inp : Bytes) (whole : Bool), id = (q, BitVec.ofNat 32 ix) ∧
      s.job? id = some j ∧ j.wants .payload = true ∧ whole = (j.desc.isMgmt || decide (j.inTotal ≤ 1024)) ∧
      j.absorb (fixLen (if whole then j.desc.inLen else 1024) data) = (raw, inp) :=
  ⟨put { tj Op.hash [] [] [] [] with phase := .waiting, want := [.payload], desc := { opcode := Op.hash, inLen := 2000 } } dev, 0, 0, _,
    _, [1], _, _, _, rfl, rfl, rfl, rfl, rfl⟩

theorem witness_OperandsAreFetched_6 :
    ∃ (s : State) (q ix slot n : Nat) (id : JobId) (j : Job) (r : KeyRec), id = (q, BitVec.ofNat 32 ix) ∧ s.job? id = some j ∧
      j.wants (.key slot) = true ∧
      ((j.desc.opcode = Op.objOpen → j.wants .payload = false ∧ j.wants .chain = false ∧ j.objOpenBad = false ∧ s.notChild j
        (j.slotHandle slot) = false)) ∧
      s.lookup j.part (j.slotHandle slot) ((((s.keyNeeds j).find? (fun k => k.1 == slot)).map Prod.snd).getD []) = .rec_ n r ∧
      ((isStateful r.alg = false ∨ s.leafWaits j (j.slotHandle slot) = false)) :=
  ⟨put { tj Op.symEncrypt [] [] [] [] with phase := .waiting, want := [.key 0] } dev, 0, 0, 0, 0, _, _, _, rfl, rfl, rfl, (by decide),
    rfl, (by decide)⟩

theorem witness_OperandsAreFetched_7 :
    ∃ (s : State) (q ix : Nat) (id : JobId) (j : Job) (e : JobId × Bytes), id = (q, BitVec.ofNat 32 ix) ∧ s.job? id = some j ∧
      s.ent.delivered.find? (fun e => e.1 == id) = some e ∧ j.wants .entropy = true :=
  ⟨put { tj Op.rngGenerate [] [] [] [] with phase := .waiting, want := [.entropy] }
    { dev with ent := { dev.ent with delivered := [((0, 0), [1, 2])] } }, 0, 0, _, _, _, rfl, rfl, rfl, rfl⟩

theorem witness_OperandsAreFetched_8 :
    ∃ (s : State) (q ix : Nat) (id : JobId) (j : Job) (out : Bytes), id = (q, BitVec.ofNat 32 ix) ∧ s.job? id = some j ∧
      j.chainIn = some out ∧ j.wants .chain = true :=
  ⟨put { tj Op.hash [] [] [] [] with phase := .waiting, want := [.chain], chainIn := some [1] } dev, 0, 0, _, _, _, rfl, rfl, rfl, rfl⟩

theorem witness_OperandsAreFetched_9 :
    ∃ (s : State) (q ix : Nat) (id : JobId) (j : Job), id = (q, BitVec.ofNat 32 ix) ∧ s.job? id = some j ∧ j.wants .payload = true :=
  ⟨put { tj Op.hash [] [] [] [] with phase := .waiting, want := [.payload] } dev, 0, 0, _, _, rfl, rfl, rfl⟩

theorem witness_OperandsAreFetched_10 :
    ∃ (s : State) (q ix : Nat) (id : JobId) (j : Job), id = (q, BitVec.ofNat 32 ix) ∧ s.job? id = some j ∧ j.wants .entropy = true :=
  ⟨put { tj Op.rngGenerate [] [] [] [] with phase := .waiting, want := [.entropy] } dev, 0, 0, _, _, rfl, rfl, rfl⟩

theorem witness_OperandsAreFetched_11 :
    ∃ (s : State) (q ix : Nat) (id : JobId) (j : Job), id = (q, BitVec.ofNat 32 ix) ∧ s.job? id = some j :=
  ⟨put { tj Op.hash [] [] [] [] with phase := .waiting, want := [.payload] } dev, 0, 0, _, _, rfl, rfl⟩

theorem witness_PersistenceRuns_1 :
    ∃ (s : State) (q ix n : Nat) (j : Job) (x : Qp), CtlReady s q ix Op.persistAttach j ∧ n = j.desc.pLe 48 2 ∧ s.qp? n = some x ∧
      x.cfg.part = 0 ∧ (x.state = 1 ∨ x.state = 3) ∧ x.inFlight = 0 ∧ s.jobs.any (fun k => k.queue == n && k.phase ≠ .done) = false :=
  ⟨put (mj Op.persistAttach (leBytes 2 1) []) (dev), 0, 0, 1, _, qpair 1, put_ready _ _ _ rfl rfl rfl rfl rfl rfl, rfl, rfl, rfl,
    (Or.inl rfl), rfl, rfl⟩

theorem witness_PersistenceRuns_2 :
    ∃ (s : State) (q ix : Nat) (j : Job) (r : PRegion), CtlReady s q ix Op.persistRegionDeclare j ∧ r = parsePRegion j.input ∧
      j.input.length = 32 ∧ r.valid j.input = true ∧ s.keys.regions.any (fun x => x.num == r.num || r.overlaps x) = false :=
  ⟨put (mj Op.persistRegionDeclare [] (leBytes 2 1 ++ [2, 0] ++ leBytes 4 7 ++ zeros 12 ++ leBytes 4 8 ++ zeros 8)) (dev), 0, 0, _, _,
    put_ready _ _ _ rfl rfl rfl rfl rfl rfl, rfl, rfl, (by decide +kernel), rfl⟩

theorem witness_PersistenceRuns_3 :
    ∃ (s : State) (q ix n : Nat) (j : Job) (r : PRegion), CtlReady s q ix Op.persistRegionRemove j ∧ n = j.desc.pLe 48 2 ∧
      s.keys.regions.find? (fun r => r.num == n) = some r ∧ s.regionUnknown r = false :=
  ⟨put (mj Op.persistRegionRemove (leBytes 2 1) [])
    ({ dev with keys := { dev.keys with regions := [{ num := 1, kind := 2, part := 0, rkey := 7, base := 0, first := 0, count := 8 }] } }),
    0, 0, 1, _, _, put_ready _ _ _ rfl rfl rfl rfl rfl rfl, rfl, rfl, rfl⟩

theorem witness_PersistenceRuns_4 :
    ∃ (s a : State) (busy : Bool) (ready held got left : List Entry) (objs : List Obj) (b0 b : Batch), s.commit.waiting ≠ [] ∧
      s.guard.freeze = false ∧ busy = s.commit.batches.any (fun b => b.step == 1) ∧ a = (if busy then s else s.rejectUnfit) ∧
      a.holdBack a.commit.waiting [] = (ready, held) ∧
      takeEntries (a.fld Reg.kstCtrl 7 0) (if busy then ready.filter Entry.attaches else ready) ([], [], []) = (got, objs, left) ∧
      got ≠ [] ∧ b0 = { epoch := a.nextEpoch, step := 1, entries := got, objs := objs } ∧
      b = (if b0.configOnly then b0 else
        { b0 with images := (a.sealBatch b0).1, root := (a.sealBatch b0).2, left := (a.sealBatch b0).1.map Prod.fst }) :=
  ⟨{ dev with commit := { waiting := [{ changes := [], objs := [], job := none, res := {} }] } }, _, _, _, _, _, _, _, _, _,
    (List.cons_ne_nil _ _), rfl, rfl, rfl, rfl, rfl, (List.cons_ne_nil _ _), rfl, rfl⟩

theorem witness_PersistenceRuns_5 :
    ∃ (s : State) (b : Batch), s.commit.batches.find? (fun b => b.step == 1 && s.persisted b) = some b ∧ s.guard.freeze = false :=
  ⟨{ dev with commit := { batches := [{ epoch := 1, step := 1, entries := [], objs := [] }] } }, _, rfl, rfl⟩

theorem witness_PagesLoad_1 :
    ∃ (s : State) (o : Obj) (e : ObjState), s.obj? o = some e ∧ e.load = .unloaded ∧ ((o.kind ≠ 1 ∨ s.eol = false)) ∧
      s.stand o = .load o ∧ (s.regionFor o).isSome = true ∧ s.noPersist = false ∧ s.dram.key.isSome = true ∧ s.serving ≠ [] :=
  ⟨{ dev with keys := { dev.keys with objs := { loadedObj (keyPageObj 0 0) with load := .unloaded } :: (treePath (keyPageObj 0 0)).map loadedObj, regions := [{ num := 1, kind := 1, part := 0, rkey := 7, base := 0, first := 0, count := 8 }] } },
    keyPageObj 0 0, _, rfl, rfl, (Or.inr rfl), rfl, rfl, rfl, rfl, (by decide)⟩

theorem witness_PagesLoad_2 :
    ∃ (s a : State) (o : Obj) (frame : Nat) (e : ObjState), s.obj? o = some e ∧ e.load = .loading frame ∧ s.adopting 2 = none ∧
      a = (match s.keys.persistQ with | some q => s.readDone q (fun r => r.kind == ReqKind.readPage) | none => s) :=
  ⟨{ dev with keys := { dev.keys with objs := [{ loadedObj (keyPageObj 0 0) with load := .loading 0 }] } }, _, keyPageObj 0 0, 0, _,
    rfl, rfl, rfl, rfl⟩

theorem witness_PagesLoad_3 :
    ∃ (s : State) (frame : Nat) (j : Job), s.adopting 2 = some j ∧ frame < 2 :=
  ⟨put { mj Op.vaultAdopt [2] [] with phase := .blocked } dev, 0, _, rfl, (by decide)⟩

theorem witness_JobsArePlaced_1 :
    ∃ (s a : State) (c : Nat), s.guard.freeze = false ∧ s.power.mode = .serving ∧ a = s.refreshRefs c :=
  ⟨dev, _, 0, rfl, rfl, rfl⟩

theorem witness_JobsArePlaced_2 :
    ∃ (s : State) (t : Nat) (j : Job) (x : Tile), s.streamJob t = some j ∧ s.tile? t = some x ∧ s.guard.freeze = false ∧
      s.tileRuns x = true :=
  ⟨put { tj Op.hash [] [1] [] [] with streams := true } (run (tj Op.hash [] [1] [] []) [] dev), 0, _, _, rfl, rfl, rfl, rfl⟩

theorem witness_JobsArePlaced_3 :
    ∃ (s : State) (t : Nat) (data raw inp all : Bytes) (again : Bool) (pk : Packet) (j : Job) (x : Tile), s.streamJob t = some j ∧
      s.tile? t = some x ∧ s.guard.freeze = false ∧ s.tileRuns x = true ∧
      (raw, inp) = (if j.hasExtent then j.absorb data else (j.raw, j.input)) ∧ all = j.rest ++ padWords (inp.drop j.input.length) ∧
      again = ((!j.hasExtent || raw.length == j.desc.inLen) && j.hasExtent && j.readsTwice && j.firstPass.isNone) ∧
      pk = j.contPacket ((!j.hasExtent || raw.length == j.desc.inLen) && !again && decide (all.length ≤ 31 * 32)) (all.take (31 * 32)) :=
  ⟨run { tj Op.hash [] [1] [] [] with streams := true } [] dev, 0, [1], _, _, _, _, _, _, _, rfl, rfl, rfl, rfl, rfl, rfl, rfl, rfl⟩

theorem witness_JobsArePlaced_4 :
    ∃ (s : State), s.guard.freeze = true :=
  ⟨{ dev with guard := { dev.guard with freeze := true } }, rfl⟩

theorem witness_JobsArePlaced_5 :
    ∃ (s a b : State) (t : Nat) (x : Tile) (p : Packet) (rest : List Packet) (j : Job), s.tile? t = some x ∧ x.hod = p :: rest ∧
      p.kind = 0 ∧ s.tileRuns x = true ∧ s.power.mode = .serving ∧ (x.job = none ∨ s.fitsWindow x (p.queue, p.idx) = true) ∧
      a = s.modTile t (fun x => if x.job.isSome then
        { x with hod := rest.dropWhile (fun k => k.kind == 1 && (k.queue, k.idx) == (p.queue, p.idx)), held := x.job, job := some (p.queue, p.idx) }
        else
        { x with hod := rest.dropWhile (fun k => k.kind == 1 && (k.queue, k.idx) == (p.queue, p.idx)), job := some (p.queue, p.idx), yields := 0, window := false, jobAt := s.clock.mono })
        ∧ b = ((a.modJob (p.queue, p.idx) (fun k => { k with phase := .running t, tile := t })).flowTile t).takeBehind t ∧
      b.job? (p.queue, p.idx) = some j :=
  ⟨{ put { tj Op.hash [] [1] [] [] with phase := .inHod 0 } dev with tiles := [{ num := 0, state := 0, hod := [⟨0, 0, 0, 1, true, none, []⟩] }] },
    _, _, 0, _, _, _, _, rfl, rfl, rfl, rfl, rfl, (Or.inl rfl), rfl, rfl, rfl⟩

theorem witness_JobsEndAndSlotsTurn_1 :
    ∃ (s : State) (t : Nat) (x : Tile) (id : JobId) (j : Job) (r : Result), s.tile? t = some x ∧ x.job = some id ∧ s.job? id = some j ∧
      j.result = some r ∧ j.streams = false ∧ s.tileRuns x = true :=
  ⟨run { tj Op.hash [] [1] [] [] with result := some {} } [] dev, 0, _, (0, 0), _, _, rfl, rfl, rfl, rfl, rfl, rfl⟩

theorem witness_JobsEndAndSlotsTurn_2 :
    ∃ (s : State) (t : Nat) (x : Tile) (id : JobId) (j : Job), s.tile? t = some x ∧ x.job = some id ∧ s.job? id = some j ∧
      longOps.contains j.desc.opcode = true ∧ x.window = false ∧ x.held = none ∧ j.result = none ∧ s.tileRuns x = true :=
  ⟨run (tj Op.pkSign [] [1] [] []) [] dev, 0, _, _, _, rfl, rfl, rfl, rfl, rfl, rfl, rfl, rfl⟩

theorem witness_JobsEndAndSlotsTurn_3 :
    ∃ (s : State) (t : Nat) (x : Tile), s.tile? t = some x :=
  ⟨dev, 0, _, rfl⟩

theorem witness_JobsEndAndSlotsTurn_4 :
    ∃ (s a : State) (t : Nat) (x : Tile), s.tile? t = some x ∧ (s.tileRec t).kind = 1 ∧
      a = s.modTile t (fun y => { y with slotNow := (x.slotNow + 1) % 16, slotAt := s.clock.mono }) :=
  ⟨{ dev with tabs := { dev.tabs with table := { defaultTable with tiles := List.replicate 48 { kind := 1, slotLen := 100, slots := [0, 0] } } } },
    _, 0, _, rfl, rfl, rfl⟩

theorem witness_CiphersRun_1 :
    ∃ (s : State) (t : Nat) (j : Job) (r : KeyRec) (m : Bytes), TileReady s t Op.symDecrypt j ∧ KeyReady s t j 0 r m :=
  ⟨run (tj Op.symDecrypt [] (zeros 16) [1] [(0, krec 4)]) [(0, zeros 32)] (dev), 0, _, _, _, run_ready _ _ _ _ rfl rfl rfl rfl rfl rfl,
    ⟨rfl, rfl⟩⟩

theorem witness_CiphersRun_2 :
    ∃ (s a : State) (t n : Nat) (j : Job) (r : KeyRec) (m : Bytes), TileReady s t Op.symEncrypt j ∧ KeyReady s t j 0 r m ∧
      n = (if (j.block 0).ivPolicy = 1 then ivLen (j.block 0).mode r.alg else 0) ∧
      a = s.cacheKey t j.part (j.handle 0) (j.ver 0) m (j.upOf 0) :=
  ⟨run (tj Op.symEncrypt [] [] [] [(0, krec 4)]) [(0, zeros 32)] dev, _, 0, _, _, _, _, run_ready _ _ _ _ rfl rfl rfl rfl rfl rfl, ⟨rfl,
    rfl⟩, rfl, rfl⟩

theorem witness_CiphersRun_3 :
    ∃ (s a : State) (t : Nat) (j : Job) (r r1 : KeyRec) (m m1 : Bytes) (opened : Bytes → Ciphered), TileReady s t Op.symReencrypt j ∧
      KeyReady s t j 0 r m ∧ a = s.cacheKey t j.part (j.handle 0) (j.ver 0) m (j.upOf 0) ∧ KeyReady a t j 1 r1 m1 ∧
      opened = (fun x => (j.block 0).openIt r.alg m j.aadLen j.dun x) :=
  ⟨run (tj Op.symReencrypt [] [] [] [(0, krec 4), (1, krec 4)]) [(0, zeros 32), (1, zeros 32)] dev, _, 0, _, _, _, _, _, _, run_ready _
    _ _ _ rfl rfl rfl rfl rfl rfl, ⟨rfl, rfl⟩, rfl, ⟨rfl, rfl⟩, rfl⟩

theorem witness_MacsLeasesAndParity_1 :
    ∃ (s : State) (t : Nat) (j : Job) (r : KeyRec) (m : Bytes), TileReady s t Op.macGenerate j ∧ KeyReady s t j 0 r m :=
  ⟨run (tj Op.macGenerate [] (zeros 20) [0x10, 0, 0, 0, 8] [(0, krec 4)]) [(0, zeros 32)] (dev), 0, _, _, _, run_ready _ _ _ _ rfl rfl
    rfl rfl rfl rfl, ⟨rfl, rfl⟩⟩

theorem witness_MacsLeasesAndParity_2 :
    ∃ (s : State) (t n : Nat) (j : Job) (r : KeyRec) (m : Bytes), TileReady s t Op.macVerify j ∧ KeyReady s t j 0 r m ∧
      n = j.input.length - (j.block 0).tagLen :=
  ⟨run (tj Op.macVerify [] (zeros 20) [0x20, 0, 0, 2, 8] [(0, krec 4)]) [(0, zeros 32)] (dev), 0, _, _, _, _, run_ready _ _ _ _ rfl rfl
    rfl rfl rfl rfl, ⟨rfl, rfl⟩, rfl⟩

theorem witness_MacsLeasesAndParity_3 :
    ∃ (s : State) (t : Nat) (j : Job), TileReady s t Op.hash j :=
  ⟨run (tj Op.hash [] (zeros 20) [0, 0, 0, 2] []) [] (dev), 0, _, run_ready _ _ _ _ rfl rfl rfl rfl rfl rfl⟩

theorem witness_MacsLeasesAndParity_4 :
    ∃ (s : State) (t p : Nat) (x : Tile), s.tile? t = some x ∧
      (x.leases.filter (fun l => l.owner == p) = [] ∨ (∃ l : Lease, x.leases.filter (fun l => l.owner == p) = [l] ∧ l.stop - l.next ≤ 2
        ^ 22)) ∧ (s.tileRec t).holds p = true ∧ x.state ≠ 4 ∧ x.state ≠ 6 ∧ s.power.mode = .serving :=
  ⟨{ dev with tiles := [{ num := 0, state := 0 }] }, 0, 0, _, rfl, (Or.inl rfl), rfl, (by decide), (by decide), rfl⟩

theorem witness_MacsLeasesAndParity_5 :
    ∃ (s : State) (t : Nat) (x : Tile), s.tile? t = some x ∧ x.state ≠ 4 ∧ x.state ≠ 6 ∧ s.power.mode = .serving :=
  ⟨dev, 0, _, rfl, (by decide), (by decide), rfl⟩

theorem witness_SignaturesAndRsaRun_1 :
    ∃ (s a : State) (t : Nat) (j : Job) (r : KeyRec) (m : Bytes), TileReady s t Op.pkSign j ∧ KeyReady s t j 0 r m ∧
      a = (s.cacheKey t j.part (j.handle 0) (j.ver 0) m (j.upOf 0)).placeKey t r m j.input :=
  ⟨run (tj Op.pkSign [] [] [] [(0, krec 4)]) [(0, zeros 32)] dev, _, 0, _, _, _, run_ready _ _ _ _ rfl rfl rfl rfl rfl rfl, ⟨rfl, rfl⟩,
    rfl⟩

theorem witness_SignaturesAndRsaRun_2 :
    ∃ (s : State) (t n : Nat) (j : Job) (r : KeyRec) (m : Bytes), TileReady s t Op.pkVerify j ∧ KeyReady s t j 0 r m ∧
      n = j.input.length - sigLen r.alg r.len :=
  ⟨run (tj Op.pkVerify [] (zeros 67) [0x10, 2] [(0, { krec 4 with alg := 0x28, usage := 6, len := 65 })]) [(0, zeros 32)] (dev), 0, _,
    _, _, _, run_ready _ _ _ _ rfl rfl rfl rfl rfl rfl, ⟨rfl, rfl⟩, rfl⟩

theorem witness_SignaturesAndRsaRun_3 :
    ∃ (s a : State) (t h : Nat) (j : Job) (r : KeyRec) (m : Bytes), TileReady s t Op.pkEncrypt j ∧ KeyReady s t j 0 r m ∧
      a = (s.cacheKey t j.part (j.handle 0) (j.ver 0) m (j.upOf 0)).placeKey t r m j.input ∧ h = digestLen j.pk.hashAlg :=
  ⟨run (tj Op.pkEncrypt [] [] [] [(0, krec 4)]) [(0, zeros 32)] dev, _, 0, _, _, _, _, run_ready _ _ _ _ rfl rfl rfl rfl rfl rfl, ⟨rfl,
    rfl⟩, rfl, rfl⟩

theorem witness_SignaturesAndRsaRun_4 :
    ∃ (s a : State) (t : Nat) (j : Job) (r : KeyRec) (m : Bytes), TileReady s t Op.pkDecrypt j ∧ KeyReady s t j 0 r m ∧
      a = (s.cacheKey t j.part (j.handle 0) (j.ver 0) m (j.upOf 0)).placeKey t r m j.input :=
  ⟨run (tj Op.pkDecrypt [] [] [] [(0, krec 4)]) [(0, zeros 32)] dev, _, 0, _, _, _, run_ready _ _ _ _ rfl rfl rfl rfl rfl rfl, ⟨rfl,
    rfl⟩, rfl⟩

theorem witness_DerivationsRun_1 :
    ∃ (s a : State) (t : Nat) (j : Job) (r : KeyRec) (m pt : Bytes), TileReady s t Op.keyAgree j ∧ KeyReady s t j 0 r m ∧
      a = (s.cacheKey t j.part (j.handle 0) (j.ver 0) m (j.upOf 0)).placeKey t r m j.input ∧ pt = j.input.take (pointLen r.alg) :=
  ⟨run (tj Op.keyAgree [] [] [] [(0, krec 4)]) [(0, zeros 32)] dev, _, 0, _, _, _, _, run_ready _ _ _ _ rfl rfl rfl rfl rfl rfl, ⟨rfl,
    rfl⟩, rfl, rfl⟩

theorem witness_DerivationsRun_2 :
    ∃ (s : State) (t : Nat) (j : Job) (r : KeyRec) (m : Bytes), TileReady s t Op.kemEncap j ∧ KeyReady s t j 0 r m :=
  ⟨run (tj Op.kemEncap [] [] [0, 2] [(0, { krec 4 with alg := 0x48, usage := 4, len := 800 })]) [(0, zeros 32)] (dev), 0, _, _, _,
    run_ready _ _ _ _ rfl rfl rfl rfl rfl rfl, ⟨rfl, rfl⟩⟩

theorem witness_DerivationsRun_3 :
    ∃ (s a : State) (t : Nat) (j : Job) (r : KeyRec) (m : Bytes), TileReady s t Op.kemDecap j ∧ KeyReady s t j 0 r m ∧
      a = (s.cacheKey t j.part (j.handle 0) (j.ver 0) m (j.upOf 0)).placeKey t r m j.input :=
  ⟨run (tj Op.kemDecap [] [] [] [(0, krec 4)]) [(0, zeros 32)] dev, _, 0, _, _, _, run_ready _ _ _ _ rfl rfl rfl rfl rfl rfl, ⟨rfl,
    rfl⟩, rfl⟩

theorem witness_DerivationsRun_4 :
    ∃ (s a : State) (t h n : Nat) (j : Job) (before mat : Bytes) (r : KeyRec), j.pk.outForm = 0 ∧
      s.makeRec j.part
        { alg := j.pk.dAlg, usage := j.pk.dUsage, attr := j.pk.dAttr, domain := j.pk.dDomain, parent := 0, len := j.pk.dLen, mat := mat }
        = .ok h n r a :=
  by
  obtain ⟨⟨n, x, g, s'⟩, hr⟩ := Option.isSome_iff_exists.1 (show (dev.reserve 0 0).isSome = true by decide +kernel)
  let j := tj Op.keyAgree [] [] (zeros 16 ++ [2, 1, 5, 0] ++ leBytes 2 32) []
  obtain ⟨h, n, r, e, hd, hg⟩ := made_of (p := 0) (k := ⟨j.pk.dAlg, j.pk.dUsage, j.pk.dAttr, j.pk.dDomain, 0, j.pk.dLen, []⟩)
    rfl rfl rfl rfl (show classFor (matLen j.pk.dAlg j.pk.dLen) = some 0 by decide +kernel) (show dev.reserveWaits 0 0 = false by decide +kernel) hr
  exact ⟨dev, s', 0, h, n, j, [], [], r, by decide +kernel, e⟩

theorem witness_DerivationsRun_5 :
    ∃ (s : State) (t : Nat) (j : Job) (pk u : Bytes) (md l : Byte) (r : KeyRec), j.pk.outForm ≠ 0 ∧ KeyReady s t j 1 r pk ∧
      kbExport j.pk.dUsage j.pk.dAlg = some (u, md, l) :=
  ⟨run (tj Op.keyAgree [] [] (zeros 7 ++ [1] ++ zeros 8 ++ [2, 1, 5, 0] ++ leBytes 2 32) [(1, krec 4)]) [(1, zeros 32)] dev, 0, tj
    Op.keyAgree [] [] (zeros 7 ++ [1] ++ zeros 8 ++ [2, 1, 5, 0] ++ leBytes 2 32) [(1, krec 4)], _, _, _, _, _, (by decide +kernel),
    ⟨rfl, rfl⟩, rfl⟩

theorem witness_PinCommandsRun_2 :
    ∃ (s a : State) (t n : Nat) (j : Job) (r r1 : KeyRec) (m m1 : Bytes), TileReady s t Op.pinTranslate j ∧ KeyReady s t j 0 r m ∧
      a = s.cacheKey t j.part (j.handle 0) (j.ver 0) m (j.upOf 0) ∧ KeyReady a t j 1 r1 m1 ∧ j.ksnOk = true ∧
      n = pinBlockLen j.pay.inFmt ∧ (j.input.length = n + (if panBound j.pay.inFmt ∨ panBound j.pay.outFmt then 16 else 0)) :=
  ⟨run (tj Op.pinTranslate [] (zeros 8) [1, 1] [(0, krec 4), (1, krec 5)]) [(0, zeros 32), (1, zeros 32)] dev, _, 0, _, _, _, _, _, _,
    run_ready _ _ _ _ rfl rfl rfl rfl rfl rfl, ⟨rfl, rfl⟩, rfl, ⟨rfl, rfl⟩, rfl, rfl, (by decide)⟩

theorem witness_PinCommandsRun_3 :
    ∃ (s a : State) (t n : Nat) (j : Job) (r r1 : KeyRec) (m m1 : Bytes) (ref : List Nat), TileReady s t Op.pinVerify j ∧
      KeyReady s t j 0 r m ∧ a = s.cacheKey t j.part (j.handle 0) (j.ver 0) m (j.upOf 0) ∧ KeyReady a t j 1 r1 m1 ∧
      j.pinValueOk j.pay.digits = true ∧ n = pinBlockLen j.pay.inFmt ∧ refDigits (j.input.drop (j.dataAt + j.dataLen)) = some ref :=
  ⟨run (tj Op.pinVerify (zeros 12 ++ [1]) (zeros 9 ++ [0x31, 0x32, 0x33, 0x34]) ([1] ++ zeros 9 ++ [4]) [(0, krec 4), (1, krec 5)]) [(0,
    zeros 32), (1, zeros 32)] dev, _, 0, 8, _, _, _, _, _, [1, 2, 3, 4], run_ready _ _ _ _ rfl rfl rfl rfl rfl rfl, ⟨rfl, rfl⟩, rfl,
    ⟨rfl, rfl⟩, (by decide +kernel), (by decide +kernel), (by decide +kernel)⟩

theorem witness_PinCommandsRun_4 :
    ∃ (s a : State) (t n : Nat) (j : Job) (r r1 : KeyRec) (m m1 : Bytes), TileReady s t Op.pinValueGenerate j ∧ KeyReady s t j 0 r m ∧
      a = s.cacheKey t j.part (j.handle 0) (j.ver 0) m (j.upOf 0) ∧ KeyReady a t j 1 r1 m1 ∧ j.pinValueOk 0 = true ∧
      n = pinBlockLen j.pay.inFmt :=
  ⟨run (tj Op.pinValueGenerate (zeros 12 ++ [1]) (zeros 9) ([1] ++ zeros 9 ++ [4]) [(0, krec 4), (1, krec 5)]) [(0, zeros 32), (1, zeros
    32)] dev, _, 0, _, _, _, _, _, _, run_ready _ _ _ _ rfl rfl rfl rfl rfl rfl, ⟨rfl, rfl⟩, rfl, ⟨rfl, rfl⟩, rfl, rfl⟩

theorem witness_PaymentValuesRun_2 :
    ∃ (s a : State) (t : Nat) (j : Job) (r : KeyRec) (m : Bytes), KeyReady s t j 0 r m ∧
      a = s.cacheKey t j.part (j.handle 0) (j.ver 0) m (j.upOf 0) :=
  ⟨run (tj Op.hash [] [] [] [(0, krec 4)]) [(0, zeros 32)] dev, _, 0, tj Op.hash [] [] [] [(0, krec 4)], _, _, ⟨rfl, rfl⟩, rfl⟩

theorem witness_KeysAreMade_1 :
    ∃ (s : State) (t st dt : Nat) (j : Job), TileReady s t Op.keyGenerate j ∧ s.generateBad j = some (st, dt) :=
  ⟨run (tj Op.keyGenerate ([2, 1, 5] ++ zeros 6 ++ [1]) [] [] []) [] dev, 0, _, _, _, run_ready _ _ _ _ rfl rfl rfl rfl rfl rfl, rfl⟩

theorem witness_KeysAreMade_2 :
    ∃ (s : State) (t alg len : Nat) (j : Job) (mat : Bytes) (k : NewKey), TileReady s t Op.keyGenerate j ∧ s.generateBad j = none ∧
      alg = j.desc.p8 48 ∧ len = (genLen alg (j.desc.pLe 58 2)).getD 0 ∧ mat = generated alg (j.desc.pLe 58 2) j.entropy ∧
      k =
        { alg := alg, usage := j.desc.p8 49, attr := if 0x60 ≤ alg then setBits 1 1 1 (j.desc.p8 50) else j.desc.p8 50, domain := j.desc.p8 51, parent := j.desc.pLe 52 5, len := len, mat := mat } :=
  ⟨run (tj Op.keyGenerate [2, 1, 5] [] [] []) [] dev, 0, _, _, _, _, _, run_ready _ _ _ _ rfl rfl rfl rfl rfl rfl, (by decide +kernel),
    rfl, rfl, rfl, rfl⟩

theorem witness_KeysAreMade_3 :
    ∃ (s : State) (t : Nat) (j : Job) (w : KeyRec) (wk : Bytes), TileReady s t Op.keyImport j ∧ s.keyStoreShut true true = none ∧
      j.desc.p8 56 = 0 ∧ j.desc.p8 63 = 0 ∧ KeyReady s t j j.unwrapSlot w wk :=
  ⟨run (tj Op.keyImport [] [] [] [(0, krec 4)]) [(0, zeros 32)] dev, 0, _, _, _, run_ready _ _ _ _ rfl rfl rfl rfl rfl rfl, rfl, rfl,
    rfl, ⟨rfl, rfl⟩⟩

theorem witness_KeysAreReplacedAndRevoked_1 :
    ∃ (s : State) (t page : Nat) (j : Job) (r : KeyRec), TileReady s t Op.keyReplace j ∧ s.keyStoreShut true true = none ∧
      j.desc.p8 56 ≤ 1 ∧ j.desc.pZero 57 3 = true ∧ ((j.desc.p8 56 = 0 → j.desc.inLen = 0)) ∧ s.lookup j.part j.target [] = .rec_ page r :=
  ⟨run (tj Op.keyReplace (leBytes 8 0x40000) [] [] []) [] dev, 0, _, _, _, run_ready _ _ _ _ rfl rfl rfl rfl rfl rfl, (by
    decide +kernel), (by decide +kernel), (by decide +kernel), (fun _ => rfl), rfl⟩

theorem witness_KeysAreReplacedAndRevoked_2 :
    ∃ (s : State) (j : Job) (r : KeyRec) (k : Bytes), s.ownKey j.part r = some k :=
  ⟨dev, mj 0 [] [], krec 4, _, (own_of _ _ rfl rfl rfl rfl)⟩

theorem witness_KeysAreReplacedAndRevoked_3 :
    ∃ (s : State) (t page : Nat) (j : Job) (r : KeyRec), TileReady s t Op.keyRevoke j ∧ s.keyStoreShut true false = none ∧
      j.desc.pZero 56 8 = true ∧ j.desc.inLen = 0 ∧ s.lookup j.part j.target [] = .rec_ page r :=
  ⟨run (tj Op.keyRevoke (leBytes 8 0x40000) [] [] []) [] (dev), 0, 0, _, _, run_ready _ _ _ _ rfl rfl rfl rfl rfl rfl, rfl, rfl, rfl,
    rfl⟩

theorem witness_KeysAreReplacedAndRevoked_4 :
    ∃ (s : State) (t page : Nat) (j : Job) (r : KeyRec), TileReady s t Op.keyErase j ∧ s.keyStoreShut true false = none ∧
      j.desc.pZero 56 8 = true ∧ j.desc.inLen = 0 ∧ s.findKey j.part j.target = .rec_ page r ∧ s.erasePending j.target = false :=
  ⟨run (tj Op.keyErase (leBytes 8 0x40000) [] [] []) [] (dev), 0, 0, _, _, run_ready _ _ _ _ rfl rfl rfl rfl rfl rfl, rfl, rfl, rfl,
    rfl, rfl⟩

theorem witness_KeysAreReplacedAndRevoked_5 :
    ∃ (s a : State) (h : Nat), a = s.sweepCaches.finishRevokes ∧ (a.pins h ≠ 0 ∨ a.keys.erasing.filter (fun e => e.1 == h) = []) :=
  ⟨dev, _, 0, rfl, (by decide)⟩

theorem witness_KeysAreReplacedAndRevoked_6 :
    ∃ (s a : State) (h : Nat) (id : JobId) (k : Job) (b : Entry), a = s.sweepCaches.finishRevokes ∧ a.pins h = 0 ∧
      a.keys.erasing.filter (fun e => e.1 == h) = [(h, id)] ∧ a.job? id = some k ∧ k.phase = .blocked ∧ k.brings = some b :=
  ⟨put { mj Op.keyErase [] [] with phase := .blocked, brings := some { changes := [], objs := [], job := none, res := {} } }
    { dev with keys := { dev.keys with erasing := [(0x40000, (0, 0))] } }, _, 0x40000, (0, 0), _, _, rfl, rfl, rfl, rfl, rfl, rfl⟩

theorem witness_KeysAreShown_1 :
    ∃ (s a : State) (t : Nat) (j : Job) (r : KeyRec) (m : Bytes), TileReady s t Op.keyExport j ∧ s.keyStoreShut false false = none ∧
      j.desc.inLen = 0 ∧ KeyReady s t j 4 r m ∧ a = s.cacheKey t j.part (j.handle 4) (j.ver 4) m (j.upOf 4) :=
  ⟨run (tj Op.keyExport [] [] [] [(4, krec 4)]) [(4, zeros 32)] dev, _, 0, _, _, _, run_ready _ _ _ _ rfl rfl rfl rfl rfl rfl, rfl, rfl,
    ⟨rfl, rfl⟩, rfl⟩

theorem witness_KeysAreShown_2 :
    ∃ (s : State) (t page : Nat) (j : Job) (r : KeyRec), TileReady s t Op.keyQuery j ∧ s.keyStoreShut false false = none ∧
      j.desc.pZero 56 8 = true ∧ j.desc.inLen = 0 ∧ s.findKey j.part j.target = .rec_ page r ∧ s.erasePending j.target = false ∧
      s.ancestorLoad j.part r = none :=
  ⟨run (tj Op.keyQuery (leBytes 8 0x40000) [] [] []) [] dev, 0, _, _, _, run_ready _ _ _ _ rfl rfl rfl rfl rfl rfl, rfl, rfl, rfl, rfl,
    rfl, rfl⟩

theorem witness_KeysAreShown_3 :
    ∃ (s : State) (t : Nat) (j : Job) (r : KeyRec) (m : Bytes), TileReady s t Op.keyPublic j ∧ s.keyStoreShut false false = none ∧
      j.desc.pZero 56 8 = true ∧ j.desc.inLen = 0 ∧ KeyReady s t j 4 r m :=
  ⟨run (tj Op.keyPublic (leBytes 8 0x40000) [] [] [(4, krec 4)]) [(4, zeros 32)] (dev), 0, _, _, _, run_ready _ _ _ _ rfl rfl rfl rfl
    rfl rfl, rfl, rfl, rfl, ⟨rfl, rfl⟩⟩

theorem witness_CustodyObjectsRun_1 :
    ∃ (s a : State) (t h n : Nat) (j k : Job) (r rec_ : KeyRec) (m : Bytes), TileReady s t Op.objSeal j ∧ KeyReady s t j 0 r m ∧
      a = (if j.made.isSome then s.cacheKey t j.part (j.handle 0) (j.ver 0) m (j.upOf 0) else (s.cacheKey t j.part (j.handle 0) (j.ver
        0) m (j.upOf 0)).makeObjKey j r) ∧ a.job? j.id = some k ∧ k.made = some (h, n, rec_) :=
  ⟨run { tj Op.objSeal [] [5] [4] [(0, krec 4)] with made := some (7, 0, krec 4) } [(0, zeros 32)] dev, _, 0, 7, 0, _, _, _, _, _,
    run_ready _ _ _ _ rfl rfl rfl rfl rfl rfl, ⟨rfl, rfl⟩, rfl, rfl, rfl⟩

theorem witness_CustodyObjectsRun_2 :
    ∃ (s : State) (t : Nat) (j : Job), TileReady s t Op.objOpen j :=
  ⟨run (tj Op.objOpen [] [] [] []) [] dev, 0, _, run_ready _ _ _ _ rfl rfl rfl rfl rfl rfl⟩

theorem witness_CustodyObjectsRun_3 :
    ∃ (s : State) (t : Nat) (j : Job), TileReady s t Op.manifestBuild j :=
  ⟨run (tj Op.manifestBuild [] [] [] []) [] dev, 0, _, run_ready _ _ _ _ rfl rfl rfl rfl rfl rfl⟩

theorem witness_CustodyObjectsRun_5 :
    ∃ (s a : State) (t slot : Nat) (j : Job) (r : KeyRec) (m : Bytes), KeyReady s t j slot r m ∧
      a = s.cacheKey t j.part (j.handle slot) (j.ver slot) m (j.upOf slot) :=
  ⟨run (tj Op.hash [] [] [] [(0, krec 4)]) [(0, zeros 32)] dev, _, 0, 0, tj Op.hash [] [] [] [(0, krec 4)], _, _, ⟨rfl, rfl⟩, rfl⟩

theorem witness_CustodyTimeAndChainsRun_1 :
    ∃ (s : State) (t h : Nat) (x : Tile) (l : Lease), s.tile? t = some x ∧ x.leaves.filter (fun l => l.owner == h) = [l] ∧
      l.stop - l.next ≤ 1024 ∧ s.power.mode = .serving :=
  ⟨{ dev with tiles := [{ num := 0, state := 0, leaves := [⟨5, 0, 100⟩] }], vault := { dev.vault with stateful := [⟨5, 100, 1000⟩] } },
    0, 5, _, _, rfl, rfl, (by decide), rfl⟩

theorem witness_CustodyTimeAndChainsRun_2 :
    ∃ (s : State) (t : Nat) (j : Job), TileReady s t Op.timestamp j ∧
      (j.input.length < j.reqLen ∨ parseTsReq (j.input.take j.reqLen) = none) :=
  ⟨run (tj Op.timestamp [] [] [] []) [] dev, 0, _, run_ready _ _ _ _ rfl rfl rfl rfl rfl rfl, (by decide)⟩

theorem witness_CustodyTimeAndChainsRun_3 :
    ∃ (s a : State) (t : Nat) (j : Job) (q : TsReq) (k : KeyRec) (m cert : Bytes), TileReady s t Op.timestamp j ∧
      j.reqLen ≤ j.input.length ∧ parseTsReq (j.input.take j.reqLen) = some q ∧ KeyReady s t j 0 k m ∧ cert = j.input.drop j.reqLen ∧
      a = s.cacheKey t j.part (j.handle 0) (j.ver 0) m (j.upOf 0) :=
  ⟨run (tj Op.timestamp (leBytes 2 54) ([0x30, 52, 2, 1, 1, 0x30, 47, 0x30, 11, 6, 9, 0x60, 0x86, 0x48, 1, 0x65, 3, 4, 2, 1, 4, 32] ++
    zeros 32) [] [(0, { krec 4 with alg := 0x21, usage := 5, len := 48 })]) [(0, zeros 32)] dev, _, 0, _, _, _, _, _, run_ready _ _ _ _
    rfl rfl rfl rfl rfl rfl, (by decide +kernel), rfl, ⟨rfl, rfl⟩, rfl, rfl⟩

theorem witness_CustodyTimeAndChainsRun_4 :
    ∃ (s : State) (t : Nat) (j : Job), TileReady s t Op.timeQuery j :=
  ⟨run (tj Op.timeQuery [] [] [] []) [] dev, 0, _, run_ready _ _ _ _ rfl rfl rfl rfl rfl rfl⟩

theorem witness_CustodyTimeAndChainsRun_5 :
    ∃ (s a : State) (t : Nat) (j : Job) (r r1 : KeyRec) (m1 : Bytes), TileReady s t Op.chainAppend j ∧
      s.recAt j.part (hIndex (j.handle 0)) = some r ∧ KeyReady s t j 1 r1 m1 ∧
      a = s.cacheKey t j.part (j.handle 1) (j.ver 1) m1 (j.upOf 1) :=
  ⟨run (tj Op.chainAppend [] [5] [] [(0, krec 0), (1, krec 1)]) [(0, zeros 32), (1, zeros 32)]
    ({ dev with keys := { dev.keys with pages := [{ part := 0, num := 0, recs := [krec 0] }] } }), _, 0, _, _, _, _, run_ready _ _ _ _
    rfl rfl rfl rfl rfl rfl, rfl, ⟨rfl, rfl⟩, rfl⟩

theorem witness_TimeQueryWritesItsRecord_1 :
    ∃ (s : State) (t : Nat) (j : Job), TileReady s t Op.timeQuery j :=
  ⟨run (tj Op.timeQuery [] [] [] []) [] (dev), 0, _, run_ready _ _ _ _ rfl rfl rfl rfl rfl rfl⟩

theorem witness_TimeQueryWritesItsRecord_3 :
    ∃ (s : State), s.clock.state = .locked :=
  ⟨{ dev with clock := { state := .locked } }, rfl⟩

theorem witness_ComponentLoadsRun_1 :
    ∃ (s : State) (q ix p : Nat) (j : Job) (b : Bytes), CtlReady s q ix Op.componentBegin j ∧ b = j.input ∧ p = byteAt 0 b :=
  ⟨put (mj Op.componentBegin [] []) dev, 0, 0, _, _, _, put_ready _ _ _ rfl rfl rfl rfl rfl rfl, rfl, rfl⟩

theorem witness_ComponentLoadsRun_2 :
    ∃ (s : State) (q ix : Nat) (j : Job) (ses : MgmtSession) (l : CompLoad), CtlReady s q ix Op.componentAdd j ∧
      s.session? j.queue = some ses ∧ ses.ctk ≠ [] ∧ s.loadOf j = some l :=
  ⟨put (mj Op.componentAdd (leBytes 4 7) [])
    ({ dev with mgmt := { loads := [{ id := 7, part := 0, alg := 2, usage := 1, attr := 5, domain := 0, parent := 0, count := 2, expect := zeros 4, comps := [(1, 1, zeros 32), (2, 2, zeros 32)], begunAt := 0 }], sessions := [{ queue := 0, actor := 3, ecKey := [], ctk := [1], lastUse := 0 }] } }),
    0, 0, _, _, _, put_ready _ _ _ rfl rfl rfl rfl rfl rfl, rfl, (by decide), rfl⟩

theorem witness_ComponentLoadsRun_3 :
    ∃ (s : State) (q ix : Nat) (j : Job) (l : CompLoad), CtlReady s q ix Op.componentCommit j ∧ s.loadOf j = some l ∧
      j.manages l.part = true ∧ s.keyStoreShut true true = none :=
  ⟨put (mj Op.componentCommit (leBytes 4 7) [])
    { dev with mgmt := { loads := [{ id := 7, part := 0, alg := 2, usage := 1, attr := 5, domain := 0, parent := 0, count := 2, expect := zeros 4, comps := [(1, 1, zeros 32), (2, 2, zeros 32)], begunAt := 0 }] } },
    0, 0, _, _, put_ready _ _ _ rfl rfl rfl rfl rfl rfl, rfl, rfl, rfl⟩

theorem witness_ComponentLoadsRun_4 :
    ∃ (s : State) (load : Nat) (l : CompLoad), s.mgmt.loads.find? (fun l => l.id == load) = some l :=
  ⟨{ dev with mgmt := { loads := [{ id := 7, part := 0, alg := 2, usage := 1, attr := 5, domain := 0, parent := 0, count := 2, expect := zeros 4, comps := [(1, 1, zeros 32), (2, 2, zeros 32)], begunAt := 0 }], sessions := [{ queue := 0, actor := 3, ecKey := [], ctk := [1], lastUse := 0 }] } },
    7, _, rfl⟩

theorem witness_RepointingRuns_1 :
    ∃ (s : State) (q ix : Nat) (j : Job), CtlReady s q ix Op.repointOpen j :=
  ⟨put (mj Op.repointOpen [] []) dev, 0, 0, _, put_ready _ _ _ rfl rfl rfl rfl rfl rfl⟩

theorem witness_RepointingRuns_2 :
    ∃ (s : State) (q ix : Nat) (j : Job) (c : Campaign), CtlReady s q ix Op.repointQuery j ∧ c = s.vault.campaign :=
  ⟨put (mj Op.repointQuery [] []) (dev), 0, 0, _, _, put_ready _ _ _ rfl rfl rfl rfl rfl rfl, rfl⟩

theorem witness_RepointingRuns_3 :
    ∃ (s : State) (q ix : Nat) (j : Job), CtlReady s q ix Op.repointCommit j ∧ j.ceremonyOk = true :=
  ⟨put (mj Op.repointCommit [] [])
    ({ dev with vault := { dev.vault with campaign := { state := 2, suite := 1, fromGen := 1, toGen := 2, sharesSeen := [1, 2, 3] } } }),
    0, 0, _, put_ready _ _ _ rfl rfl rfl rfl rfl rfl, rfl⟩

theorem witness_RepointingRuns_4 :
    ∃ (s : State) (j : Job), s.jobs.find? (fun j => j.phase == .blocked && j.desc.opcode == Op.repointCommit) = some j :=
  ⟨put { mj Op.repointCommit [] [] with phase := .blocked }
    { dev with vault := { dev.vault with campaign := { state := 2, suite := 1, fromGen := 1, toGen := 2, sharesSeen := [1, 2, 3] } } },
    _, rfl⟩

theorem witness_RepointingRuns_5 :
    ∃ (s : State) (q ix : Nat) (j : Job), CtlReady s q ix Op.repointAbandon j :=
  ⟨put (mj Op.repointAbandon [] [])
    ({ dev with vault := { dev.vault with campaign := { state := 1, suite := 1, fromGen := 1, toGen := 2, sharesSeen := [1, 2, 3] } } }),
    0, 0, _, put_ready _ _ _ rfl rfl rfl rfl rfl rfl⟩

theorem witness_MemoryComesIntoService_1 :
    ∃ (s a : State) (b : Bytes), s.dram.key = none ∧ s.ent.state = 2 ∧ s.power.mode = .serving ∧ s.random 0 64 = .bits b a :=
  ⟨{ dev with dram := { dev.dram with key := none } }, _, _, rfl, rfl, rfl, rfl⟩

theorem witness_MemoryComesIntoService_2 :
    ∃ (s : State), s.dram.channels.any (fun c => c.state == 1) = true :=
  ⟨chan 1 dev, rfl⟩

theorem witness_MemoryComesIntoService_3 :
    ∃ (s : State) (n : Nat) (c : Channel), s.chan? n = some c ∧ c.state = 1 :=
  ⟨chan 1 dev, 0, _, rfl, rfl⟩

theorem witness_MemoryComesIntoService_4 :
    ∃ (s : State) (r : TrainResult) (ch : Nat) (same : Bool), s.dram.action = some (4, ch) ∧ r.ch = ch ∧
      (s.chan? ch).any (fun c => c.state == 1) = true ∧
      same =
        (match s.dram.channels.find? (fun c => c.state == 2) with | some c => (c.capLog2, c.ranks, c.dimms) == (r.capLog2, r.ranks, r.dimms) | none => true) :=
  ⟨{ chan 1 dev with dram := { (chan 1 dev).dram with action := some (4, 0) } },
    { ch := 0, present := true, allowed := true, dimms := 1, capLog2 := 6, ranks := 1, trained := true }, 0, _, rfl, rfl, rfl, rfl⟩

theorem witness_MemoryComesIntoService_5 :
    ∃ (s a b : State) (ch : Nat), s.dram.action = some (4, ch) ∧ (s.chan? ch).any (fun c => c.state == 1 && c.dimms ≠ 0) = true ∧
      s.dram.key.isSome = true ∧
      a =
        { s with dram := { s.dram with ctrCache := s.dram.ctrCache.filter (fun e => e.1 ≠ ch), macCache := s.dram.macCache.filter (fun e => e.1 ≠ ch) } }
        ∧
      b = (a.modChan ch (fun c =>
        { c with state := 2, degraded := false, fresh := c.majorHwm + 1, majorHwm := c.majorHwm + 1, ctrs := [], failed := [], ceLines := [], uePass := 0 })).chDone :=
  ⟨{ chan 1 dev with dram := { (chan 1 dev).dram with action := some (4, 0) } }, _, _, 0, rfl, rfl, rfl, rfl, rfl⟩

theorem witness_MemoryUpkeepRuns_1 :
    ∃ (s : State) (ch line lv n : Nat) (c : Channel), s.chan? ch = some c ∧ s.dram.key.isSome = true ∧ c.state = 2 ∧
      c.lineKind line = .mac lv n :=
  ⟨chan 2 dev, 0, 939524096, 0, 0, _, rfl, rfl, rfl, (by decide +kernel)⟩

theorem witness_MemoryUpkeepRuns_2 :
    ∃ (s : State) (ch line : Nat) (c : Channel), s.chan? ch = some c ∧ s.dram.key.isSome = true ∧ c.state = 2 ∧
      c.lineKind line = .data ∧ ((s.cacheAt ch line).isSome = true ∨ (s.workAt ch line).isSome = true) :=
  ⟨{ chan 2 dev with dram := { (chan 2 dev).dram with cacheFrames := [⟨0, 0, keyPageObj 0 0⟩] } }, 0, 0, _, rfl, rfl, rfl, (by
    decide +kernel), (Or.inl rfl)⟩

theorem witness_MemoryUpkeepRuns_3 :
    ∃ (s : State) (ch : Nat) (c : Channel), s.chan? ch = some c ∧ c.state = 2 ∧ s.dram.key.isSome = true ∧ c.scrubBlock ≤ c.blocks ∧
      s.dram.selfRefresh = false :=
  ⟨dev, 0, _, rfl, rfl, rfl, (by decide), rfl⟩

theorem witness_MemoryUpkeepRuns_4 :
    ∃ (s : State) (ch pos rank n : Nat) (counts : List (Nat × Nat × Nat)) (c : Channel), s.chan? ch = some c ∧ c.state = 2 ∧
      minBy (fun (e : Nat × Nat × Nat) => 2 ^ 32 - e.2.2) counts = some (pos, rank, n) :=
  ⟨dev, 0, 3, 0, 2, [(3, 0, 2)], _, rfl, rfl, rfl⟩

theorem witness_ChannelActionsRun_1 :
    ∃ (s : State) (ch : Nat) (j : Job) (c : Channel), ch = s.targetOf j Reg.semChCmd ∧ s.chan? ch = some c :=
  ⟨dev, _, mj 0 [] [], _, rfl, rfl⟩

theorem witness_ChannelActionsRun_2 :
    ∃ (s a : State) (ch act : Nat), a = { s with dram := { s.dram with action := some (act, ch) } } :=
  ⟨dev, _, 0, 0, rfl⟩

theorem witness_ChannelActionsRun_4 :
    ∃ (s : State) (ch : Nat), s.dram.action = some (1, ch) :=
  ⟨{ dev with dram := { dev.dram with action := some (1, 0) } }, _, rfl⟩

theorem witness_ChannelActionsRun_5 :
    ∃ (s a : State) (ch : Nat), s.dram.action = some (2, ch) ∧ a = s.moveWork ch :=
  ⟨{ dev with dram := { dev.dram with action := some (2, 0) } }, _, 0, rfl, rfl⟩

theorem witness_WindowsAreJudged_1 :
    ∃ (s : State) (n : Nat) (raw : Bytes) (x : Source) (w : List Bool), s.ent.sources.find? (fun y => y.num == n) = some x ∧
      s.ent.state = 2 ∧ x.state = 2 ∧ s.ent.windowOf n raw = some w :=
  ⟨noise 2 dev, 0, zeros 256, _, List.replicate 1024 false, rfl, rfl, rfl, (by decide +kernel)⟩

theorem witness_WindowsAreJudged_2 :
    ∃ (s : State) (n : Nat) (raw : Bytes) (x : Source), s.ent.sources.find? (fun y => y.num == n) = some x ∧
      (s.ent.windowOf n raw = none ∨ s.ent.state ≠ 2 ∨ x.state ≠ 2) :=
  ⟨dev, 0, [], _, rfl, (by decide)⟩

theorem witness_WindowsAreJudged_3 :
    ∃ (s : State) (x : Source), x.run + 1 < s.fld Reg.entCtrl 23 21 :=
  ⟨dev, { num := 0 }, (by decide)⟩

theorem witness_WindowsAreJudged_4 :
    ∃ (s t : State) (test : Nat) (x : Source), s.fld Reg.entCtrl 23 21 ≤ x.run + 1 ∧
      t = (if x.leaving then (s.noteFailed x test).entActionDone else s.noteFailed x test).dropSource x.num :=
  ⟨dev, _, 1, { num := 0, run := 9 }, (by decide), rfl⟩

theorem witness_WindowsAreJudged_6 :
    ∃ (s : State) (n k : Nat) (a b : Bytes) (v w : List Bool), s.ent.windowOf n a = some v ∧ s.ent.windowOf n b = some w ∧
      s.ent.windowTest n v = some k ∧ s.ent.windowTest n w = some k :=
  ⟨noise 2 dev, 0, 0, zeros 256, List.replicate 256 0xAA, List.replicate 1024 false, List.replicate 1024 true, (by decide +kernel), (by
    decide +kernel), (by decide +kernel), (by decide +kernel)⟩

theorem witness_WindowsAreJudged_7 :
    ∃ (s : State) (n : Nat) (raw : Bytes) (x : Source) (w : List Bool), s.ent.sources.find? (fun y => y.num == n) = some x ∧
      s.ent.state = 2 ∧ x.state = 2 ∧ s.ent.windowOf n raw = some w ∧ s.ent.windowTest n w = none :=
  ⟨noise 2 dev, 0, List.replicate 256 0x88, _, (List.replicate 512 [false, true]).flatten, rfl, rfl, rfl, (by decide +kernel), (by
    decide +kernel)⟩

theorem witness_WindowsAreJudged_8 :
    ∃ (s : State) (n : Nat), s.ent.sources.find? (fun y => y.num == n) = none :=
  ⟨dev, 22, rfl⟩

theorem witness_EntropyServes_1 :
    ∃ (s t u v : State) (failed bad : List Nat) (ok : Bool), s.ent.state = 1 ∧
      bad = (s.ent.sources.filter (fun x => x.state == 1 && failed.contains x.num)).map (fun x => x.num) ∧
      t =
        { s with ent := { s.ent with sources := s.ent.sources.map (fun x => if x.state = 1 ∧ !failed.contains x.num then { x with state := 2 } else x) } }
        ∧ u = forEach bad (fun n s => s.dropSource n) t ∧
      v = (if ok = false then (u.notice Reg.entNotice 3).entFail 0x02 else if u.ent.rate < 4 * u.ent.budget then u.entFail 0x03 else
        { u with ent := { u.ent with state := 2 } }) :=
  ⟨{ dev with ent := { dev.ent with state := 1 } }, _, _, _, [1], _, true, rfl, rfl, rfl, rfl, rfl⟩

theorem witness_EntropyServes_2 :
    ∃ (s : State), s.ent.state ≠ 1 :=
  ⟨dev, (by decide)⟩

theorem witness_EntropyServes_3 :
    ∃ (s a : State) (p n : Nat) (pr : Bool) (r : EntReq), (s.part? p).isSome = true ∧
      a = State.notePool (if s.ent.waiting.any (fun r => r.part == p && r.len == n && r.pr == pr) then s else
        { s with ent := { s.ent with waiting := s.ent.waiting ++ [{ part := p, len := n, pr := pr, job := none }] } }) ∧
      a.oldestReq p = some r :=
  ⟨dev, _, 0, 0, true, _, rfl, rfl, rfl⟩

theorem witness_EntropyServes_5 :
    ∃ (s : State) (t : Nat) (j : Job), TileReady s t Op.rngGenerate j :=
  ⟨run (tj Op.rngGenerate [] [] [] []) [] dev, 0, _, run_ready _ _ _ _ rfl rfl rfl rfl rfl rfl⟩

theorem witness_EntropyServes_6 :
    ∃ (s : State) (t : Nat) (j : Job), TileReady s t Op.rngStatus j :=
  ⟨run (tj Op.rngStatus [] [] [] []) [] dev, 0, _, run_ready _ _ _ _ rfl rfl rfl rfl rfl rfl⟩

theorem witness_EntropyActionsRun_1 :
    ∃ (s a : State) (n : Nat) (j : Job), n = s.targetOf j Reg.entCmd ∧ n < 22 ∧ s.ent.action = none ∧ a = s.keepTarget j Reg.entCmd :=
  ⟨dev, _, _, mj 0 [] [], rfl, (by decide), rfl, rfl⟩

theorem witness_EntropyActionsRun_2 :
    ∃ (s : State) (j : Job), s.targetOf j Reg.entCmd < 22 ∧ s.ent.action ≠ none :=
  ⟨{ dev with ent := { dev.ent with action := some (1, 2) } }, wj Reg.entCmd 1, (by decide), (by decide)⟩

theorem witness_TablesAndTilesAct_1 :
    ∃ (s : State) (q ix : Nat) (j : Job), CtlReady s q ix Op.prtStage j :=
  ⟨put (mj Op.prtStage [] (tableBytes defaultTable)) (dev), 0, 0, _, put_ready _ _ _ rfl rfl rfl rfl rfl rfl⟩

theorem witness_TablesAndTilesAct_2 :
    ∃ (s : State) (q ix : Nat) (j : Job), CtlReady s q ix Op.prtApply j :=
  ⟨put (mj Op.prtApply [] []) dev, 0, 0, _, put_ready _ _ _ rfl rfl rfl rfl rfl rfl⟩

theorem witness_TablesAndTilesAct_3 :
    ∃ (s : State) (q ix : Nat) (j : Job), CtlReady s q ix Op.prtQuery j :=
  ⟨put (mj Op.prtQuery [] []) dev, 0, 0, _, put_ready _ _ _ rfl rfl rfl rfl rfl rfl⟩

theorem witness_TablesAndTilesAct_4 :
    ∃ (s : State) (r : Restart), s.tabs.restart = some r :=
  ⟨{ dev with tabs := { dev.tabs with restart := some { job := none, opcode := Op.prtApply, step := 1, changed := [], startedAt := 0 } } },
    _, rfl⟩

theorem witness_TablesAndTilesAct_5 :
    ∃ (s a b : State) (r : Restart), s.tabs.restart = some r ∧ a = s.applyStaged r.changed ∧
      b = { a with tabs := { a.tabs with restart := none } } :=
  ⟨{ dev with tabs := { dev.tabs with restart := some { job := none, opcode := Op.prtApply, step := 1, changed := [], startedAt := 0 } } },
    _, _, _, rfl, rfl, rfl⟩

theorem witness_TablesAndTilesAct_7 :
    ∃ (s : State) (j : Job) (t : Tile), s.tile? (s.selOf j.queue Reg.tilTsel) = some t :=
  ⟨dev, mj 0 [] [], _, rfl⟩

theorem witness_TablesAndTilesAct_8 :
    ∃ (s : State) (t : Nat) (x : Tile), s.tile? t = some x :=
  ⟨dev, 0, _, rfl⟩

theorem witness_TablesAndTilesAct_9 :
    ∃ (s : State) (t : Nat) (x : Tile) (c : Course), s.tile? t = some x ∧ x.state = 5 ∧ s.course? (courseOf t) = some c ∧ c.scrState ≠ 0 :=
  ⟨{  dev with tiles := [{ num := 0, state := 5 }] , courses := [{ num := 0, scrState := 1 }] }, 0, _, _, rfl, rfl, rfl, (by decide)⟩

theorem witness_LifeCycleAndDebug_1 :
    ∃ (s : State) (q ix : Nat) (j : Job), CtlReady s q ix Op.lcyTransition j :=
  ⟨put (mj Op.lcyTransition [] []) dev, 0, 0, _, put_ready _ _ _ rfl rfl rfl rfl rfl rfl⟩

theorem witness_LifeCycleAndDebug_2 :
    ∃ (s a : State) (q ix : Nat) (j : Job), CtlReady s q ix Op.userErase j ∧ a = ((s.done j).purge).zeroize :=
  ⟨put (mj Op.userErase [] []) dev, _, 0, 0, _, put_ready _ _ _ rfl rfl rfl rfl rfl rfl, rfl⟩

theorem witness_LifeCycleAndDebug_3 :
    ∃ (s : State) (q ix v : Nat) (j : Job), CtlReady s q ix Op.lcySvnAdvance j ∧ v = j.desc.p8 48 :=
  ⟨put (mj Op.lcySvnAdvance [] []) dev, 0, 0, _, _, put_ready _ _ _ rfl rfl rfl rfl rfl rfl, rfl⟩

theorem witness_LifeCycleAndDebug_4 :
    ∃ (s : State) (q ix : Nat) (j : Job), CtlReady s q ix Op.debugChallenge j :=
  ⟨put (mj Op.debugChallenge [] []) dev, 0, 0, _, put_ready _ _ _ rfl rfl rfl rfl rfl rfl⟩

theorem witness_LifeCycleAndDebug_5 :
    ∃ (s : State) (q ix : Nat) (j : Job), CtlReady s q ix Op.debugOpen j :=
  ⟨put (mj Op.debugOpen [] []) dev, 0, 0, _, put_ready _ _ _ rfl rfl rfl rfl rfl rfl⟩

theorem witness_SealedQueuesAgreeKeys_1 :
    ∃ (s : State) (t : Nat) (j : Job) (q : Qp), TileReady s t Op.qpSealOffer j ∧ s.qp? j.queue = some q :=
  ⟨run (tj Op.qpSealOffer [] [] [] []) [] dev, 0, _, _, run_ready _ _ _ _ rfl rfl rfl rfl rfl rfl, rfl⟩

theorem witness_SealedQueuesAgreeKeys_2 :
    ∃ (s : State) (t : Nat) (j : Job) (q : Qp), TileReady s t Op.qpSealEstablish j ∧ s.qp? j.queue = some q :=
  ⟨run (tj Op.qpSealEstablish [] [] [] []) [] (dev), 0, _, _, run_ready _ _ _ _ rfl rfl rfl rfl rfl rfl, rfl⟩

theorem witness_SealedQueuesAgreeKeys_3 :
    ∃ (s : State) (t : Nat) (j : Job) (out : Bytes), TileReady s t Op.attest j ∧
      out = coseSign s.guard.identity (s.attestMap j.part j.input) (shake256 80 j.entropy) :=
  ⟨run (tj Op.attest [] [] [] []) [] dev, 0, _, _, run_ready _ _ _ _ rfl rfl rfl rfl rfl rfl, rfl⟩

theorem witness_MonitorsFireTheirSources_1 :
    ∃ (rail : Nat), rail < 8 :=
  ⟨0, (by decide)⟩

theorem witness_MonitorsFireTheirSources_2 :
    ∃ (s : State) (src : Nat), bitsOf 9 9 (s.reg Reg.vltSrcCfg src) = 0 :=
  ⟨{ dev with regs := [(regKey Reg.vltSrcCfg 0, 0)] }, 0, rfl⟩

theorem witness_MonitorsFireTheirSources_3 :
    ∃ (s : State) (src : Nat), s.power.mode = .vault ∧ armedOnCells src = false :=
  ⟨State.reset, 0, rfl, rfl⟩

theorem witness_MonitorsFireTheirSources_4 :
    ∃ (s a : State) (rx : List (BitVec 16)) (bad : Nat), bad = bitmap 8 (fun k => rx.getD k 0 ≠ s.guard.lfsr.getD k 0) ∧
      a = { s with guard := { s.guard with meshFault := BitVec.ofNat 8 bad, lfsr := s.guard.lfsr.map Config.lfsrNext } } :=
  ⟨dev, _, List.replicate 8 0, _, rfl, rfl⟩

theorem witness_MonitorsFireTheirSources_5 :
    ∃ (s a : State) (opened bad hit : BitVec 4), bad = opened ^^^ BitVec.ofNat 4 (s.fld Reg.vltPhys 15 12) ∧
      hit = bad &&& s.guard.encLast &&& BitVec.ofNat 4 (s.fld Reg.vltPhys 11 8) ∧
      a = { s with guard := { s.guard with encState := bad, encLast := bad } } :=
  ⟨dev, _, 1, _, _, rfl, rfl, rfl⟩

theorem witness_MonitorsFireTheirSources_6 :
    ∃ (s a b : State) (island percent : Nat) (stopped : Bool), island ≤ 59 ∧ (s.power.mode ≠ .vault ∨ (island = 56 ∧ stopped = true)) ∧
      a = (if island < 48 ∧ s.power.mode ≠ .vault then s.modTile island (fun t =>
        { t with freq := if stopped then 0 else 1600 * percent / 100 }) else s) ∧
      b =
        { a with guard := { a.guard with stopped := if stopped then insertBy id island (a.guard.stopped.filter (· ≠ island)) else a.guard.stopped.filter (· ≠ island) } } :=
  ⟨dev, _, _, 0, 0, true, (by decide), (by decide), rfl, rfl⟩

theorem witness_MonitorsFireTheirSources_7 :
    ∃ (s a b : State) (temps die : List Int) (live : List Nat) (cells : Bool), cells = (s.power.mode == .vault) ∧
      die = (List.range 10).map (fun k => if cells && k ≠ 9 then s.thermal.die.getD k 0 else temps.getD k (s.thermal.die.getD k 0)) ∧
      live = (if cells then [9] else List.range 10) ∧
      a = (if cells then { s with thermal := { s.thermal with die := die } } else State.fanControl
        { s with thermal := { s.thermal with die := die } }) ∧
      b = (match live.find? (fun k => decide (die.getD k 0 < a.tempLow)) with | some k => a.fire 7 monitorIsland k | none => a) :=
  ⟨dev, _, _, [48], _, _, _, rfl, rfl, rfl, rfl, rfl⟩

theorem witness_MonitorsFireTheirSources_8 :
    ∃ (s a : State) (n mv : Nat), n < 2 ∧ a = s.modCell n (fun c => { c with mv := mv, state := if c.state = 5 then 5 else 0 }) :=
  ⟨dev, _, 0, 0, (by decide), rfl⟩

theorem witness_MonitorsFireTheirSources_9 :
    ∃ (src : Nat), src < 12 :=
  ⟨0, (by decide)⟩

theorem witness_EpisodesOpenAndEnd_1 :
    ∃ (s a : State) (src : Nat) (v : Vault), bitsOf 9 9 (s.reg Reg.vltSrcCfg src) ≠ 0 ∧
      (s.power.mode ≠ .vault ∨ armedOnCells src = true) ∧ (levelSource src = false ∨ s.guard.active.getLsbD src = false) ∧
      v = (if s.vault.episode then s.vault else { s.vault with episode := true, fired := 0, performed := 0, counted := [] }) ∧
      a = State.notice
        { s with guard := { s.guard with active := s.guard.active ||| BitVec.ofNat 12 (2 ^ src), quietSince := none, counts := s.guard.counts.modify src (fun n => min 65535 (n + 1)) }, vault := { v with fired := v.fired ||| BitVec.ofNat 12 (2 ^ src) } }
        Reg.vltFired src :=
  ⟨dev, _, 0, _, (by decide), (by decide), (by decide), rfl, rfl⟩

theorem witness_EpisodesOpenAndEnd_2 :
    ∃ (s a : State) (t : Nat), s.guard.quietSince = some t ∧ a = s.advanceTo (max s.clock.mono (t + 10 ^ 9)) :=
  ⟨{ dev with guard := { dev.guard with quietSince := some 0 }, vault := { dev.vault with episode := true } }, _, _, rfl, rfl⟩

theorem witness_EpisodesOpenAndEnd_3 :
    ∃ (s : State), s.guard.quietSince = none :=
  ⟨dev, rfl⟩

theorem witness_EpisodesOpenAndEnd_4 :
    ∃ (s : State) (q ix : Nat) (j : Job), CtlReady s q ix Op.tamperClear j :=
  ⟨put (mj Op.tamperClear [] []) dev, 0, 0, _, put_ready _ _ _ rfl rfl rfl rfl rfl rfl⟩

theorem witness_EpisodesOpenAndEnd_6 :
    ∃ (s a : State) (fails : List RowFail), a = (State.sealTables (State.marchAll s.placeSecrets fails)).resolvePins :=
  ⟨dev, _, [], rfl⟩

theorem witness_VaultsAreKeptAndAdopted_1 :
    ∃ (s : State) (b : Nat), b = (s.vault.refresh.map Prod.fst).getD 0 :=
  ⟨dev, _, rfl⟩

theorem witness_VaultsAreKeptAndAdopted_2 :
    ∃ (s : State), s.power.mode = .vault :=
  ⟨State.reset, rfl⟩

theorem witness_VaultsAreKeptAndAdopted_3 :
    ∃ (s : State), s.power.mode ≠ .vault :=
  ⟨dev, (by decide)⟩

theorem witness_VaultsAreKeptAndAdopted_4 :
    ∃ (s : State) (q ix : Nat) (j : Job), CtlReady s q ix Op.vaultAdopt j :=
  ⟨put (mj Op.vaultAdopt [] []) dev, 0, 0, _, put_ready _ _ _ rfl rfl rfl rfl rfl rfl⟩

theorem witness_CellsAreKept_1 :
    ∃ (s a : State) (x y : Nat), a = (s.drawSupply.modCell 0 (fun c => { c with mv := x })).modCell 1 (fun c => { c with mv := y }) :=
  ⟨dev, _, 3000, 3100, rfl⟩

theorem witness_CellsAreKept_2 :
    ∃ (s a b : State) (n mv ma : Nat), n < 2 ∧
      a = s.modCell n (fun c =>
        { (if c.state = 4 then c.charged ma s.clock.mono else { c with gaugedAt := some s.clock.mono }) with mv := mv }) ∧
      b = a.modCell n (fun c => { c with state := if c.state = 4 then 1 else c.state, constVolt := false, gaugedAt := none }) :=
  ⟨dev, _, _, 0, 0, 0, (by decide), rfl, rfl⟩

theorem witness_CellsAreKept_3 :
    ∃ (n : Nat), n < 2 :=
  ⟨0, (by decide)⟩

theorem witness_CellsAreKept_5 :
    ∃ (s a : State) (n mv : Nat), n < 2 ∧
      a = s.modCell n (fun c => { (c.drawn 10 (10 ^ 9)) with testing := false, rint := (c.mv - mv) / 10 }) :=
  ⟨dev, _, 0, 0, (by decide), rfl⟩

theorem witness_CellsAreKept_6 :
    ∃ (s a : State) (n k : Nat), n < 2 ∧ (s.guard.cell n).pulses = some k ∧
      a = s.modCell n (fun c => { (c.drawn 20 (10 ^ 8)) with pulses := none, testing := c.testAfter, testAfter := false }) :=
  ⟨{ dev with guard := { dev.guard with cellA := { mv := 3600, state := 1, pulses := some 3 } } }, _, 0, _, (by decide), rfl, rfl⟩

theorem witness_CellsAreKept_7 :
    ∃ (s a : State) (n mv : Nat), n < 2 ∧ a = s.drawSupply.modCell n (fun c => { c with mv := mv }) :=
  ⟨dev, _, 0, 0, (by decide), rfl⟩

theorem witness_CellsAreKept_8 :
    ∃ (s a : State) (n : Nat) (j : Job), n = s.targetOf j Reg.vltCellCmd ∧ a = s.keepTarget j Reg.vltCellCmd :=
  ⟨dev, _, _, mj 0 [] [], rfl, rfl⟩

theorem witness_CellsAreKept_9 :
    ∃ (n : Nat), n < 2 :=
  ⟨0, (by decide)⟩

theorem witness_CellsAreKept_10 :
    ∃ (s a : State) (n t : Nat), n < 2 ∧ (s.guard.cell n).holdUntil = some t ∧
      a = (s.advanceTo (max s.clock.mono t)).modCell n (fun c => { c with holdUntil := none }) :=
  ⟨{ dev with guard := { dev.guard with cellA := { mv := 3600, state := 5, holdUntil := some 9 } } }, _, 0, _, (by decide), rfl, rfl⟩

theorem witness_FeedsAndSwitchovers_1 :
    ∃ (s a : State) (mv : Nat), 
      a = (s.feedGone s.power.active).setPower ((s.feedGone s.power.active).power.sense s.power.active mv false true) :=
  ⟨dev, _, 10000, rfl⟩

theorem witness_FeedsAndSwitchovers_2 :
    ∃ (s a : State) (n mv : Nat), a = (s.feedGone n).setPower { ((s.feedGone n).power.sense n mv false true) with returnSince := none } :=
  ⟨dev, _, 0, 0, rfl⟩

theorem witness_FeedsAndSwitchovers_3 :
    ∃ (s a : State) (w : Switchover), s.power.switching = some w ∧
      a = s.advanceTo (max s.clock.mono (w.startedAt + 1000 * s.fld Reg.pwrCtrl 6 2)) :=
  ⟨{ dev with power := { dev.power with gateA := false, goodB := true, switching := some { target := 1, step := 1, bySelect := false, startedAt := 0, pausedAt := 0 } } },
    _, _, rfl, rfl⟩

theorem witness_FeedsAndSwitchovers_5 :
    ∃ (s a b : State) (w : Switchover), s.power.switching = some w ∧ a = s.advanceTo (max s.clock.mono (w.pausedAt + 1000)) ∧
      b = ((a.setPower
        { (a.power.gate w.target true) with active := w.target, lastSwitch := (a.clock.mono - w.startedAt) / 100, switching := some { w with step := 4 } }).bump
        Reg.pwrSwitches).notice Reg.pwrNotice 0 :=
  ⟨{ dev with power := { dev.power with gateA := false, goodB := true, switching := some { target := 1, step := 2, bySelect := false, startedAt := 0, pausedAt := 0 } } },
    _, _, _, rfl, rfl, rfl⟩

theorem witness_FeedsAndSwitchovers_6 :
    ∃ (s a b : State) (w : Switchover) (pause : Nat), s.power.switching = some w ∧ pause = (s.clock.mono - w.pausedAt) / 100 ∧
      a = s.setPower { s.power with paused := false, lastPause := pause, switching := none, heldOut := none } ∧
      b = forEach (List.range 48) (fun t s => s.flowTile t) (a.devEvent 2 0x0A01 monitorIsland (leBytes 1 a.power.active ++ zeros 3 ++
        leBytes 4 pause)) :=
  ⟨{ dev with power := { dev.power with gateA := false, goodB := true, switching := some { target := 1, step := 4, bySelect := false, startedAt := 0, pausedAt := 0 } } },
    _, _, _, _, rfl, rfl, rfl, rfl⟩

theorem witness_FeedsAndSwitchovers_7 :
    ∃ (s : State), s.power.switching = none :=
  ⟨dev, rfl⟩

theorem witness_FeedsAndSwitchovers_8 :
    ∃ (s a b : State) (n mv : Nat), a = (s.feedGone n).notice Reg.pwrNotice 3 ∧
      b = State.fire (a.setPower
        { ((a.power.sense n mv false false).gate n false) with returnSince := if n = a.power.active then a.power.returnSince else none })
        2 monitorIsland n :=
  ⟨dev, _, _, 0, 0, rfl, rfl⟩

theorem witness_FeedsAndSwitchovers_9 :
    ∃ (s a b : State) (n mv : Nat) (cancel : Bool), a = (if s.power.good n then s else s.notice Reg.pwrNotice 2) ∧
      cancel = (n == a.power.active && (a.power.switching.map (fun w => w.step == 1)).getD false) ∧
      b = a.setPower
        { (a.power.sense n mv true false) with returnSince := (if !s.power.good n && a.powered && n ≠ a.power.active && n == a.fld Reg.pwrCtrl 0 0 then some a.clock.mono else (a.power.sense n mv true false).returnSince), switching := (if cancel then none else (a.power.sense n mv true false).switching), heldOut := (if cancel then none else (a.power.sense n mv true false).heldOut) } :=
  ⟨dev, _, _, 0, 0, _, rfl, rfl, rfl⟩

theorem witness_FeedsAndSwitchovers_10 :
    ∃ (s a : State) (t n : Nat), s.power.returnSince = some t ∧ s.fld Reg.pwrCtrl 0 0 = n ∧
      a = s.advanceTo (max s.clock.mono (t + 10 ^ 9)) :=
  ⟨{  dev with power := { dev.power with goodA := true, active := 1, gateA := false, gateB := true, returnSince := some 0 } , regs := [(regKey Reg.pwrCtrl 0, 2)] },
    _, _, 0, rfl, rfl, rfl⟩

theorem witness_FeedsAndSwitchovers_11 :
    ∃ (s : State), s.power.returnSince = none :=
  ⟨dev, rfl⟩

theorem witness_FeedsAndSwitchovers_12 :
    ∃ (s : State) (q ix : Nat) (j : Job), ActReady s q ix Reg.pwrCmd 1 0 1 j :=
  ⟨put (wj Reg.pwrCmd 1) dev, 0, 0, _, ⟨put_ready _ _ _ rfl rfl rfl rfl rfl rfl, rfl, by decide, rfl⟩⟩

theorem witness_FeedsAndSwitchovers_13 :
    ∃ (s : State) (q ix : Nat) (j : Job), ActReady s q ix Reg.pwrCmd 1 0 2 j :=
  ⟨put (wj Reg.pwrCmd 2) dev, 0, 0, _, ⟨put_ready _ _ _ rfl rfl rfl rfl rfl rfl, rfl, by decide, rfl⟩⟩

theorem witness_ThermalGuardRuns_1 :
    ∃ (s t : State) (a b : Option Int), t = (s.readSensors a b).noteBelow :=
  ⟨dev, _, some 20, some 21, rfl⟩

theorem witness_ThermalGuardRuns_4 :
    ∃ (s : State), s.fld Reg.thgFan 22 16 ≤ 100 :=
  ⟨{ dev with regs := [(regKey Reg.thgCtrl 0, 0)] }, (by decide)⟩

theorem witness_ThermalGuardRuns_5 :
    ∃ (s a : State) (rpm : Nat) (stalled : Bool), 
      stalled = (s.powered && decide (rpm < 100 * s.fld Reg.thgFan 31 23) && decide (30 < s.thermal.fanDuty)) ∧
      a = { s with thermal := { s.thermal with rpm := rpm, stalled := stalled } } :=
  ⟨dev, _, 0, _, rfl, rfl⟩

theorem witness_PortsAndFlowControl_1 :
    ∃ (s a : State) (n k : Nat), a = (s.linkUp n k).portFirmware :=
  ⟨dev, _, 0, 0, rfl⟩

theorem witness_PortsAndFlowControl_4 :
    ∃ (s : State) (q ix : Nat) (j : Job), CtlReady s q ix Op.cfgWrite j :=
  ⟨put (mj Op.cfgWrite [] []) dev, 0, 0, _, put_ready _ _ _ rfl rfl rfl rfl rfl rfl⟩

theorem witness_PortsAndFlowControl_10 :
    ∃ (s a : State) (n len : Nat), a = s.modPort n (fun x => { x with rxLevel := min (2 ^ 21) len }) :=
  ⟨dev, _, 0, 0, rfl⟩

theorem witness_PortsAndFlowControl_13 :
    ∃ (s t : State) (q : Nat) (x y : Qp), s.qp? q = some x ∧ exec (.cnpRx q) s = .next t ∧ t.qp? q = some y :=
  ⟨dev, _, 0, _, _, rfl, rfl, rfl⟩

theorem witness_PortsAndFlowControl_14 :
    ∃ (s a : State), a = s.advanceTo (s.clock.mono + 1000 * s.fld Reg.hqiCc 23 12) :=
  ⟨dev, _, rfl⟩

theorem witness_TimeIsDisciplined_1 :
    ∃ (s a : State) (n : Nat) (off : Int) (d : Nat) (c : Clock), c = ((s.clock.heard n).count n off).setDelay n d ∧
      a = State.logCorrection { s with clock := c } off :=
  ⟨dev, _, 0, 0, 0, _, rfl, rfl⟩

theorem witness_TimeIsDisciplined_4 :
    ∃ (n : Nat), n < 2 :=
  ⟨1, (by decide)⟩

theorem witness_TimeIsDisciplined_6 :
    ∃ (s a : State) (n : Nat) (c : Clock), 
      a = s.advanceTo (max s.clock.mono ((if n = 0 then s.clock.lastPtpA else s.clock.lastPtpB) + 2 * 10 ^ 9)) ∧ c = a.clock.setRun n 0 :=
  ⟨dev, _, 0, _, rfl, rfl⟩

theorem witness_ColdStartsRun_1 :
    ∃ (s a b : State) (cut : Option Nat) (r : Bool), a = s.coldBegin.coldLife cut ∧ a.coldVault.coldSecrets.coldImage = (b, r) :=
  ⟨dev, _, _, none, _, rfl, rfl⟩

theorem witness_PowerModesChange_1 :
    ∃ (s : State) (q ix : Nat) (j : Job), CtlReady s q ix Op.powerModeSet j :=
  ⟨put (mj Op.powerModeSet [] []) (dev), 0, 0, _, put_ready _ _ _ rfl rfl rfl rfl rfl rfl⟩

theorem witness_PowerModesChange_2 :
    ∃ (s a : State), a = s.resetTiles :=
  ⟨dev, _, rfl⟩

theorem witness_PowerModesChange_3 :
    ∃ (s a : State) (fails : List RowFail) (bad : List (Nat × Nat)), a = (s.marchAll fails).testTiles bad :=
  ⟨dev, _, [], [], rfl⟩

theorem witness_PairPathsRun_1 :
    ∃ (s a : State) (w : Option Nat), 
      w = (if s.pair.role ≠ 1 then s.pair.svcLostAt else if s.svcLink then none else some (s.pair.svcLostAt.getD s.clock.mono)) ∧
      a = s.modPair (fun p => { p with svcLostAt := w }) :=
  ⟨pairAs 1 2 0 dev, _, _, rfl, rfl⟩

theorem witness_PairPathsRun_2 :
    ∃ (s a : State) (hb : Heartbeat), a = ((s.modPair (fun p => p.note hb s.clock.mono)).followStandby hb).peerAlive :=
  ⟨pairAs 2 1 0 dev, _, { member := 1, role := 1, sync := 2, sent := 0, applied := 0, term := 1, svcLink := true, failing := false },
    rfl⟩

theorem witness_PairPathsRun_3 :
    ∃ (s a b : State), a = s.advanceTo (max s.clock.mono (s.pair.lastBeat + 50000 * (s.pair.missed + 2))) ∧
      b = (a.modPair (fun p => { p with missed := s.pair.missed + 1 })).bump Reg.mirHbMisses :=
  ⟨dev, _, _, rfl, rfl⟩

theorem witness_PairPathsRun_7 :
    ∃ (s a : State) (t : Nat), s.pair.svcLostAt = some t ∧ a = s.advanceTo (max s.clock.mono (t + 2 * 10 ^ 6)) :=
  ⟨{ dev with pair := { role := 2, svcLostAt := some 5 } }, _, _, rfl, rfl⟩

theorem witness_PairPathsRun_8 :
    ∃ (s : State), s.pair.svcLostAt = none :=
  ⟨dev, rfl⟩

theorem witness_PairPathsRun_9 :
    ∃ (s a : State) (own : Bytes), s.draw 32 = (own, a) :=
  ⟨dev, _, _, rfl⟩

theorem witness_PairPathsRun_10 :
    ∃ (s a : State), a = s.modPair (fun p => { p with lanes := 0, lanesAt := none }) :=
  ⟨dev, _, rfl⟩

theorem witness_MirroringRuns_1 :
    ∃ (s : State) (cmp swp : Nat), s.pair.cas = some (cmp, swp, none) :=
  ⟨{ dev with pair := { role := 1, cas := some (1, 2, none) } }, _, _, rfl⟩

theorem witness_MirroringRuns_2 :
    ∃ (s a : State) (cmp swp : Nat), s.pair.cas = some (cmp, swp, none) ∧ a = s.advanceTo (s.clock.mono + 200000) :=
  ⟨{ dev with pair := { role := 1, cas := some (1, 2, none) } }, _, _, _, rfl, rfl⟩

theorem witness_MirroringRuns_3 :
    ∃ (s : State), s.pair.cas = none :=
  ⟨dev, rfl⟩

theorem witness_MirroringRuns_4 :
    ∃ (s a : State) (p : Pairing), s.pair.cas = none ∧ s.pairing = some p ∧ a = s.advanceTo (s.clock.mono + 10 ^ 7) :=
  ⟨retains pairing0 { dev with pair := { role := 3, wasActive := true } }, _, _, rfl, rfl, rfl⟩

theorem witness_MirroringRuns_5 :
    ∃ (s a : State) (b : MirBatch), a = (if b.tagsOk then s else s.notice Reg.mirNotice 8) :=
  ⟨pairAs 2 2 0 dev, _,
    { seq := 1, hasEnd := true, tagsOk := true, epoch := 1, root := [], images := [], changes := [], journal := [] }, rfl⟩

theorem witness_MirroringRuns_7 :
    ∃ (s a : State), 
      a = State.sendRecords 16 ((s.pair.dirty.take 1024).filterMap (fun n => (s.qp? n).map Qp.transport)) (s.modPair (fun p =>
        { p with dirty := p.dirty.drop 1024 })) :=
  ⟨pairAs 1 2 0 dev, _, rfl⟩

theorem witness_MirroringRuns_8 :
    ∃ (s : State), s.pair.role = 2 :=
  ⟨pairAs 2 2 0 dev, rfl⟩

theorem witness_MirroringRuns_9 :
    ∃ (s : State), s.pair.role ≠ 2 :=
  ⟨pairAs 1 2 0 dev, (by decide)⟩

theorem witness_MirroringRuns_12 :
    ∃ (s : State), s.adopting 1 = none :=
  ⟨dev, rfl⟩

theorem witness_MirroringRuns_13 :
    ∃ (s : State) (n : Nat), (s.qp? n = none ∨ s.pair.role ≠ 1 ∨ s.power.mode ≠ .serving ∨ (∃ q, s.qp? n = some q ∧ q.resumed = true)) :=
  ⟨dev, 0, (by decide)⟩

theorem witness_MirroringRuns_14 :
    ∃ (s : State) (n : Nat) (q : Qp) (t : TransportRec), s.pair.role = 1 ∧ s.qp? n = some q ∧ q.resumed = false ∧
      s.power.mode = .serving ∧ s.pair.transport.find? (fun x => x.queue == n) = some t ∧ t.state = 4 :=
  ⟨{ dev with pair := { role := 1, transport := [{ queue := 0, state := 4, sqDoorbell := 0, cqDoorbell := 0, fetchIndex := 0, cqConfirmed := 0, sendPsn := 0, recvPsn := 0 }] }, qps := [{ qpair 0 with resumed := false }] },
    0, _, _, rfl, rfl, rfl, rfl, rfl, rfl⟩

theorem witness_PairCommandsRun_1 :
    ∃ (s : State) (q ix : Nat) (j : Job), CtlReady s q ix Op.pairQuery j :=
  ⟨put (mj Op.pairQuery [] []) (dev), 0, 0, _, put_ready _ _ _ rfl rfl rfl rfl rfl rfl⟩

theorem witness_PairCommandsRun_2 :
    ∃ (s : State) (q ix : Nat) (j : Job), CtlReady s q ix Op.pairSwitch j :=
  ⟨put (mj Op.pairSwitch [] []) (dev), 0, 0, _, put_ready _ _ _ rfl rfl rfl rfl rfl rfl⟩

theorem witness_PairCommandsRun_3 :
    ∃ (s a b : State) (q ix : Nat) (j : Job), CtlReady s q ix Op.pairUnbind j ∧ a = (if s.pair.role = 2 then s.zeroize else s) ∧
      b =
        { a with pair := { lanes := a.pair.lanes }, net := { a.net with announces := true }, qps := a.qps.map (fun q => { q with resumed := true }) } :=
  ⟨put (mj Op.pairUnbind [] []) dev, _, _, 0, 0, _, put_ready _ _ _ rfl rfl rfl rfl rfl rfl, rfl, rfl⟩

theorem witness_PairCommandsRun_4 :
    ∃ (s a : State) (q ix : Nat) (j : Job), CtlReady s q ix Op.pairUnfence j ∧ a = s.casEnds.winWitness s.pair.term :=
  ⟨put (mj Op.pairUnfence [] []) dev, _, 0, 0, _, put_ready _ _ _ rfl rfl rfl rfl rfl rfl, rfl⟩

theorem witness_PairCommandsRun_5 :
    ∃ (s a b : State) (q ix : Nat) (sec : Bytes) (j : Job) (p : Pairing), CtlReady s q ix Op.pairBind j ∧ p = parsePairing j.input ∧
      a = s.modJob j.id (fun k => { k with entropy := sec }) ∧
      b = (s.bringCtl j [.pairing (some p)] []).modPair (fun x =>
        { x with role := 2, sync := 1, peer := 0, term := 1, holder := 1 - p.member, secret := sec, missed := 0, lastBeat := (s.bringCtl j [.pairing (some p)] []).clock.mono, wasActive := false, path := if x.lanes ≠ 0 then 1 else (s.bringCtl j [.pairing (some p)] []).ethPath }) :=
  ⟨put (mj Op.pairBind [] []) dev, _, _, 0, 0, [], _, _, put_ready _ _ _ rfl rfl rfl rfl rfl rfl, rfl, rfl, rfl⟩

theorem witness_ConfigurationAndFirmwareRun_1 :
    ∃ (s : State) (q ix a n : Nat) (j : Job), CtlReady s q ix Op.cfgRead j ∧ j.desc.pLe 48 4 = a ∧ j.desc.pLe 52 2 = n :=
  ⟨put (mj Op.cfgRead (leBytes 4 0 ++ [4]) []) (dev), 0, 0, 0, 4, _, put_ready _ _ _ rfl rfl rfl rfl rfl rfl, rfl, rfl⟩

theorem witness_ConfigurationAndFirmwareRun_2 :
    ∃ (s : State) (q ix a : Nat) (j : Job), CtlReady s q ix Op.cfgWrite j ∧ a = j.cfgAddr :=
  ⟨put (mj Op.cfgWrite [] []) dev, 0, 0, _, _, put_ready _ _ _ rfl rfl rfl rfl rfl rfl, rfl⟩

theorem witness_ConfigurationAndFirmwareRun_4 :
    ∃ (s : State) (q ix : Nat) (j : Job) (l : List (BitVec 32 × BitVec 32 × BitVec 32)), CtlReady s q ix Op.cfgStage j ∧
      l = parseList j.input :=
  ⟨put (mj Op.cfgStage [] []) dev, 0, 0, _, _, put_ready _ _ _ rfl rfl rfl rfl rfl rfl, rfl⟩

theorem witness_ConfigurationAndFirmwareRun_5 :
    ∃ (s : State) (q ix : Nat) (j : Job), CtlReady s q ix Op.cfgApply j :=
  ⟨put (mj Op.cfgApply [] []) dev, 0, 0, _, put_ready _ _ _ rfl rfl rfl rfl rfl rfl⟩

theorem witness_ConfigurationAndFirmwareRun_6 :
    ∃ (s : State) (q ix : Nat) (j : Job), CtlReady s q ix Op.fwStage j :=
  ⟨put (mj Op.fwStage [] []) dev, 0, 0, _, put_ready _ _ _ rfl rfl rfl rfl rfl rfl⟩

theorem witness_ConfigurationAndFirmwareRun_8 :
    ∃ (s : State) (q ix n : Nat) (j : Job), CtlReady s q ix Op.fwWriteBank j ∧ n = j.desc.p8 48 :=
  ⟨put (mj Op.fwWriteBank [] []) dev, 0, 0, _, _, put_ready _ _ _ rfl rfl rfl rfl rfl rfl, rfl⟩

theorem witness_ConfigurationAndFirmwareRun_9 :
    ∃ (s a : State) (id : JobId) (n : Nat) (b : Bytes), s.io.flash.writing = some (id, n, b) ∧
      a = State.notice { s with io := { s.io with flash := { (s.io.flash.put n b) with writing := none } } } Reg.lioNotice 2 :=
  ⟨put (mj Op.fwWriteBank [1] []) { dev with io := { dev.io with flash := { writing := some ((0, 0), 1, [5]) } } }, _, _, _, _, rfl,
    rfl⟩

theorem witness_ConfigurationAndFirmwareRun_10 :
    ∃ (s a : State) (id : JobId) (n : Nat) (b junk : Bytes), s.io.flash.writing = some (id, n, b) ∧ s.draw b.length = (junk, a) :=
  ⟨put (mj Op.fwWriteBank [1] []) { dev with io := { dev.io with flash := { writing := some ((0, 0), 1, [5]) } } }, _, _, _, _, _, rfl,
    rfl⟩

theorem witness_ConfigurationAndFirmwareRun_11 :
    ∃ (s : State), s.io.flash.writing = none :=
  ⟨dev, rfl⟩

theorem witness_ConfigurationAndFirmwareRun_12 :
    ∃ (s : State) (q ix : Nat) (j : Job), CtlReady s q ix Op.fwActivate j :=
  ⟨put (mj Op.fwActivate [] []) (dev), 0, 0, _, put_ready _ _ _ rfl rfl rfl rfl rfl rfl⟩

theorem witness_ConfigurationAndFirmwareRun_13 :
    ∃ (s : State) (q ix : Nat) (j : Job), CtlReady s q ix Op.fwRelease j :=
  ⟨put (mj Op.fwRelease [] []) (dev), 0, 0, _, put_ready _ _ _ rfl rfl rfl rfl rfl rfl⟩

theorem witness_SessionsAndCeremoniesRun_1 :
    ∃ (s : State) (q ix : Nat) (j : Job), CtlReady s q ix Op.sessionChallenge j :=
  ⟨put (mj Op.sessionChallenge [] []) dev, 0, 0, _, put_ready _ _ _ rfl rfl rfl rfl rfl rfl⟩

theorem witness_SessionsAndCeremoniesRun_2 :
    ∃ (s : State) (q ix : Nat) (j : Job), CtlReady s q ix Op.sessionOpen j :=
  ⟨put (mj Op.sessionOpen [] []) dev, 0, 0, _, put_ready _ _ _ rfl rfl rfl rfl rfl rfl⟩

theorem witness_SessionsAndCeremoniesRun_4 :
    ∃ (s : State) (q ix : Nat) (j : Job), CtlReady s q ix Op.sessionClose j :=
  ⟨put (mj Op.sessionClose [] []) (dev), 0, 0, _, put_ready _ _ _ rfl rfl rfl rfl rfl rfl⟩

theorem witness_SessionsAndCeremoniesRun_6 :
    ∃ (s : State) (q ix n : Nat) (j : Job) (c : Ceremony), CtlReady s q ix Op.ceremonyBegin j ∧ n = (s.mgmt.ceremonies + 1) % 2 ^ 32 ∧
      c.num = n ∧ c.queue = j.queue ∧ c.joined = [] ∧ c.begunAt = s.clock.mono ∧
      c.dual = (if bitOf 0 (j.desc.p8 48) then some (j.desc.p8 49) else none) ∧ c.shares = [] ∧ c.estateKey = none ∧ c.genShares = [] ∧
      c.rebuilt = [] :=
  ⟨put (mj Op.ceremonyBegin [] []) dev, 0, 0, 1, _, ⟨_, _, _, _, _, _, _, _, _⟩, put_ready _ _ _ rfl rfl rfl rfl rfl rfl, rfl, rfl, rfl,
    rfl, rfl, rfl, rfl, rfl, rfl, rfl⟩

theorem witness_SessionsAndCeremoniesRun_7 :
    ∃ (s : State) (q ix : Nat) (j : Job), CtlReady s q ix Op.ceremonyJoin j :=
  ⟨put (mj Op.ceremonyJoin [] []) dev, 0, 0, _, put_ready _ _ _ rfl rfl rfl rfl rfl rfl⟩

theorem witness_SessionsAndCeremoniesRun_8 :
    ∃ (s : State) (q ix : Nat) (j : Job), CtlReady s q ix Op.ceremonyEnd j :=
  ⟨put (mj Op.ceremonyEnd [] []) dev, 0, 0, _, put_ready _ _ _ rfl rfl rfl rfl rfl rfl⟩

theorem witness_SessionsAndCeremoniesRun_9 :
    ∃ (s : State), s.mgmt.ceremony = none :=
  ⟨dev, rfl⟩

theorem witness_SessionsAndCeremoniesRun_10 :
    ∃ (s a : State) (c : Ceremony), s.mgmt.ceremony = some c ∧ a = s.advanceTo (max s.clock.mono (c.begunAt + 900 * 10 ^ 9)) :=
  ⟨{ dev with mgmt := { ceremony := some { num := 1, queue := 0, dual := none, joined := [(0, 1)], begunAt := 0 }, sessions := [{ queue := 0, actor := 3, ecKey := [], ctk := [1], lastUse := 0 }], actors := [{ idx := 3, role := 2, part := 0, share := 1, digest := [] }] } },
    _, _, rfl, rfl⟩

theorem witness_SessionsAndCeremoniesRun_11 :
    ∃ (s : State) (q ix i : Nat) (j : Job) (a : Actor), CtlReady s q ix Op.actorEnrol j ∧ i = j.desc.p8 48 ∧ a = parseActor i j.input :=
  ⟨put (mj Op.actorEnrol [] []) dev, 0, 0, _, _, _, put_ready _ _ _ rfl rfl rfl rfl rfl rfl, rfl, rfl⟩

theorem witness_SessionsAndCeremoniesRun_12 :
    ∃ (s : State) (q ix : Nat) (j : Job), CtlReady s q ix Op.actorRemove j :=
  ⟨put (mj Op.actorRemove [] []) dev, 0, 0, _, put_ready _ _ _ rfl rfl rfl rfl rfl rfl⟩

theorem witness_RecorderRuns_1 :
    ∃ (s a : State) (ring code : Nat) (b : Bucket), s.log.buckets.find? (fun x => x.ring == ring && x.code == code) = some b ∧
      a = s.advanceTo (b.at_ + ceilDiv (s.fld Reg.evrFlood 31 16 * 10 ^ 9 - b.tokens) (max 1 (s.fld Reg.evrFlood 15 0))) :=
  ⟨{ dev with log := { buckets := [{ ring := 256, code := 1, tokens := 0, at_ := 0, held := 2, last := { seq := 0, sev := 2, time := 0, code := 1, part := 0, island := 0, payload := zeros 32 } }] } },
    _, 256, 1, _, rfl, rfl⟩

theorem witness_RecorderRuns_2 :
    ∃ (s : State) (ring code : Nat), s.log.buckets.find? (fun x => x.ring == ring && x.code == code) = none :=
  ⟨dev, 0, 0, rfl⟩

theorem witness_RecorderRuns_3 :
    ∃ (s a : State) (ring n last : Nat) (r : Ring) (q : Qp) (e : Event) (es gaps now : List Event) (data : Bytes), 
      s.ring? ring = some r ∧ r.queue = some n ∧ s.qp? n = some q ∧ (q.state = 1 ∨ q.state = 3) ∧ r.waiting = e :: es ∧
      a = (if 128 ≤ r.waiting.length then s else s.advanceTo (r.waitSince.getD s.clock.mono + 20000)) ∧
      gaps = r.gaps a.clock.secure e.seq ∧ now = r.waiting.take (128 - gaps.length) ∧
      last = (now.getLast?.map (fun x => x.seq)).getD e.seq ∧ data = q.eventData r.evSeq ((gaps ++ now).flatMap eventBytes) :=
  ⟨{ dev with log := { rings := [{ num := 256, cap := 8, recs := [{ seq := 0, sev := 2, time := 0, code := 1, part := 0, island := 0, payload := zeros 32 }], nextSeq := 1, queue := some 0, waitSince := some 0 }] } },
    _, 256, 0, _, _, _, { seq := 0, sev := 2, time := 0, code := 1, part := 0, island := 0, payload := zeros 32 }, _, _, _, _, rfl, rfl,
    rfl, (by decide), rfl, rfl, rfl, rfl, rfl, rfl⟩

theorem witness_RecorderRuns_4 :
    ∃ (s : State) (ring : Nat), 
      ((∀ r, s.ring? ring = some r → r.waiting = [] ∨ ∀ q, r.queue.bind (fun n => s.qp? n) = some q → q.state ≠ 1 ∧ q.state ≠ 3)) :=
  ⟨dev, 0, (by decide)⟩

theorem witness_RecorderRuns_5 :
    ∃ (s : State) (t : Nat) (j : Job), TileReady s t Op.evqAttach j :=
  ⟨run (tj Op.evqAttach [3] [] [] []) [] (dev), 0, _, run_ready _ _ _ _ rfl rfl rfl rfl rfl rfl⟩

theorem witness_RecorderRuns_6 :
    ∃ (s : State) (t : Nat) (j : Job), TileReady s t Op.evqMark j :=
  ⟨run (tj Op.evqMark [] [] [] []) [] dev, 0, _, run_ready _ _ _ _ rfl rfl rfl rfl rfl rfl⟩

theorem witness_RecorderRuns_7 :
    ∃ (s a : State) (t : Nat) (j : Job), TileReady s t Op.evqRewind j ∧ a = s.voidSends j.queue :=
  ⟨run (tj Op.evqRewind [] [] [] []) [] dev, _, 0, _, run_ready _ _ _ _ rfl rfl rfl rfl rfl rfl, rfl⟩

theorem witness_CardPortsRun_2 :
    ∃ (s a b : State) (n : Nat) (ready : Bool), a = (if (s.card n).polls = 0 then s else s.advanceTo (s.clock.mono + 10 * 10 ^ 6)) ∧
      b = a.modCard n (fun p => { p with polls := p.polls + 1, trailing := 8, step := if ready then 1 else 0 }) :=
  ⟨dev, _, _, 0, true, rfl, rfl⟩

theorem witness_CardPortsRun_3 :
    ∃ (s a : State) (n : Nat) (info : CardInfo), a = s.modCard n (fun p => { p with card := some info, trailing := 8 }) :=
  ⟨{ dev with io := { dev.io with ports := [{ num := 0, state := 1, step := 1 }] } }, _, 0,
    { cid := zeros 16, secCount := 80000, byteMode := false, locked := false, hasPwd := false, okWidths := [8], okModes := [0], okTaps := [], copies := [] },
    rfl⟩

theorem witness_CardPortsRun_4 :
    ∃ (s : State) (n : Nat) (p : CardPort) (last : Bool), p = s.card n ∧ last = decide ((cardPhases p.cmdOp).length ≤ p.step + 1) :=
  ⟨dev, 0, _, _, rfl, rfl⟩

theorem witness_CardPortsRun_5 :
    ∃ (s a : State) (n : Nat), a = s.modCard n (fun x => { x with retries := x.retries + 1, trailing := 8 }) :=
  ⟨dev, _, 0, rfl⟩

theorem witness_CardPortsRun_7 :
    ∃ (s a : State) (n : Nat) (p : CardPort), p = s.card n ∧ a = s.notice Reg.crdNotice 1 :=
  ⟨dev, _, 0, _, rfl, rfl⟩

theorem witness_CardTransfersAreRetried_1 :
    ∃ (s : State) (n : Nat) (p : CardPort), s.io.ports.find? (fun x => x.num == n) = some p ∧ p.cmd ≠ none ∧ p.state = 4 ∧ p.retries < 3 :=
  ⟨{ dev with io := { dev.io with ports := [{ num := 0, state := 4, cmd := some (0, 0) }] } }, 0, _, rfl, (by decide), rfl, (by decide)⟩

theorem witness_CardTransfersAreRetried_2 :
    ∃ (s : State) (n : Nat), (s.card n).cmd ≠ none ∧ (s.card n).state = 4 ∧ 3 ≤ (s.card n).retries :=
  ⟨{ dev with io := { dev.io with ports := [{ num := 0, state := 4, cmd := some (0, 0), retries := 3 }] } }, 0, (by decide), rfl, (by
    decide)⟩

theorem witness_CardTransfersAreRetried_3 :
    ∃ (s : State) (n : Nat), (s.card n).cmd ≠ none ∧ (s.card n).phase = 3 :=
  ⟨{ dev with io := { dev.io with ports := [{ num := 0, state := 4, cmd := some (0, 0), phase := 3 }] } }, 0, (by decide), rfl⟩

theorem witness_CardTransfersAreRetried_4 :
    ∃ (s a : State) (n : Nat) (id : JobId) (j : Job), (s.card n).cmd = some id ∧ (s.card n).cmdOp ≠ Op.cardUnlock ∧
      a = ((((s.cardBroken n (s.card n)).notice Reg.crdNotice 5).cardClaimEnds (s.card n)).cardFree n 2) ∧ a.job? id = some j :=
  ⟨put { mj Op.cardLock [] [] with phase := .blocked }
    { dev with io := { dev.io with ports := [{ num := 0, state := 4, cmd := some (0, 0) }] } }, _, 0, (0, 0), _, rfl, (by decide), rfl,
    rfl⟩

theorem witness_CardCommandsRun_2 :
    ∃ (s : State) (q ix : Nat) (j : Job), CtlReady s q ix Op.cardQuery j :=
  ⟨put (mj Op.cardQuery [4] []) (dev), 0, 0, _, put_ready _ _ _ rfl rfl rfl rfl rfl rfl⟩

theorem witness_CardCommandsRun_3 :
    ∃ (s : State) (q ix : Nat) (j : Job), CtlReady s q ix Op.cardLock j :=
  ⟨put (mj Op.cardLock [] []) dev, 0, 0, _, put_ready _ _ _ rfl rfl rfl rfl rfl rfl⟩

theorem witness_CardCommandsRun_4 :
    ∃ (s : State) (q ix : Nat) (j : Job), CtlReady s q ix Op.cardUnlock j :=
  ⟨put (mj Op.cardUnlock [] []) dev, 0, 0, _, put_ready _ _ _ rfl rfl rfl rfl rfl rfl⟩

theorem witness_CardCommandsRun_5 :
    ∃ (s : State) (q ix : Nat) (j : Job), CtlReady s q ix Op.cardForceErase j :=
  ⟨put (mj Op.cardForceErase [] []) dev, 0, 0, _, put_ready _ _ _ rfl rfl rfl rfl rfl rfl⟩

theorem witness_CardCommandsRun_6 :
    ∃ (s : State) (q ix kind : Nat) (j : Job), CtlReady s q ix Op.cardWrite j ∧ kind = j.desc.p8 49 :=
  ⟨put (mj Op.cardWrite [] []) dev, 0, 0, _, _, put_ready _ _ _ rfl rfl rfl rfl rfl rfl, rfl⟩

theorem witness_CardCommandsRun_8 :
    ∃ (s : State) (q ix : Nat) (j : Job), CtlReady s q ix Op.cardShareOpen j :=
  ⟨put (mj Op.cardShareOpen [] []) dev, 0, 0, _, put_ready _ _ _ rfl rfl rfl rfl rfl rfl⟩

theorem witness_CardCommandsRun_9 :
    ∃ (s : State) (q ix : Nat) (j : Job), CtlReady s q ix Op.estateCreate j :=
  ⟨put (mj Op.estateCreate [] []) dev, 0, 0, _, put_ready _ _ _ rfl rfl rfl rfl rfl rfl⟩

theorem witness_CardCommandsRun_10 :
    ∃ (s : State) (q ix : Nat) (j : Job), CtlReady s q ix Op.bootRecordWrite j :=
  ⟨put (mj Op.bootRecordWrite [] []) dev, 0, 0, _, put_ready _ _ _ rfl rfl rfl rfl rfl rfl⟩

theorem witness_LocalIoRuns_1 :
    ∃ (s a : State) (rail : Nat), a = s.modVrm rail (fun x => { x with misses := x.misses + 1 }) :=
  ⟨dev, _, 0, rfl⟩

theorem witness_LocalIoRuns_4 :
    ∃ (s : State) (d : Bytes), 
      d = leBytes 8 s.life.fuses.serial ++ leBytes 4 (s.view 0 Reg.lcyState).toNat ++ leBytes 4 (s.view 0 Reg.lcyBoot).toNat :=
  ⟨dev, _, rfl⟩

theorem witness_LocalIoRuns_6 :
    ∃ (s : State), debugByState s.life.state = true :=
  ⟨dev, rfl⟩

theorem witness_LocalIoRuns_7 :
    ∃ (s : State), debugByState s.life.state = false :=
  ⟨{ dev with life := { dev.life with state := 3 } }, rfl⟩

end Sys2Proof.Tests
end

section
/-! SUPPORT. The family of 00_scope: one step and the queue of commands, and the actions of the action registers SEM_CH_CMD, ENT_CMD and
VLT_CELL_CMD. -/

namespace Sys2Proof.Machine

/-! ### What every command answers and keeps -/

/-- R248: secure time is slewed, elapsed time is not. -/
@[simp] theorem Clock.pass_mono (c : Clock) (d : Nat) : (c.pass d).mono = c.mono + d := by
  unfold Clock.pass
  dsimp only
  split <;> rfl

theorem bitsKept_refl (n : Nat) (a : Bytes) : bitsKept n a a := fun _ _ => BitVec.and_not_self _

theorem LcSlot.Grows.refl (a : LcSlot) : a.Grows a :=
  ⟨BitVec.and_not_self _, BitVec.and_not_self _, BitVec.and_not_self _⟩

theorem Fuses.Grows.refl (a : Fuses) : a.Grows a where
  dus := bitsKept_refl _ _
  dusCheck := bitsKept_refl _ _
  serial := rfl
  certDigest := bitsKept_refl _ _
  slot0 := .refl _
  slot1 := .refl _
  slot2 := .refl _
  slot3 := .refl _
  owner0 := bitsKept_refl _ _
  owner1 := bitsKept_refl _ _
  owner2 := bitsKept_refl _ _
  owner3 := bitsKept_refl _ _
  hyRevoke := BitVec.and_not_self _
  minSvn := Nat.le_refl _
  evidence := fun _ => Nat.min_le_right _ _
  trim := rfl

/-- What a run that begins in `s` has to keep holds of `s` itself. -/
theorem State.Inv.kept {s : State} (h : s.Inv) : s.spine.Kept s.pending s.life.fuses := ⟨rfl, h, .refl _⟩

/-- No command stops the device: each arm of `exec` is a next state. -/
theorem exec_answers (c : Instr) (s : State) : ∃ t, exec c s = .next t := by
  cases c <;> exact ⟨_, rfl⟩

/-- The whole-machine law of `exec`. The two fuse commands and the two feed selections need what their wrapper's rule asks of the effect
it runs; every other command's operation has its own rule in the simp set (Laws/Spine*), from which its case follows. -/
theorem exec_kept {p : List Instr} {f : Fuses} {c : Instr} {s t : State} (h : s.spine.Kept p f) (he : exec c s = .next t) :
    t.spine.Kept p f := by
  cases c <;> cases he
  case lcyTransition q i cut => exact State.ctl_kept _ _ _ _ _ (fun u j hu => State.lcyTransition_kept cut u j hu) h
  case lcySvnAdvance q i cut => exact State.ctl_kept _ _ _ _ _ (fun u j hu => State.svnAdvance_kept cut u j hu) h
  case selectA q i =>
    exact State.cfgAction_kept _ _ _ _ _ _ _ _ (fun u j hu => State.selectFeed_kept u j 0 (by decide) hu) h
  case selectB q i =>
    exact State.cfgAction_kept _ _ _ _ _ _ _ _ (fun u j hu => State.selectFeed_kept u j 1 (by decide) hu) h
  all_goals simp [h]

/-- Settles O1: the queue is one of the things `exec_kept` keeps. -/
theorem stepsTakeTheFrontCommand : Obligations.StepsTakeTheFrontCommand := by
  refine ⟨fun _ _ _ => rfl, fun c s t h he => ?_, exec_answers, fun s hp => ?_⟩
  · exact (exec_kept h.kept he).pending
  · exact ⟨s.idle, by simp only [step, hp], Clock.pass_mono _ _, rfl⟩

/-! ### The actions of SEM_CH_CMD (R295 to R298) -/

/-- R295: an action that stands ready on an existing channel is INVALID_INPUT from the states `p` that its row does not give, BUSY while
another runs, and else has its effect with the target kept. -/
theorem chAction_ready {s : State} {q i act : Nat} {j : Job} {c : Channel} {from_ : List Nat} {p : Prop} [Decidable p]
    (h : ActReady s q i Reg.semChCmd 6 4 act j) (hc : s.chan? (s.targetOf j Reg.semChCmd) = some c) (hp : c.state ∉ from_ ↔ p)
    (f : State → Job → Nat → State) :
    s.chAction q i act from_ f =
      if p then s.deny j Status.invalidInput
      else if s.dram.action.isSome then s.deny j Status.busy
      else f (s.keepTarget j Reg.semChCmd) j (s.targetOf j Reg.semChCmd) := by
  unfold State.chAction
  simp only [act_ready h, hc, ← hp, Bool.not_eq_true', List.contains_eq_mem, decide_eq_false_iff_not]

/-- Settles O34: the five actions are `chAction_ready` at their rows' states, and the ends are read off the running action. -/
theorem channelActionsRun : Obligations.ChannelActionsRun := by
  refine ⟨?_, ?_, fun _ _ _ => rfl, ?_, ?_⟩
  · rintro s q ix ch j c rfl hc
    exact ⟨fun h => congrArg Host.Outcome.next (chAction_ready h hc (by simp) _),
      fun h => congrArg Host.Outcome.next (chAction_ready h hc (by simp) _),
      fun h => congrArg Host.Outcome.next (chAction_ready h hc (by simp) _),
      fun h => congrArg Host.Outcome.next (chAction_ready h hc (by simp) _),
      fun h => congrArg Host.Outcome.next (chAction_ready h hc (by simp) _)⟩
  · rintro s a j ch act st rfl
    rfl
  · intro s ch ha
    exact congrArg Host.Outcome.next (by simp only [State.retrainDone, ha])
  · rintro s a ch ha rfl
    exact congrArg Host.Outcome.next (by simp only [State.evacuateDone, ha])

/-! ### The actions of ENT_CMD (R316, R318) -/

/-- R318: an action that stands ready for an existing source is BUSY while another runs, and else has its effect with the target kept. -/
theorem entAction_ready {s : State} {q i act : Nat} {j : Job} (h : ActReady s q i Reg.entCmd 2 0 act j)
    (hn : s.targetOf j Reg.entCmd < 22) (f : State → Job → Nat → State) :
    s.entAction q i act f =
      if s.ent.action.isSome then s.deny j Status.busy else f (s.keepTarget j Reg.entCmd) j (s.targetOf j Reg.entCmd) := by
  unfold State.entAction
  simp only [act_ready h, Nat.not_le.mpr hn, if_false]

theorem entAction_of_free {s : State} {q i act : Nat} {j : Job} (h : ActReady s q i Reg.entCmd 2 0 act j)
    (hn : s.targetOf j Reg.entCmd < 22) (ha : s.ent.action = none) (f : State → Job → Nat → State) :
    s.entAction q i act f = f (s.keepTarget j Reg.entCmd) j (s.targetOf j Reg.entCmd) := by
  simp [entAction_ready h hn, ha]

theorem entAction_of_busy {s : State} {q i act : Nat} {j : Job} (h : ActReady s q i Reg.entCmd 2 0 act j)
    (hn : s.targetOf j Reg.entCmd < 22) (ha : s.ent.action ≠ none) (f : State → Job → Nat → State) :
    s.entAction q i act f = s.deny j Status.busy := by
  simp [entAction_ready h hn, Option.isSome_iff_ne_none.mpr ha]

/-- Settles O37: with no action running each of the four has its effect on the state that keeps the target; with one running each is BUSY. -/
theorem entropyActionsRun : Obligations.EntropyActionsRun := by
  refine ⟨?_, fun s q ix pass j hn ha => ?_⟩
  · rintro s a q ix n j rfl hn ha rfl
    refine ⟨fun h => ?restart, fun pass h => ?kat, fun h hd => ?sourceOutDenied, fun b h hc hr hb => ?sourceOut,
      fun pass b h hb => ?sourceIn⟩ <;>
      refine congrArg Host.Outcome.next ((entAction_of_free h hn ha _).trans ?_)
    case restart => rfl
    case kat => rfl
    case sourceOutDenied => exact if_pos hd
    case sourceOut =>
      subst hb
      exact if_neg (not_or.mpr ⟨by simp [hc], Nat.not_lt.mpr hr⟩)
    case sourceIn =>
      subst hb
      refine if_congr Iff.rfl rfl ?_
      cases pass <;> rfl
  · exact ⟨fun h => congrArg Host.Outcome.next (entAction_of_busy h hn ha _),
      fun h => congrArg Host.Outcome.next (entAction_of_busy h hn ha _),
      fun h => congrArg Host.Outcome.next (entAction_of_busy h hn ha _),
      fun h => congrArg Host.Outcome.next (entAction_of_busy h hn ha _)⟩

/-! ### The cells and the actions of VLT_CELL_CMD (R377, R379 to R383) -/

/-- Two changes of a cell that agree on it change the state alike. -/
theorem State.modCell_congr {s : State} {n : Nat} {f g : Cell → Cell} (h : f (s.guard.cell n) = g (s.guard.cell n)) :
    s.modCell n f = s.modCell n g := by
  unfold Guard.cell at h
  unfold State.modCell
  split <;> simp_all

/-- R383: an action that stands ready has its effect on the cell it names, with the target kept. -/
theorem cellAction_ready {s : State} {q i act : Nat} {j : Job} (h : ActReady s q i Reg.vltCellCmd 2 0 act j)
    (f : State → Job → Nat → State) :
    s.cellAction q i act f = f (s.keepTarget j Reg.vltCellCmd) j (s.targetOf j Reg.vltCellCmd) :=
  act_ready h _

/-- Settles O44: each row is its operation on a cell that exists, and the actions run by `cellAction_ready`. -/
theorem cellsAreKept : Obligations.CellsAreKept := by
  refine ⟨?supply, fun s a b n mv ma hn ha hb => ?charge, fun s n hn => ?periodic, fun s n => ?begins, ?test, ?pulse, ?low, ?action,
    fun s n mv hn => ?inserted, ?hold⟩
  case supply =>
    rintro s a x y rfl
    rfl
  case charge =>
    subst ha hb
    exact congrArg Host.Outcome.next <| if_congr (by simp [Nat.not_le.mpr hn]) rfl <| if_congr Iff.rfl rfl <|
      if_congr (by simp) rfl <| if_congr Iff.rfl rfl <| State.modCell_congr rfl
  case periodic => exact congrArg Host.Outcome.next (if_congr (by simp [Nat.not_le.mpr hn]) rfl rfl)
  case begins =>
    refine if_congr (by simp) rfl ?_
    cases s.rechargeable n <;> rfl
  case test =>
    rintro s a n mv hn rfl
    exact congrArg Host.Outcome.next (if_congr (by simp [Nat.not_le.mpr hn]) rfl rfl)
  case pulse =>
    rintro s a n mv k hn hk rfl
    exact congrArg Host.Outcome.next (by simp only [State.pulse, hk, Nat.not_le.mpr hn, if_false])
  case low =>
    rintro s a n mv hn rfl
    exact congrArg Host.Outcome.next (if_neg (Nat.not_le.mpr hn))
  case action =>
    rintro s a b q ix n j rfl rfl
    refine ⟨fun h hb => ?remove, fun h => ?loadTest, fun h => ?depassivate, fun h => ?gaugeReset⟩ <;>
      refine congrArg Host.Outcome.next ((cellAction_ready h _).trans ?_)
    case remove =>
      subst hb
      exact ite_not ..
    case loadTest => rfl
    case depassivate => rfl
    case gaugeReset => rfl
  case inserted =>
    exact congrArg Host.Outcome.next <|
      (if_congr (by simp [Nat.not_le.mpr hn, -not_and, not_and_or]) rfl rfl).trans (ite_not ..)
  case hold =>
    rintro s a n t hn ht rfl
    exact congrArg Host.Outcome.next (by simp only [State.holdExpiry, ht, Nat.not_le.mpr hn, if_false])

end Sys2Proof.Machine
end

section
/-! SUPPORT. The family of 01_architecture: the device after reset, the invariant that every step keeps, and the power modes. -/

namespace Sys2Proof.Machine

/-! ### The invariant (R14, R274, R302, R344, R402, R471) -/

/-- R402: with both gates off and no switchover under way, no gate is on that should be off. -/
theorem Spine.Gates.of_off {x : Spine} (hf : x.active = 0 ∨ x.active = 1) (ha : x.gateA = false) (hb : x.gateB = false)
    (hw : x.switching = none) : x.Gates where
  active := hf
  offA _ := ha
  offB _ := hb
  target _ h := absurd h (by simp [hw])
  both _ h := absurd h (by simp [hw])

/-- The invariant does not speak of the queue of commands. -/
theorem State.Inv.withPending {s : State} (h : s.Inv) (p : List Instr) : State.Inv { s with pending := p } where
  tiles := h.tiles
  channels := h.channels
  cards := h.cards
  sources := h.sources
  courses := h.courses
  scratch := h.scratch
  gates := ⟨h.gates.active, h.gates.offA, h.gates.offB, h.gates.target, h.gates.both⟩

/-- An idle step touches the clock alone, of which the invariant does not speak. -/
theorem State.Inv.idle {s : State} (h : s.Inv) : s.idle.Inv := by
  unfold State.Inv
  rw [State.idle_spine]
  exact h

/-- What one step can do: pass a nanosecond where no command waits, or run the front command on the state with the queue's rest. -/
theorem step_cases {s t : State} (h : step s = .next t) :
    (s.pending = [] ∧ t = s.idle) ∨ ∃ c rest, s.pending = c :: rest ∧ exec c { s with pending := rest } = .next t := by
  unfold step at h
  split at h
  case h_1 hp =>
    cases h
    exact .inl ⟨hp, rfl⟩
  case h_2 c rest hp => exact .inr ⟨c, rest, hp, h⟩

/-- Settles O3: an idle step changes the clock alone, and a command keeps the invariant by `exec_kept`. -/
theorem everyStepKeepsTheInvariant : Obligations.EveryStepKeepsTheInvariant := by
  intro s t hs ht
  obtain ⟨-, rfl⟩ | ⟨c, rest, -, he⟩ := step_cases ht
  · exact hs.idle
  · exact (exec_kept (hs.withPending rest).kept he).inv

/-! ### After reset (R10, R443 to R445) -/

/-- R10, R445: a state that stores no register reads every register's default. -/
theorem State.reg_of_no_regs {s : State} (h : s.regs = []) (addr idx : Nat) : s.reg addr idx = regDefault addr idx := by
  unfold State.reg
  rw [h]
  rfl

/-- The invariant holds at reset: each unit is numbered once, the scratchpads are empty and both gates are off. -/
theorem State.reset_inv : State.reset.Inv where
  tiles := rfl
  channels := rfl
  cards := rfl
  sources := rfl
  courses := rfl
  scratch := by decide
  gates := .of_off (.inl rfl) rfl rfl rfl

/-- Settles O2: the fields are those of `State.reset`, which stores no register. -/
theorem resetIsAsTheSpecSays : Obligations.ResetIsAsTheSpecSays :=
  have hreg := State.reg_of_no_regs (s := State.reset) rfl
  ⟨State.reset_inv, rfl, rfl, rfl, rfl, rfl, rfl, rfl, rfl, hreg, fun addr k => congrArg (bitOf k) (hreg addr 0)⟩

/-! ### The power modes (R30 to R34, R179) -/

/-- R33: POWER_MODE_SET SERVING. -/
theorem State.powerModeSet_serving {s : State} {j : Job} (h : j.desc.p8 48 = 0) :
    s.powerModeSet j =
      if s.power.mode = .serving then s.done j
      else if s.power.standbyExit ≠ none then s.deny j Status.busy
      else State.block (State.setPower { s.resetTiles with dram := { s.resetTiles.dram with selfRefresh := false } }
        { s.resetTiles.power with standbyExit := some (some j.id) }) j := by
  unfold State.powerModeSet
  rw [h]
  exact if_congr Iff.rfl rfl (if_congr Option.isSome_iff_ne_none rfl rfl)

/-- R31: POWER_MODE_SET STANDBY. -/
theorem State.powerModeSet_standby {s : State} {j : Job} (h : j.desc.p8 48 = 1) :
    s.powerModeSet j =
      if s.power.mode = .standby then s.done j
      else if (s.pair.role = 1 ∧ s.inService = false) ∨ s.power.standbyReq ≠ none then s.deny j Status.busy
      else (s.setPower { s.power with standbyReq := some j.id }).block j := by
  unfold State.powerModeSet
  rw [h]
  exact if_congr Iff.rfl rfl (if_congr (by simp [Option.isSome_iff_ne_none]) rfl rfl)

/-- R30: POWER_MODE_SET of no mode. -/
theorem State.powerModeSet_invalid {s : State} {j : Job} (h0 : j.desc.p8 48 ≠ 0) (h1 : j.desc.p8 48 ≠ 1) :
    s.powerModeSet j = s.deny j Status.invalidInput := by
  unfold State.powerModeSet
  split
  · contradiction
  · contradiction
  · rfl

/-- Settles O50: POWER_MODE_SET by its three modes, and the two ends by the request or the exit that stands. -/
theorem powerModesChange : Obligations.PowerModesChange := by
  refine ⟨fun s q ix j h => ?set, ?drained, ?exited⟩
  case set =>
    refine congrArg Host.Outcome.next ((ctl_ready h _).trans ?_)
    split
    case isTrue h0 => exact State.powerModeSet_serving h0
    case isFalse h0 =>
      split
      case isTrue h1 => exact State.powerModeSet_standby h1
      case isFalse h1 => exact State.powerModeSet_invalid h0 h1
  case drained =>
    rintro s a rfl
    refine congrArg Host.Outcome.next ?_
    unfold State.standbyDrained
    cases s.power.standbyReq.bind s.job? with
    | none => rfl
    | some j => exact if_congr (by simp) rfl rfl
  case exited =>
    rintro s a fails bad rfl
    refine congrArg Host.Outcome.next ?_
    unfold State.standbyExitDone
    cases s.power.standbyExit with
    | none => rfl
    | some who => rfl

end Sys2Proof.Machine
end

section
/-! SUPPORT. The family of 02_aslys_host_queues, frames: what leaves the queues unchanged, a queue in
ERROR, what an operation does to one queue, acknowledgements and completions. -/

namespace Sys2Proof.Machine

/-! ### What leaves the queues unchanged -/

/-- An update leaves the queues, and which of them is the persistence queue, as they are. -/
structure SameQueues (s u : State) : Prop where
  qps : u.qps = s.qps
  persist : u.keys.persistQ = s.keys.persistQ

theorem SameQueues.refl (s : State) : SameQueues s s := ⟨rfl, rfl⟩

theorem SameQueues.trans {s u w : State} (h : SameQueues s u) (g : SameQueues u w) : SameQueues s w :=
  ⟨g.qps.trans h.qps, g.persist.trans h.persist⟩

/-- `trans` with the later update first, whose own lemma then says what came before it. -/
theorem SameQueues.after {s u w : State} (g : SameQueues u w) (h : SameQueues s u) : SameQueues s w := h.trans g

theorem SameQueues.qp? {s u : State} (h : SameQueues s u) (n : Nat) : u.qp? n = s.qp? n := by
  unfold State.qp?
  rw [h.qps]

theorem SameQueues.ite {s a b : State} {p : Prop} [Decidable p] (ha : SameQueues s a) (hb : SameQueues s b) :
    SameQueues s (if p then a else b) := by
  split
  · exact ha
  · exact hb

/-- A loop leaves unchanged what each turn leaves. -/
theorem SameQueues.forEach {α : Type} (l : List α) (f : α → State → State) (s : State) (h : ∀ x t, SameQueues t (f x t)) :
    SameQueues s (forEach l f s) := by
  unfold Machine.forEach
  induction l generalizing s with
  | nil => exact .refl s
  | cons x l ih => exact (h x s).trans (ih _)

/-- Event records change the log and the recorder's notice alone. -/
theorem LogFrame.queues {s u : State} (h : LogFrame s u) : SameQueues s u := by
  rw [h.rest]
  exact ⟨rfl, rfl⟩

theorem State.partEvent_queues (s : State) (p sev code island : Nat) (b : Bytes) : SameQueues s (s.partEvent p sev code island b) :=
  (s.writeRec_frame ..).queues

theorem State.devEvent_queues (s : State) (sev code island : Nat) (b : Bytes) (p : Nat) :
    SameQueues s (s.devEvent sev code island b p) :=
  (s.writeRec_frame ..).queues

theorem State.touch_queues (s : State) (n : Nat) : SameQueues s (s.touch n) :=
  .ite ⟨rfl, rfl⟩ (.refl s)

theorem State.orphan_queues (s : State) (part q tag i st : Nat) : SameQueues s (s.orphan part q tag i st) :=
  .after (State.partEvent_queues ..) (.after (State.partEvent_queues ..) ⟨rfl, rfl⟩)

theorem State.modJob_queues (s : State) (id : JobId) (f : Job → Job) : SameQueues s (s.modJob id f) := ⟨rfl, rfl⟩

theorem State.releaseGens_queues (s : State) : SameQueues s s.releaseGens := ⟨rfl, rfl⟩

theorem State.countChain_queues (s : State) (r : Result) : SameQueues s (s.countChain r) :=
  .ite (.refl s) ⟨rfl, rfl⟩

theorem State.msWatermark_queues (s : State) (c : Nat) : SameQueues s (s.msWatermark c) := by
  unfold State.msWatermark
  dsimp only
  split
  · exact ⟨rfl, rfl⟩
  · exact .ite ⟨rfl, rfl⟩ (.ite (.after (State.devEvent_queues ..) ⟨rfl, rfl⟩) ⟨rfl, rfl⟩)

theorem State.freeDone_queues (s : State) : SameQueues s s.freeDone :=
  .after (.forEach _ _ _ fun c t => t.msWatermark_queues c) ⟨rfl, rfl⟩

/-- R71: where no output is overwritten, the completions that a queue drops leave events alone. -/
theorem State.dropCpls_queues (s : State) (q : Qp) : SameQueues s (s.dropCpls q false) := by
  refine .forEach _ _ _ fun c t => ?_
  simp only [Bool.false_eq_true, false_and, if_false]
  exact .ite (State.orphan_queues ..) (.refl t)

/-! ### A queue in ERROR stays without work (R71) -/

/-- R71: a queue in ERROR, with its requests, fetches and completions dropped. -/
structure Qp.Dropped (x : Qp) : Prop where
  state : x.state = 4
  reqs : x.reqs = []
  fetches : x.fetches = []
  cpls : x.cpls = []

/-- R71: queue `n`, of configuration `c` and not the persistence queue, is in ERROR with its work dropped. -/
structure State.Stopped (s : State) (n : Nat) (c : QpRec) : Prop where
  cfg : (s.qp? n).map (fun x => x.cfg) = some c
  dropped : ∀ x ∈ s.qps, x.cfg.queue = n → x.Dropped
  persist : s.keys.persistQ ≠ some n

/-- A queue that is found is one of the queues, with its number. -/
theorem State.qp?_mem {s : State} {n : Nat} {x : Qp} (h : s.qp? n = some x) : x ∈ s.qps ∧ x.cfg.queue = n :=
  ⟨List.mem_of_find?_eq_some h, by simpa using List.find?_some h⟩

namespace State.Stopped

variable {s u : State} {n m : Nat} {c : QpRec} {f : Qp → Qp}

/-- What ERROR leaves of the record that a stopped queue reads. -/
theorem queue (h : s.Stopped n c) : ∃ x, s.qp? n = some x ∧ x.Dropped ∧ x.cfg = c := by
  obtain ⟨x, hx, hc⟩ := Option.map_eq_some_iff.mp h.cfg
  obtain ⟨hm, hn⟩ := State.qp?_mem hx
  exact ⟨x, hx, h.dropped x hm hn, hc⟩

theorem same (h : s.Stopped n c) (hu : SameQueues s u) : u.Stopped n c where
  cfg := by rw [hu.qp?, h.cfg]
  dropped := by
    rw [hu.qps]
    exact h.dropped
  persist := by
    rw [hu.persist]
    exact h.persist

/-- Either branch stopped, the choice is. -/
theorem ite {a b : State} {p : Prop} [Decidable p] (ha : a.Stopped n c) (hb : b.Stopped n c) : (if p then a else b).Stopped n c := by
  split
  · exact ha
  · exact hb

/-- A change of queue records that keeps their configuration, and on queue `n` what ERROR has dropped, keeps the queue stopped. -/
theorem modQp (h : s.Stopped n c) (hc : ∀ x, (f x).cfg = x.cfg) (hd : m = n → ∀ x, x.Dropped → (f x).Dropped) :
    (s.modQp m f).Stopped n c where
  cfg := by
    rw [State.qp?_modQp _ _ _ _ (fun x hx => by rw [hc, hx]), Option.map_map, ← h.cfg]
    refine Option.map_congr fun x _ => ?_
    dsimp only [Function.comp]
    split <;> simp [hc]
  dropped := by
    intro y hy hn
    obtain ⟨x, hx, rfl⟩ := List.mem_map.mp hy
    have hxn : x.cfg.queue = n := by
      split at hn <;> simpa [hc] using hn
    split
    case isTrue hm => exact hd ((of_decide_eq_true hm).symm.trans hxn) x (h.dropped x hx hxn)
    case isFalse => exact h.dropped x hx hxn
  persist := h.persist

/-- A change that keeps each queue's configuration, state and work keeps a queue stopped. -/
theorem modKept (h : s.Stopped n c)
    (hf : ∀ x, ((f x).cfg, (f x).state, (f x).reqs, (f x).fetches, (f x).cpls) = (x.cfg, x.state, x.reqs, x.fetches, x.cpls)) :
    (s.modQp m f).Stopped n c := by
  simp only [Prod.mk.injEq] at hf
  exact h.modQp (fun x => (hf x).1) fun _ x hx =>
    let ⟨_, hst, hr, hfe, hcp⟩ := hf x
    ⟨hst.trans hx.state, hr.trans hx.reqs, hfe.trans hx.fetches, hcp.trans hx.cpls⟩

/-- A change of another queue keeps a queue stopped. -/
theorem modOther (h : s.Stopped n c) (hc : ∀ x, (f x).cfg = x.cfg) (hm : m ≠ n) : (s.modQp m f).Stopped n c :=
  h.modQp hc fun e => absurd e hm

/-- R41: a request issued on another queue keeps a queue stopped. -/
theorem issueOther (h : s.Stopped n c) (hm : m ≠ n) (k : ReqKind) (addr rkey len : Nat) (b : Bytes) (cseq : Nat) (i : BitVec 32) :
    (s.issue m k addr rkey len b cseq i).Stopped n c := by
  refine State.Stopped.same (h.modOther (fun x => ?_) hm) ⟨rfl, rfl⟩
  split <;> rfl

/-- R42: no READ of a queue in ERROR goes on when a place is free. -/
theorem postOne (h : s.Stopped n c) (m : Nat) : (s.postOne m).Stopped n c := by
  unfold State.postOne
  dsimp only
  split
  · exact h
  · split
    · exact h
    case _ q hq =>
      have hmem : q ∈ s.qps ∧ q.mayRead = true := by
        rcases Option.or_eq_some_iff.mp hq with hq | ⟨-, hq⟩
        · exact ⟨List.mem_of_find?_eq_some hq, (by simpa using List.find?_some hq : _ ∧ _).2⟩
        · exact ⟨List.mem_of_find?_eq_some hq, List.find?_some hq⟩
      refine h.modOther (fun x => ?_) fun hn => ?_
      · unfold Qp.postWaiting
        split <;> rfl
      · have hmay := hmem.2
        simp [Qp.mayRead, (h.dropped q hmem.1 hn).state] at hmay

theorem postMany (h : s.Stopped n c) (m k : Nat) : (s.postMany m k).Stopped n c := by
  induction k generalizing s with
  | zero => exact h
  | succ k ih => exact ih (h.postOne m)

theorem toSuccessor (h : s.Stopped n c) (j : Job) (r : Result) : (s.toSuccessor j r).Stopped n c := by
  unfold State.toSuccessor
  exact .ite h (.ite (h.modKept fun _ => rfl) (h.same ((s.countChain_queues r).trans ⟨rfl, rfl⟩)))

/-- R59, R71: no completion is queued on a queue in ERROR when a job ends. -/
theorem finishCore (h : s.Stopped n c) (j : Job) (r : Result) (tile : Nat) (b : Bool) : (s.finishCore j r tile b).Stopped n c := by
  have hn : State.Stopped (if r.clean.status = Status.chainBroken then s.notice Reg.dspNotice 3 else s) n c :=
    .ite (h.same ⟨rfl, rfl⟩) h
  unfold State.finishCore
  dsimp only
  refine State.Stopped.same ?_ (State.releaseGens_queues _)
  refine State.Stopped.same ?_ (State.modJob_queues ..)
  refine State.Stopped.ite (State.Stopped.modKept ?succ fun _ => rfl) ?succ
  refine State.Stopped.toSuccessor ?_ j _
  split
  case h_1 => exact hn
  case h_2 q hq =>
    obtain ⟨hm, hj⟩ := State.qp?_mem hq
    have hst : j.queue = n → q.state = 4 := fun e => (hn.dropped q hm (hj.trans e)).state
    split
    case isTrue =>
      have hfl := hn.modKept (m := j.queue) (f := fun q => { q with inFlight := q.inFlight - 1 }) fun _ => rfl
      refine .ite (State.Stopped.same ?zeros (State.orphan_queues ..)) ?zeros
      split
      case isTrue h5 => exact hfl.issueOther (fun e => by simp [hst e] at h5) ..
      case isFalse => exact hfl
    case isFalse h45 => exact hn.modOther (fun _ => rfl) fun e => h45 (.inl (hst e))

theorem settleOnce (h : s.Stopped n c) : s.settleOnce.Stopped n c := by
  unfold State.settleOnce
  split
  case h_1 j _ =>
    split
    · exact (h.finishCore ..).same (State.freeDone_queues _)
    · exact .ite (h.same ⟨rfl, rfl⟩) (h.same (.after (State.msWatermark_queues ..) ⟨rfl, rfl⟩))
  case h_2 =>
    split
    · exact h.same (State.freeDone_queues _)
    case _ q i id _ =>
      have hr : State.Stopped (s.modQp q fun x =>
          { x with regions := x.regions.filter (fun r => r.num ≠ i), removing := x.removing.filter (fun e => e.1 ≠ i) }) n c :=
        h.modKept fun _ => rfl
      dsimp only
      split
      · exact hr
      · exact (hr.finishCore ..).same (State.freeDone_queues _)

theorem settleN (h : s.Stopped n c) (k : Nat) : (State.settleN k s).Stopped n c := by
  induction k generalizing s with
  | zero => exact h
  | succ k ih => exact ih h.settleOnce

/-- R71: the error tokens of jobs leave a stopped queue stopped. -/
theorem errAll (h : s.Stopped n c) (p : Job → Bool) (st dt : Nat) : (s.errAll p st dt).Stopped n c := by
  unfold State.errAll State.settle
  refine State.Stopped.same (State.Stopped.settleN (h.same ?_) _) (State.freeDone_queues _)
  exact ⟨rfl, rfl⟩

/-- R71: a queue is stopped once its records are halted in ERROR. -/
theorem of_halt {q : Qp} (hq : s.qp? n = some q) (hp : s.keys.persistQ ≠ some n) (live : Nat) :
    (s.modQp n (fun x => x.halt 4 live)).Stopped n q.cfg where
  cfg := by
    rw [State.qp?_modQp _ _ _ (fun x => x.halt 4 live) fun _ h => h, hq]
    simp [Qp.halt]
  dropped := by
    intro y hy hn
    obtain ⟨x, -, rfl⟩ := List.mem_map.mp hy
    split at hn
    case isTrue hx =>
      rw [if_pos hx]
      exact ⟨rfl, rfl, rfl, rfl⟩
    case isFalse hx => exact absurd (by simpa using hn) hx
  persist := hp

/-- R71: a queue that is neither in ERROR nor draining is stopped when it enters ERROR. -/
theorem of_enterError {q : Qp} (syn : Nat) (hq : s.qp? n = some q) (h4 : q.state ≠ 4) (h5 : q.state ≠ 5)
    (hp : s.keys.persistQ ≠ some n) : (s.enterError n syn).Stopped n q.cfg := by
  have hd := s.dropCpls_queues q
  have hhalt : ((s.dropCpls q false).modQp n (fun x => x.halt 4 (s.liveJobs n))).Stopped n q.cfg :=
    of_halt ((hd.qp? n).trans hq) (by rwa [hd.persist]) _
  have herr : State.Stopped ((((((((s.dropCpls q false).modQp n (fun x => x.halt 4 (s.liveJobs n))).postMany n q.readsOut).notice
      Reg.hqiNotice 3).bump Reg.hqiQpErrors).touch n).partEvent q.cfg.part 4 0x0104 51 (leBytes 2 n ++ leBytes 1 syn)).devEvent 4 0x0104 51
        (leBytes 2 n ++ leBytes 1 syn) q.cfg.part) n q.cfg := by
    refine State.Stopped.same ?_ (.after (State.devEvent_queues ..) (.after (State.partEvent_queues ..) (State.touch_queues _ n)))
    exact (hhalt.postMany _ _).same ⟨rfl, rfl⟩
  unfold State.enterError
  simp only [hq, h4, h5, or_self, if_false]
  rw [if_neg (herr.errAll ..).persist]
  exact herr.errAll ..

end State.Stopped

/-! ### What an operation does to one queue -/

/-- An operation changes no queue but `n`, and the record of `n` as `R` says. -/
structure State.ActsOn (n : Nat) (R : Qp → Qp → Prop) (s u : State) : Prop where
  others : ∀ m, m ≠ n → u.qp? m = s.qp? m
  this : ∀ q, s.qp? n = some q → ∃ x, u.qp? n = some x ∧ R q x

namespace State.ActsOn

variable {n : Nat} {s u w : State} {R R' R'' : Qp → Qp → Prop}

theorem of_same (h : SameQueues s u) (hR : ∀ q, R q q) : State.ActsOn n R s u where
  others m _ := h.qp? m
  this q hq := ⟨q, (h.qp? n).trans hq, hR q⟩

theorem trans (h : State.ActsOn n R s u) (g : State.ActsOn n R' u w) (hR : ∀ {a b c}, R a b → R' b c → R'' a c) :
    State.ActsOn n R'' s w where
  others m hm := (g.others m hm).trans (h.others m hm)
  this q hq := by
    obtain ⟨x, hx, hqx⟩ := h.this q hq
    obtain ⟨y, hy, hxy⟩ := g.this x hx
    exact ⟨y, hy, hR hqx hxy⟩

/-- `trans` with the later operation first, whose own lemma then says what came before it. -/
theorem after (g : State.ActsOn n R' u w) (h : State.ActsOn n R s u) (hR : ∀ {a b c}, R a b → R' b c → R'' a c) :
    State.ActsOn n R'' s w := h.trans g hR

theorem ite {p : Prop} [Decidable p] (h : p → State.ActsOn n R s u) (g : ¬ p → State.ActsOn n R s w) :
    State.ActsOn n R s (if p then u else w) := by
  split
  case isTrue hp => exact h hp
  case isFalse hp => exact g hp

theorem modQp {f : Qp → Qp} (hc : ∀ x, (f x).cfg = x.cfg) (hR : ∀ x, R x (f x)) : State.ActsOn n R s (s.modQp n f) := by
  have hq : ∀ m, (s.modQp n f).qp? m = (s.qp? m).map (fun x => if m = n then f x else x) := fun m =>
    State.qp?_modQp s n m f fun x hx => by rw [hc, hx]
  refine ⟨fun m hm => by simp [hq, hm], fun q h => ⟨f q, by simp [hq, h], hR q⟩⟩

end State.ActsOn

/-! ### Acknowledgements (R41, R418) -/

/-- R418: the acknowledgement of one request drops no request of its queue. -/
theorem State.acked_acts (s : State) (n : Nat) (r : Req) : s.ActsOn n (fun q x => x.reqs = q.reqs) (s.acked n r) := by
  unfold State.acked
  refine .ite (fun _ => .modQp (fun _ => rfl) fun _ => rfl) fun _ => .ite (fun _ => ?_) fun _ => .of_same (.refl s) fun _ => rfl
  split
  · exact .of_same (.refl s) fun _ => rfl
  · exact .of_same (.after (State.ringLevel_frame ..).queues ⟨rfl, rfl⟩) fun _ => rfl

theorem State.acked_forEach_acts (l : List Req) (s : State) (n : Nat) :
    s.ActsOn n (fun q x => x.reqs = q.reqs) (forEach l (fun r s => s.acked n r) s) := by
  unfold forEach
  induction l generalizing s with
  | nil => exact .of_same (.refl s) fun _ => rfl
  | cons r l ih => exact (s.acked_acts n r).trans (ih _) fun h g => g.trans h

/-- R41, R418: an acknowledgement takes the requests up to its PSN, other than READs, from its queue. -/
theorem State.ackUpTo_acts (s : State) (n : Nat) (p : BitVec 24) :
    s.ActsOn n (fun q x => x.reqs = q.reqs.filter (fun r => !(psnLe r.psn p && !r.kind.isRead))) (s.ackUpTo n p) := by
  unfold State.ackUpTo
  split
  case h_1 hq => exact ⟨fun _ _ => rfl, fun q h => by simp [hq] at h⟩
  case h_2 q _ =>
    have hdrop : s.ActsOn n (fun q x => x.reqs = q.reqs.filter (fun r => !(psnLe r.psn p && !r.kind.isRead)))
        (s.modQp n (fun q => { q with reqs := q.reqs.filter (fun r => !(psnLe r.psn p && !r.kind.isRead)) })) :=
      .modQp (fun _ => rfl) fun _ => rfl
    exact (hdrop.trans (State.acked_forEach_acts ..) fun h g => g.trans h).trans (.of_same (State.touch_queues ..) fun _ => rfl)
      fun h (g : _ = _) => g ▸ h

/-- Settles O9: a queue that enters ERROR is stopped through all that its jobs' ends do (`State.Stopped`), and an acknowledgement acts on
its queue alone. -/
theorem queuesDropTheirRequests : Obligations.QueuesDropTheirRequests := by
  refine ⟨fun s n syn q hq h4 h5 hp => ?_, fun s n psn q hq => ?_⟩
  · obtain ⟨x, hx, hd, hc⟩ := (State.Stopped.of_enterError syn hq h4 h5 hp).queue
    exact ⟨_, x, rfl, hx, hd.state, hd.reqs, hd.fetches, hd.cpls, hc⟩
  · have h := s.ackUpTo_acts n (BitVec.ofNat 24 psn)
    obtain ⟨x, hx, hr⟩ := h.this q hq
    exact ⟨_, x, rfl, hx, hr, h.others⟩

/-! ### Completions (R52, R57, R59, R60, R173, R176) -/

/-- What of a request its host sees: its kind, address and bytes. -/
def Req.wire (r : Req) : ReqKind × Nat × Bytes := (r.kind, r.addr, r.data)

/-- A queue has posted `rs` behind its requests; its configuration, session, completions and counts stand. -/
structure Qp.Posted (rs : List (ReqKind × Nat × Bytes)) (q x : Qp) : Prop where
  reqs : x.reqs.map Req.wire = q.reqs.map Req.wire ++ rs
  cfg : x.cfg = q.cfg
  state : x.state = q.state
  session : x.session = q.session
  cpls : x.cpls = q.cpls
  cqPosted : x.cqPosted = q.cqPosted
  inFlight : x.inFlight = q.inFlight

theorem Qp.Posted.trans {rs rs' : List (ReqKind × Nat × Bytes)} {q x y : Qp} (h : q.Posted rs x) (g : x.Posted rs' y) :
    q.Posted (rs ++ rs') y where
  reqs := by rw [g.reqs, h.reqs, List.append_assoc]
  cfg := g.cfg.trans h.cfg
  state := g.state.trans h.state
  session := g.session.trans h.session
  cpls := g.cpls.trans h.cpls
  cqPosted := g.cqPosted.trans h.cqPosted
  inFlight := g.inFlight.trans h.inFlight

/-- A change that keeps these fields posts nothing. -/
theorem Qp.Posted.of_eq {q x : Qp} (h : (x.reqs, x.cfg, x.state, x.session, x.cpls, x.cqPosted, x.inFlight) =
    (q.reqs, q.cfg, q.state, q.session, q.cpls, q.cqPosted, q.inFlight)) : q.Posted [] x := by
  simp only [Prod.mk.injEq] at h
  obtain ⟨hr, hc, hs, hk, hl, hp, hi⟩ := h
  exact ⟨by simp [hr], hc, hs, hk, hl, hp, hi⟩

/-- R72: the entry that a completion becomes depends on the queue's configuration, state and session. -/
theorem Qp.Posted.cplEntry {rs : List (ReqKind × Nat × Bytes)} {q x : Qp} (h : q.Posted rs x) (clear : Bool) (b : Bytes) :
    x.cplEntry clear b = q.cplEntry clear b := by
  unfold Qp.cplEntry
  rw [h.cfg, h.state, h.session]

/-- A state posts `rs` on queue `n` and changes no other queue. -/
abbrev State.PostsOn (n : Nat) (rs : List (ReqKind × Nat × Bytes)) (s u : State) : Prop := s.ActsOn n (Qp.Posted rs) u

theorem State.PostsOn.of_same {n : Nat} {s u : State} (h : SameQueues s u) : s.PostsOn n [] u :=
  State.ActsOn.of_same h fun _ => .of_eq rfl

theorem State.PostsOn.trans {n : Nat} {rs rs' : List (ReqKind × Nat × Bytes)} {s u w : State} (h : s.PostsOn n rs u)
    (g : u.PostsOn n rs' w) : s.PostsOn n (rs ++ rs') w :=
  State.ActsOn.trans h g Qp.Posted.trans

/-- An operation that posts nothing adds nothing to what was posted before it. -/
theorem State.PostsOn.after {n : Nat} {rs : List (ReqKind × Nat × Bytes)} {s u w : State} (g : u.PostsOn n [] w)
    (h : s.PostsOn n rs u) : s.PostsOn n rs w :=
  List.append_nil rs ▸ h.trans g

/-- R41: a request other than a READ leaves at once. -/
theorem State.issue_posts (s : State) (n : Nat) {k : ReqKind} (hk : k.isRead = false) (addr rkey len : Nat) (b : Bytes) (cseq : Nat)
    (i : BitVec 32) : s.PostsOn n [(k, addr, b)] (s.issue n k addr rkey len b cseq i) := by
  refine State.ActsOn.trans (R' := Eq) (.modQp (fun x => ?_) fun x => ?_) (.of_same ⟨rfl, rfl⟩ fun _ => rfl) fun h g => g ▸ h
  · split <;> rfl
  · rw [if_neg (by simp [hk])]
    exact ⟨by simp [Qp.post, Req.wire], rfl, rfl, rfl, rfl, rfl, rfl⟩

theorem State.PostsOn.modKept {n : Nat} {s : State} {f : Qp → Qp} (h : ∀ x : Qp, x.Posted [] (f x)) : s.PostsOn n [] (s.modQp n f) :=
  .modQp (fun x => (h x).cfg) h

theorem State.notice_queues (s : State) (addr bit : Nat) : SameQueues s (s.notice addr bit) := ⟨rfl, rfl⟩

/-- R81, R82: a queue's watermark changes its notices and maxima alone. -/
theorem State.queueWatermark_posts (s : State) (n k : Nat) : s.PostsOn n [] (s.queueWatermark n k) := by
  unfold State.queueWatermark
  split
  · exact .of_same (.refl s)
  case _ q _ =>
    have hmax : s.PostsOn n [] (s.modQp n (fun q =>
        { q with sqBacklogMax := max q.sqBacklogMax q.backlog, cqLevelMax := max q.cqLevelMax q.cqLevel })) :=
      .modKept fun _ => .of_eq rfl
    dsimp only
    refine .ite (fun _ => .ite (fun _ => ?_) fun _ => hmax) fun _ => .ite (fun _ => hmax.trans (.modKept fun _ => .of_eq rfl)) fun _ => hmax
    exact State.PostsOn.after (.of_same (.after (State.partEvent_queues ..) (State.notice_queues ..)))
      (hmax.trans (.modKept fun _ => .of_eq rfl))

/-- R173: the WRITEs of consecutive blocks from an address on. -/
def writesFrom : Nat → List Bytes → List (ReqKind × Nat × Bytes)
  | _, [] => []
  | addr, b :: bs => (.write, addr, b) :: writesFrom (addr + b.length) bs

theorem State.writeRuns_posts (s : State) (n addr rkey : Nat) (bs : List Bytes) :
    s.PostsOn n (writesFrom addr bs) (s.writeRuns n addr rkey bs) := by
  induction bs generalizing s addr with
  | nil => exact .of_same (.refl s)
  | cons b bs ih => exact (s.issue_posts n rfl ..).trans (ih ..)

theorem chunks_nil (n f : Nat) : chunks n f [] = [] := by
  cases f <;> simp [chunks]

/-- R173: whole blocks precede the last one, so the `k`-th stands `k` blocks on. -/
theorem writesFrom_chunks (n addr k f : Nat) (m : Bytes) :
    writesFrom (addr + n * k) (chunks n f m) = ((chunks n f m).zipIdx k).map (fun e => (.write, addr + n * e.2, e.1)) := by
  induction f generalizing m k with
  | zero => rfl
  | succ f ih =>
    unfold chunks
    split
    · rfl
    · simp only [writesFrom, List.zipIdx_cons, List.map_cons, List.cons.injEq, true_and]
      by_cases hl : n ≤ m.length
      · rw [List.length_take, Nat.min_eq_left hl, ← ih (k + 1), Nat.add_assoc, Nat.mul_succ]
      · rw [List.drop_eq_nil_of_le (by omega), chunks_nil]
        rfl

theorem writesFrom_blocks (n addr : Nat) (m : Bytes) :
    writesFrom addr (blocks n m) = (blocks n m).zipIdx.map (fun e => (.write, addr + n * e.2, e.1)) :=
  writesFrom_chunks n addr 0 m.length m

/-- R59, R173, R176: the WRITEs of a completion's output: zeros over what a failed job streamed, or the rest of what is to be written. -/
def cplWrites (c : Cpl) (n : Nat) : List (ReqKind × Nat × Bytes) :=
  (if c.res.status ≠ 0 ∧ 0 < c.zeroFill then [(.write, c.outAddr, zeros c.zeroFill)] else []) ++
    (if c.chained ∨ c.res.status ≠ 0 then []
      else (blocks 65536 ((c.outBytes n).drop c.zeroFill)).zipIdx.map (fun e =>
        (.write, c.outAddr + c.res.outOff + c.zeroFill + 65536 * e.2, e.1)))

/-- R59, R173: a completion's output is posted as `cplWrites` says. -/
theorem State.writeOutput_posts (s : State) (n : Nat) (c : Cpl) : s.PostsOn n (cplWrites c n) (s.writeOutput n c) := by
  have hzero : s.PostsOn n (if c.res.status ≠ 0 ∧ 0 < c.zeroFill then [(.write, c.outAddr, zeros c.zeroFill)] else [])
      (if c.res.status ≠ 0 ∧ 0 < c.zeroFill then s.issue n .write c.outAddr c.outRkey c.zeroFill (zeros c.zeroFill) else s) := by
    split
    · exact s.issue_posts n rfl ..
    · exact .of_same (.refl s)
  unfold State.writeOutput cplWrites
  refine hzero.trans ?_
  rw [← writesFrom_blocks]
  by_cases hskip : c.chained = true ∨ c.res.status ≠ 0
  · rw [if_pos hskip, if_pos (hskip.imp_right .inl)]
    exact .of_same (.refl _)
  · rw [if_neg hskip]
    by_cases hb : (c.outBytes n).drop c.zeroFill = []
    · simp only [hb, or_true, if_true]
      exact .of_same (.refl _)
    · simp only [hb, or_false, hskip, if_false]
      exact State.writeRuns_posts ..

/-- R57, R59: a queue has written entry `e` to its completion ring, and counted it. -/
structure Qp.WroteEntry (e : ReqKind × Nat × Bytes) (q x : Qp) : Prop where
  reqs : x.reqs.map Req.wire = q.reqs.map Req.wire ++ [e]
  cqPosted : x.cqPosted = q.cqPosted + 1
  cpls : x.cpls = q.cpls
  inFlight : x.inFlight = q.inFlight

/-- R57: a queue has counted one entry of its completion ring. -/
def Qp.Counted (q x : Qp) : Prop := (x.reqs, x.cqPosted, x.cpls, x.inFlight) = (q.reqs, q.cqPosted + 1, q.cpls, q.inFlight)

theorem Qp.Posted.wroteEntry {e : ReqKind × Nat × Bytes} {q x y : Qp} (h : q.Posted [e] x) (g : x.Counted y) : q.WroteEntry e y := by
  unfold Qp.Counted at g
  simp only [Prod.mk.injEq] at g
  obtain ⟨hr, hp, hl, hi⟩ := g
  exact ⟨by rw [hr, h.reqs], by rw [hp, h.cqPosted], hl.trans h.cpls, hi.trans h.inFlight⟩

theorem Qp.WroteEntry.posted {e : ReqKind × Nat × Bytes} {q x y : Qp} (h : q.WroteEntry e x) (g : x.Posted [] y) : q.WroteEntry e y where
  reqs := by rw [g.reqs, h.reqs, List.append_nil]
  cqPosted := g.cqPosted.trans h.cqPosted
  cpls := g.cpls.trans h.cpls
  inFlight := g.inFlight.trans h.inFlight

/-- R57, R72: the address of the next position of a queue's completion ring. -/
def Qp.nextEntryAddr (q : Qp) : Nat := q.cfg.cqAddr + q.cqStride * (q.cqPosted.toNat % 2 ^ q.cfg.cqLog2)

theorem Qp.Posted.nextEntryAddr {rs : List (ReqKind × Nat × Bytes)} {q x : Qp} (h : q.Posted rs x) :
    x.nextEntryAddr = q.nextEntryAddr := by
  unfold Qp.nextEntryAddr Qp.cqStride
  rw [h.cfg, h.cqPosted]

/-- R57, R59, R72: a ring entry is posted at the next position of the queue's completion ring. -/
theorem State.writeRing_acts {s : State} {n : Nat} {q : Qp} (hq : s.qp? n = some q) {kind : ReqKind} (hk : kind.isRead = false)
    (clear : Bool) (b : Nat → Bytes) :
    s.ActsOn n (Qp.WroteEntry (kind, q.nextEntryAddr, q.cplEntry clear (b (phaseOf q.cqPosted.toNat q.cfg.cqLog2))))
      (s.writeRing n kind clear b) := by
  unfold State.writeRing
  simp only [hq]
  exact .after (State.queueWatermark_posts ..)
    (.after (.modQp (R := Qp.Counted) (fun _ => rfl) fun _ => rfl) (s.issue_posts n hk ..) Qp.Posted.wroteEntry) Qp.WroteEntry.posted

theorem SameQueues.withPair (s : State) (p : Pair) : SameQueues s { s with pair := p } := ⟨rfl, rfl⟩

theorem State.mirrorKeys_queues (s : State) (n i : Nat) : SameQueues s (s.mirrorKeys n i) := by
  unfold State.mirrorKeys
  split
  · exact .ite ⟨rfl, rfl⟩ (.refl s)
  · exact .refl s

theorem State.resetTimer_queues (s : State) (id : JobId) : SameQueues s (s.resetTimer id) := .ite ⟨rfl, rfl⟩ (.refl s)

theorem State.deliverNotices_posts (s : State) (n : Nat) (carried : BitVec 3) : s.PostsOn n [] (s.deliverNotices n carried) := by
  refine State.PostsOn.after (State.queueWatermark_posts ..) (.after (State.queueWatermark_posts ..) (.modKept fun x => ?_))
  dsimp only
  split <;> exact .of_eq rfl

/-- R59: a queue has given up the completion that it wrote. -/
structure Qp.GaveUp (c : Cpl) (q x : Qp) : Prop where
  reqs : x.reqs.map Req.wire = q.reqs.map Req.wire
  cqPosted : x.cqPosted = q.cqPosted
  cpls : x.cpls = q.cpls.erase c
  inFlight : x.inFlight = q.inFlight - 1

theorem Qp.GaveUp.posted {c : Cpl} {q x y : Qp} (h : q.GaveUp c x) (g : x.Posted [] y) : q.GaveUp c y where
  reqs := by rw [g.reqs, h.reqs, List.append_nil]
  cqPosted := g.cqPosted.trans h.cqPosted
  cpls := g.cpls.trans h.cpls
  inFlight := g.inFlight.trans h.inFlight

/-- R59, R73: the queue gives up the completion; with that of a QP_SEAL_ESTABLISH its keys come into force. -/
theorem State.giveUp_acts (s : State) (n : Nat) (c : Cpl) : s.ActsOn n (Qp.GaveUp c) (s.modQp n (fun x =>
    let x := { x with cpls := x.cpls.erase c, inFlight := x.inFlight - 1 }
    if c.establish then x.establish else x)) := by
  refine .modQp (fun x => ?_) fun x => ?_ <;> dsimp only <;> split
  · rfl
  · rfl
  · exact ⟨rfl, rfl, rfl, rfl⟩
  · exact ⟨rfl, rfl, rfl, rfl⟩

/-- R59, R82: behind the completion's ring entry, COMPLETION_WRITE takes the completion from its queue and posts nothing more. -/
theorem State.completionWrite_acts {s : State} {n : Nat} {q : Qp} {c : Cpl} (hq : s.qp? n = some q) (h4 : q.state ≠ 4) (h5 : q.state ≠ 5)
    (hc : q.nextCpl s.withholds = some c) :
    State.ActsOn n (Qp.GaveUp c) ((s.writeOutput n c).writeRing n .completion false (fun ph => cplBytes c c.outWritten ph (q.notices ≠ 0)))
      (s.completionWrite n) := by
  unfold State.completionWrite
  simp only [hq, h4, h5, or_self, if_false, hc]
  refine .after (State.PostsOn.after (.of_same (State.touch_queues ..)) ?rest) (State.giveUp_acts ..) Qp.GaveUp.posted
  have hsame : ∀ {u v : State}, SameQueues u v → u.PostsOn n [] v := .of_same
  refine .ite (fun _ => State.PostsOn.after (State.deliverNotices_posts ..) (hsame ?_)) fun _ => hsame ?_
  all_goals
    exact .after (State.resetTimer_queues ..) (.after (.withPair ..) (.ite (State.mirrorKeys_queues ..) (.refl _)))

/-- Settles O11: the output, the ring entry and the end each act on the queue alone, and what they post follows in that order. -/
theorem completionIsWritten : Obligations.CompletionIsWritten := by
  rintro s n q c b hq h4 h5 hc rfl
  have hout := s.writeOutput_posts n c
  obtain ⟨x, hx, hqx⟩ := hout.this q hq
  have hring := State.writeRing_acts hx (kind := .completion) rfl false (fun ph => cplBytes c c.outWritten ph (q.notices ≠ 0))
  obtain ⟨y, hy, hxy⟩ := hring.this x hx
  have hend := State.completionWrite_acts hq h4 h5 hc
  obtain ⟨z, hz, hyz⟩ := hend.this y hy
  refine ⟨_, z, rfl, hz, ?cpls, ?posted, ?inFlight, ?reqs, fun m hm => ?others⟩
  case cpls => rw [hyz.cpls, hxy.cpls, hqx.cpls]
  case posted => rw [hyz.cqPosted, hxy.cqPosted, hqx.cqPosted]
  case inFlight => rw [hyz.inFlight, hxy.inFlight, hqx.inFlight]
  case reqs =>
    have h := hyz.reqs.trans hxy.reqs
    rw [hqx.reqs, hqx.cplEntry, hqx.nextEntryAddr, hqx.cqPosted, hqx.cfg, cplWrites, ← List.append_assoc] at h
    exact h
  case others => rw [hend.others m hm, hring.others m hm, hout.others m hm]

end Sys2Proof.Machine
end

section
/-! SUPPORT. The family of 02_aslys_host_queues, transport and commands: doorbells, answers of the transport, queue commands,
fetching and operand tokens. -/

namespace Sys2Proof.Machine

/-! ### Consumer indices (R54, R56) -/

/-- R54: a WRITE of exactly 8 bytes with zero upper bytes carries its lower word as an index. -/
theorem doorbellIndex_of_word {data : Bytes} (hl : data.length = 8) (hz : zeroAt 4 4 data = true) :
    doorbellIndex data = some (BitVec.ofNat 32 (leAt 0 4 data)) :=
  if_pos ⟨hl, hz⟩

/-- R54, R56: an 8-byte WRITE at offset 8 that carries an index is judged by the queue's rule alone. -/
theorem State.consumerDoorbell_of_word {s : State} {n : Nat} {q : Qp} {data : Bytes} (hq : s.qp? n = some q) (hl : data.length = 8)
    (hz : zeroAt 4 4 data = true) :
    s.consumerDoorbell n 8 data =
      if q.takesConsumer (BitVec.ofNat 32 (leAt 0 4 data)) = true then
        ((((s.inbound n).modQp n (fun x =>
          { x with cqDoorbell := BitVec.ofNat 32 (leAt 0 4 data) })).queueWatermark n 1).touch n).ackNotices n
      else (s.inbound n).badDoorbell n := by
  unfold State.consumerDoorbell State.outsideBlock
  simp only [hq, hl, doorbellIndex_of_word hl hz]
  cases q.takesConsumer (BitVec.ofNat 32 (leAt 0 4 data)) <;> rfl

/-- R56: the two bounds of a consumer index. -/
theorem Qp.takesConsumer_iff (q : Qp) (c : BitVec 32) :
    q.takesConsumer c = true ↔ (c - q.cqDoorbell).toNat ≤ 2 ^ q.cfg.cqLog2 ∧ (q.cqPosted - c).toNat ≤ 2 ^ q.cfg.cqLog2 := by
  unfold Qp.takesConsumer
  rw [Bool.and_eq_true, decide_eq_true_iff, decide_eq_true_iff]
  rfl

/-- R54 to R56: an ignored doorbell is counted on its queue. -/
theorem State.qp?_badDoorbell (s : State) (n m : Nat) :
    (s.badDoorbell n).qp? m = (s.qp? m).map (fun x => if m = n then { x with dbBad := x.dbBad + 1 } else x) :=
  State.qp?_modQp s n m _ fun _ h => h

/-- R41: an inbound request takes a PSN of its queue. -/
theorem State.qp?_inbound (s : State) (n m : Nat) :
    (s.inbound n).qp? m = (s.qp? m).map (fun x => if m = n then { x with hostPsn := x.hostPsn + 1 } else x) :=
  State.qp?_modQp s n m _ fun _ h => h

/-- Settles O7: the WRITE carries an index, which `takesConsumer` judges by the two bounds; an ignored one is counted on its queue alone. -/
theorem consumerIndicesAreJudged : Obligations.ConsumerIndicesAreJudged := by
  rintro s n q data c hq hl hz rfl
  refine ⟨fun h => ?accepted, fun h => ⟨(s.inbound n).badDoorbell n, ?ignored, ?_, fun m hm => ?_, rfl, rfl, rfl⟩⟩
  case accepted =>
    exact congrArg Host.Outcome.next ((State.consumerDoorbell_of_word hq hl hz).trans (if_pos ((q.takesConsumer_iff _).mpr h)))
  case ignored =>
    refine congrArg Host.Outcome.next ((State.consumerDoorbell_of_word hq hl hz).trans (if_neg fun ht => ?_))
    have := (q.takesConsumer_iff _).mp ht
    omega
  · simp [State.qp?_badDoorbell, State.qp?_inbound, hq]
  · simp [State.qp?_badDoorbell, State.qp?_inbound, hm]

/-! ### The transport (R41, R42, R71) -/

/-- R41: an inbound request of a queue that exists is answered with a NAK. -/
theorem State.nakInbound_of_queue {s : State} {n : Nat} (h : (s.qp? n).isSome = true) (syndrome : Nat) :
    s.nakInbound n syndrome = s.send (.nak n syndrome) :=
  if_neg (by simpa [Option.isSome_iff_ne_none] using h)

/-- Settles O8: each row is its operation on a queue that exists, at the request that the row names. -/
theorem transportAnswers : Obligations.TransportAnswers := by
  refine ⟨fun s n a l h => ?read, fun s n op h => ?unsupported, ?timeout, fun s n q r hq hr => ?rnr, ?expiry, fun _ _ _ => rfl,
    fun _ _ _ _ _ => ⟨rfl, rfl⟩⟩
  case read => exact congrArg Host.Outcome.next (State.nakInbound_of_queue h _)
  case unsupported => exact congrArg Host.Outcome.next (State.nakInbound_of_queue h _)
  case timeout =>
    rintro s u n q r rest hq hr rfl
    exact congrArg Host.Outcome.next (by simp only [State.ackTimeout, hq, hr, Option.bind_some, List.head?_cons])
  case rnr => exact congrArg Host.Outcome.next (by simp only [State.rnrNak, hq, hr, Option.bind_some])
  case expiry =>
    rintro s u n q r hq hr rfl
    exact congrArg Host.Outcome.next (by simp only [State.rnrExpiry, hq, hr, Option.bind_some])

/-! ### The commands of queues and regions (R46, R47, R49, R50, R68, R80) -/

/-- Settles O10: each command whose job stands ready has its effect, and the checks that its hypotheses name pass or refuse it. -/
theorem queueCommandsRun : Obligations.QueueCommandsRun := by
  refine ⟨?create, ?destroy, ?destroyRefused, ?drained, ?query, ?queryRefused, ?declare, ?remove, fun s t j h => ?echo⟩
  case create =>
    rintro s q ix j r h rfl hl hok hall hnone hcr hkey
    refine congrArg Host.Outcome.next ((ctl_ready h _).trans ?_)
    unfold State.qpCreate
    simp only [hl, hok, hall, hnone, hcr, ne_eq, not_true, Bool.not_true, Bool.false_eq_true, or_false, if_false, Option.isSome_none]
    rcases hkey with hkey | ⟨n, k, hkey⟩
    · simp only [hkey, if_true]
    · simp only [hkey]
  case destroy =>
    rintro s q ix n j x h rfl hx hn h5
    refine congrArg Host.Outcome.next ((ctl_ready h _).trans ?_)
    unfold State.qpDestroy
    simp only [hx, hn, h5, or_self, if_false]
  case destroyRefused =>
    rintro s q ix n j h rfl hbad
    refine congrArg Host.Outcome.next ((ctl_ready h _).trans ?_)
    unfold State.qpDestroy
    cases hx : s.qp? (j.desc.pLe 48 2) with
    | none => simp only [hx]
    | some x =>
      simp only [hx]
      exact if_pos (by simpa [hx] using hbad)
  case drained =>
    rintro s n x id j hx hid hj h5 hlive hph
    refine congrArg Host.Outcome.next ?_
    simp only [State.qpDestroyDrained, hx, hid, hj, h5, hlive, hph, Option.bind_some, ne_eq, not_true, or_self, if_false]
  case query =>
    rintro s q ix n j h rfl hn
    exact congrArg Host.Outcome.next ((ctl_ready h _).trans (if_neg (Nat.not_lt.mpr hn)))
  case queryRefused =>
    rintro s q ix n j h rfl hn
    exact congrArg Host.Outcome.next ((ctl_ready h _).trans (if_pos hn))
  case declare =>
    rintro s q ix n j x r h rfl hx hl rfl hnum hacc hpos hlen hend hz hnew hdecl
    refine congrArg Host.Outcome.next ((ctl_ready h _).trans ?_)
    unfold State.regionDeclare
    simp only [hx]
    refine if_neg ?_
    dsimp only at hnum hpos hlen hend hnew hdecl
    simp only [hl, hz, hnew, hdecl, ne_eq, not_true, Bool.not_true, Bool.false_eq_true, or_false, false_or]
    omega
  case remove =>
    rintro s q ix n k j x h rfl rfl hx hk hrem
    refine congrArg Host.Outcome.next ((ctl_ready h _).trans ?_)
    obtain ⟨r, hr⟩ := Option.isSome_iff_exists.mp hk
    simp only [State.regionRemove, hx, Option.bind_some, hr, hrem, Bool.false_eq_true, if_false]
  case echo =>
    refine congrArg Host.Outcome.next ((tile_ready h _).trans ?_)
    unfold State.queueEcho
    cases j.desc.chainWait <;> simp

/-! ### Fetching (R61 to R65, R96) -/

/-- R61, R65: a fetch pass serves the queue whose turn it is, which is noted. -/
theorem State.fetchPass_of_turn {s : State} {p : Nat} {q : Qp} (h : s.nextTurn p = some q) :
    s.fetchPass p = ({ s with tabs := { s.tabs with turns := aput p q.cfg.queue s.tabs.turns } } : State).fetchTurn q := by
  unfold State.fetchPass
  rw [h]

/-- R96: an entry held back over a change of course takes its credit first. -/
theorem State.fetchTurn_held {s : State} {q : Qp} (h : q.heldIn.isSome = true) :
    s.fetchTurn q = if s.creditLeft q.cfg.part q.homeCourse = 0 ∧ s.power.mode ≠ .standby then s.refuse q.cfg.queue
      else s.modQp q.cfg.queue (fun x => { x with heldIn := none }) :=
  if_pos h

/-- R61 to R64: a queue that may issue a READ is refused for credit, stalls for space, or fetches. -/
theorem State.fetchTurn_read {s : State} {q : Qp} (h : q.heldIn = none) (hd : q.readsOut < q.cfg.rdDepth) (hr : s.readsOut < 32768) :
    s.fetchTurn q = if s.creditLeft q.cfg.part q.homeCourse = 0 ∧ s.power.mode ≠ .standby then s.refuse q.cfg.queue
      else if q.space = 0 then s.modQp q.cfg.queue (fun x => { x with cqStalls := x.cqStalls + 1 })
      else s.fetchRead q (s.fetchCount q (s.creditLeft q.cfg.part q.homeCourse)) :=
  (if_neg (by simp [h])).trans (if_neg (by omega))

/-! ### Operand tokens (R91, R95, R99 to R106) -/

/-- R66, R91: a context that admits the entry and lists its opcode is taken, and the entry asks for its operands. -/
theorem State.takeContext_of_admitted {s : State} {j : Job} {c : CtxRec} (hit : Bool) (ha : j.admitted c = true)
    (ho : c.ops.contains j.desc.opcode = true) (he : j.err = none) :
    s.takeContext j hit c = (((if hit then s.cacheCtx j.course hit c else (s.cacheCtx j.course hit c).useObj (ctxPageObj c.id)).modJob j.id
        (fun k => { k with ctx := some c, want := k.want.filter (fun t => t ≠ .context) })).askOperands j.id).settle := by
  unfold State.takeContext
  simp only [ha, ho, he, Bool.not_true, Bool.false_eq_true, if_false, Option.isSome_none]

/-- R95: the context token from a cache. -/
theorem State.contextToken_of_hit {s : State} {id : JobId} {j : Job} {c : CtxRec} (hj : s.job? id = some j)
    (hw : j.wants .context = true) (h0 : j.desc.ctxId ≠ 0) (hc : s.cachedCtx j.course j.desc.ctxId = some c) :
    s.contextToken id = s.takeContext j true c := by
  unfold State.contextToken
  simp only [hj, hw, h0, hc, Bool.not_true, Bool.false_eq_true, if_false]

/-- R95: the context token from its page, which need not load. -/
theorem State.contextToken_of_miss {s : State} {id : JobId} {j : Job} {c : CtxRec} (hj : s.job? id = some j)
    (hw : j.wants .context = true) (h0 : j.desc.ctxId ≠ 0) (hc : s.cachedCtx j.course j.desc.ctxId = none)
    (hp : s.stand (ctxPageObj j.desc.ctxId) = .loaded ∨ s.stand (ctxPageObj j.desc.ctxId) = .absent)
    (hb : s.ctxs.bound.find? (fun c => c.id == j.desc.ctxId) = some c) :
    s.contextToken id = s.takeContext j false c := by
  unfold State.contextToken
  rcases hp with hp | hp <;>
    simp only [hj, hw, h0, hc, hp, hb, Bool.not_true, Bool.false_eq_true, if_false]

/-- R106, R257: the lease tile that a key token names. -/
def State.tokLease (s : State) (j : Job) (h : Nat) (r : KeyRec) : Option Nat := if isStateful r.alg then s.leafTile j h else none

/-- R106, R144: the tile whose cached key a key token refers to. -/
def State.tokTile (s : State) (j : Job) (h : Nat) (r : KeyRec) : Option Nat :=
  match s.tokLease j h r with
  | some t => if s.holdsKey t h then some t else none
  | none => s.refTile j h

/-- R325: the counter that a key token raises. -/
def State.tokCounter (s : State) (j : Job) (h : Nat) (r : KeyRec) : Nat :=
  if (s.tokTile j h r).isSome then Reg.kstCacheHits else Reg.kstCacheMisses

/-- R99, R106: the key token that delivers record `r` for a slot of an entry. -/
def State.keyTok (s : State) (j : Job) (slot : Nat) (r : KeyRec) : KeyTok :=
  let h := j.slotHandle slot
  { slot := slot, handle := h, tile := s.tokTile j h r, kr := r,
    chain := ((s.bump (s.tokCounter j h r)).ancestors j.part r).filterMap (fun x => x), seq := s.keys.tokSeq, ver := s.keyVer h,
    lease := s.tokLease j h r }

theorem State.tokCounter_cases (s : State) (j : Job) (h : Nat) (r : KeyRec) :
    s.tokCounter j h r = Reg.kstCacheHits ∨ s.tokCounter j h r = Reg.kstCacheMisses :=
  ite_eq_or_eq ..

/-- R253: only an OBJ_OPEN is stopped by its seal record. -/
theorem Job.objOpenBad_of_ne {j : Job} (h : j.desc.opcode ≠ Op.objOpen) : j.objOpenBad = false := by
  simp [Job.objOpenBad, h]

/-- R99, R120: a key token whose lookup finds a record delivers it, unless the record is a stateful key's that must wait. For an OBJ_OPEN
the seal record is there, is well-formed, and names a child. -/
theorem State.keyToken_of_found {s : State} {id : JobId} {slot n : Nat} {j : Job} {r : KeyRec} (hj : s.job? id = some j)
    (hw : j.wants (.key slot) = true)
    (ho : j.desc.opcode = Op.objOpen → j.wants .payload = false ∧ j.wants .chain = false ∧ j.objOpenBad = false ∧
      s.notChild j (j.slotHandle slot) = false)
    (hr : s.lookup j.part (j.slotHandle slot) ((((s.keyNeeds j).find? (fun k => k.1 == slot)).map Prod.snd).getD []) = .rec_ n r)
    (hl : isStateful r.alg = false ∨ s.leafWaits j (j.slotHandle slot) = false) :
    s.keyToken id slot =
      (State.useObj { s.bump (s.tokCounter j (j.slotHandle slot) r) with
          keys := { (s.bump (s.tokCounter j (j.slotHandle slot) r)).keys with tokSeq := s.keys.tokSeq + 1 } }
        (keyPageObj j.part (hPage (j.slotHandle slot)))).deliver id (.key slot)
          (fun k => { k with keys := k.keys.map (fun x => x.only (s.tokLease j (j.slotHandle slot) r)) ++ [s.keyTok j slot r] }) := by
  have hbad : j.objOpenBad = false := by
    by_cases h : j.desc.opcode = Op.objOpen
    · obtain ⟨-, -, hb, -⟩ := ho h
      exact hb
    · exact Job.objOpenBad_of_ne h
  have hwait : ¬ (isStateful r.alg = true ∧ s.leafWaits j (j.slotHandle slot) = true) := by
    rintro ⟨h1, h2⟩
    simp [h1, h2] at hl
  unfold State.keyToken
  simp only [hj]
  rw [if_neg, if_neg (by simp [hbad]), if_neg, hr]
  · exact if_neg hwait
  · rintro ⟨h, hc⟩
    obtain ⟨-, -, -, hchild⟩ := ho (by simpa using h)
    simp [hchild] at hc
  · rintro (h | ⟨h, hc⟩)
    · simp [hw] at h
    · obtain ⟨hp, hch, -, -⟩ := ho (by simpa using h)
      simp [hp, hch] at hc

/-- Settles O13: a pass serves its queue by `fetchTurn_held` or `fetchTurn_read`, a context comes by `contextToken_of_hit` or
`contextToken_of_miss`, a key by `keyToken_of_found`, and every other token by its operation on the entry that waits for it. -/
theorem operandsAreFetched : Obligations.OperandsAreFetched := by
  refine ⟨?read, ?heldBack, ?arrival, ?context, ?payload, ?key, ?entropy, ?chain, ?payloadError, ?entropyError, ?halted⟩
  case read =>
    rintro s p q a hq rfl hh hd hr
    exact congrArg Host.Outcome.next ((State.fetchPass_of_turn hq).trans (State.fetchTurn_read hh hd hr))
  case heldBack =>
    rintro s p q a hq rfl hh
    exact congrArg Host.Outcome.next ((State.fetchPass_of_turn hq).trans (State.fetchTurn_held hh))
  case arrival =>
    rintro s n data q q' f rest opened got e a b c hq hf hopen rfl he rfl rfl rfl
    refine congrArg Host.Outcome.next ?_
    unfold State.descriptorArrival
    simp only [hq, hf, hopen, he]
  case context =>
    rintro s q ix j c hit hj hw h0 hc ha ho he
    refine congrArg Host.Outcome.next (Eq.trans ?_ (State.takeContext_of_admitted hit ha ho he))
    obtain ⟨hc, rfl⟩ | ⟨hc, rfl, hp, hb⟩ := hc
    · exact State.contextToken_of_hit hj hw h0 hc
    · exact State.contextToken_of_miss hj hw h0 hc hp hb
  case payload =>
    rintro s q ix id j data raw inp whole rfl hj hw rfl habs
    refine congrArg Host.Outcome.next ?_
    unfold State.payloadToken
    simp only [hj, hw, habs, Bool.not_true, Bool.false_eq_true, if_false]
  case key =>
    rintro s q ix slot n id j r rfl hj hw ho hr hl
    exact ⟨_, _, s.keyTok j slot r, s.tokCounter_cases j (j.slotHandle slot) r, rfl, rfl, rfl, rfl, rfl, rfl, rfl,
      congrArg Host.Outcome.next (State.keyToken_of_found hj hw ho hr hl)⟩
  case entropy =>
    rintro s q ix id j ⟨_, bits⟩ rfl hj he hw
    refine congrArg Host.Outcome.next ?_
    unfold State.entropyToken
    simp only [hj, he, hw, Bool.not_true, Bool.false_eq_true, if_false]
  case chain =>
    rintro s q ix id j out rfl hj hc hw
    refine congrArg Host.Outcome.next ?_
    unfold State.chainToken
    simp only [hj, hc, hw, Bool.not_true, Bool.false_eq_true, if_false]
  case payloadError =>
    rintro s q ix n id j rfl hj hw
    exact ⟨congrArg Host.Outcome.next (by simp only [State.errorToken, hj, errOf, hw, if_true]),
      congrArg Host.Outcome.next (by simp only [State.errorToken, hj, hw, if_true])⟩
  case entropyError =>
    rintro s q ix n id j rfl hj hw
    exact congrArg Host.Outcome.next (by simp only [State.errorToken, hj, errOf, hw, if_true])
  case halted =>
    rintro s q ix id j rfl hj
    exact congrArg Host.Outcome.next (by simp only [State.errorToken, hj, errOf])

end Sys2Proof.Machine
end

section
/-! SUPPORT. The family of 02_aslys_host_queues, ports, secure time and sealed queues. -/

namespace Sys2Proof.Machine

/-! ### The ports (R37 to R39, R84, R362, R451) -/

/-- R39: a CNP leaves a rate between what it was and RATE_MIN, or as it was where it is no higher than that. -/
theorem State.cnpIn_rate {s : State} {q : Nat} {x y : Qp} (hx : s.qp? q = some x) (hy : (s.cnpIn q).qp? q = some y) :
    min x.rate (s.fld Reg.hqiCc 31 24) ≤ y.rate ∧ y.rate ≤ x.rate := by
  unfold State.cnpIn at hy
  simp only [hx] at hy
  split at hy
  case isTrue hle =>
    obtain rfl : x = y := Option.some.inj (hx.symm.trans hy)
    omega
  case isFalse hlt =>
    have hfree : State.qp? { s with free := s.free + 1 } q = some x := hx
    simp only [State.qp?_modQp, imp_self, implies_true, hfree, Option.map_some, if_true, Option.some.injEq] at hy
    subst hy
    have := Nat.mod_lt (Config.freeNat s.free) (Nat.sub_pos_of_lt (Nat.not_le.mp hlt))
    dsimp only
    omega

/-- Settles O47: each row is its operation, with the conditions read as the statement writes them; a CNP's cut is bounded by
`cnpIn_rate`. -/
theorem portsAndFlowControl : Obligations.PortsAndFlowControl := by
  refine ⟨?up, fun _ => rfl, fun s n k => ?down, fun s q ix j h => ?cfgWrite, fun s n k x y => ?request, fun _ _ _ => rfl,
    fun s n p t => ?pause, fun _ _ _ => rfl, fun _ _ _ _ _ _ => rfl, ?level, fun s q => ?mark, fun _ _ => rfl, ?cut, ?recover⟩
  case up =>
    rintro s a n k rfl
    exact congrArg Host.Outcome.next (if_congr (by simp) rfl (if_congr (by simp) rfl rfl))
  case down => exact congrArg Host.Outcome.next (if_congr (by simp) rfl rfl)
  case cfgWrite => exact congrArg Host.Outcome.next (ctl_ready h _)
  case request => exact congrArg Host.Outcome.next (if_congr (by simp) rfl rfl)
  case pause => exact congrArg Host.Outcome.next (if_congr (by simp) rfl rfl)
  case level =>
    rintro s a n p len rfl
    exact if_congr (by simp [rxLimit]) rfl (if_congr (by simp [rxLimit]) rfl rfl)
  case mark =>
    unfold State.ceMark
    cases s.qp? q with
    | none => rfl
    | some x =>
      refine if_congr ?_ rfl rfl
      cases x.cnpSentAt <;> simp
  case cut =>
    rintro s t q x y hx ht hy
    obtain rfl : s.cnpIn q = t := Host.Outcome.next.inj ht
    exact State.cnpIn_rate hx hy
  case recover =>
    rintro s a q rfl
    rfl

/-! ### Secure time (R40, R246 to R248) -/

/-- R40: a message's arrival brings no UTC offset by itself. -/
@[simp] theorem Clock.heard_utcOffset (c : Clock) (n : Nat) : (c.heard n).utcOffset = c.utcOffset := by
  unfold Clock.heard
  split <;> rfl

/-- R247: below 1 µs an interval counts towards the lock, which then stays. -/
theorem Clock.count_run (c : Clock) (n : Nat) (off : Int) (hn : n < 2) :
    (c.count n off).run n = if c.run n = 16 then 16 else if c.judged n off < 1000 then c.run n + 1 else 0 := by
  obtain rfl | rfl : n = 0 ∨ n = 1 := by omega
  all_goals
    unfold Clock.count
    dsimp only
    split <;> rfl

/-- R248: at its first lock UNSET time steps by the offset. -/
theorem Clock.lock_secure_of_unset {c : Clock} (h : c.state = .unset) (off : Int) (d : Nat) :
    ((c.lock off d).secure : Int) = max 0 (c.secure + off) := by
  simp only [Clock.lock, h, if_true]
  omega

/-- Settles O48: each row is its operation on the clock, and the rules of the count and the lock are `count_run` and
`lock_secure_of_unset`. -/
theorem timeIsDisciplined : Obligations.TimeIsDisciplined := by
  refine ⟨?event, fun _ => rfl, fun c off d => ⟨rfl, rfl, fun h => ⟨Clock.lock_secure_of_unset h off d, if_pos h⟩,
    fun h => ⟨if_neg h, if_neg h⟩⟩, fun c n off hn => c.count_run n off hn, fun s n k dom tr u => ?general, ?loss⟩
  case event =>
    rintro s a n k dom tr off d c rfl rfl
    exact congrArg Host.Outcome.next (if_congr (by simp) rfl rfl)
  case general =>
    refine congrArg Host.Outcome.next (if_congr (by simp) rfl ?_)
    dsimp only
    rw [Clock.heard_utcOffset]
  case loss =>
    rintro s a n c rfl rfl
    rfl

/-! ### The keys of sealed queues, and attestation (R73, R369) -/

/-- Settles O40: the tile's job has its effect, whose refusals and answer are picked by the offer and the input that it finds. -/
theorem sealedQueuesAgreeKeys : Obligations.SealedQueuesAgreeKeys := by
  refine ⟨fun s t j q h hq => ⟨fun hf => ?refused, ?offer⟩, fun s t j q h hq =>
    ⟨fun ho => ?noOffer, fun o ho hbad => ?form, ?establish⟩, ?attest⟩
  case refused =>
    refine congrArg Host.Outcome.next ((tile_ready h _).trans ?_)
    simp only [State.sealOffer, hq, hf, Bool.not_false, if_true]
  case offer =>
    rintro rnd ⟨id, payload, kem, ec⟩ hf hl rfl hid hk he hp
    dsimp only at hid hk he hp
    subst hid hk he hp
    refine congrArg Host.Outcome.next ((tile_ready h _).trans ?_)
    simp only [State.sealOffer, hq, hf, hl, Bool.not_true, Bool.false_eq_true, ne_eq, not_true, if_false, State.modQp_guard]
  case noOffer => exact congrArg Host.Outcome.next ((tile_ready h _).trans (by simp [State.sealEstablish, hq, ho]))
  case form =>
    refine congrArg Host.Outcome.next ((tile_ready h _).trans ?_)
    simp only [State.sealEstablish, hq, ho]
    exact if_pos (by simpa using hbad)
  case establish =>
    rintro k o r m ho hl hid hz hr hm
    refine congrArg Host.Outcome.next ((tile_ready h _).trans ?_)
    simp only [State.sealEstablish, hq, ho, hl, hid, hz, hr, hm, Bool.not_true, Bool.false_eq_true, ne_eq, not_true, or_false, if_false]
    rfl
  case attest =>
    rintro s t j out h rfl
    refine congrArg Host.Outcome.next ((tile_ready h _).trans ?_)
    rw [apply_ite (s.answer j), apply_ite (s.answer j)]
    exact if_congr Iff.rfl rfl ((if_congr Nat.not_le.symm rfl rfl).trans (ite_not ..))

end Sys2Proof.Machine
end

section
/-! SUPPORT. The family of 03_contexts_and_dispatch, frames and contexts: what tile opcodes leave unchanged when they only answer, and the
commands of flow contexts and home courses. -/

namespace Sys2Proof.Machine

/-! ### Tile opcodes that only answer (R80, R175, R254, R261, R319, R369) -/

/-- R100: an effect that does nothing but answer its job. -/
def OnlyAnswers (f : State → Job → State) : Prop := ∀ s j, ∃ r, f s j = s.answer j r

theorem State.queueEcho_answers : OnlyAnswers State.queueEcho := fun _ _ => ⟨_, rfl⟩

theorem State.hash_answers : OnlyAnswers State.hash := fun _ _ => ⟨_, rfl⟩

theorem State.rngStatus_answers : OnlyAnswers State.rngStatus := fun _ _ => ⟨_, rfl⟩

theorem State.timeQuery_answers : OnlyAnswers State.timeQuery := fun _ _ => ⟨_, rfl⟩

theorem State.answer_ite {s : State} {j : Job} {p : Prop} [Decidable p] {a b : State} (ha : ∃ r, a = s.answer j r)
    (hb : ∃ r, b = s.answer j r) : ∃ r, (if p then a else b) = s.answer j r := by
  split
  · exact ha
  · exact hb

theorem State.rngGenerate_answers : OnlyAnswers State.rngGenerate := fun _ _ => State.answer_ite ⟨_, rfl⟩ ⟨_, rfl⟩

theorem State.manifestBuild_answers : OnlyAnswers State.manifestBuild := fun _ _ => State.answer_ite ⟨_, rfl⟩ ⟨_, rfl⟩

theorem State.attest_answers : OnlyAnswers State.attest := fun _ _ =>
  State.answer_ite ⟨_, rfl⟩ (State.answer_ite ⟨_, rfl⟩ ⟨_, rfl⟩)

/-- R100: a tile opcode that only answers changes nothing but the job its tile runs. -/
theorem OnlyAnswers.onTile {f : State → Job → State} (hf : OnlyAnswers f) (s : State) (t op : Nat) :
    s.onTile t op f = { s with jobs := (s.onTile t op f).jobs } ∧
      ∀ id, (s.tile? t).bind (fun x => x.job) ≠ some id → (s.onTile t op f).job? id = s.job? id := by
  obtain h | ⟨j, hid, -, -, -, -, -, -, h⟩ := s.onTile_cases t op f <;> rw [h]
  · exact ⟨rfl, fun _ _ => rfl⟩
  · obtain ⟨r, hr⟩ := hf s j
    rw [hr]
    exact ⟨rfl, fun id hne => (s.answer_frame t j r).jobs id fun e => hne (e ▸ hid)⟩

/-! ### Tile opcodes that unwrap keys and answer (R144, R163, R215) -/

/-- R144: an effect that keeps to its tile's frame: it changes its job, the tile's key cache, and the log. -/
def KeepsTileFrame (t : Nat) (f : State → Job → State) : Prop := ∀ s j, TileFrame t j.id s (f s j)

theorem TileFrame.ite {t : Nat} {id : JobId} {s u w : State} {p : Prop} [Decidable p] (hu : TileFrame t id s u)
    (hw : TileFrame t id s w) : TileFrame t id s (if p then u else w) := by
  split
  · exact hu
  · exact hw

/-- R218, R220: an opcode that reads a PIN keeps to the frame when what follows does. -/
theorem State.withPin_frame (s : State) (t : Nat) (j : Job) (f : State → Bytes → List Nat → State)
    (h : ∀ u pan pin, TileFrame t j.id u (f u pan pin)) : TileFrame t j.id s (s.withPin t j f) := by
  refine s.withKey_frame t j 0 _ fun u r m => .ite (u.answer_frame ..) ?_
  dsimp only
  split
  · exact u.answer_frame ..
  · exact h ..

section
variable (t : Nat)

theorem State.symDecrypt_frame : KeepsTileFrame t (State.symDecrypt t) := by
  refine fun s j => s.withKey_frame t j 0 _ fun u r m => ?_
  split <;> exact u.answer_frame ..

theorem State.macGenerate_frame : KeepsTileFrame t (State.macGenerate t) := by
  refine fun s j => s.withKey_frame t j 0 _ fun u r m => ?_
  split <;> exact u.answer_frame ..

theorem State.macVerify_frame : KeepsTileFrame t (State.macVerify t) := by
  refine fun s j => s.withKey_frame t j 0 _ fun u r m => .ite (u.answer_frame ..) ?_
  dsimp only
  split <;> exact u.answer_frame ..

theorem State.pinTranslate_frame : KeepsTileFrame t (State.pinTranslate t) := fun s j =>
  .ite (s.answer_frame ..) (s.withPin_frame t j _ fun u _ _ => u.withKey_frame t j 1 _ fun w _ _ => w.answer_frame ..)

theorem State.pinVerify_frame : KeepsTileFrame t (State.pinVerify t) := by
  refine fun s j => .ite (s.answer_frame ..) ?_
  split
  · exact s.answer_frame ..
  · exact s.withPin_frame t j _ fun u _ _ => u.withKey_frame t j 1 _ fun w _ _ => w.answer_frame ..

theorem State.pinValueGenerate_frame : KeepsTileFrame t (State.pinValueGenerate t) := fun s j =>
  .ite (s.answer_frame ..) (s.withPin_frame t j _ fun u _ _ => u.withKey_frame t j 1 _ fun w _ _ => w.answer_frame ..)

theorem State.payMacGenerate_frame : KeepsTileFrame t (State.payMacGenerate t) := fun s j =>
  .ite (s.answer_frame ..) (s.withKey_frame t j 0 _ fun u _ _ => u.answer_frame ..)

theorem State.payMacVerify_frame : KeepsTileFrame t (State.payMacVerify t) := fun s j =>
  .ite (s.answer_frame ..) (s.withKey_frame t j 0 _ fun u _ _ => u.answer_frame ..)

theorem State.valueGenerate_frame : KeepsTileFrame t (State.valueGenerate t) := fun s j =>
  .ite (s.answer_frame ..) (s.withKey_frame t j 0 _ fun u _ _ => u.answer_frame ..)

theorem State.valueVerify_frame : KeepsTileFrame t (State.valueVerify t) := by
  refine fun s j => .ite (s.answer_frame ..) ?_
  split
  · exact s.answer_frame ..
  · exact s.withKey_frame t j 0 _ fun u _ _ => u.answer_frame ..

theorem State.emvArqcVerify_frame : KeepsTileFrame t (State.emvArqcVerify t) := fun s j =>
  .ite (s.answer_frame ..) (s.withKey_frame t j 0 _ fun u _ _ =>
    .ite (u.answer_frame ..) (.ite (u.answer_frame ..) (u.answer_frame ..)))

theorem State.dukptInitExport_frame : KeepsTileFrame t (State.dukptInitExport t) := fun s j =>
  .ite (s.answer_frame ..) (s.withKey_frame t j 0 _ fun u _ _ => u.withKey_frame t j 1 _ fun w _ _ => w.answer_frame ..)

end

/-- R100, R144: a tile opcode that keeps to its tile's frame changes besides the job its tile runs only that tile's key cache
and the log. -/
theorem KeepsTileFrame.onTile {t : Nat} {f : State → Job → State} (hf : KeepsTileFrame t f) (s : State) (op : Nat) :
    (s.onTile t op f = { s with jobs := (s.onTile t op f).jobs, tiles := (s.onTile t op f).tiles, log := (s.onTile t op f).log,
                                regs := (s.onTile t op f).regs }) ∧
      (∀ id, (s.tile? t).bind (fun x => x.job) ≠ some id → (s.onTile t op f).job? id = s.job? id) ∧
      (∀ n, n ≠ t → (s.onTile t op f).tile? n = s.tile? n) ∧
      (∀ x, s.tile? t = some x → ∃ k, (s.onTile t op f).tile? t = some { x with cache := k }) ∧
      (∀ addr idx, addr < 2 ^ 20 → addr ≠ Reg.evrNotice → (s.onTile t op f).reg addr idx = s.reg addr idx) := by
  obtain h | ⟨j, hid, -, -, -, -, -, -, h⟩ := s.onTile_cases t op f <;> rw [h]
  · exact ⟨rfl, fun _ _ => rfl, fun _ _ => rfl, fun x hx => ⟨x.cache, hx⟩, fun _ _ _ _ => rfl⟩
  · obtain ⟨rest, jobs, tiles, cache, regs⟩ := hf s j
    exact ⟨rest, fun id hne => jobs id fun e => hne (e ▸ hid), tiles, cache, regs⟩

/-- Settles O5: the opcodes of the first family only answer, and those of the second keep to their tile's frame. -/
theorem tileAnswersLeaveTheRest : Obligations.TileAnswersLeaveTheRest := by
  refine ⟨fun s u t c hc he => ?answers, fun s u t c hc he => ?keyed⟩
  case answers =>
    simp only [List.mem_cons, List.not_mem_nil, or_false] at hc
    obtain rfl | rfl | rfl | rfl | rfl | rfl | rfl := hc <;> cases he
    · exact State.queueEcho_answers.onTile ..
    · exact State.hash_answers.onTile ..
    · exact State.rngGenerate_answers.onTile ..
    · exact State.rngStatus_answers.onTile ..
    · exact State.timeQuery_answers.onTile ..
    · exact State.manifestBuild_answers.onTile ..
    · exact State.attest_answers.onTile ..
  case keyed =>
    simp only [List.mem_cons, List.not_mem_nil, or_false] at hc
    obtain rfl | rfl | rfl | rfl | rfl | rfl | rfl | rfl | rfl | rfl | rfl | rfl := hc <;> cases he
    · exact (State.symDecrypt_frame t).onTile ..
    · exact (State.macGenerate_frame t).onTile ..
    · exact (State.macVerify_frame t).onTile ..
    · exact (State.pinTranslate_frame t).onTile ..
    · exact (State.pinVerify_frame t).onTile ..
    · exact (State.pinValueGenerate_frame t).onTile ..
    · exact (State.payMacGenerate_frame t).onTile ..
    · exact (State.payMacVerify_frame t).onTile ..
    · exact (State.valueGenerate_frame t).onTile ..
    · exact (State.valueVerify_frame t).onTile ..
    · exact (State.emvArqcVerify_frame t).onTile ..
    · exact (State.dukptInitExport_frame t).onTile ..

/-! ### Flow contexts (R85 to R93) -/

@[simp] theorem State.job?_withCtxs (s : State) (c : Contexts) (id : JobId) : State.job? { s with ctxs := c } id = s.job? id := rfl

/-- Settles O12: each command whose job stands ready has its effect, past the checks that its hypotheses name. -/
theorem contextCommandsRun : Obligations.ContextCommandsRun := by
  refine ⟨?bind, ?replace, ?unbind, ?drained, ?query, ?courseWrite, fun s n c x hx hc hj hf => ?courseDrained⟩
  case bind =>
    rintro s q ix id j c k h rfl hm he hr hk hq hf hs
    refine congrArg Host.Outcome.next ((ctl_ready h _).trans ?_)
    unfold State.ctxBind
    simp only [hm, he, hr, hk, hf, Nat.not_lt.mpr hq, Bool.not_true, Bool.false_eq_true, if_false]
    rcases hs with hs | hs <;> simp only [hs]
  case replace =>
    rintro s q ix j c cur k h rfl hm hr hb hs hcur hg hc hk
    refine congrArg Host.Outcome.next ((ctl_ready h _).trans ?_)
    unfold State.ctxReplace
    rcases hs with hs | hs <;>
      simp only [hm, hr, hb, hs, hcur, hg, hc, hk, Bool.not_true, Bool.false_eq_true, ne_eq, not_true, if_false]
  case unbind =>
    rintro s q ix id j cur h rfl hb hs hcur
    refine congrArg Host.Outcome.next ((ctl_ready h _).trans ?_)
    unfold State.ctxUnbind
    rcases hs with hs | hs <;> simp only [hb, hs, hcur, Bool.false_eq_true, if_false]
  case drained =>
    rintro s id ⟨i, who⟩ j he hp (hj : s.job? who = some j)
    refine congrArg Host.Outcome.next ?_
    unfold State.ctxUnbindDrained
    simp only [he, hp, ne_eq, not_true, if_false, State.job?_withCtxs, hj]
  case query =>
    rintro s q ix id j c h rfl hs hc
    refine congrArg Host.Outcome.next ((ctl_ready h _).trans ?_)
    unfold State.ctxQuery
    rcases hs with hs | hs <;> simp only [hs, hc]
  case courseWrite =>
    rintro s q ix n c j x h ha hm rfl hx rfl hc
    refine congrArg Host.Outcome.next ((cfgRow_ready h ha hm _).trans ?_)
    unfold State.qcourseWrite
    simp only [hx, Nat.not_le.mpr hc, if_false]
    exact (if_congr (by simp) rfl rfl).trans (ite_not ..)
  case courseDrained =>
    refine congrArg Host.Outcome.next ?_
    unfold State.qcourseDrained
    simp only [hx, hc, hj, hf, Option.bind_some, Option.map_some, Option.getD_some, List.isEmpty_nil, Bool.not_true, Bool.false_eq_true,
      or_self, if_false]

end Sys2Proof.Machine
end

section
/-! SUPPORT. The family of 03_contexts_and_dispatch, dispatch: placement, continuation packets, the start and the end of a job, and the
windows and slots of tiles. -/

namespace Sys2Proof.Machine

/-! ### Placement, continuation packets and starts (R104 to R112, R201) -/

/-- R104: in a freeze no packet is sent. -/
theorem State.continuation_of_freeze {s : State} (hf : s.guard.freeze = true) (t : Nat) (data : Bytes) (error : Option Nat) :
    s.continuation t data error = s := by
  unfold State.continuation
  split
  · exact if_pos (.inl hf)
  · rfl

/-- R99, R112: a continuation packet with ERROR ends the stream, once the hod has room for it. -/
theorem State.continuation_error {s : State} {t : Nat} {j : Job} {x : Tile} (hj : s.streamJob t = some j) (hx : s.tile? t = some x)
    (hf : s.guard.freeze = false) (hr : s.tileRuns x = true) (data : Bytes) (st : Nat) :
    s.continuation t data (some st) = if x.taken + 2 ≤ 32 then s.streamFails t j st else s := by
  unfold State.continuation
  simp only [hj, hx, hf, hr, Bool.not_true, Bool.false_eq_true, or_self, if_false]
  exact (if_congr Nat.not_le.symm rfl rfl).trans (ite_not ..)

/-- Settles O16: a placement is picked by the two searches of the ready jobs, a continuation packet by its input, and a start by the packet
at the bottom of the hod. -/
theorem jobsArePlaced : Obligations.JobsArePlaced := by
  refine ⟨?place, fun s t st data j x hj hx hf hr => congrArg Host.Outcome.next (State.continuation_error hj hx hf hr data st), ?stream,
    fun s t data error hf => congrArg Host.Outcome.next (State.continuation_of_freeze hf t data error), ?start⟩
  case place =>
    rintro s a c hf hm rfl
    have hgo : ¬(s.guard.freeze = true ∨ s.power.mode ≠ .serving) := by simp [hf, hm]
    refine ⟨fun j d hd => ?never, fun j x hn ht => ?placed, fun hn ht => ?none⟩ <;>
      refine congrArg Host.Outcome.next ((if_neg hgo).trans ?_)
    case never => simp only [hd]
    case placed => simp only [hn, ht]
    case none => simp only [hn, ht]
  case stream =>
    rintro s t data raw inp all again pk j x hj hx hf hr habs rfl rfl rfl
    refine congrArg Host.Outcome.next ?_
    unfold State.continuation
    simp only [hj, hx, hf, hr, ← habs, Bool.not_true, Bool.false_eq_true, or_self, if_false]
  case start =>
    rintro s a b t x p rest acc j hx hh hk hr hm hfree rfl rfl hj
    refine congrArg Host.Outcome.next ?_
    have hgo : ¬(p.kind ≠ 0 ∨ (!s.tileRuns x) = true ∨ s.power.mode ≠ .serving ∨
        (x.job.isSome = true ∧ (!s.fitsWindow x (p.queue, p.idx)) = true)) := by
      rcases hfree with h | h <;> simp [hk, hr, hm, h]
    unfold State.jobStart
    simp only [hx, hh, hgo, if_false, hj]

/-! ### The ends of jobs (R100, R112, R137, R417) -/

/-- R100, R112: a running tile's job has its result, and its last packet has come. -/
structure State.HasEnded (s : State) (t : Nat) (id : JobId) (j : Job) (r : Result) : Prop where
  runs : (s.tile? t).map s.tileRuns = some true
  runJob : (s.tile? t).bind (fun x => x.job) = some id
  job : s.job? id = some j
  result : j.result = some r
  streams : j.streams = false

/-- R417: a state-changing job has streamed output whose WRITEs are still open. -/
def State.outputWaits (s : State) (j : Job) : Prop := j.brings.isSome = true ∧ 0 < j.outWritten ∧ s.outputOpen j = true

section
variable {s : State} {t : Nat} {id : JobId} {j : Job} {r : Result}

/-- R417: with its output open, a state-changing job waits. -/
theorem State.HasEnded.jobEnd_waits (h : s.HasEnded t id j r) (hw : s.outputWaits j) : s.jobEnd t = s := by
  unfold State.jobEnd
  simp only [h.runJob, h.job, h.result]
  exact if_pos (.inr (.inr hw))

/-- R100, R417: nothing that JOB_END waits for stands in its way. -/
theorem State.HasEnded.goes (h : s.HasEnded t id j r) (hw : ¬ s.outputWaits j) :
    ¬(j.streams = true ∨ (s.tile? t).map s.tileRuns ≠ some true ∨
      (j.brings.isSome = true ∧ 0 < j.outWritten ∧ s.outputOpen j = true)) := by
  rintro (hs | hr | ho)
  · simp [h.streams] at hs
  · exact hr h.runs
  · exact hw ho

/-- R137: what a state-changing job that succeeded brings waits for its batch. -/
theorem State.HasEnded.jobEnd_brings {e : Entry} (h : s.HasEnded t id j r) (hw : ¬ s.outputWaits j) (hb : j.brings = some e)
    (hr : r.status = 0) : s.jobEnd t = (s.leaveTile t).bring e := by
  unfold State.jobEnd
  simp only [h.runJob, h.job, h.result]
  rw [if_neg (h.goes hw)]
  simp only [hb, hr, beq_self_eq_true]

/-- R100: a job that brings nothing completes with its result. -/
theorem State.HasEnded.jobEnd_finishes (h : s.HasEnded t id j r) (hb : j.brings = none) (hr : r.status = 0) :
    s.jobEnd t = (s.leaveTile t).finish id r t := by
  unfold State.jobEnd
  simp only [h.runJob, h.job, h.result]
  rw [if_neg (h.goes (by simp [State.outputWaits, hb]))]
  simp only [hb, hr, beq_self_eq_true]

/-- R100: a job that failed gives up what it holds and completes with its status. -/
theorem State.HasEnded.jobEnd_fails (h : s.HasEnded t id j r) (hw : ¬ s.outputWaits j) (hr : r.status ≠ 0) :
    s.jobEnd t = ((s.leaveTile t).release j).finish id r t := by
  unfold State.jobEnd
  simp only [h.runJob, h.job, h.result]
  rw [if_neg (h.goes hw)]
  simp only [beq_eq_false_iff_ne.mpr hr]

end

/-! ### Yield windows and slots (R200, R201, R209, R211, R335) -/

/-- Settles O17: a job with its result ends as `HasEnded` says, and each window and slot row is its operation on a tile that exists. -/
theorem jobsEndAndSlotsTurn : Obligations.JobsEndAndSlotsTurn := by
  refine ⟨?jobEnd, ?yieldPoint, fun s t x hx => ?windowEnd, ?slot⟩
  case jobEnd =>
    rintro s t x id j r hx hid hj hr hs hrun
    have h : s.HasEnded t id j r := ⟨by simp [hx, hrun], by simp [hx, hid], hj, hr, hs⟩
    have hclosed : j.brings = none ∨ j.outWritten = 0 ∨ s.outputOpen j = false → ¬ s.outputWaits j := by
      rintro ho ⟨hb, hw, hopen⟩
      rcases ho with ho | ho | ho
      · simp [ho] at hb
      · omega
      · simp [ho] at hopen
    exact ⟨fun e hb hz ho => congrArg Host.Outcome.next (h.jobEnd_brings (hclosed (.inr ho)) hb hz),
      fun e hb hw ho => congrArg Host.Outcome.next (h.jobEnd_waits ⟨by simp [hb], hw, ho⟩),
      fun hz hb => congrArg Host.Outcome.next (h.jobEnd_finishes hb hz),
      fun hz ho => congrArg Host.Outcome.next (h.jobEnd_fails (hclosed ho) hz)⟩
  case yieldPoint =>
    rintro s t x id j hx hid hj hl hw hh hr hrun
    refine congrArg Host.Outcome.next ?_
    unfold State.yieldPoint
    simp only [hx, hid, hj, hl, hw, hh, hr, hrun, Option.bind_some, Option.isSome_none, Bool.not_true, Bool.false_eq_true,
      or_self, if_false]
  case windowEnd =>
    refine congrArg Host.Outcome.next ?_
    unfold State.yieldWindowEnd
    simp only [hx]
    exact (if_congr (by simp [-not_and, not_and_or, Option.isSome_iff_ne_none]) rfl rfl).trans (ite_not ..)
  case slot =>
    rintro s a t x hx hk rfl
    refine congrArg Host.Outcome.next ?_
    unfold State.slotBoundary
    simp only [hx, hk, ne_eq, not_true, if_false]

end Sys2Proof.Machine
end

section
/-! SUPPORT. The family of 04_key_store, persistence: the persistence queue and its regions, the batches that commit state changes, and
the loading of pages. -/

namespace Sys2Proof.Machine

/-! ### The persistence queue and its regions (R130 to R132) -/

/-- R132: PERSIST_REGION_REMOVE of a declared region whose objects are all known is decided by the objects that the region holds. -/
theorem State.persistRegionRemove_of_known {s : State} {j : Job} {r : PRegion}
    (hr : s.keys.regions.find? (fun r => r.num == j.desc.pLe 48 2) = some r) (hk : s.regionUnknown r = false) :
    s.persistRegionRemove j =
      let n := j.desc.pLe 48 2
      let held := (s.keys.objs.filter (fun e => r.covers e.obj)).map (fun e => e.obj)
      if held = [] then ({ s with keys := { s.keys with regions := s.keys.regions.filter (fun x => x.num ≠ n) } } : State).done j
      else if held.any (fun o => !s.keys.regions.any (fun x => x.num ≠ n && x.covers o)) then s.deny j Status.busy
      else ({ s with keys := { s.keys with removing := s.keys.removing ++ [(n, j.id)] } } : State).bringCtl j (held.map (fun o => .move o n))
        (held.filter (fun o => o.kind ≠ 3)) := by
  unfold State.persistRegionRemove
  simp only [hr, hk, Bool.false_eq_true, if_false, List.isEmpty_iff]

/-! ### Batches (R130, R136, R137, R440) -/

/-- Settles O14: each command's checks pass as its hypotheses say, and a batch opens and roots with the entries that they name. -/
theorem persistenceRuns : Obligations.PersistenceRuns := by
  refine ⟨?attach, ?declare, ?remove, ?opened, ?rooted⟩
  case attach =>
    rintro s q ix n j x h rfl hx hp hst hin hj
    refine congrArg Host.Outcome.next ((ctl_ready h _).trans ?_)
    unfold State.persistAttach
    simp only [hx, hp, hst, hin, hj, ne_eq, not_true, Bool.false_eq_true, or_self, if_false]
  case declare =>
    rintro s q ix j r h rfl hl hv hfree
    refine congrArg Host.Outcome.next ((ctl_ready h _).trans ?_)
    unfold State.persistRegionDeclare
    simp only [hl, hv, hfree, ne_eq, not_true, Bool.not_true, Bool.false_eq_true, or_self, if_false]
  case remove =>
    rintro s q ix n j r h rfl hr hk
    exact congrArg Host.Outcome.next ((ctl_ready h _).trans (State.persistRegionRemove_of_known hr hk))
  case opened =>
    rintro s a busy ready held got left objs b0 b hw hf rfl rfl hh ht hg rfl rfl
    refine congrArg Host.Outcome.next ?_
    unfold State.batchOpen
    simp only [hw, hf, hh, ht, hg, List.isEmpty_iff, Bool.false_eq_true, or_self, if_false]
  case rooted =>
    rintro s b hb hf
    refine congrArg Host.Outcome.next ?_
    unfold State.batchPersisted
    simp only [hb, hf, Bool.false_eq_true, if_false]

/-! ### Loading pages (R141, R142, R287) -/

/-- R141, R398: with no adoption waiting, an image is a load's. -/
theorem State.pageArrival_of_no_adoption {s : State} (h : s.adopting 2 = none) (o : Obj) (frame : Nat) (img : Bytes) :
    s.pageArrival o frame img = s.pageImage o frame img := by
  unfold State.pageArrival
  rw [h]

/-- R398: the level-4 tree page is judged for the adoption that waits for it. -/
theorem State.pageArrival_of_adoption {s : State} {j : Job} (h : s.adopting 2 = some j) {frame : Nat} (hf : frame < 2) (img : Bytes) :
    s.pageArrival (treeObj 4 0) frame img = s.adoptPage j (treeObj 4 0) frame img := by
  unfold State.pageArrival
  rw [h]
  exact if_pos ⟨rfl, hf⟩

/-- Settles O15: a page load starts past its guards, and an image goes to the adoption that waits for it, else to the load. -/
theorem pagesLoad : Obligations.PagesLoad := by
  refine ⟨?start, ?arrival, fun s frame img j ha hf => congrArg Host.Outcome.next (State.pageArrival_of_adoption ha hf img)⟩
  case start =>
    rintro s o e he hl hk hst hr hp hd hs
    refine congrArg Host.Outcome.next ?_
    have hkind : ¬(o.kind = 1 ∧ s.eol = true) := by
      rintro ⟨h1, h2⟩
      simp [h1, h2] at hk
    have hreg : (s.regionFor o).isNone = false := by simpa using hr
    have hkey : s.dram.key.isNone = false := by simpa using hd
    unfold State.pageLoadStart
    simp only [he, hl, hkind, hst, hreg, hp, hkey, hs, ne_eq, not_true, Bool.false_eq_true, or_self, if_false]
  case arrival =>
    rintro s a o frame img e he hl ha rfl
    refine congrArg Host.Outcome.next ((State.pageArrival_of_no_adoption ha o frame img).trans ?_)
    unfold State.pageImage
    rw [he]
    exact if_neg (not_not_intro hl)

end Sys2Proof.Machine
end

section
/-! SUPPORT. The family of 04_key_store, key commands: making, replacing, revoking, erasing and showing keys. -/

namespace Sys2Proof.Machine

/-! ### New records (R149 to R151, R242, R244) -/

/-- Settles O24: past its checks, each command stores a new record. -/
theorem keysAreMade : Obligations.KeysAreMade := by
  refine ⟨fun s t st dt j h hb => ?refused, ?generated, ?imported⟩
  case refused =>
    refine congrArg Host.Outcome.next ((tile_ready h _).trans ?_)
    unfold State.keyGenerate
    simp only [hb]
  case generated =>
    rintro s t alg len j mat k h hb rfl rfl rfl rfl
    refine congrArg Host.Outcome.next ((tile_ready h _).trans ?_)
    unfold State.keyGenerate
    simp only [hb, Bool.not_eq_eq_eq_not, Bool.not_true]
    rfl
  case imported =>
    rintro s t j w wk h hs h56 h63 hk
    refine congrArg Host.Outcome.next ((tile_ready h _).trans ?_)
    -- `rfl` compares the statement's matches with those of the definitions, which differ by name between two modules.
    unfold State.keyImport State.storeKey
    simp only [hs, h56, h63, key_ready hk, ne_eq, not_true, or_self, if_false, List.nil_append, List.append_nil] <;> rfl

/-! ### Replacement (R143, R148, R149) -/

/-- R143, R148: KEY_REPLACE whose fields pass and whose record is found is refused for a DUAL record and while a replacement of it is
pending, and else goes by its SOURCE. -/
theorem State.keyReplace_of_found {s : State} {j : Job} {page : Nat} {r : KeyRec} (hs : s.keyStoreShut true true = none)
    (h56 : j.desc.p8 56 ≤ 1) (hz : j.desc.pZero 57 3 = true) (hi : j.desc.p8 56 = 0 → j.desc.inLen = 0)
    (hr : s.lookup j.part j.target [] = .rec_ page r) (t : Nat) :
    s.keyReplace t j =
      if r.attr.getLsbD 3 then s.answer j (fail Status.attrDenied)
      else if s.replacePending j.target then s.answer j (fail Status.replacePending)
      else if j.desc.p8 56 = 0 then
        if materialOk r.alg r.len (generated r.alg r.len j.entropy) then s.putReplacement t j page r (generated r.alg r.len j.entropy)
        else s.answer j (fail Status.invalidInput)
      else s.withKey t j 0 (fun s w wk =>
        match replaceBlock r w.alg wk j.input with
        | (0, mat) => s.putReplacement t j page r mat
        | (st, _) => s.answer j (fail st)) := by
  have hgo : ¬(1 < j.desc.p8 56 ∨ (!j.desc.pZero 57 3) = true ∨ (j.desc.p8 56 = 0 ∧ j.desc.inLen ≠ 0)) := by
    rintro (h | h | ⟨h0, h⟩)
    · omega
    · simp [hz] at h
    · exact h (hi h0)
  unfold State.keyReplace
  simp only [hs, hr]
  exact if_neg hgo

/-- R143 steps 2 to 4: with the key that wraps the record, a replacement waits for another tile, is verified, and is brought. -/
theorem State.putReplacement_of_ownKey {s : State} {j : Job} {r : KeyRec} {k : Bytes} (hk : s.ownKey j.part r = some k)
    (t page : Nat) (mat : Bytes) :
    s.putReplacement t j page r mat =
      if s.otherTile t = false then s
      else if (openRec k j.target (wrapRec k j.target r mat)).isSome = true ∧ replaceKnown r mat (sub 12 4 j.desc.param) = true then
        ({ s with keys := { s.keys with replacing := s.keys.replacing ++ [{ handle := j.target, queue := j.queue, idx := j.idx }] } } : State)
          |>.answerBring j [.keyPut j.part page (wrapRec k j.target r mat) false] [keyPageObj j.part page] (okOut (checkValue r.alg r.len mat))
      else s.answer j (fail Status.verifyFail) := by
  have hbad : ((openRec k j.target (wrapRec k j.target r mat)).isNone = true ∨ (!replaceKnown r mat (sub 12 4 j.desc.param)) = true) ↔
      ¬((openRec k j.target (wrapRec k j.target r mat)).isSome = true ∧ replaceKnown r mat (sub 12 4 j.desc.param) = true) := by
    rw [not_and_or]
    simp
  unfold State.putReplacement
  simp only [hk]
  refine if_congr (by simp) rfl ?_
  exact (if_congr hbad rfl rfl).trans (ite_not ..)

/-! ### Revocation and erasure (R145 to R147, R241) -/

/-- R145, R146: while a job pins the record, or no erasure of it waits, the end of a pin sweeps the caches and ends revocations alone. -/
theorem State.keyPinRelease_of_idle {s : State} {h : Nat}
    (hi : s.sweepCaches.finishRevokes.pins h ≠ 0 ∨ s.sweepCaches.finishRevokes.keys.erasing.filter (fun e => e.1 == h) = []) :
    s.keyPinRelease h = s.sweepCaches.finishRevokes := by
  unfold State.keyPinRelease
  obtain hp | he := hi
  · exact if_pos hp
  · simp only [he]
    exact ite_self _

/-- R147: with the last pin gone, the erasure that waits for it goes on. -/
theorem State.keyPinRelease_of_waiting {s : State} {h : Nat} {id : JobId} {k : Job} {b : Entry}
    (hp : s.sweepCaches.finishRevokes.pins h = 0)
    (he : s.sweepCaches.finishRevokes.keys.erasing.filter (fun e => e.1 == h) = [(h, id)])
    (hk : s.sweepCaches.finishRevokes.job? id = some k) (hph : k.phase = .blocked) (hb : k.brings = some b) :
    s.keyPinRelease h = (s.sweepCaches.finishRevokes.modJob k.id (fun k => { k with brings := none })).bring b := by
  unfold State.keyPinRelease
  refine (if_neg (not_not_intro hp)).trans ?_
  simp only [he, forEach, List.foldl_cons, List.foldl_nil, hk, hph, hb, beq_self_eq_true]

/-- Settles O25: KEY_REPLACE goes by `keyReplace_of_found`, the end of a pin by what still pins the record, and KEY_REVOKE and KEY_ERASE
past the checks that their hypotheses name. -/
theorem keysAreReplacedAndRevoked : Obligations.KeysAreReplacedAndRevoked := by
  refine ⟨?replace, fun s t page j r mat k hk => State.putReplacement_of_ownKey hk t page mat, ?revoke, ?erase,
    fun s a h ha hi => ?idle, fun s a h id k b ha hp he hk hph hb => ?waiting⟩
  case replace =>
    rintro s t page j r h hs h56 hz hi hr
    have hrun := (tile_ready h _).trans (State.keyReplace_of_found hs h56 hz hi hr t)
    refine ⟨fun hd => ?dual, fun hd hp => ?pending, fun hd hp h0 => ?source0, ?source1⟩
    case dual => exact congrArg Host.Outcome.next (hrun.trans (if_pos hd))
    case pending => exact congrArg Host.Outcome.next (hrun.trans (by simp only [hd, hp, Bool.false_eq_true, if_false, if_true]))
    case source0 => exact congrArg Host.Outcome.next (hrun.trans (by simp only [hd, hp, h0, Bool.false_eq_true, if_false, if_true]))
    case source1 =>
      rintro w wk a hd hp h1 hk rfl
      have hsource : ¬j.desc.p8 56 = 0 := by omega
      exact congrArg Host.Outcome.next (hrun.trans ((if_neg (ne_true_of_eq_false hd)).trans
        ((if_neg (ne_true_of_eq_false hp)).trans ((if_neg hsource).trans (key_ready hk _)))))
  case revoke =>
    rintro s t page j r h hs hz hi hr
    refine congrArg Host.Outcome.next ((tile_ready h _).trans ?_)
    unfold State.keyRevoke
    simp only [hs, hz, hi, hr, ne_eq, not_true, Bool.not_true, Bool.false_eq_true, or_self, if_false]
  case erase =>
    rintro s t page j r h hs hz hi hr hp
    refine congrArg Host.Outcome.next ((tile_ready h _).trans ?_)
    unfold State.keyErase
    simp only [hs, hz, hi, hr, hp, ne_eq, not_true, Bool.not_true, Bool.false_eq_true, or_self, if_false]
  case idle =>
    subst ha
    exact congrArg Host.Outcome.next (State.keyPinRelease_of_idle hi)
  case waiting =>
    subst ha
    exact congrArg Host.Outcome.next (State.keyPinRelease_of_waiting hp he hk hph hb)

/-! ### What is shown of a key (R149, R159, R189, R236, R237, R241) -/

/-- Settles O26: past its checks, each command answers with what its record and material give, or with the refusal. -/
theorem keysAreShown : Obligations.KeysAreShown := by
  refine ⟨?exported, ?queried, ?published⟩
  case exported =>
    rintro s a t j r m h hs hi hk rfl
    refine ⟨fun hd => ?dual, fun hd hno => ?refused, fun w wk usage mode letter hd hx hb hw => ?shown⟩ <;>
      (refine congrArg Host.Outcome.next ((tile_ready h _).trans ?_)
       unfold State.keyExport
       simp only [hs, hi, key_ready hk, hd, ne_eq, not_true, Bool.false_eq_true, if_false, if_true])
    case refused =>
      obtain hx | hb := hno
      · simp only [hx]
      · simp only [hb]
        cases r.attr.getLsbD 0 <;> rfl
    case shown => simp only [hx, hb, key_ready hw]
  case queried =>
    rintro s t page j r h hs hz hi hr hp ha
    refine congrArg Host.Outcome.next ((tile_ready h _).trans ?_)
    unfold State.keyQuery
    simp only [hs, hz, hi, hr, hp, ha, ne_eq, not_true, Bool.not_true, Bool.false_eq_true, or_self, if_false]
    cases s.checkOf j.part j.target r <;> rfl
  case published =>
    rintro s t j r m h hs hz hi hk
    refine congrArg Host.Outcome.next ((tile_ready h _).trans ?_)
    unfold State.keyPublic
    simp only [hs, hz, hi, key_ready hk, ne_eq, not_true, Bool.not_true, Bool.false_eq_true, or_self, if_false]
    exact (apply_ite ..).symm

end Sys2Proof.Machine
end

section
/-! SUPPORT. The family of 05_cipher_and_hash_engines, ciphers: opening and sealing texts, under the host's IVs and leased ones. -/

namespace Sys2Proof.Machine

/-! ### The counter of a leased IV (R168, R171, R172, R424) -/

section
variable {s : State} {t : Nat} {j : Job}

/-- R424: a fenced device takes no counter. -/
theorem State.withCounter_of_fenced (hr : s.pair.role = 3) (slot : Nat) (f : State → Nat → State) :
    s.withCounter t j slot f = s.answer j (fail Status.fenced) :=
  if_pos hr

/-- R174: a job that took its counter before runs with it. -/
theorem State.withCounter_of_held {n : Nat} (hr : s.pair.role ≠ 3) (hc : j.counter = some n) (slot : Nat) (f : State → Nat → State) :
    s.withCounter t j slot f = f s n := by
  unfold State.withCounter
  simp only [hr, hc, if_false]

/-- R171: a job without a counter runs with the next one of its tile's lease. -/
theorem State.withCounter_of_taken {n : Nat} {a : State} (hr : s.pair.role ≠ 3) (hc : j.counter = none)
    (ht : s.takeCounter t j.part = some (n, a)) (slot : Nat) (f : State → Nat → State) : s.withCounter t j slot f = f a n := by
  unfold State.withCounter
  simp only [hr, hc, ht, if_false]

/-- R171, R172: without a usable lease a job waits for the next, unless its space is spent. -/
theorem State.withCounter_of_none (hr : s.pair.role ≠ 3) (hc : j.counter = none) (ht : s.takeCounter t j.part = none) (slot : Nat)
    (f : State → Nat → State) :
    s.withCounter t j slot f =
      if s.spaceSpent t j.part then (s.retireKey (j.handle slot)).answer j (fail Status.leaseExhausted)
      else (s.askLease t j.part).modJob j.id (fun k => { k with awaits := some j.part }) := by
  unfold State.withCounter
  simp only [hr, hc, ht, if_false]

end

/-! ### Sealing (R163, R168, R174) -/

/-- R163, R168: the IV that a leased counter's 12 B give under a block: in CBC they are encrypted first. -/
def SymBlock.ivOf (x : SymBlock) (alg : Nat) (key iv12 : Bytes) : Bytes :=
  if x.mode = 0x02 then encBlock alg key (iv12 ++ zeros 4) else iv12

/-- R163, R168: the answer of a job that seals under counter `n`. -/
def State.answerLeased (t : Nat) (j : Job) (x : SymBlock) (alg : Nat) (key aad pt : Bytes) (first : Option (Bytes × Bytes × Bytes))
    (a : State) (n : Nat) : State :=
  a.answer j (okOut (x.sealIt alg key (x.ivOf alg key (a.leasedIv j.part t n)) aad j.dun pt
    (x.firstTag key (x.ivOf alg key (a.leasedIv j.part t n)) first)) n)

section
variable {s : State} {t slot alg : Nat} {j : Job} {x : SymBlock} {key hostIv aad pt : Bytes} {first : Option (Bytes × Bytes × Bytes)}

/-- R166: a text that its block cannot seal is INVALID_INPUT. -/
theorem State.sealWith_of_unsealable (hs : x.sealable alg key pt = false) :
    s.sealWith t j slot x alg key hostIv aad pt first = s.answer j (fail Status.invalidInput) := by
  unfold State.sealWith
  simp only [hs, Bool.not_false, if_true]

/-- R163: without the LEASED policy the host's IV is used. -/
theorem State.sealWith_of_host (hs : x.sealable alg key pt = true) (hp : x.ivPolicy ≠ 0) :
    s.sealWith t j slot x alg key hostIv aad pt first =
      s.answer j (okOut (x.sealIt alg key hostIv aad j.dun pt (x.firstTag key hostIv first))) := by
  unfold State.sealWith
  simp only [hs, hp, Bool.not_true, Bool.false_eq_true, if_false]

/-- R168: under the LEASED policy the text is sealed with the job's counter. -/
theorem State.sealWith_of_leased (hs : x.sealable alg key pt = true) (hp : x.ivPolicy = 0) :
    s.sealWith t j slot x alg key hostIv aad pt first =
      s.withCounter t j slot (State.answerLeased t j x alg key aad pt first) := by
  unfold State.sealWith
  simp only [hs, hp, Bool.not_true, Bool.false_eq_true, if_false, if_true]
  rfl

end

/-- Settles O18: each opcode runs with its keys' material, and sealing goes by its block's policy and, under LEASED, by where the counter
comes from. -/
theorem ciphersRun : Obligations.CiphersRun := by
  refine ⟨fun s t j r m h hk => ?decrypt, ?encrypt, ?reencrypt, fun s t slot alg j x key hostIv aad pt first =>
    ⟨State.sealWith_of_unsealable, State.sealWith_of_host, fun hs hp hr => ?fenced, ?leased, fun hs hp hr hc ht => ?unleased⟩⟩
  case decrypt =>
    refine congrArg Host.Outcome.next ((tile_ready h _).trans ((key_ready hk _).trans ?_))
    cases (j.block 0).openIt r.alg m j.aadLen j.dun j.input with
    | bad st => rfl
    | ok pt => rfl
  case encrypt =>
    rintro s a t n j r m h hk rfl rfl
    exact congrArg Host.Outcome.next ((tile_ready h _).trans (key_ready hk _))
  case reencrypt =>
    rintro s a t j r r1 m m1 opened h hk rfl hk1 rfl
    refine congrArg Host.Outcome.next ((tile_ready h _).trans ((key_ready hk _).trans ?_))
    dsimp only
    rcases (j.block 0).openIt r.alg m j.aadLen j.dun j.input with st | pt
    · rfl
    · rcases j.firstPass.map _ with - | st | pt1
      · exact key_ready hk1 _
      · rfl
      · exact key_ready hk1 _
  case fenced => exact (State.sealWith_of_leased hs hp).trans (State.withCounter_of_fenced hr ..)
  case leased =>
    rintro a n iv hs hp hr hn rfl
    refine (State.sealWith_of_leased hs hp).trans ?_
    cases hc : j.counter with
    | some c =>
      simp only [hc, Option.some.injEq, Prod.mk.injEq] at hn
      obtain ⟨rfl, rfl⟩ := hn
      exact State.withCounter_of_held hr hc ..
    | none =>
      simp only [hc] at hn
      exact State.withCounter_of_taken hr hc hn ..
  case unleased => exact (State.sealWith_of_leased hs hp).trans (State.withCounter_of_none hr hc ht ..)

end Sys2Proof.Machine
end

section
/-! SUPPORT. The family of 05_cipher_and_hash_engines, the other engines: MACs, hashes, counter leases and parity errors. -/

namespace Sys2Proof.Machine

/-- R169: a tile that exists asks for the next lease of a space, unless it has asked for one or the space is spent. -/
theorem State.askLease_of_tile {s : State} {t : Nat} {x : Tile} (hx : s.tile? t = some x) (p : Nat) :
    s.askLease t p =
      if p ∈ x.wantLease ∨ 2 ^ 64 ≤ s.hwmNext p (courseOf t) + 2 ^ 24 then s
      else (s.modTile t (fun x => { x with wantLease := x.wantLease ++ [p] })).bring
        { changes := [.hwm p (courseOf t) t (s.hwmNext p (courseOf t) + 2 ^ 24)], objs := [], job := none, res := {} } := by
  unfold State.askLease
  simp only [hx, Option.map_some, Option.getD_some, List.contains_iff_mem]

/-- R169: LEASE_REQUEST asks where the tile serves the partition and its leases run low. -/
theorem State.leaseRequest_of_low {s : State} {t p : Nat} {x : Tile} (hx : s.tile? t = some x)
    (hl : x.leases.filter (fun l => l.owner == p) = [] ∨
      ∃ l : Lease, x.leases.filter (fun l => l.owner == p) = [l] ∧ l.stop - l.next ≤ 2 ^ 22)
    (hp : (s.tileRec t).holds p = true) (h4 : x.state ≠ 4) (h6 : x.state ≠ 6) (hm : s.power.mode = .serving) :
    s.leaseRequest t p = s.askLease t p := by
  unfold State.leaseRequest
  obtain hl | ⟨l, hl, hn⟩ := hl
  · simp [hx, hl, hp, h4, h6, hm]
  · simp only [hx, hl, decide_eq_true hn]
    simp [hp, h4, h6, hm]

/-- Settles O19: each opcode answers with its block's MAC or its part's hash, a lease is asked for once it runs low, and a parity error
acts by its engine. -/
theorem macsLeasesAndParity : Obligations.MacsLeasesAndParity := by
  refine ⟨fun s t j r m h hk => ?generate, ?verify, fun s t j h => congrArg Host.Outcome.next (tile_ready h _),
    fun s t p x hx hl hp h4 h6 hm => ?lease, fun s t e l x hx h4 h6 hm => ?parity⟩
  case generate =>
    refine congrArg Host.Outcome.next ((tile_ready h _).trans ((key_ready hk _).trans ?_))
    cases (j.block 0).mac r.alg m j.input with
    | none => rfl
    | some tag => rfl
  case verify =>
    rintro s t n j r m h hk rfl
    refine congrArg Host.Outcome.next ((tile_ready h _).trans ((key_ready hk _).trans ?_))
    dsimp only
    split
    case isTrue => rfl
    case isFalse =>
      have htext : (j.input.take (j.input.length - (j.block 0).tagLen)).length = j.input.length - (j.block 0).tagLen :=
        List.length_take_of_le (Nat.sub_le ..)
      rw [htext]
      cases (j.block 0).mac r.alg m (j.input.take (j.input.length - (j.block 0).tagLen)) with
      | none => rfl
      | some tag => rfl
  case lease => exact congrArg Host.Outcome.next ((State.leaseRequest_of_low hx hl hp h4 h6 hm).trans (State.askLease_of_tile hx p))
  case parity =>
    refine congrArg Host.Outcome.next ?_
    unfold State.parityError
    simp only [hx, h4, h6, hm, ne_eq, not_true, or_self, if_false]

end Sys2Proof.Machine
end

section
/-! SUPPORT. The family of 05_cipher_and_hash_engines, custody: sealed objects, manifests and the signatures of the custody family. -/

namespace Sys2Proof.Machine

/-! ### Manifests (R254, R255) -/

/-- R254: the lengths that MANIFEST_BUILD refuses are those of no nonce with 1 to 2^24 records. -/
theorem manifestLength_bad_iff (n : Nat) :
    n < 160 ∨ (n - 32) % 128 ≠ 0 ∨ 2 ^ 24 < (n - 32) / 128 ↔ ¬∃ k, n = 32 + 128 * k ∧ 1 ≤ k ∧ k ≤ 2 ^ 24 := by
  constructor
  · rintro h ⟨k, rfl, h1, h2⟩
    omega
  · intro h
    by_contra hg
    exact h ⟨(n - 32) / 128, by omega, by omega, by omega⟩

/-! ### Signatures (R255, R258) -/

section
variable {s a : State} {t slot : Nat} {j : Job} {r : KeyRec} {m : Bytes}

/-- R258: on a device that is not fenced a job runs with its tile's next leaf. -/
theorem State.withLeaf_of_taken {b : State} {h leaf : Nat} (hr : s.pair.role ≠ 3) (hl : s.takeLeaf t h = some (leaf, b))
    (f : State → Nat → State) : s.withLeaf t j h f = f b leaf := by
  unfold State.withLeaf
  simp only [hr, hl, if_false]

/-- R258: a key that is not stateful signs by its algorithm. -/
theorem State.custSign_of_stateless (hk : KeyReady s t j slot r m)
    (ha : a = s.cacheKey t j.part (j.handle slot) (j.ver slot) m (j.upOf slot)) (hs : isStateful r.alg = false) (msg : Bytes) :
    s.custSign t j slot msg = a.answer j (
      if isHashSigner r.alg then
        okOut (fixLen (hbsSigLen r.alg m) (Config.sign r.alg (plainScheme 0 0) m msg (j.hedge.take (r.len / 4))))
      else if r.alg = 0x52 then
        (if Config.signExhausts 0x52 (plainScheme 0x20 0) m msg j.hedge then fail Status.engineFault 0x07
         else okOut (fixLen 4627 (Config.sign 0x52 (plainScheme 0x20 0) m msg j.hedge)))
      else okOut (fixLen 96 (Config.sign r.alg (plainScheme 0x10 0x03) m msg j.hedge))) := by
  subst ha
  refine (key_ready hk _).trans ?_
  simp only [hs, Bool.false_eq_true, if_false]
  split
  case isTrue => rfl
  case isFalse =>
    split
    case isTrue h52 =>
      rw [h52]
      exact (apply_ite ..).symm
    case isFalse => rfl

/-- R258: a stateful key signs under the next leaf, which is DETAIL. -/
theorem State.custSign_of_stateful {b : State} {leaf : Nat} (hk : KeyReady s t j slot r m)
    (ha : a = s.cacheKey t j.part (j.handle slot) (j.ver slot) m (j.upOf slot)) (hs : isStateful r.alg = true) (hr : a.pair.role ≠ 3)
    (hl : a.takeLeaf t (j.handle slot) = some (leaf, b)) (msg : Bytes) :
    s.custSign t j slot msg =
      b.answer j (okOut (fixLen (hbsSigLen r.alg m) (Config.sign r.alg (leBytes 8 leaf) m msg [])) leaf) := by
  subst ha
  exact (key_ready hk _).trans ((if_pos hs).trans (State.withLeaf_of_taken hr hl ..))

end

/-- Settles O27: a sealed object and a manifest are judged by their form, and signatures go by whether their key is stateful. -/
theorem custodyObjectsRun : Obligations.CustodyObjectsRun := by
  refine ⟨?objSeal, fun s t j h => ⟨fun hbad => ?openInvalid, fun r m hs hl hk => ?objOpen⟩,
    fun s t j h => ⟨fun hbad => ?buildInvalid, ?build⟩,
    fun s t j => ⟨fun h => congrArg Host.Outcome.next (tile_ready h _), fun h => ?manifestSign⟩,
    fun s a t slot j r m msg hk ha => ⟨fun hs => State.custSign_of_stateless hk ha hs msg,
      fun leaf b hs hr hl => State.custSign_of_stateful hk ha hs hr hl msg⟩⟩
  case objSeal =>
    rintro s a t h n j k r rec_ m hready hk rfl hj hmade
    refine congrArg Host.Outcome.next ((tile_ready hready _).trans ((key_ready hk _).trans ?_))
    simp only [hj, hmade]
  case openInvalid =>
    refine congrArg Host.Outcome.next ((tile_ready h _).trans (if_pos ?_))
    exact hbad.imp_left fun hs => by simp [hs]
  case objOpen =>
    have hgo : ¬((!sealRecordOk j.input) = true ∨ j.input.length ≠ 128 + leAt 40 8 j.input) := by simp [hs, hl]
    refine congrArg Host.Outcome.next ((tile_ready h _).trans ((if_neg hgo).trans ((key_ready hk _).trans ?_)))
    cases aeadOpen (byteAt 8 j.input) m (sub 12 12 j.input) (j.input.take 12) (j.input.drop 128) (sub 24 16 j.input) with
    | none => rfl
    | some pt => rfl
  case buildInvalid => exact congrArg Host.Outcome.next ((tile_ready h _).trans (if_pos ((manifestLength_bad_iff _).mpr hbad)))
  case build =>
    intro n hn h1 h2
    have hcount : (j.input.length - 32) / 128 = n := by omega
    refine congrArg Host.Outcome.next ((tile_ready h _).trans ((if_neg ?_).trans ?_))
    · exact fun hbad => (manifestLength_bad_iff _).mp hbad ⟨n, hn, h1, h2⟩
    · rw [hcount]
  case manifestSign =>
    refine congrArg Host.Outcome.next ((tile_ready h _).trans (Eq.trans (if_congr ?_ rfl rfl) (ite_not ..)))
    simp only [not_and_or, Nat.not_le, ne_eq]

end Sys2Proof.Machine
end

section
/-! SUPPORT. The family of 05_cipher_and_hash_engines, component loads: their begin, components, commit and end. -/

namespace Sys2Proof.Machine

/-! ### Component loads (R154, R238 to R240) -/

/-- R238: COMPONENT_BEGIN refuses the inputs in which some field breaks a load's form. -/
theorem loadForm_bad_iff (b : Bytes) (known : Bool) :
    (b.length ≠ 32 ∨ (!known) = true ∨ byteAt 1 b = 0 ∨ 4 < byteAt 1 b ∨ byteAt 2 b < 3 ∨ 8 < byteAt 2 b ∨
      16 ≤ byteAt 3 b ∨ byteAt 10 b < 2 ∨ 3 < byteAt 10 b ∨ (!zeroAt 11 1 b) = true ∨ (!zeroAt 16 16 b) = true) ↔
    ¬(b.length = 32 ∧ known = true ∧ 1 ≤ byteAt 1 b ∧ byteAt 1 b ≤ 4 ∧ 3 ≤ byteAt 2 b ∧ byteAt 2 b ≤ 8 ∧
      byteAt 3 b < 16 ∧ 2 ≤ byteAt 10 b ∧ byteAt 10 b ≤ 3 ∧ zeroAt 11 1 b = true ∧ zeroAt 16 16 b = true) := by
  simp only [not_and_or, Nat.not_le, Nat.not_lt, Bool.not_eq_true, Bool.not_eq_eq_eq_not, Bool.not_true, Nat.lt_one_iff, ne_eq]

section
variable {s : State} {j : Job} {l : CompLoad}

/-- R239: an incomplete or weak load is closed and refused. -/
theorem State.componentCommit_of_weak (hl : s.loadOf j = some l) (hm : j.manages l.part = true) (hk : s.keyStoreShut true true = none)
    (hbad : l.comps.length ≠ l.count ∨ weakTdes l.alg l.combined = true) :
    s.componentCommit j = (s.closeLoad l.id).deny j Status.invalidInput := by
  unfold State.componentCommit
  simp only [hl, hm, hk, Bool.not_true, Bool.false_eq_true, if_false]
  exact if_pos hbad

/-- R239: a complete load against its expected check is closed and refused. -/
theorem State.componentCommit_of_check (hl : s.loadOf j = some l) (hm : j.manages l.part = true) (hk : s.keyStoreShut true true = none)
    (hn : l.comps.length = l.count) (hw : weakTdes l.alg l.combined = false) (he : allZero l.expect = false)
    (hc : l.expect ≠ checkValue l.alg ((genLen l.alg 0).getD 0) l.combined) :
    s.componentCommit j = (s.closeLoad l.id).deny j Status.verifyFail := by
  unfold State.componentCommit
  simp only [hl, hm, hk, hn, hw, he, Bool.not_true, Bool.not_false, Bool.false_eq_true, ne_eq, not_true, or_self, true_and, if_false]
  exact if_pos hc

/-- R239: the combined key of a load that passes its checks is stored if its record verifies. -/
theorem State.componentCommit_of_made {a : State} {h n : Nat} {r : KeyRec} {wk : Bytes} (hl : s.loadOf j = some l)
    (hm : j.manages l.part = true) (hk : s.keyStoreShut true true = none) (hn : l.comps.length = l.count)
    (hw : weakTdes l.alg l.combined = false)
    (hc : allZero l.expect = true ∨ l.expect = checkValue l.alg ((genLen l.alg 0).getD 0) l.combined)
    (hu : (algUsages l.alg).contains l.usage = true)
    (hr : s.makeRec l.part { alg := l.alg, usage := l.usage, attr := l.attr.toNat + 8, domain := l.domain, parent := l.parent,
                             len := (genLen l.alg 0).getD 0, mat := l.combined } = .ok h n r a)
    (hwk : a.ownKey l.part r = some wk) :
    s.componentCommit j = if (openRec wk h r).isNone then (s.closeLoad l.id).deny j Status.verifyFail
      else (a.closeLoad l.id).bringCtl j [.keyPut l.part n r true] [keyPageObj l.part n]
        (okOut (leBytes 8 h ++ checkValue l.alg ((genLen l.alg 0).getD 0) l.combined)) := by
  have hcheck : ¬((!allZero l.expect) = true ∧ l.expect ≠ checkValue l.alg ((genLen l.alg 0).getD 0) l.combined) := by
    rintro ⟨hz, hne⟩
    obtain hc | hc := hc
    · simp [hc] at hz
    · exact hne hc
  unfold State.componentCommit
  simp only [hl, hm, hk, hn, hw, hcheck, hu, hr, hwk, Bool.not_true, Bool.false_eq_true, ne_eq, not_true, or_self, if_false]

end

/-- Settles O30: a begin and an added component pass or are refused check by check, and a commit by what its load combines to. -/
theorem componentLoadsRun : Obligations.ComponentLoadsRun := by
  refine ⟨?opened, fun s q ix j ses l h hs hc hl => ?added, fun s q ix j l h hl hm hk => ⟨fun hbad => ?weak, fun hn hw he hne => ?check,
    fun a hd n r wk hn hw hc hu hr hwk => ?made⟩, fun s load l hl => ?expiry⟩
  case opened =>
    rintro s q ix p j b h rfl rfl
    refine congrArg Host.Outcome.next ((ctl_ready h _).trans (if_congr (by simp) rfl (if_congr ?_ rfl rfl)))
    rw [← loadForm_bad_iff]
    simp
  case added =>
    refine congrArg Host.Outcome.next ((ctl_ready h _).trans ?_)
    unfold State.componentAdd
    simp only [hs, hc, hl, if_false]
  case weak => exact congrArg Host.Outcome.next ((ctl_ready h _).trans (State.componentCommit_of_weak hl hm hk hbad))
  case check => exact congrArg Host.Outcome.next ((ctl_ready h _).trans (State.componentCommit_of_check hl hm hk hn hw he hne))
  case made => exact congrArg Host.Outcome.next ((ctl_ready h _).trans (State.componentCommit_of_made hl hm hk hn hw hc hu hr hwk))
  case expiry =>
    refine congrArg Host.Outcome.next ?_
    unfold State.componentLoadExpiry
    simp only [hl, loadLife]

end Sys2Proof.Machine
end

section
/-! SUPPORT. The family of 05_cipher_and_hash_engines, tables and tiles: the partition tables, the live restart that applies them, and
the actions of TIL_CMD. -/

namespace Sys2Proof.Machine

/-! ### Partition tables (R331 to R334) -/

/-- R442: a restart whose staged items are refused does not begin. -/
theorem State.restartBegin_of_refused {s : State} {j : Job} {st dt : Nat} (h : s.stagedRefusal j.ceremonyOk = some (st, dt)) :
    s.restartBegin j = s.deny j st dt := by
  unfold State.restartBegin
  simp only [h]

/-- R332, R333: PRT_APPLY of a staged table begins a restart. -/
theorem State.prtApply_of_staged {s : State} {j : Job} {b : Bytes} (h : s.tabs.staged = some b) : s.prtApply j = s.restartBegin j := by
  unfold State.prtApply
  rw [h]
  rfl

/-- R333: a restart with a staged table, once nothing staged is refused, changes the tiles that the table changes. -/
theorem State.restartBegin_of_staged {s : State} {j : Job} {b : Bytes} (hb : s.tabs.staged = some b)
    (h : s.stagedRefusal j.ceremonyOk = none) :
    s.restartBegin j = forEach (s.tilesChanged (parseTable b)) (fun t s => (s.dropRefs t).abortLong t 0x03)
      (State.block { s with tabs := { s.tabs with restart := some { job := some j.id, opcode := j.desc.opcode, step := 2,
                                                                    changed := s.tilesChanged (parseTable b), startedAt := s.clock.mono } },
                            mgmt := { s.mgmt with loads := [] } } j) := by
  unfold State.restartBegin
  simp only [h, hb, Option.map_some, Option.getD_some]

/-- R334: PRT_QUERY by the table it names. -/
theorem State.prtQuery_eq (s : State) (j : Job) :
    s.prtQuery j =
      if j.desc.p8 48 = 0 then s.done j (okOut (tableBytes s.tabs.table))
      else if j.desc.p8 48 = 1 then (match s.tabs.staged with | some b => s.done j (okOut b) | none => s.deny j Status.invalidInput)
      else s.deny j Status.invalidInput := by
  unfold State.prtQuery
  split
  case h_1 h0 => simp only [h0, if_true]
  case h_2 h1 hb => simp [h1, hb]
  case h_3 h0 h1 =>
    rw [if_neg h0]
    cases hb : s.tabs.staged with
    | none => simp
    | some b => rw [if_neg fun e => h1 b e hb]

/-! ### Actions of TIL_CMD (R347) -/

/-- R347: an action that stands ready on an existing tile is BUSY while another runs or the tile drains, and else has its effect. -/
theorem tileAction_ready {s : State} {q i act : Nat} {j : Job} {t : Tile} (h : ActReady s q i Reg.tilCmd 1 0 act j)
    (ht : s.tile? (s.selOf j.queue Reg.tilTsel) = some t) (f : State → Job → Tile → State) :
    s.tileAction q i act f = if t.action = true ∨ t.state = 2 then s.deny j Status.busy else f s j t := by
  unfold State.tileAction
  simp only [act_ready h, ht]

/-- Settles O38: tables and restarts go by what is staged and which restart runs, and the actions of a tile by `tileAction_ready`. -/
theorem tablesAndTilesAct : Obligations.TablesAndTilesAct := by
  refine ⟨fun s q ix j h => ?stage, fun s q ix j b changed r h => ⟨fun hn => ?unstaged, fun st dt hb hr => ?refused, ?begun⟩,
    fun s q ix j h => congrArg Host.Outcome.next ((ctl_ready h _).trans (s.prtQuery_eq j)), fun s r hr => ?bound, ?done,
    fun s hn => ⟨congrArg Host.Outcome.next ?noBound, congrArg Host.Outcome.next ?noDone⟩,
    fun s a b q ix j t ht => ⟨fun h => ?drain, fun h => ?ret, ?reset⟩, fun s t x hx => ?drained,
    fun s t e x c hx h5 hc hscr => ⟨congrArg Host.Outcome.next ?failed, congrArg Host.Outcome.next ?passed⟩⟩
  case stage =>
    refine congrArg Host.Outcome.next ((ctl_ready h _).trans ?_)
    unfold State.prtStage
    cases tableRefusal j.input with
    | some d => rfl
    | none => exact ite_not ..
  case unstaged => exact congrArg Host.Outcome.next ((ctl_ready h _).trans (if_pos (by rw [hn]; rfl)))
  case refused =>
    exact congrArg Host.Outcome.next
      ((ctl_ready h _).trans ((State.prtApply_of_staged hb).trans (State.restartBegin_of_refused hr)))
  case begun =>
    rintro hb hr rfl rfl
    exact congrArg Host.Outcome.next
      ((ctl_ready h _).trans ((State.prtApply_of_staged hb).trans (State.restartBegin_of_staged hb hr)))
  case bound => exact congrArg Host.Outcome.next (by simp only [State.hodBound, hr])
  case done =>
    rintro s a b r hr rfl rfl
    refine congrArg Host.Outcome.next ?_
    unfold State.restartDone
    simp only [hr]
    exact if_congr (by simp) rfl rfl
  case noBound => simp only [State.hodBound, hn]
  case noDone => simp only [State.restartDone, hn]
  case drain => exact congrArg Host.Outcome.next (tileAction_ready h ht _)
  case ret => exact congrArg Host.Outcome.next (tileAction_ready h ht _)
  case reset =>
    rintro h rfl rfl
    exact congrArg Host.Outcome.next (tileAction_ready h ht _)
  case drained =>
    refine congrArg Host.Outcome.next ?_
    unfold State.tileDrained
    simp only [hx]
    refine Eq.trans (if_congr ?_ rfl rfl) (ite_not ..)
    simp [-not_and, not_and_or, Option.isSome_iff_ne_none]
  case failed | passed =>
    unfold State.tileTested
    simp only [hx, h5, hc, hscr, Option.map_some, Option.getD_some, ne_eq, not_true, or_self, if_false]

end Sys2Proof.Machine
end

section
/-! SUPPORT. The family of 06_long_integer_engine: signatures, RSA-OAEP and derived keys. -/

namespace Sys2Proof.Machine

/-- R157, R184, R185: an operation of the family runs with its key's material, placed in the slots of the job's plan. -/
theorem pk_ready {s : State} {t : Nat} {j : Job} {r : KeyRec} {m : Bytes} (h : KeyReady s t j 0 r m)
    (f : State → KeyRec → Bytes → State) :
    s.withPk t j f = f ((s.cacheKey t j.part (j.handle 0) (j.ver 0) m (j.upOf 0)).placeKey t r m j.input) r m :=
  key_ready h _

/-! ### Signatures (R194, R196, R204 to R208) -/

/-- R194, R204 to R208: PK_VERIFY with its key takes the last bytes of its input, as many as the ALG's signature has, for the signature. -/
theorem State.pkVerify_of_key {s : State} {t n : Nat} {j : Job} {r : KeyRec} {m : Bytes} (h : KeyReady s t j 0 r m)
    (hn : n = j.input.length - sigLen r.alg r.len) :
    s.pkVerify t j =
      ((s.cacheKey t j.part (j.handle 0) (j.ver 0) m (j.upOf 0)).placeKey t r m j.input).answer j
        (if j.input.length < sigLen r.alg r.len ∨ j.msgOk (j.input.take n) = false then fail Status.invalidInput
         else if sigOk r.alg r.len m (j.input.drop n) && Config.verify r.alg j.schemeBytes m (j.input.take n) (j.input.drop n) then {}
         else fail Status.authFail) := by
  subst hn
  have hmsg : (j.input.take (j.input.length - sigLen r.alg r.len)).length = j.input.length - sigLen r.alg r.len :=
    List.length_take_of_le (Nat.sub_le ..)
  refine (pk_ready h _).trans ?_
  simp only [hmsg]
  by_cases hshort : j.input.length < sigLen r.alg r.len
  · simp only [hshort, true_or, if_true]
  · cases hok : j.msgOk (j.input.take (j.input.length - sigLen r.alg r.len)) with
    | false => simp only [hshort, Bool.not_false, or_true, if_false, if_true]
    | true => simp only [hshort, Bool.not_true, Bool.false_eq_true, Bool.true_eq_false, or_self, if_false]

/-- Settles O20: each opcode runs with its key's material in the slots, and refuses by the lengths and ranges of its input. -/
theorem signaturesAndRsaRun : Obligations.SignaturesAndRsaRun := by
  refine ⟨?sign, fun s t n j r m h hk hn => congrArg Host.Outcome.next ((tile_ready h _).trans (State.pkVerify_of_key hk hn)),
    ?encrypt, ?decrypt⟩
  case sign =>
    rintro s a t j r m h hk rfl
    exact congrArg Host.Outcome.next ((tile_ready h _).trans ((pk_ready hk _).trans (if_congr (by rw [Bool.not_eq_true']) rfl rfl)))
  case encrypt =>
    rintro s a t h j r m hready hk rfl rfl
    exact congrArg Host.Outcome.next ((tile_ready hready _).trans (pk_ready hk _))
  case decrypt =>
    rintro s a t j r m h hk rfl
    refine congrArg Host.Outcome.next ((tile_ready h _).trans ((pk_ready hk _).trans (if_congr Iff.rfl rfl ?_)))
    cases Config.oaepDecrypt j.schemeBytes m j.input with
    | none => rfl
    | some msg => rfl

/-! ### Derived keys (R195, R205, R207) -/

/-- R137, R151: a new record whose slot is reserved is stored with its page, and its handle is in the answer. -/
theorem State.storeKey_of_made {s a : State} {j : Job} {k : NewKey} {h n : Nat} {r : KeyRec} (hm : s.makeRec j.part k = .ok h n r a)
    (before more : Bytes) (extra : Nat → List Change) :
    s.storeKey j k before more extra =
      a.answerBring j (.keyPut j.part n r true :: extra h) [keyPageObj j.part n] (okOut (before ++ leBytes 8 h ++ more)) := by
  unfold State.storeKey
  simp only [hm]

/-- R195: with OUT_FORM 0 a derived key is stored as a record. -/
theorem State.giveKey_of_record {s a : State} {j : Job} {h n : Nat} {r : KeyRec} {mat : Bytes} (ho : j.pk.outForm = 0)
    (hm : s.makeRec j.part { alg := j.pk.dAlg, usage := j.pk.dUsage, attr := j.pk.dAttr, domain := j.pk.dDomain, parent := 0,
                             len := j.pk.dLen, mat := mat } = .ok h n r a)
    (t : Nat) (before : Bytes) :
    s.giveKey t j before mat = a.answerBring j [.keyPut j.part n r true] [keyPageObj j.part n] (okOut (before ++ leBytes 8 h)) := by
  refine (if_pos ho).trans ((State.storeKey_of_made hm before [] _).trans ?_)
  rw [List.append_nil]

/-- R195, R237: with another OUT_FORM a derived key that can be exported is answered as a key block under KEY1. -/
theorem State.giveKey_of_block {s : State} {t : Nat} {j : Job} {pk u : Bytes} {md l : Byte} {r : KeyRec} (ho : j.pk.outForm ≠ 0)
    (hk : KeyReady s t j 1 r pk) (hx : kbExport j.pk.dUsage j.pk.dAlg = some (u, md, l)) (before mat : Bytes) :
    s.giveKey t j before mat = (s.cacheKey t j.part (j.handle 1) (j.ver 1) pk (j.upOf 1)).answer j
      (okOut (before ++ makeKb r.alg pk u md l j.pk.dAlg j.pk.dLen mat [] j.entropy (j.entropy.drop 32))) := by
  refine (if_neg ho).trans ((key_ready hk _).trans ?_)
  simp only [hx]

/-- Settles O21: each opcode derives its key past the checks of its input's form, and the key is given by the context's OUT_FORM;
that KEM_ENCAP's whole input is INFO is notes/assumptions/73.md. -/
theorem derivationsRun : Obligations.DerivationsRun := by
  refine ⟨?agree, fun s t j r m h hk => congrArg Host.Outcome.next ((tile_ready h _).trans (pk_ready hk _)), ?decap,
    fun s a t h n j before mat r ho hm => State.giveKey_of_record ho hm t before,
    fun s t j before mat pk u md l r ho hk hx => State.giveKey_of_block ho hk hx before mat⟩
  case agree =>
    rintro s a t j r m pt h hk rfl rfl
    refine congrArg Host.Outcome.next ((tile_ready h _).trans ((pk_ready hk _).trans (if_congr Iff.rfl rfl ?_)))
    cases ecdhOf r.alg m (j.input.take (pointLen r.alg)) with
    | none => rfl
    | some ss => rfl
  case decap =>
    rintro s a t j r m h hk rfl
    exact congrArg Host.Outcome.next ((tile_ready h _).trans (pk_ready hk _))

end Sys2Proof.Machine
end

section
/-! SUPPORT. The family of 07_payment_commands: the PIN opcodes, the payment MACs and verification values, EMV_ARQC_VERIFY and
DUKPT_INIT_EXPORT. -/

namespace Sys2Proof.Machine

section
variable {s a : State} {t : Nat} {j : Job}

/-- R100: a payment opcode that stands ready leads to the state its effect gives. -/
theorem tile_next {u : State} {op : Nat} {f : State → Job → State} (h : TileReady s t op j) (hf : f s j = u) :
    (.next (s.onTile t op f) : Host.Outcome State Fault Refusal) = .next u :=
  congrArg Host.Outcome.next ((tile_ready h f).trans hf)

/-! ### The PIN opcodes (R218 to R222, R228) -/

/-- R218, R219: the PAN field is judged where a format binds the PAN: for PIN_TRANSLATE either of its two formats. -/
theorem TileReady.pinBound_translate (h : TileReady s t Op.pinTranslate j) :
    (panBound j.pay.inFmt || (j.desc.opcode == Op.pinTranslate && panBound j.pay.outFmt)) =
      (panBound j.pay.inFmt || panBound j.pay.outFmt) := by
  rw [h.opcode, beq_self_eq_true, Bool.true_and]

/-- R218, R219: the PAN field is judged where a format binds the PAN: for another opcode IN_FORMAT alone. -/
theorem TileReady.pinBound_other {op : Nat} (h : TileReady s t op j) (hop : op ≠ Op.pinTranslate) :
    (panBound j.pay.inFmt || (j.desc.opcode == Op.pinTranslate && panBound j.pay.outFmt)) = panBound j.pay.inFmt := by
  rw [h.opcode, beq_false_of_ne hop, Bool.false_and, Bool.or_false]

/-- R218, R220: a PIN opcode with both its keys judges the PAN field where a format binds the PAN, then the block, and works under KEY1
with the block's PIN. -/
theorem State.withPin_of_keys {n : Nat} {r r1 : KeyRec} {m m1 : Bytes} {bound : Bool}
    (hb : (panBound j.pay.inFmt || (j.desc.opcode == Op.pinTranslate && panBound j.pay.outFmt)) = bound) (h0 : KeyReady s t j 0 r m)
    (ha : a = s.cacheKey t j.part (j.handle 0) (j.ver 0) m (j.upOf 0)) (h1 : KeyReady a t j 1 r1 m1) (hn : n = pinBlockLen j.pay.inFmt)
    (f : Bytes → List Nat → State → KeyRec → Bytes → State) :
    s.withPin t j (fun s pan pin => s.withKey t j 1 (f pan pin)) =
      if bound ∧ panOk (sub n 16 j.input) = false then a.answer j (fail Status.invalidInput)
      else match readPin j.pay (pinField j.pay.inFmt (j.workKey r.alg m).1 (j.workKey r.alg m).2 (sub n 16 j.input) (j.input.take n)) with
        | none => a.answer j (fail Status.pinBlockInvalid)
        | some pin => f (sub n 16 j.input) pin (a.cacheKey t j.part (j.handle 1) (j.ver 1) m1 (j.upOf 1)) r1 m1 := by
  subst hb ha hn
  refine (key_ready h0 _).trans (if_congr (and_congr_right' (.of_eq (Bool.not_eq_true' _))) rfl ?_)
  dsimp only
  cases readPin j.pay (pinField j.pay.inFmt (j.workKey r.alg m).1 (j.workKey r.alg m).2 (sub (pinBlockLen j.pay.inFmt) 16 j.input)
    (j.input.take (pinBlockLen j.pay.inFmt))) with
  | none => rfl
  | some pin => exact key_ready h1 _

/-- R222, R228: PIN_VERIFY refuses an input of the wrong form and a reference that holds no digits. -/
theorem State.pinVerify_of_bad
    (h : j.pinValueOk j.pay.digits = false ∨ refDigits (j.input.drop (j.dataAt + j.dataLen)) = none) :
    s.pinVerify t j = s.answer j (fail Status.invalidInput) := by
  cases hok : j.pinValueOk j.pay.digits with
  | false => exact if_pos ((Bool.not_eq_true' _).mpr hok)
  | true =>
    have href := h.resolve_left (by simp [hok])
    unfold State.pinVerify
    simp only [hok, href, ite_self]

/-- R228: PIN_VERIFY of a good input compares the reference with the value made from the block's PIN. -/
theorem State.pinVerify_of_good {ref : List Nat} (hok : j.pinValueOk j.pay.digits = true)
    (href : refDigits (j.input.drop (j.dataAt + j.dataLen)) = some ref) :
    s.pinVerify t j = s.withPin t j (fun s _ pin => s.withKey t j 1 (fun s r key =>
      s.answer j (if pinValue j.pay r.alg key (sub j.dataAt j.dataLen j.input) pin = ref then {} else fail Status.authFail))) := by
  unfold State.pinVerify
  simp only [hok, href, Bool.not_true, Bool.false_eq_true, if_false]

/-! ### Payment MACs and verification values (R222, R227, R229) -/

/-- R229: PAY_MAC_VERIFY with its key compares the last MAC_LEN bytes of its input with the MAC of those before. -/
theorem State.payMacVerify_of_key {n : Nat} {r : KeyRec} {m : Bytes} (h0 : KeyReady s t j 0 r m) (hksn : j.ksnOk = true)
    (hlen : j.pay.macLen ≤ j.input.length) (hn : n = j.input.length - j.pay.macLen) :
    s.payMacVerify t j = (s.cacheKey t j.part (j.handle 0) (j.ver 0) m (j.upOf 0)).answer j
      (if (payMac j.pay (j.workKey r.alg m).1 (j.workKey r.alg m).2 (j.input.take n)).take j.pay.macLen = j.input.drop n then {}
       else fail Status.authFail) := by
  subst hn
  have hmsg : (j.input.take (j.input.length - j.pay.macLen)).length = j.input.length - j.pay.macLen :=
    List.length_take_of_le (Nat.sub_le ..)
  refine (if_neg (by simp [hksn, hlen])).trans ((key_ready h0 _).trans ?_)
  simp only [hmsg]

/-- R222: VALUE_VERIFY refuses a length its layout does not give and a reference that holds no digits. -/
theorem State.valueVerify_of_bad
    (h : j.dataLen = 0 ∨ 64 < j.dataLen ∨ j.input.length ≠ j.dataLen + j.pay.digits ∨ refDigits (j.input.drop j.dataLen) = none) :
    s.valueVerify t j = s.answer j (fail Status.invalidInput) := by
  by_cases hlen : j.dataLen = 0 ∨ 64 < j.dataLen ∨ j.input.length ≠ j.dataLen + j.pay.digits
  · exact if_pos hlen
  · have href : refDigits (j.input.drop j.dataLen) = none := by tauto
    unfold State.valueVerify
    simp only [href, ite_self]

/-- R227: VALUE_VERIFY of a good input compares the reference with the value of DATA. -/
theorem State.valueVerify_of_good {ref : List Nat} (h1 : 1 ≤ j.dataLen) (h64 : j.dataLen ≤ 64)
    (hlen : j.input.length = j.dataLen + j.pay.digits) (href : refDigits (j.input.drop j.dataLen) = some ref) :
    s.valueVerify t j = s.withKey t j 0 (fun s r key =>
      s.answer j (if valueOf j.pay r.alg key (j.input.take j.dataLen) = ref then {} else fail Status.authFail)) := by
  unfold State.valueVerify
  simp only [href, if_neg (show ¬(j.dataLen = 0 ∨ 64 < j.dataLen ∨ j.input.length ≠ j.dataLen + j.pay.digits) by omega)]

end

/-- Settles O22: each PIN opcode refuses by the form of its input, and otherwise runs by `State.withPin_of_keys`; that a PAN field and a
reference are judged before the PIN block is notes/assumptions/57.md. -/
theorem pinCommandsRun : Obligations.PinCommandsRun := by
  refine ⟨fun s t j => ⟨fun h hbad => tile_next h (if_pos (hbad.imp_right (Bool.not_eq_true' _).mpr)),
      fun h hbad => tile_next h (State.pinVerify_of_bad hbad), fun h hbad => tile_next h (if_pos ((Bool.not_eq_true' _).mpr hbad))⟩,
    ?translate, ?verify, ?generate⟩
  case translate =>
    intro s a t n j r r1 m m1 h h0 ha h1 hksn hn hlen
    exact tile_next h ((if_neg (by simp [hksn, hlen, hn])).trans (State.withPin_of_keys h.pinBound_translate h0 ha h1 hn _))
  case verify =>
    intro s a t n j r r1 m m1 ref h h0 ha h1 hok hn href
    exact tile_next h ((State.pinVerify_of_good hok href).trans
      (State.withPin_of_keys (h.pinBound_other (by decide)) h0 ha h1 hn _))
  case generate =>
    intro s a t n j r r1 m m1 h h0 ha h1 hok hn
    exact tile_next h ((if_neg (by simp [hok])).trans (State.withPin_of_keys (h.pinBound_other (by decide)) h0 ha h1 hn _))

/-- Settles O23: each opcode refuses by the form of its input and the counter of its KSN, and otherwise answers with its key. -/
theorem paymentValuesRun : Obligations.PaymentValuesRun := by
  refine ⟨fun s t j => ⟨fun h hbad => tile_next h (if_pos ((Bool.not_eq_true' _).mpr hbad)),
      fun h hbad => tile_next h (if_pos (hbad.imp_left (Bool.not_eq_true' _).mpr)), fun h hbad => tile_next h (if_pos hbad),
      fun h hbad => tile_next h (State.valueVerify_of_bad hbad),
      fun h hbad => tile_next h (if_pos (hbad.imp (Bool.not_eq_true' _).mpr (Or.imp_left (Bool.not_eq_true' _).mpr))),
      fun h hbad => tile_next h (if_pos hbad)⟩,
    ?answered⟩
  rintro s a t j r m h0 rfl
  refine ⟨fun h hksn => ?macGenerate, fun n h hksn hlen hn => tile_next h (State.payMacVerify_of_key h0 hksn hlen hn),
    fun h h1 h64 hlen => ?valueGenerate, fun ref h h1 h64 hlen href => ?valueVerify, ?arqc, ?initExport⟩
  case macGenerate => exact tile_next h ((if_neg (by simp [hksn])).trans (key_ready h0 _))
  case valueGenerate => exact tile_next h ((if_neg (by omega)).trans (key_ready h0 _))
  case valueVerify => exact tile_next h ((State.valueVerify_of_good h1 h64 hlen href).trans (key_ready h0 _))
  case arqc =>
    rintro n icc sk h hok hpan hmkd rfl rfl rfl
    refine tile_next h ((if_neg ?_).trans ((key_ready h0 _).trans ?_))
    · rw [hok, hpan]
      simp only [Bool.not_true, Bool.false_eq_true, false_or]
      omega
    · exact (if_congr Iff.rfl rfl (apply_ite ..).symm).trans (apply_ite ..).symm
  case initExport =>
    intro alg key wk w h h1 hlen hctr hkey
    obtain ⟨rfl, rfl⟩ := Prod.ext_iff.1 hkey
    exact tile_next h ((if_neg (by simp [hlen, hctr])).trans ((key_ready h0 _).trans (key_ready h1 _)))

end Sys2Proof.Machine
end

section
/-! SUPPORT. The family of 08_custody_commands: leaf leases, timestamps, the record of TIME_QUERY, chains of custody and repointing. -/

namespace Sys2Proof.Machine

/-! ### Leaf leases (R257) -/

/-- R257: a tile that exists asks for a key's next lease, unless it has asked for one or no leaf is left. -/
theorem State.askLeaf_of_tile {s : State} {t : Nat} {x : Tile} (hx : s.tile? t = some x) (h : Nat) :
    s.askLeaf t h =
      if h ∈ x.wantLeaf ∨ s.leafLimitOf h ≤ s.leafNext h then s
      else (s.modTile t (fun x => { x with wantLeaf := x.wantLeaf ++ [h] })).bring
        { changes := [.leaf h t (s.leafNext h) (min 4096 (s.leafLimitOf h - s.leafNext h))], objs := [], job := none, res := {} } := by
  have hspent : min 4096 (s.leafLimitOf h - s.leafNext h) = 0 ↔ s.leafLimitOf h ≤ s.leafNext h := by omega
  unfold State.askLeaf
  simp only [hx, Option.map_some, Option.getD_some, List.contains_iff_mem, hspent]

/-- R257: in mode SERVING, LEAF_LEASE_REQUEST asks once at most 1,024 leaves of the tile's only lease of the key remain. -/
theorem State.leafLeaseRequest_of_low {s : State} {t h : Nat} {x : Tile} {l : Lease} (hx : s.tile? t = some x)
    (hl : x.leaves.filter (fun l => l.owner == h) = [l]) (hn : l.stop - l.next ≤ 1024) (hm : s.power.mode = .serving) :
    s.leafLeaseRequest t h = s.askLeaf t h := by
  unfold State.leafLeaseRequest
  simp only [hx, hl]
  exact if_pos ⟨hn, hm⟩

/-! ### Timestamps (R259, R260) -/

section
variable {s : State} {t : Nat} {j : Job}

/-- R259: a request that is not whole or does not parse is INVALID_INPUT. -/
theorem State.timestamp_of_unparsed (h : j.input.length < j.reqLen ∨ parseTsReq (j.input.take j.reqLen) = none) :
    s.timestamp t j = s.answer j (fail Status.invalidInput) := by
  have hnone : (if j.input.length < j.reqLen then none else parseTsReq (j.input.take j.reqLen)) = none := by
    obtain hshort | hparse := h
    · exact if_pos hshort
    · rw [hparse, ite_self]
  unfold State.timestamp
  rw [hnone]

/-- R259, R260: a request that parses is answered once, with the refusal of its certificate, its rejection or its token. -/
theorem State.timestamp_of_parsed {q : TsReq} {k : KeyRec} {m : Bytes} (hl : j.reqLen ≤ j.input.length)
    (hq : parseTsReq (j.input.take j.reqLen) = some q) (hk : KeyReady s t j 0 k m) {a : State} {cert : Bytes}
    (hc : cert = j.input.drop j.reqLen) (ha : a = s.cacheKey t j.part (j.handle 0) (j.ver 0) m (j.upOf 0)) :
    s.timestamp t j = a.answer j (
      if cert ≠ [] ∧ Config.certKey cert ≠ some ((pubAlg k.alg).getD 0, publicOf k.alg k.len m) then fail Status.invalidInput
      else match a.tsReject j q with
       | some bit => okOut (tsRejection bit) bit
       | none => j.tsToken k.alg (publicOf k.alg k.len m) m cert
          (tstInfo q j.cust.policy (tsSerial a.now a.member t) a.clock.utc.toNat a.clock.err) q.certReq) := by
  subst hc ha
  unfold State.timestamp
  simp only [Nat.not_lt.mpr hl, if_false, hq]
  refine (key_ready hk _).trans ((if_congr Iff.rfl rfl ?_).trans (apply_ite ..).symm)
  cases State.tsReject _ j q <;> rfl

end

/-- Settles O28: a lease is asked for by `askLeaf_of_tile`, a request is judged by whether it parses, and an append that builds on a head is
signed with its second key. -/
theorem custodyTimeAndChainsRun : Obligations.CustodyTimeAndChainsRun := by
  refine ⟨fun s t h x l hx hl hn hm => ?lease, fun s t j h hbad => tile_next h (State.timestamp_of_unparsed hbad),
    fun s a t j q k m cert h hl hq hk hc ha => tile_next h (State.timestamp_of_parsed hl hq hk hc ha),
    fun s t j h => tile_next h rfl, ?append⟩
  case lease =>
    exact congrArg Host.Outcome.next ((State.leafLeaseRequest_of_low hx hl hn hm).trans (State.askLeaf_of_tile hx h))
  case append =>
    rintro s a t j r r1 m1 h hr hk rfl
    refine tile_next h (if_congr Iff.rfl rfl (if_congr Iff.rfl rfl ?_))
    rw [hr]
    dsimp only
    rcases (s.ownKey j.part r).bind (fun k => (s.chainHead (j.handle 0) k r).map (fun m => (k, m))) with - | ⟨k, head⟩
    · rfl
    · exact if_congr Iff.rfl rfl (key_ready hk _)

/-! ### The record of TIME_QUERY (R247, R261) -/

/-- R261: the record that TIME_QUERY writes. -/
def State.timeRecord (s : State) : Bytes :=
  leBytes 8 s.now ++ leBytes 8 s.clock.err ++ leBytes 1 s.clock.state.code ++ leBytes 1 s.clock.source ++ zeros 6 ++
    leBytes 8 (if s.clock.state = .locked then 0 else s.clock.lastLock)

theorem State.timeQuery_eq (s : State) (j : Job) : s.timeQuery j = s.answer j (okOut s.timeRecord) := rfl

theorem State.byteAt_timeRecord_state (s : State) :
    byteAt 16 s.timeRecord = match s.clock.state with | .unset => 0 | .locked => 1 | .holdover => 2 := by
  have hbyte : byteAt 16 s.timeRecord = s.clock.state.code % 256 := rfl
  rw [hbyte]
  cases s.clock.state <;> rfl

/-- R248: time that passes leaves the state of secure time. -/
@[simp] theorem Clock.pass_state (c : Clock) (d : Nat) : (c.pass d).state = c.state := by
  unfold Clock.pass
  dsimp only
  split <;> rfl

/-- R248, R261: time that passes leaves the moment at which LOCKED was last left. -/
@[simp] theorem Clock.pass_lastLock (c : Clock) (d : Nat) : (c.pass d).lastLock = c.lastLock := by
  unfold Clock.pass
  dsimp only
  split <;> rfl

@[simp] theorem Clock.setRun_state (c : Clock) (n v : Nat) : (c.setRun n v).state = c.state := by
  unfold Clock.setRun
  split <;> rfl

@[simp] theorem Clock.setRun_lastLock (c : Clock) (n v : Nat) : (c.setRun n v).lastLock = c.lastLock := by
  unfold Clock.setRun
  split <;> rfl

@[simp] theorem Clock.setRun_secure (c : Clock) (n v : Nat) : (c.setRun n v).secure = c.secure := by
  unfold Clock.setRun
  split <;> rfl

/-- R247, R261: for want of messages LOCKED is kept with its last moment, or left now with no source. -/
theorem State.ptpLoss_of_locked {s : State} (hs : s.clock.state = .locked) (n : Nat) :
    ((s.ptpLoss n).clock.state = .locked ∧ (s.ptpLoss n).clock.lastLock = s.clock.lastLock) ∨
    ((s.ptpLoss n).clock.state = .holdover ∧ (s.ptpLoss n).clock.lastLock = (s.ptpLoss n).clock.secure ∧
      (s.ptpLoss n).clock.source = 0) := by
  unfold State.ptpLoss
  split
  case isTrue => exact .inl ⟨hs, rfl⟩
  case isFalse =>
    extract_lets last a c
    have hc : c.state = .locked := by simp [c, a, State.advanceTo, hs]
    rw [if_neg (not_not_intro hc)]
    split
    case isTrue => exact .inl ⟨hc, by simp [c, a, State.advanceTo]⟩
    case isFalse => exact .inr ⟨rfl, by simp [c], rfl⟩

/-- Settles O29: the fields of the record stand at their offsets, and of the ways out of LOCKED each notes secure time. -/
theorem timeQueryWritesItsRecord : Obligations.TimeQueryWritesItsRecord := by
  refine ⟨fun s t j h => ⟨s.timeRecord, tile_next h (s.timeQuery_eq j), rfl, rfl, rfl, s.byteAt_timeRecord_state, rfl, rfl, rfl⟩,
    fun _ _ _ => ⟨rfl, rfl⟩, fun s n hs => ⟨s.ptpLoss n, rfl, ?_, ?_⟩, fun _ => rfl⟩
  all_goals
    intro ht
    obtain ⟨hst, hlast⟩ | ⟨hst, hleft⟩ := State.ptpLoss_of_locked hs n
  · exact absurd hst ht
  · exact hleft
  · exact hlast
  · simp [hst] at ht

/-! ### Repointing (R265 to R271) -/

/-- R25: a management command that stands ready leads to the state its effect gives. -/
theorem ctl_next {s u : State} {q i op : Nat} {j : Job} {f : State → Job → State} (h : CtlReady s q i op j) (hf : f s j = u) :
    (.next (s.ctl q i op f) : Host.Outcome State Fault Refusal) = .next u :=
  congrArg Host.Outcome.next ((ctl_ready h f).trans hf)

/-- R314: with random bits at hand a management command goes on with them. -/
theorem State.withRandom_of_bits {s a : State} {n : Nat} {b : Bytes} (h : s.random 0 n = .bits b a) (j : Job)
    (f : State → Bytes → State) : s.withRandom j n f = f a b := by
  unfold State.withRandom
  rw [h]

section
variable {s : State} {j : Job}

/-- R266: past its ceremony and form, REPOINT_OPEN is BUSY while a campaign is open or the pair resyncs. -/
theorem State.repointOpen_of_busy (hc : j.ceremonyOk = true) (hl : j.input.length = 8) (hz : zeroAt 1 7 j.input = true)
    (hb : s.campaignNext.state ≠ 0 ∨ s.resyncing = true) : s.repointOpen j = s.deny j Status.busy :=
  (if_neg (by simp [hc])).trans ((if_neg (by simp [hl, hz])).trans (if_pos hb))

/-- R267: past its checks, REPOINT_OPEN brings the next generation and its campaign with the secret that it draws. -/
theorem State.repointOpen_of_free {a : State} {secret : Bytes} (hc : j.ceremonyOk = true) (hl : j.input.length = 8)
    (hz : zeroAt 1 7 j.input = true) (hn : s.campaignNext.state = 0) (hr : s.resyncing = false) (h0 : s.kekNow ≠ 0)
    (hF : s.kekNow ≠ 0xFFFF) (hsh : s.repointShare = true) (h32 : byteAt 0 j.input < 32)
    (hb : bitOf (byteAt 0 j.input) s.life.suites = true) (hd : s.random 0 32 = .bits secret a) :
    s.repointOpen j = a.bringCtl j [.generation (s.kekNow + 1) secret,
        .campaign { state := 1, suite := byteAt 0 j.input, fromGen := s.kekNow, toGen := s.kekNow + 1, openedAt := a.now }] []
      (okOut (leBytes 2 (s.kekNow + 1) ++ zeros 6)) := by
  unfold State.repointOpen
  simp only [hc, hl, hz, hn, hr, h0, hF, hsh, Nat.not_le.mpr h32, hb, Bool.not_true, Bool.false_eq_true, ne_eq, not_true, or_self,
    if_false]
  exact State.withRandom_of_bits hd ..

/-- R269 step 1: the commit that waits goes on once no job holds the old generation of a complete campaign. -/
theorem State.repointCommitDrained_of_waiting
    (hj : s.jobs.find? (fun j => j.phase == .blocked && j.desc.opcode == Op.repointCommit) = some j) :
    s.repointCommitDrained =
      if s.holdsGen s.vault.campaign.fromGen = false ∧ s.vault.campaign.state = 2 then
        s.bringCtl j [.generationErase s.vault.campaign.fromGen, .campaign (s.vault.campaign.idle s.vault.campaign.toGen)] []
      else s := by
  unfold State.repointCommitDrained
  simp only [hj]
  refine Eq.trans (if_congr ?_ rfl rfl) (ite_not ..)
  simp only [not_and_or, Bool.not_eq_false, ne_eq]

/-- R270: REPOINT_ABANDON turns back a campaign that is open or complete, with its ceremony. -/
theorem State.repointAbandon_eq (s : State) (j : Job) :
    s.repointAbandon j =
      if j.ceremonyOk = true ∧ (s.campaignNext.state = 1 ∨ s.campaignNext.state = 2) then
        s.bringCtl j [.campaign { s.campaignNext with state := 3, cursor := 0 }] []
      else s.deny j Status.attrDenied := by
  refine Eq.trans (if_congr ?_ rfl rfl) (ite_not ..)
  rw [not_and_or, Bool.not_eq_true', Bool.not_eq_true]

end

/-- Settles O31: each command runs past the checks that its hypotheses name, and a campaign's step goes by its next object. -/
theorem repointingRuns : Obligations.RepointingRuns := by
  refine ⟨fun s q ix j h => ⟨fun hc => ctl_next h (if_pos (by simp [hc])),
      fun hc hl hz hb => ctl_next h (State.repointOpen_of_busy hc hl hz hb),
      fun a secret hc hl hz hn hr h0 hF hsh h32 hb hd =>
        ctl_next h (State.repointOpen_of_free hc hl hz hn hr h0 hF hsh h32 hb hd)⟩,
    ?query, fun s q ix j h hc => ctl_next h (if_neg (by simp [hc])),
    fun s j hj => congrArg Host.Outcome.next (State.repointCommitDrained_of_waiting hj),
    fun s q ix j h => ctl_next h (s.repointAbandon_eq j), fun s hst hf hm hsh hp h2 h3 => ?step⟩
  case query =>
    rintro s q ix j c h rfl
    exact ctl_next h rfl
  case step =>
    refine congrArg Host.Outcome.next (if_neg ?_)
    have hshare : s.tabs.table.strict = true → s.repointShare = true := fun h => hsh.resolve_left (by simp [h])
    simpa [hst, hf, hm, hp, h2, h3] using hshare

end Sys2Proof.Machine
end

section
/-! SUPPORT. The family of 09_sealed_memory: the memory's key, the training and restoration of channels, line reads and upkeep. -/

namespace Sys2Proof.Machine

section

variable {s : State}

/-! ### Key, training and restoration (R276, R282, R298) -/

/-- R282: once partition 0's instance serves, the first SEAL_KEY_DRAW makes what it draws the key, and starts every counter at zero. -/
theorem State.sealKeyDraw_of_bits {a d : State} {b : Bytes} (hk : s.dram.key = none) (he : s.ent.state = 2)
    (hm : s.power.mode = .serving) (hb : s.random 0 64 = .bits b a)
    (hd : d = State.seedMesh { a with dram := { a.dram with
      key := some b, channels := a.dram.channels.map fun c => { c with majorHwm := 0, fresh := 0, ctrs := [], retired := [] },
      ctrCache := [], macCache := [] } }) :
    s.sealKeyDraw = if d.serving = [] then d else d.placeFixed.writeQueued := by
  subst hd
  have hdraws : ¬(s.dram.key.isSome = true ∨ s.ent.state ≠ 2 ∨ s.power.mode ≠ .serving) := by simp [hk, he, hm]
  unfold State.sealKeyDraw
  rw [if_neg hdraws, hb]

/-- R276: a channel that trains fails without a module. Where no channel gives the form, it fails in training, or for a module the
device does not take; where one does, it fails for a module that does not match, else in training, and serves if neither fails it. -/
theorem State.trainOne_of_training {n : Nat} {c : Channel} (hc : s.chan? n = some c) (hst : c.state = 1) (ref r : Option TrainResult) :
    s.trainOne ref r n = r.elim (s.failChannel n 1) fun r => ref.elim (s.failChannel n (if moduleFits r then 2 else 3)) fun y =>
      if moduleFits r = false ∨ ¬(r.capLog2 = y.capLog2 ∧ r.ranks = y.ranks ∧ r.dimms = y.dimms) then s.failChannel n 3
      else if r.trained = false then s.failChannel n 2
      else s.modChan n (fun c => { c with state := 2, reason := 0, dimms := r.dimms, capLog2 := r.capLog2, ranks := r.ranks }) := by
  have htrains : ¬(!(s.chan? n).any (fun c => c.state == 1)) = true := by simp [hc, hst]
  unfold State.trainOne
  rw [if_neg htrains]
  cases r with
  | none => rfl
  | some r =>
    cases ref with
    | none => rfl
    | some y => exact if_congr (by simp [-not_and]) rfl (if_congr (by simp) rfl rfl)

/-! ### Reads (R280, R285, R289, R299) -/

section

variable {ch line : Nat} {burst : Bytes} {c : Channel}

/-- R285, R299: on a serving channel a MAC line that decodes enters the MAC cache, a corrected error counted first. -/
theorem State.readLine_of_mac {lv n : Nat} (hc : s.chan? ch = some c) (hk : s.dram.key.isSome = true) (hst : c.state = 2)
    (hl : c.lineKind line = .mac lv n) :
    (∀ b, decodeBurst (c.failedAt line) burst = .clean b → s.readLine ch line burst = s.cacheMacLine ch line b) ∧
    (∀ b d, decodeBurst (c.failedAt line) burst = .corrected b d →
      s.readLine ch line burst = (s.countCe ch line d).cacheMacLine ch line b) := by
  have hkey : s.dram.key ≠ none := Option.isSome_iff_ne_none.mp hk
  refine ⟨fun b hd => ?clean, fun b d hd => ?corrected⟩ <;>
    simp [State.readLine, hc, hkey, hst, hl, hd]

/-- R285, R289: on a serving channel the data line of a frame in use is checked where it decodes, and where it does not its frame
answers for it. -/
theorem State.readLine_of_data (hc : s.chan? ch = some c) (hk : s.dram.key.isSome = true) (hst : c.state = 2)
    (hl : c.lineKind line = .data) (hu : (s.cacheAt ch line).isSome = true ∨ (s.workAt ch line).isSome = true) :
    (∀ b, decodeBurst (c.failedAt line) burst = .clean b → s.readLine ch line burst = s.checkLine c line .data b) ∧
    (∀ b d, decodeBurst (c.failedAt line) burst = .corrected b d →
      s.readLine ch line burst = (s.countCe ch line d).checkLine c line .data b) ∧
    (decodeBurst (c.failedAt line) burst = .lost →
      s.readLine ch line burst = (s.countUe ch LineKind.data.code line).dataFailed ch line) := by
  have hkey : s.dram.key ≠ none := Option.isSome_iff_ne_none.mp hk
  have hused : s.cacheAt ch line = none → s.workAt ch line ≠ none := fun hn =>
    Option.isSome_iff_ne_none.mp (hu.resolve_left (by simp [hn]))
  refine ⟨fun b hd => ?clean, fun b d hd => ?corrected, fun hd => ?lost⟩ <;>
    simp +contextual [State.readLine, hc, hkey, hst, hl, hd, hused]

end

/-! ### Scrub, refresh and sideband (R275, R292, R293) -/

/-- R292: a step of the scrub on a serving channel whose pass has not ended reads the lines it covers, and moves on. -/
theorem State.scrubStep_of_serving {ch : Nat} {c : Channel} (hc : s.chan? ch = some c) (hst : c.state = 2)
    (hk : s.dram.key.isSome = true) (hb : c.scrubBlock ≤ c.blocks) (hr : s.dram.selfRefresh = false) (bursts : List (Nat × Bytes)) :
    s.scrubStep ch bursts = (State.modChan
      (forEach bursts (fun e t => if t.scrubReads c c.scrubBlock e.1 then t.readLine ch e.1 e.2 else t) s) ch
      (fun y => { y with scrubBlock := c.scrubBlock + 1 })).scrubWrap := by
  have hruns : ¬(c.state ≠ 2 ∨ s.dram.key.isNone = true ∨ c.blocks < c.scrubBlock ∨ s.dram.selfRefresh = true) := by
    simp [hst, Option.isSome_iff_ne_none.mp hk, Nat.not_lt.mpr hb, hr]
  unfold State.scrubStep
  rw [hc]
  exact if_neg hruns

/-- R275, R295: a channel is without power in ABSENT and OFF alone. -/
theorem Channel.not_powered_iff (c : Channel) : (!c.powered) = true ↔ c.state = 0 ∨ c.state = 6 := by
  simp [Channel.powered]

end

/-- Settles O32: the draw and each outcome of a training and of a restoration are read off the checks that their hypotheses pass. -/
theorem memoryComesIntoService : Obligations.MemoryComesIntoService := by
  refine ⟨fun s a b hk he hm hb => congrArg Host.Outcome.next (State.sealKeyDraw_of_bits hk he hm hb rfl),
    fun s rs ht => congrArg Host.Outcome.next (if_neg (by simp [ht])), fun s n c ref r hc hst => ?one, ?settled, ?done⟩
  case one =>
    rw [State.trainOne_of_training hc hst]
    cases r with
    | none => rfl
    | some r => cases ref <;> rfl
  case settled =>
    rintro s r ch same ha hch ht rfl
    have htrains : ¬(r.ch ≠ ch ∨ (!(s.chan? ch).any (fun c => c.state == 1)) = true) := by simp [hch, ht]
    have hunlike : ∀ same, (!moduleFits r || !same) = true ↔ moduleFits r = false ∨ same = false := by simp
    refine congrArg Host.Outcome.next ?_
    unfold State.restoreSettled
    rw [ha]
    exact (if_neg htrains).trans (if_congr (by simp) rfl (if_congr (hunlike _) rfl (if_congr (by simp) rfl rfl)))
  case done =>
    rintro s a b ch ha ht hk rfl rfl
    have hready : ¬((!(s.chan? ch).any (fun c => c.state == 1 && c.dimms ≠ 0)) = true ∨ s.dram.key.isNone = true) := by
      simp only [ht, Option.isNone_eq_false_iff.mpr hk, Bool.not_true, Bool.false_eq_true, or_self, not_false_eq_true]
    refine congrArg Host.Outcome.next ?_
    unfold State.restoreDone
    rw [ha]
    exact if_neg hready

/-- Settles O33: reads go by the kind of their line and what its burst decodes to, a scrub step by `State.scrubStep_of_serving`, and
refreshes and the sideband by which channels are powered. -/
theorem memoryUpkeepRuns : Obligations.MemoryUpkeepRuns := by
  refine ⟨fun s ch line lv n burst c hc hk hst hl => ?mac, fun s ch line burst c hc hk hst hl hu => ?data,
    fun s ch bursts c hc hst hk hb hr => congrArg Host.Outcome.next (State.scrubStep_of_serving hc hst hk hb hr bursts),
    fun s ch pos rank n counts c hc hst hm => ?ecs, fun s ch rfm => ?refresh, fun s ch temp => ?sideband⟩
  case mac =>
    obtain ⟨hclean, hcorrected⟩ := State.readLine_of_mac (burst := burst) hc hk hst hl
    exact ⟨fun b hd => congrArg Host.Outcome.next (hclean b hd), fun b d hd => congrArg Host.Outcome.next (hcorrected b d hd)⟩
  case data =>
    obtain ⟨hclean, hcorrected, hlost⟩ := State.readLine_of_data (burst := burst) hc hk hst hl hu
    refine congrArg Host.Outcome.next ?_
    cases hd : decodeBurst (c.failedAt line) burst with
    | clean b => exact hclean b hd
    | corrected b d => exact hcorrected b d hd
    | lost => exact hlost hd
  case ecs =>
    refine congrArg Host.Outcome.next ?_
    unfold State.ecsPass
    simp only [hc, hm, hst, if_true]
  case refresh =>
    refine congrArg Host.Outcome.next (congrArg (s.modChan ch) (funext fun c => if_congr ?_ rfl rfl))
    rw [c.not_powered_iff]
    tauto
  case sideband =>
    exact congrArg Host.Outcome.next (congrArg (s.modChan ch) (funext fun c => if_congr c.not_powered_iff rfl rfl))

end Sys2Proof.Machine
end

section
/-! SUPPORT. The family of 10_entropy: the windows of the sources, the end of the start-up tests, requests for random bits, and the
opcodes. -/

namespace Sys2Proof.Machine

/-! ### Windows (R305 to R308) -/

/-- Writing records leaves the entropy island. -/
theorem LogFrame.ent {s u : State} (h : LogFrame s u) : u.ent = s.ent := by rw [h.rest]

/-- R306, R307: of the entropy island a failed window changes the sources alone. -/
theorem State.noteFailed_ent (s : State) (x : Source) (test : Nat) : ∃ l, (s.noteFailed x test).ent = { s.ent with sources := l } :=
  ⟨_, (State.writeRec_frame ..).ent⟩

section
variable {e : Entropy} {n : Nat} {w : List Bool}

/-- R305: a window whose longest run reaches the cut-off fails the RCT. -/
theorem Entropy.windowTest_rct (h : rctCut (e.hOf n) ≤ longestRun w) : e.windowTest n w = some 0 := if_pos h

/-- R305: a window that passes the RCT and whose count reaches the cut-off fails the APT. -/
theorem Entropy.windowTest_apt (hr : longestRun w < rctCut (e.hOf n)) (ha : aptCut (e.hOf n) ≤ aptCount w) :
    e.windowTest n w = some 1 :=
  (if_neg (Nat.not_le.mpr hr)).trans (if_pos ha)

/-- R305: a window below both cut-offs passes. -/
theorem Entropy.windowTest_passed (hr : longestRun w < rctCut (e.hOf n)) (ha : aptCount w < aptCut (e.hOf n)) :
    e.windowTest n w = none :=
  (if_neg (Nat.not_le.mpr hr)).trans (if_neg (Nat.not_le.mpr ha))

end

section
variable {s : State} {n : Nat} {raw : Bytes} {x : Source}

/-- R302: a source that does not exist has no window. -/
theorem State.entropyWindow_of_noSource (hx : s.ent.sources.find? (fun y => y.num == n) = none) : s.entropyWindow n raw = s := by
  unfold State.entropyWindow
  rw [hx]

/-- R306: bits that fill no window, and those of a source that does not serve, change nothing. -/
theorem State.entropyWindow_of_idle (hx : s.ent.sources.find? (fun y => y.num == n) = some x)
    (h : s.ent.windowOf n raw = none ∨ s.ent.state ≠ 2 ∨ x.state ≠ 2) : s.entropyWindow n raw = s := by
  unfold State.entropyWindow
  rw [hx]
  cases hw : s.ent.windowOf n raw with
  | none => rfl
  | some w =>
    obtain hnone | hidle := h
    · simp [hnone] at hw
    · exact if_pos hidle

section
variable {w : List Bool} (hx : s.ent.sources.find? (fun y => y.num == n) = some x) (hs : s.ent.state = 2) (hst : x.state = 2)
  (hw : s.ent.windowOf n raw = some w)
include hx hs hst hw

/-- R306: a serving source's window that fails a test is not released. -/
theorem State.entropyWindow_of_failed {k : Nat} (ht : s.ent.windowTest n w = some k) : s.entropyWindow n raw = s.windowFailed x k := by
  unfold State.entropyWindow
  simp only [hx, hw, hs, hst, ht, ne_eq, not_true, or_self, if_false]

/-- R306: a serving source's window that passes both tests is released. -/
theorem State.entropyWindow_of_passed (ht : s.ent.windowTest n w = none) : s.entropyWindow n raw = s.windowPassed x (packBits w) := by
  unfold State.entropyWindow
  simp only [hx, hw, hs, hst, ht, ne_eq, not_true, or_self, if_false]

end

/-- R306: of a window that fails, the device keeps nothing but which test it failed. -/
theorem State.entropyWindow_congr {a b : Bytes} {v w : List Bool} {k : Nat} (hv : s.ent.windowOf n a = some v)
    (hw : s.ent.windowOf n b = some w) (htv : s.ent.windowTest n v = some k) (htw : s.ent.windowTest n w = some k) :
    s.entropyWindow n a = s.entropyWindow n b := by
  unfold State.entropyWindow
  rw [hv, hw]
  cases s.ent.sources.find? (fun y => y.num == n) with
  | none => rfl
  | some x => simp only [htv, htw]

end

/-- Settles O35: a window goes by its source and the test that it fails, and a failed one by the length of its source's run. -/
theorem windowsAreJudged : Obligations.WindowsAreJudged := by
  refine ⟨fun s n raw x w hx hs hst hw => ⟨fun hr ha => ?passed, fun hr => ?rct, fun hr ha => ?apt⟩,
    fun s n raw x hx h => congrArg Host.Outcome.next (State.entropyWindow_of_idle hx h), fun s test x h => if_pos h, ?dropped,
    fun s test x => ?kept, fun s n k a b v w hv hw htv htw => ⟨_, rfl, ?discarded⟩,
    fun s n raw x w hx hs hst hw ht => congrArg Host.Outcome.next (State.entropyWindow_of_passed hx hs hst hw ht),
    fun s n raw hx => congrArg Host.Outcome.next (State.entropyWindow_of_noSource hx)⟩
  case passed =>
    exact congrArg Host.Outcome.next (State.entropyWindow_of_passed hx hs hst hw (Entropy.windowTest_passed hr ha))
  case rct => exact congrArg Host.Outcome.next (State.entropyWindow_of_failed hx hs hst hw (Entropy.windowTest_rct hr))
  case apt => exact congrArg Host.Outcome.next (State.entropyWindow_of_failed hx hs hst hw (Entropy.windowTest_apt hr ha))
  case dropped =>
    rintro s t test x h rfl
    exact if_neg (Nat.not_lt.mpr h)
  case kept =>
    obtain ⟨l, he⟩ := s.noteFailed_ent x test
    rw [he]
    exact ⟨rfl, rfl, rfl⟩
  case discarded => exact congrArg Host.Outcome.next (State.entropyWindow_congr hw hv htw htv)

/-! ### The end of the start-up tests (R313) -/

/-- R313: while the island starts, the end of its start-up tests is acted on. -/
theorem State.entropyStart_of_starting {s t u v : State} {failed bad : List Nat} {ok : Bool} (hs : s.ent.state = 1)
    (hbad : bad = (s.ent.sources.filter (fun x => x.state == 1 && failed.contains x.num)).map (fun x => x.num))
    (ht : t = { s with ent := { s.ent with
      sources := s.ent.sources.map (fun x => if x.state = 1 ∧ !failed.contains x.num then { x with state := 2 } else x) } })
    (hu : u = forEach bad (fun n s => s.dropSource n) t)
    (hv : v = if ok = false then (u.notice Reg.entNotice 3).entFail 0x02
      else if u.ent.rate < 4 * u.ent.budget then u.entFail 0x03 else { u with ent := { u.ent with state := 2 } }) :
    s.entropyStart failed ok = forEach bad (fun n s => s.fire 11 57 n) (if v.ent.action = some (1, 0) then v.entActionDone else v) := by
  obtain rfl := hv.trans (if_congr (Iff.of_eq (Bool.not_eq_true' ok)).symm rfl rfl)
  subst hbad ht hu
  exact if_neg (not_not.mpr hs)

/-! ### Requests (R309, R312, R314, R315) -/

section
variable {s a : State} {p n : Nat} {pr : Bool} {r : EntReq}

/-- R314: a request of a partition of the table takes up the partition's oldest, once it is that one's turn. -/
theorem State.entropyRequest_of_part (hp : (s.part? p).isSome = true)
    (ha : a = State.notePool (if s.ent.waiting.any (fun r => r.part == p && r.len == n && r.pr == pr) then s
      else { s with ent := { s.ent with waiting := s.ent.waiting ++ [{ part := p, len := n, pr := pr, job := none }] } }))
    (hr : a.oldestReq p = some r) :
    s.entropyRequest p n pr = if r.part = p ∧ r.len = n ∧ r.pr = pr then a.serve r else a := by
  subst ha
  unfold State.entropyRequest
  rw [if_neg (by simp [Option.isSome_iff_ne_none.mp hp])]
  simp only [hr]
  exact if_congr (by simp [and_assoc]) rfl rfl

/-- R315: once the island has FAILED a request is answered without bits. -/
theorem State.serve_of_failed (hs : s.ent.state = 3) : s.serve r = (s.served r none).entRefuse r := if_pos hs

section
variable (hs : s.ent.state ≠ 3)
include hs

/-- R309: a request that its instance can answer gets its bits. -/
theorem State.serve_of_generated {bits : Bytes} (hpr : r.pr = false) (hg : s.generate r.part r.len = some (bits, a)) :
    s.serve r = a.served r (some bits) := by
  unfold State.serve
  simp only [hs, hpr, hg, Bool.not_false, if_true, if_false]

/-- R312, R314: a request without an instance, or one whose reseed is overdue, waits. -/
theorem State.serve_of_waiting (hpr : r.pr = false) (hg : s.generate r.part r.len = none) : s.serve r = s.dueReseed r.part := by
  unfold State.serve
  simp only [hs, hpr, hg, Bool.not_false, if_true, if_false]

/-- R319: a request with prediction resistance is answered after a reseed from a block of the pool. -/
theorem State.serve_of_fresh {b : State} {block bits : Bytes} {rest : List Bytes} (hpr : r.pr = true) (hpool : s.ent.pool = block :: rest)
    (hi : (s.inst? r.part).isSome = true) (hb : b = State.reseed { s with ent := { s.ent with pool := rest } } r.part block)
    (hg : b.generate r.part r.len = some (bits, a)) : s.serve r = (a.served r (some bits)).notePool := by
  subst hb
  obtain ⟨i, hi⟩ := Option.isSome_iff_exists.mp hi
  unfold State.serve
  simp only [hs, hpr, hpool, hi, hg, Bool.not_true, Bool.false_eq_true, if_false]

/-- R314, R319: a request with prediction resistance waits for a block and for its instance. -/
theorem State.serve_of_noBlock (hpr : r.pr = true) (h : s.ent.pool = [] ∨ s.inst? r.part = none) : s.serve r = s := by
  unfold State.serve
  simp only [hs, hpr, Bool.not_true, Bool.false_eq_true, if_false]
  obtain hpool | hi := h
  · simp only [hpool]
  · cases s.ent.pool <;> simp only [hi]

end
end

/-! ### The opcodes (R319) -/

/-- R319: RNG_GENERATE answers what its entropy token brought, if it has no input and asks for 1 to 65,536 bytes. -/
theorem State.rngGenerate_eq (s : State) (j : Job) :
    s.rngGenerate j = s.answer j (
      if 0 < j.desc.outLen ∧ j.desc.outLen ≤ 65536 ∧ j.desc.inLen = 0 then okOut (fixLen j.desc.outLen j.entropy)
      else fail Status.invalidInput) := by
  have hbad : (j.desc.outLen = 0 ∨ 65536 < j.desc.outLen ∨ j.desc.inLen ≠ 0) ↔
      ¬(0 < j.desc.outLen ∧ j.desc.outLen ≤ 65536 ∧ j.desc.inLen = 0) := by omega
  exact (if_congr hbad rfl rfl).trans ((ite_not ..).trans (apply_ite (s.answer j) ..).symm)

theorem State.length_rngStatusBytes (s : State) (p : Nat) : (s.rngStatusBytes p).length = 16 := by
  simp [State.rngStatusBytes]

/-- Settles O36: a start is acted on while the island starts, a request goes by the island's state and by what its instance and the pool
give, and the opcodes answer their jobs. That RNG_GENERATE with an input is INVALID_INPUT is notes/assumptions/18.md. -/
theorem entropyServes : Obligations.EntropyServes := by
  refine ⟨fun s t u v failed bad ok hs hbad ht hu hv => congrArg Host.Outcome.next (State.entropyStart_of_starting hs hbad ht hu hv),
    fun s failed ok hs => congrArg Host.Outcome.next (if_pos hs),
    fun s a p n pr r hp ha hr => congrArg Host.Outcome.next (State.entropyRequest_of_part hp ha hr),
    fun s r => ⟨State.serve_of_failed, fun a bits hs hpr hg => ?generated, fun hs hpr hg => ?waiting,
      fun a b block bits rest hs hpr hpool hi hb hg => ?fresh, fun hs hpr h => ?noBlock⟩,
    fun s t j h => tile_next h (s.rngGenerate_eq j), fun s t j h => ⟨tile_next h rfl, s.length_rngStatusBytes j.part⟩⟩
  case generated => exact State.serve_of_generated hs hpr hg
  case waiting => exact State.serve_of_waiting hs hpr hg
  case fresh => exact State.serve_of_fresh hs hpr hpool hi hb hg
  case noBlock => exact State.serve_of_noBlock hs hpr h

end Sys2Proof.Machine
end

section
/-! SUPPORT. The family of 12_trust_and_life_cycle: the fuses, the transitions and the debug token, and the cold start. -/

namespace Sys2Proof.Machine

/-- Settles O4: the fuses are one of the things `exec_kept` keeps. -/
theorem fusesAreOnlyBlown : Obligations.FusesAreOnlyBlown :=
  fun _ _ _ hs he => (exec_kept hs.kept he).fuses

/-! ### Transitions and debug (R354 to R357, R361, R365, R501) -/

/-- Settles O39: a transition and an advance by whether they are refused and where the blow fails, the other rows by their refusals. -/
theorem lifeCycleAndDebug : Obligations.LifeCycleAndDebug := by
  refine ⟨fun s q ix cut j h => ⟨fun st dt hr => ?refused, ?blown, ?cut⟩, ?erase, ?svn,
    fun s q ix j h => ⟨?challenge, fun h1 h2 => ctl_next h (if_pos ⟨h1, h2⟩)⟩, fun s q ix j h => ctl_next h ?opened⟩
  case refused => exact ctl_next h (by simp only [State.lcyTransition, hr])
  case blown =>
    rintro a target owner c hr rfl rfl rfl hcut rfl
    exact ⟨ctl_next h (by simp only [State.lcyTransition, hr, hcut]), rfl, rfl⟩
  case cut =>
    rintro n target owner c hr rfl rfl rfl hcut
    exact ctl_next h (by simp only [State.lcyTransition, hr, hcut])
  case erase =>
    rintro s a q ix j h rfl
    exact ctl_next h (if_congr (by simp) rfl rfl)
  case svn =>
    rintro s q ix v cut j h rfl
    refine ⟨fun hr => ctl_next h (if_pos hr.symm), fun hlow hhigh hcut => ctl_next h ?_, fun n hlow hhigh hcut => ctl_next h ?_⟩ <;>
      simp only [State.svnAdvance, Nat.not_lt.mpr hhigh, Nat.not_le.mpr hlow, or_self, if_false, hcut]
  case challenge =>
    rintro a b c hp hb rfl
    have hform : ¬(j.desc.p8 48 ≠ 1 ∧ j.desc.p8 48 ≠ 2) := fun hn => hp.elim hn.1 hn.2
    exact ctl_next h ((if_neg hform).trans (State.withRandom_of_bits hb ..))
  case opened =>
    exact if_congr Iff.rfl rfl (if_congr (by simp) rfl ((if_congr (by simp) rfl rfl).trans (ite_not ..)))

/-! ### The cold start (R351, R355, R362) -/

/-- What a blow of evidence may change: the life cycle's fuses and the notices. -/
def BlowFrame (s u : State) : Prop := u = { s with life := u.life, regs := u.regs }

theorem BlowFrame.trans {s u w : State} (h : BlowFrame s u) (g : BlowFrame u w) : BlowFrame s w := by
  unfold BlowFrame at *
  rw [g, h]

theorem State.blow_frame (s : State) (cls n : Nat) : BlowFrame s (s.blow cls n) := by
  unfold State.blow
  dsimp only
  generalize (if s.guard.io18Out = true then _ else _) = new
  split
  · rfl
  · split <;> rfl

theorem State.forEach_blow_frame (n : Nat → Nat) (l : List Nat) (s : State) :
    BlowFrame s (forEach l (fun k s => s.blow k (n k)) s) := by
  induction l generalizing s with
  | nil => rfl
  | cons k l ih => exact (s.blow_frame k (n k)).trans (ih _)

/-- R362 steps 1 and 2: what stands once power is on and the latch is blown. -/
theorem State.coldBegin_starts (s : State) :
    s.coldBegin.power.mode = .serving ∧ s.coldBegin.vault.latch = [0, 0, 0, 0] ∧ s.coldBegin.guard.blown = s.vault.latch ∧
      s.coldBegin.jobs = [] ∧ s.coldBegin.qps = [] ∧ s.coldBegin.power.coresUp = false := by
  unfold State.coldBegin
  dsimp only
  rw [State.forEach_blow_frame _ _ (State.setPower _ _)]
  refine ⟨rfl, rfl, rfl, rfl, rfl, ?_⟩
  simp only [State.setPower, Power.gate]
  split <;> split <;> rfl

/-- R378, R396: a supply flag found set marks the vault LOST and is cleared. -/
theorem State.coldVault_of_supplyLost {s : State} (h : s.vault.supplyLost = true) :
    s.coldVault.vault.lost = true ∧ s.coldVault.vault.supplyLost = false := by
  unfold State.coldVault
  simp only [h, Bool.not_true, Bool.false_eq_true, if_false]
  split
  · exact ⟨rfl, rfl⟩
  · rw [State.blow_frame (State.notice _ _ _)]
    exact ⟨rfl, rfl⟩

/-- Settles O49: the start by its steps, the supply flag by its two values, and the reset by whether one is armed. -/
theorem coldStartsRun : Obligations.ColdStartsRun := by
  refine ⟨?start, State.coldBegin_starts, fun s => ⟨State.coldVault_of_supplyLost, fun h => ?supplied⟩, fun s => ?reset,
    fun s => ⟨rfl, rfl, rfl, rfl, rfl, rfl, rfl, rfl, rfl⟩⟩
  case start =>
    rintro s a b fails cut r rfl hr
    refine congrArg Host.Outcome.next (if_congr (by simp) rfl (if_congr Iff.rfl rfl ?_))
    rw [hr]
  case supplied => simp [State.coldVault, h]
  case reset =>
    refine congrArg Host.Outcome.next ?_
    unfold State.resetNow
    cases s.power.resetAt <;> rfl

end Sys2Proof.Machine
end

section
/-! SUPPORT. The family of 13_vault_tamper_power, the guard: its monitors, the episodes they open, and the vault. -/

namespace Sys2Proof.Machine

/-! ### Monitors and episodes (R363, R384 to R394, R501) -/

section
variable {s : State} {src island cause : Nat}

/-- R384: a disabled source never fires. -/
theorem State.fire_of_disabled (h : bitsOf 9 9 (s.reg Reg.vltSrcCfg src) = 0) : s.fire src island cause = s := if_pos (.inl h)

/-- R384: on cells a source that is not armed there never fires. -/
theorem State.fire_of_unarmed (hm : s.power.mode = .vault) (ha : armedOnCells src = false) : s.fire src island cause = s :=
  if_pos (.inr (.inl (by simp [hm, ha])))

/-- R384, R388, R390, R394: any other source that may fire opens an episode or joins the one that is open, and is answered. -/
theorem State.fire_of_armed {a : State} {v : Vault} (hen : bitsOf 9 9 (s.reg Reg.vltSrcCfg src) ≠ 0)
    (harm : s.power.mode ≠ .vault ∨ armedOnCells src = true) (hlev : levelSource src = false ∨ s.guard.active.getLsbD src = false)
    (hv : v = (if s.vault.episode then s.vault else { s.vault with episode := true, fired := 0, performed := 0, counted := [] }))
    (ha : a = State.notice { s with guard := { s.guard with active := s.guard.active ||| BitVec.ofNat 12 (2 ^ src), quietSince := none,
                                                            counts := s.guard.counts.modify src (fun n => min 65535 (n + 1)) },
                                    vault := { v with fired := v.fired ||| BitVec.ofNat 12 (2 ^ src) } } Reg.vltFired src) :
    s.fire src island cause =
      if s.power.mode = .vault then a.respondOnCells src cause
      else if a.power.mode = .halted then a.writeRec 257 7 0x0901 0 island (tamperPayload src a.episodeActs.toNat 0 cause)
      else a.respond src island cause := by
  have hfires : ¬(bitsOf 9 9 (s.reg Reg.vltSrcCfg src) = 0 ∨ (s.power.mode == .vault && !armedOnCells src) = true ∨
      (levelSource src && s.guard.active.getLsbD src) = true) := by
    rcases harm with h | h <;> rcases hlev with g | g <;> simp [hen, h, g]
  subst hv ha
  unfold State.fire
  exact (if_neg hfires).trans (if_congr beq_iff_eq rfl rfl)

/-- R393: TAMPER_CLEAR is refused with 0x01 just outside a freeze. -/
theorem State.clearRefused_eq_one_iff (j : Job) : s.clearRefused j = some 0x01 ↔ s.guard.freeze = false := by
  unfold State.clearRefused
  cases s.guard.freeze with
  | false => simp
  | true =>
    simp only [Bool.not_true, Bool.false_eq_true, if_false, Bool.true_eq_false, iff_false]
    split
    · decide
    · split
      · decide
      · exact nofun

end

/-- Settles O41: each monitor is its operation on what it senses, and a source that may not fire does not. -/
theorem monitorsFireTheirSources : Obligations.MonitorsFireTheirSources := by
  refine ⟨fun s rail hr => ⟨congrArg Host.Outcome.next (if_pos hr), congrArg Host.Outcome.next (if_pos hr)⟩,
    fun s src island cause => State.fire_of_disabled, fun s src island cause => State.fire_of_unarmed, ?mesh, ?enclosure, ?clock, ?die,
    ?cell, fun s src hs => ?inactive⟩
  case mesh =>
    rintro s a rx bad rfl rfl
    rfl
  case enclosure =>
    rintro s a opened bad hit rfl rfl rfl
    rfl
  case clock =>
    rintro s a b island percent stopped byDesign hi hm rfl rfl
    have hwatched : ¬(59 < island ∨ (s.power.mode = .vault ∧ ¬(island = 56 ∧ stopped = true))) :=
      not_or.mpr ⟨Nat.not_lt.mpr hi, fun h => hm.elim (absurd h.1) h.2⟩
    exact congrArg Host.Outcome.next (if_neg hwatched)
  case die =>
    rintro s a b temps die live cells rfl rfl rfl rfl rfl
    rfl
  case cell =>
    rintro s a n mv hn rfl
    exact congrArg Host.Outcome.next (if_neg (Nat.not_le.mpr hn))
  case inactive =>
    refine congrArg Host.Outcome.next ((if_congr ?_ rfl rfl).trans (ite_not ..))
    simp [Nat.not_le.mpr hs, ← Bool.not_eq_true, imp_iff_not_or]

/-- Settles O42: a source by `fire_of_armed`, the ends by what they wait for. -/
theorem episodesOpenAndEnd : Obligations.EpisodesOpenAndEnd := by
  refine ⟨fun s a src island cause v hen harm hlev hv ha => State.fire_of_armed hen harm hlev hv ha, ?quiet, fun s h => ?notQuiet,
    fun s q ix j h => ctl_next h ?clear, fun s j => s.clearRefused_eq_one_iff j, ?recovery⟩
  case quiet =>
    rintro s a t ht rfl
    refine congrArg Host.Outcome.next ?_
    unfold State.episodeEnd
    rw [ht]
    refine (if_congr ?_ rfl rfl).trans (ite_not ..)
    simp [← Bool.not_eq_true, imp_iff_not_or]
  case notQuiet => exact congrArg Host.Outcome.next (by simp only [State.episodeEnd, h])
  case clear =>
    unfold State.tamperClear
    cases s.clearRefused j <;> rfl
  case recovery =>
    rintro s a fails rfl
    refine congrArg Host.Outcome.next ((if_congr ?_ rfl rfl).trans (ite_not ..))
    simp [← Bool.not_eq_true, imp_iff_not_or]

/-! ### The vault (R376, R378, R398, R399) -/

/-- R398: a VAULT_ADOPT that is not refused goes by its SOURCE, with what it draws. -/
theorem State.vaultAdopt_of_drawn {s a : State} {j : Job} {b : Bytes} (h : s.adoptRefused j = none) (hb : s.random 0 64 = .bits b a) :
    (j.desc.p8 48 = 0 → s.vaultAdopt j = a.adoptDone j (b.take 32) (newItems (b.drop 32)) false) ∧
    (j.desc.p8 48 = 1 → s.vaultAdopt j = (a.modJob j.id (fun k => { k with entropy := b.take 32 })).block j) ∧
    (j.desc.p8 48 = 2 → s.vaultAdopt j = a.adoptCards j (b.take 32)) := by
  refine ⟨fun hsrc => ?_, fun hsrc => ?_, fun hsrc => ?_⟩ <;>
    simp only [State.vaultAdopt, h, State.withRandom_of_bits hb, hsrc]

/-- Settles O43: the refresh and the loss are records of the state, and the adoption goes by its SOURCE. -/
theorem vaultsAreKeptAndAdopted : Obligations.VaultsAreKeptAndAdopted := by
  refine ⟨?refresh, fun s hm => ⟨_, congrArg Host.Outcome.next (if_neg (not_not.mpr hm)), rfl, rfl, rfl, rfl, rfl, rfl, rfl, rfl⟩,
    fun s hm => congrArg Host.Outcome.next (if_pos hm), fun s q ix j h => ⟨fun st dt hr => ?refused, fun a b hr hb => ?adopts⟩,
    fun _ _ _ => rfl⟩
  case refresh =>
    rintro s b rfl
    rfl
  case refused => exact ctl_next h (by simp only [State.vaultAdopt, hr])
  case adopts =>
    obtain ⟨hnew, hpeer, hcards⟩ := State.vaultAdopt_of_drawn hr hb
    exact ⟨fun hsrc => ctl_next h (hnew hsrc), fun hsrc => ctl_next h (hpeer hsrc), fun hsrc => ctl_next h (hcards hsrc)⟩

end Sys2Proof.Machine
end

section
/-! SUPPORT. The family of 13_vault_tamper_power, power: the feeds, the switchover between them, and the thermal guard. -/

namespace Sys2Proof.Machine

/-- R29: the device draws from a feed in every mode but VAULT. -/
theorem State.powered_iff (s : State) : s.powered = true ↔ s.power.mode ≠ .vault := decide_eq_true_iff

theorem State.not_powered_iff (s : State) : (!s.powered) = true ↔ s.power.mode = .vault := by
  rw [Bool.not_eq_true', ← Bool.not_eq_true, s.powered_iff, not_not]

/-! ### Feeds and switchovers (R401 to R404) -/

@[simp] theorem Power.sense_mode (p : Power) (n mv : Nat) (g l : Bool) : (p.sense n mv g l).mode = p.mode := by
  unfold Power.sense
  split <;> rfl

/-- R402: no switchover is past step 1. -/
theorem Power.none_past_one_iff (p : Power) :
    (p.switching.map (fun w => w.step == 1)).getD true = true ↔ ∀ w, p.switching = some w → w.step = 1 := by
  cases p.switching <;> simp

theorem State.holdOutputs_active (s : State) : s.holdOutputs.power.active = s.power.active := by
  unfold State.holdOutputs
  split <;> rfl

/-- R402 step 2: the pause turns the active gate off. -/
theorem State.pauseTiles_gates (s : State) (n : Nat) (bySelect : Bool) (t : Nat) :
    (s.power.active = 0 → (s.pauseTiles n bySelect t).power.gateA = false) ∧
      (s.power.active ≠ 0 → (s.pauseTiles n bySelect t).power.gateB = false) := by
  simp only [State.pauseTiles, State.setPower, Power.gate, State.holdOutputs_active]
  exact ⟨fun h => by rw [if_pos h], fun h => by rw [if_neg h]⟩

/-- R438: an action that stands ready leads to the state its effect gives. -/
theorem act_next {s u : State} {q i addr hi lo act : Nat} {j : Job} {f : State → Job → State} (h : ActReady s q i addr hi lo act j)
    (hf : f s j = u) : (.next (s.cfgAction q i addr hi lo act f) : Host.Outcome State Fault Refusal) = .next u :=
  congrArg Host.Outcome.next ((act_ready h f).trans hf)

/-- Settles O45: each event of the feeds by what it finds of the feeds, the mode and the switchover. -/
theorem feedsAndSwitchovers : Obligations.FeedsAndSwitchovers := by
  refine ⟨?belowLow, ?lost, ?deglitch, fun s n t b => ⟨rfl, rfl, s.pauseTiles_gates n b t⟩, ?complete, ?resume, fun s h => ?noSwitch,
    ?aboveHigh, ?good, ?autoReturn, fun s h => ?noReturn, fun s q ix j h => act_next h rfl, fun s q ix j h => act_next h rfl,
    fun s j n => ?select, fun s => rfl⟩
  case belowLow =>
    rintro s a mv rfl
    refine congrArg Host.Outcome.next (if_congr Iff.rfl rfl (if_congr ?_ rfl rfl))
    rw [State.powered_iff]
    simp [State.setPower, State.feedGone_power]
  case lost =>
    rintro s a n mv rfl
    refine congrArg Host.Outcome.next (if_congr (by rw [State.powered_iff]) rfl (if_congr ?_ rfl rfl))
    rw [State.powered_iff, ← Power.none_past_one_iff]
    simp [State.setPower, State.feedGone_power]
  case deglitch =>
    rintro s a w hw rfl
    refine congrArg Host.Outcome.next ?_
    unfold State.deglitchExpiry
    rw [hw]
    rfl
  case complete =>
    rintro s a b w hw rfl rfl
    refine congrArg Host.Outcome.next ?_
    unfold State.switchComplete
    rw [hw]
    exact if_congr (by simp) rfl rfl
  case resume =>
    rintro s a b w pause hw rfl rfl rfl
    refine congrArg Host.Outcome.next ?_
    unfold State.resumeTiles
    rw [hw]
    rfl
  case noSwitch =>
    exact ⟨congrArg Host.Outcome.next (by simp only [State.switchComplete, h]),
      congrArg Host.Outcome.next (by simp only [State.resumeTiles, h]), congrArg Host.Outcome.next (by simp only [State.deglitchExpiry, h])⟩
  case aboveHigh =>
    rintro s a b n mv rfl rfl
    exact congrArg Host.Outcome.next (if_congr Iff.rfl rfl (if_congr (by rw [State.not_powered_iff]) rfl rfl))
  case good =>
    rintro s a b n mv cancel rfl rfl rfl
    exact congrArg Host.Outcome.next (if_congr Iff.rfl rfl (if_congr (by rw [State.powered_iff]) rfl rfl))
  case autoReturn =>
    rintro s a t n ht rfl rfl
    refine congrArg Host.Outcome.next ?_
    unfold State.autoReturn
    rw [ht]
    exact if_congr (by rw [State.not_powered_iff, Bool.not_eq_true']) rfl rfl
  case noReturn => exact congrArg Host.Outcome.next (by simp only [State.autoReturn, h])
  case select => exact if_congr (by simp) rfl (if_congr (by simp) rfl (if_congr Option.isSome_iff_ne_none rfl rfl))

/-! ### The thermal guard (R403, R405, R406) -/

/-- R405: the loop's duty is clamped. -/
theorem State.heaterLoop_le (s : State) (t : Int) : (s.heaterLoop t).1 ≤ 100 := by
  dsimp only [State.heaterLoop]
  omega

/-- R406: between its two temperatures the fan's duty rises by a fraction of at most one of what is left above the least. -/
theorem fanRamp_le {least lo hi : Nat} {t : Int} (h : least ≤ 100) (ht : t ≤ hi) :
    least + (100 - least) * (t - lo).toNat / (hi - lo) ≤ 100 := by
  have hfrac : (t - lo).toNat ≤ hi - lo := by omega
  have hrise : (100 - least) * (t - lo).toNat / (hi - lo) ≤ 100 - least :=
    Nat.div_le_of_le_mul ((Nat.mul_le_mul_left _ hfrac).trans_eq (Nat.mul_comm ..))
  omega

/-- R406: the fan's duty never passes 100 % where its least duty does not. -/
theorem State.fanDutyNow_le {s : State} (h : s.fld Reg.thgFan 22 16 ≤ 100) : s.fanDutyNow ≤ 100 := by
  unfold State.fanDutyNow
  dsimp only
  split
  case isTrue => exact Nat.le_refl _
  case isFalse =>
    split
    case isTrue => exact Nat.le_refl _
    case isFalse ht =>
      split
      case isTrue => exact h
      case isFalse => exact fanRamp_le h (Int.not_lt.mp ht)

/-- Settles O46: the tick and the stall are their operations, and both duties are bounded. -/
theorem thermalGuardRuns : Obligations.ThermalGuardRuns := by
  refine ⟨?tick, fun s => rfl, State.heaterLoop_le, fun s => State.fanDutyNow_le, ?stall⟩
  case tick =>
    rintro s t a b rfl
    exact congrArg Host.Outcome.next (if_congr s.not_powered_iff rfl rfl)
  case stall =>
    rintro s a rpm stalled rfl rfl
    exact congrArg Host.Outcome.next (if_congr (by simp) rfl rfl)

end Sys2Proof.Machine
end

section
/-! SUPPORT. The family of 14_paired_operation: heartbeats and paths, the witness and mirroring, and the pair's commands. -/

namespace Sys2Proof.Machine

/-! ### Heartbeats, probes and the mirror link (R413, R420, R421) -/

/-- Settles O51: each row by the guards it states, with what it senses or draws. -/
theorem pairPathsRun : Obligations.PairPathsRun := by
  refine ⟨?send, ?heartbeat, ?miss, fun s => rfl, fun s => rfl, fun s => ?timeout, ?svcLost, fun s h => ?svcHeld, ?linkUp, ?linkDown,
    fun s => ?pathReturn⟩
  case send =>
    rintro s a w rfl rfl
    exact congrArg Host.Outcome.next (if_congr (by simp) rfl rfl)
  case heartbeat =>
    rintro s a hb rfl
    exact congrArg Host.Outcome.next <| if_congr Iff.rfl rfl <| if_congr (by simp [and_assoc]) rfl <|
      if_congr (by simp [and_assoc]) rfl rfl
  case miss =>
    rintro s a b rfl rfl
    rfl
  case timeout => exact congrArg Host.Outcome.next (if_congr (by simp) rfl rfl)
  case svcLost =>
    rintro s a t ht rfl
    refine congrArg Host.Outcome.next ?_
    unfold State.svcLinkLoss
    rw [ht]
    exact if_congr (by rw [Option.isNone_iff_eq_none]) rfl rfl
  case svcHeld => exact congrArg Host.Outcome.next (by simp only [State.svcLinkLoss, h])
  case linkUp =>
    intro s a own nonce hd
    refine congrArg Host.Outcome.next ?_
    unfold State.mirrorUp
    rw [hd]
    exact if_congr (by simp) rfl rfl
  case linkDown =>
    rintro s a rfl
    rfl
  case pathReturn =>
    refine congrArg Host.Outcome.next ?_
    unfold State.pathReturn
    cases s.pair.lanesAt <;> rfl

/-! ### The witness and mirroring (R416 to R419, R423, R425, R427, R430) -/

/-- The element that is put into a list stands in it. -/
theorem mem_insertBy {α : Type} (key : α → Nat) (x : α) (l : List α) : x ∈ insertBy key x l := by
  induction l with
  | nil => exact List.mem_singleton_self x
  | cons y l ih =>
    unfold insertBy
    split
    · exact List.mem_cons_self
    · split
      · exact List.mem_cons_self
      · exact List.mem_cons_of_mem _ ih

section
variable {s : State}

/-- R418: the standby keeps a transport record, and changes nothing but what it knows of the pair. -/
theorem State.transportIn_of_standby (h : s.pair.role = 2) (r : TransportRec) :
    r ∈ (s.transportIn r).pair.transport ∧ s.transportIn r = s.modPair (fun _ => (s.transportIn r).pair) := by
  have hkeeps : ¬ s.pair.role ≠ 2 := not_not.mpr h
  simp only [State.transportIn, if_neg hkeeps]
  exact ⟨mem_insertBy .., rfl⟩

/-- R427: QUEUE_RESUME is the new active's, of a queue that has not resumed, while the device serves. -/
theorem State.queueResume_of_barred {n : Nat} {r : ResumeRead}
    (h : s.qp? n = none ∨ s.pair.role ≠ 1 ∨ s.power.mode ≠ .serving ∨ ∃ q, s.qp? n = some q ∧ q.resumed = true) :
    s.queueResume n r = s := by
  unfold State.queueResume
  cases hq : s.qp? n with
  | none => rfl
  | some q =>
    refine if_pos ?_
    obtain h | h | h | ⟨q', hq', hr⟩ := h
    · exact absurd h (by simp [hq])
    · exact .inl h
    · exact .inr (.inr h)
    · exact .inr (.inl ((Option.some.inj (hq.symm.trans hq')) ▸ hr))

/-- R427: a queue whose record says ERROR takes its transport state and no descriptors. -/
theorem State.queueResume_of_error {n : Nat} {r : ResumeRead} {q : Qp} {t : TransportRec} (hr : s.pair.role = 1) (hq : s.qp? n = some q)
    (hn : q.resumed = false) (hm : s.power.mode = .serving) (ht : s.pair.transport.find? (fun x => x.queue == n) = some t)
    (h4 : t.state = 4) :
    s.queueResume n r = ((s.modQp n (fun x =>
      x.resume t (t.sqDoorbell - BitVec.ofNat 32 (r.descs.take (ringSize q.cfg.sqLog2)).length)
        (x.landedCount t r.slots))).queueWatermark n 0).queueWatermark n 1 := by
  have hresumes : ¬(s.pair.role ≠ 1 ∨ q.resumed = true ∨ s.power.mode ≠ .serving) := by simp [hr, hn, hm]
  unfold State.queueResume
  simp only [hq, if_neg hresumes, ht, Option.getD_some, if_pos h4]

end

/-- Settles O52: the witness by its CAS, batches and records by the roles, a page by its load, a queue by its transport record. -/
theorem mirroringRuns : Obligations.MirroringRuns := by
  refine ⟨fun s v cmp swp h => ?casValue, ?casTimeout, fun s v h => ?noCas, ?casRetry, ?batch, fun s n => rfl, ?transportSend,
    fun s r h => ⟨_, rfl, State.transportIn_of_standby h r⟩, fun s r h => congrArg Host.Outcome.next (if_pos h), fun s o => rfl,
    fun s o img => ?page, fun s r h => ?resync, fun s n r h => congrArg Host.Outcome.next (State.queueResume_of_barred h),
    fun s n r q t hr hq hn hm ht h4 => congrArg Host.Outcome.next (State.queueResume_of_error hr hq hn hm ht h4)⟩
  case casValue => exact congrArg Host.Outcome.next (by simp only [State.casResult, h])
  case casTimeout =>
    rintro s a cmp swp h rfl
    exact congrArg Host.Outcome.next (by simp only [State.casTimeout, h])
  case noCas =>
    exact ⟨congrArg Host.Outcome.next (by simp only [State.casResult, h]), congrArg Host.Outcome.next (by simp only [State.casTimeout, h])⟩
  case casRetry =>
    rintro s a p hc hp rfl
    refine congrArg Host.Outcome.next ?_
    unfold State.casRetry
    rw [hc, hp]
    exact if_congr (by simp) rfl rfl
  case batch =>
    rintro s a b rfl
    exact congrArg Host.Outcome.next (if_congr Iff.rfl rfl (if_congr (by simp) rfl rfl))
  case transportSend =>
    rintro s a rfl
    rfl
  case page =>
    refine congrArg Host.Outcome.next ?_
    unfold State.pageData
    cases s.obj? o with
    | none => rfl
    | some e => exact if_congr Iff.rfl rfl (by cases s.imageGood e img <;> rfl)
  case resync =>
    refine congrArg Host.Outcome.next ?_
    unfold State.resyncIn
    rw [h]
    exact if_congr (by simp) rfl rfl

/-! ### The pair's commands (R425, R432 to R434) -/

theorem State.length_pairRecord (s : State) : s.pairRecord.length = 64 := by
  simp [State.pairRecord]

/-- Settles O53: the five commands by their refusals, in order. -/
theorem pairCommandsRun : Obligations.PairCommandsRun := by
  refine ⟨fun s q ix j h => ⟨ctl_next h rfl, s.length_pairRecord⟩, fun s q ix j h => ctl_next h ?switch, ?unbind, ?unfence, ?bind⟩
  case switch =>
    refine (if_congr ?_ rfl rfl).trans (ite_not ..)
    simp [imp_iff_not_or, Option.isSome_iff_ne_none]
  case unbind =>
    rintro s a b q ix j h rfl rfl
    exact ctl_next h (if_congr (by simp) rfl (if_congr Iff.rfl rfl (by simp)))
  case unfence =>
    rintro s a q ix j h rfl
    exact ctl_next h (if_congr (by simp) rfl rfl)
  case bind =>
    rintro s a b q ix ok sec pe j p h rfl rfl rfl
    exact ctl_next h <| if_congr (by simp) rfl <| if_congr (by simp) rfl <| if_congr (by simp) rfl <| if_congr Iff.rfl rfl <|
      if_congr Option.isSome_iff_ne_none rfl rfl

end Sys2Proof.Machine
end

section
/-! SUPPORT. The family of 15_configuration_and_live_service: the configuration space and the boot flash, sessions, ceremonies and
actors. -/

namespace Sys2Proof.Machine

/-! ### Configuration and firmware (R437 to R442, R452, R453, R487) -/

/-- Settles O54: the space, the lists and the images by their checks in order, and a flash write by its outcome. -/
theorem configurationAndFirmwareRun : Obligations.ConfigurationAndFirmwareRun := by
  refine ⟨?read, ?write, fun s r k j => rfl, ?stage, fun s q ix j h => ctl_next h ?apply, fun s q ix j h => ctl_next h rfl, fun s => rfl,
    ?writeBank, ?verified, ?failed, fun s v h => congrArg Host.Outcome.next (by simp only [State.flashDone, h]),
    fun s q ix j h => ctl_next h ?activate, fun s q ix j h => ctl_next h ?release⟩
  case read =>
    rintro s q ix a n j h rfl rfl
    exact ctl_next h (if_congr (by simp) rfl rfl)
  case write =>
    rintro s q ix a j h rfl
    exact ctl_next h rfl
  case stage =>
    rintro s q ix j l h rfl
    exact ctl_next h rfl
  case apply =>
    unfold State.cfgApply
    cases s.tabs.list <;> rfl
  case writeBank =>
    rintro s q ix n j h rfl
    refine ctl_next h ?_
    unfold State.fwWriteBank
    cases s.staged with
    | none => rfl
    | some img => exact if_congr Iff.rfl rfl (if_congr (by simp) rfl (if_congr Option.isSome_iff_ne_none rfl rfl))
  case verified =>
    rintro s a id n b hw rfl
    refine congrArg Host.Outcome.next ?_
    simp only [State.flashDone, hw, if_true]
    split <;> simp only [*]
  case failed =>
    intro s a id n b junk hw hd
    refine congrArg Host.Outcome.next ?_
    simp only [State.flashDone, hw, hd, Bool.false_eq_true, if_false]
    split <;> simp only [*]
  case activate =>
    unfold State.fwActivate
    cases s.staged <;> rfl
  case release =>
    unfold State.fwRelease
    cases s.staged <;> rfl

/-! ### Sessions, ceremonies and actors (R446, R447, R449, R450) -/

/-- Settles O55: sessions, ceremonies and actors by their checks in order, and the ends by what is open. -/
theorem sessionsAndCeremoniesRun : Obligations.SessionsAndCeremoniesRun := by
  refine ⟨fun s q ix j h => ctl_next h rfl, fun s q ix j h => ctl_next h (if_congr (by simp) rfl rfl), fun s b c => rfl,
    fun s q ix j h => ctl_next h rfl, fun s q => rfl, ?opens, fun s q ix j h => ctl_next h rfl, fun s q ix j h => ctl_next h ?closes,
    fun s h => congrArg Host.Outcome.next (by simp only [State.ceremonyExpiry, h]), ?expires, ?enrol, fun s q ix j h => ctl_next h ?remove⟩
  case opens =>
    rintro s q ix n j c h rfl hnum hqueue hjoined hbegun hdual hshares hkey hgen hrebuilt
    cases c
    subst hnum hqueue hjoined hbegun hdual hshares hkey hgen hrebuilt
    exact ctl_next h (if_congr Option.isSome_iff_ne_none rfl rfl)
  case closes =>
    unfold State.ceremonyEnd
    cases s.mgmt.ceremony <;> rfl
  case expires =>
    rintro s a c hc rfl
    exact congrArg Host.Outcome.next (by simp only [State.ceremonyExpiry, hc])
  case enrol =>
    rintro s q ix i j a h rfl rfl
    exact ctl_next h (if_congr (by simp) rfl (if_congr Iff.rfl rfl (if_congr Iff.rfl rfl (if_congr (by simp) rfl rfl))))
  case remove =>
    unfold State.actorRemove
    cases s.mgmt.actors.find? (fun a => a.idx == j.desc.p8 48) with
    | none => rfl
    | some a => exact if_congr Iff.rfl rfl (if_congr (by simp) rfl rfl)

end Sys2Proof.Machine
end

section
/-! SUPPORT. The family of 16_event_recorder: floods, SENDs, event queues, marks and rewinds. -/

namespace Sys2Proof.Machine

section
variable {s : State} {ring : Nat}

/-- R465: a ring whose queue is ready or sealed and whose first record waits sends its GAP records and up to 128 records in all. -/
theorem State.eventSend_of_waiting {a : State} {n last : Nat} {r : Ring} {q : Qp} {e : Event} {es gaps now : List Event} {data : Bytes}
    (hr : s.ring? ring = some r) (hn : r.queue = some n) (hq : s.qp? n = some q) (hst : q.state = 1 ∨ q.state = 3) (hw : r.waiting = e :: es)
    (ha : a = (if 128 ≤ r.waiting.length then s else s.advanceTo (r.waitSince.getD s.clock.mono + 20000)))
    (hg : gaps = r.gaps a.clock.secure e.seq) (hnow : now = r.waiting.take (128 - gaps.length))
    (hl : last = (now.getLast?.map (fun x => x.seq)).getD e.seq) (hd : data = q.eventData r.evSeq ((gaps ++ now).flatMap eventBytes)) :
    s.eventSend ring = State.issue (a.modRing ring (fun x =>
      { x with next := last + 1, gap := 0, rewindGap := 0, evSeq := x.evSeq + 1,
               waitSince := if r.waiting.any (fun x => decide (last < x.seq)) then x.waitSince else none }))
      q.cfg.queue .send 0 0 data.length data last := by
  have hready : ¬(q.state ≠ 1 ∧ q.state ≠ 3) := fun h => hst.elim h.1 h.2
  subst hd hl hnow hg ha
  unfold State.eventSend
  simp only [hr, hn, Option.bind_some, hq, hw, if_neg hready]

/-- R465: with no ring, queue, ready state or record nothing leaves. -/
theorem State.eventSend_of_idle (h : ∀ r, s.ring? ring = some r → r.waiting = [] ∨
    ∀ q, r.queue.bind (fun n => s.qp? n) = some q → q.state ≠ 1 ∧ q.state ≠ 3) : s.eventSend ring = s := by
  unfold State.eventSend
  cases hr : s.ring? ring with
  | none => rfl
  | some r =>
    dsimp only
    cases hq : r.queue.bind (fun n => s.qp? n) with
    | none => rfl
    | some q =>
      cases hw : r.waiting with
      | nil => rfl
      | cons e es => exact if_pos ((h r hr).elim (fun h => absurd h (by simp [hw])) (fun h => h q hq))

end

/-- Settles O56: a flood by its bucket, a SEND by what waits, and the three opcodes by the ring and its mark. -/
theorem recorderRuns : Obligations.RecorderRuns := by
  refine ⟨?flood, fun s ring code h => congrArg Host.Outcome.next (by simp only [State.floodEnd, h]),
    fun s a ring n last r q e es gaps now data hr hn hq hst hw ha hg hnow hl hd =>
      congrArg Host.Outcome.next (State.eventSend_of_waiting hr hn hq hst hw ha hg hnow hl hd),
    fun s ring h => congrArg Host.Outcome.next (State.eventSend_of_idle h), fun s t j h => tile_next h rfl,
    fun s t j h => tile_next h ?mark, ?rewind⟩
  case flood =>
    rintro s a ring code b hb rfl
    exact congrArg Host.Outcome.next (by simp only [State.floodEnd, hb])
  case mark =>
    unfold State.evqMark
    cases s.ringOf j.queue <;> rfl
  case rewind =>
    rintro s a t j h rfl
    refine tile_next h ?_
    unfold State.evqRewind
    cases s.ringOf j.queue with
    | none => rfl
    | some r => cases r.mark <;> rfl

end Sys2Proof.Machine
end

section
/-! SUPPORT. The family of 17_cards_and_local_io: the card ports, the card commands, the regulators and the JTAG port. -/

namespace Sys2Proof.Machine

/-! ### The card ports (R472 to R477, R486, R500) -/

/-- Settles O57: each event of a port by the port's state and its command. -/
theorem cardPortsRun : Obligations.CardPortsRun := by
  refine ⟨fun s n => rfl, ?poll, ?identify, ?response, ?crc, fun s n => congrArg Host.Outcome.next ?busy, ?remove⟩
  case poll =>
    rintro s a b n ready rfl rfl
    exact congrArg Host.Outcome.next (if_congr Iff.rfl rfl (if_congr (by simp) rfl rfl))
  case identify =>
    rintro s a n mv info rfl
    exact congrArg Host.Outcome.next (if_congr Iff.rfl rfl (if_congr (by simp) rfl rfl))
  case response =>
    rintro s n a p last rfl rfl
    exact congrArg Host.Outcome.next (if_congr (by simp) rfl (by cases a <;> rfl))
  case crc =>
    rintro s a n rfl
    refine if_congr Iff.rfl rfl (if_congr Iff.rfl rfl ?_)
    cases (s.card n).card.bind tunedTap <;> rfl
  case busy => exact if_congr (by rw [Option.isSome_iff_ne_none]) rfl rfl
  case remove =>
    rintro s a n p rfl rfl
    exact congrArg Host.Outcome.next (by simp only [State.cardRemove, Option.isNone_iff_eq_none])

/-! ### The card commands (R476 to R485, R489) -/

/-- Two effects that agree on every port run alike. -/
theorem State.onCard_congr {s : State} {j : Job} {f g : State → Nat → CardPort → State} (h : ∀ a n p, f a n p = g a n p) :
    s.onCard j f = s.onCard j g :=
  congrArg (s.onCard j) (funext fun a => funext fun n => funext fun p => h a n p)

/-- Settles O59: each command judges its port by `onCard`, then its own rule in order. -/
theorem cardCommandsRun : Obligations.CardCommandsRun := by
  refine ⟨fun s j f => ?port, fun s q ix j h => ctl_next h rfl, fun s q ix j h => ctl_next h (State.onCard_congr fun a n p => ?lock),
    fun s q ix j h => ctl_next h (State.onCard_congr fun a n p => ?unlock),
    fun s q ix j h => ctl_next h (State.onCard_congr fun a n p => ?erase), ?write, fun s j n c => rfl,
    fun s q ix j h => ctl_next h ?share, fun s q ix j h => ctl_next h ?estate,
    fun s q ix j h => ctl_next h ?boot⟩
  case port => exact if_congr Iff.rfl rfl (if_congr Option.isSome_iff_ne_none rfl rfl)
  case lock => exact if_congr (by simp) rfl rfl
  case unlock => exact if_congr (by simp) rfl rfl
  case erase => exact if_congr Iff.rfl rfl (if_congr (by simp) rfl rfl)
  case write =>
    rintro s q ix kind j h rfl
    refine ctl_next h ?_
    unfold State.cardWrite
    refine State.onCard_congr fun a n p => ?_
    obtain ⟨wp, b⟩ := a.cardProtected n
    refine if_congr Iff.rfl rfl <| if_congr Iff.rfl rfl <| if_congr (by simp) rfl <|
      if_congr (by rw [Option.isNone_iff_eq_none]) rfl ?_
    cases p.card <;> cases p.state == 2 <;> rfl
  case share =>
    exact State.onCard_congr fun a n p => if_congr Iff.rfl rfl (if_congr (by simp [-Option.bind_eq_none_iff]) rfl rfl)
  case estate =>
    unfold State.estateCreate
    cases s.mgmt.ceremony with
    | none => rfl
    | some c => exact if_congr (by simp) rfl (if_congr Option.isSome_iff_ne_none rfl rfl)
  case boot => exact if_congr (by simp) rfl (if_congr Option.isSome_iff_ne_none rfl rfl)

/-! ### The regulators and the JTAG port (R488, R491) -/

/-- R488: an alert reads the status of the regulator that is mapped to its master and address. -/
theorem State.pmbusAlert_eq (s : State) (m a : Nat) (w : BitVec 16) :
    s.pmbusAlert m a w = match (List.range 8).find? (fun r => s.vrmMap r == a % 128 + 128 * (m % 2)) with
      | some rail => if a % 128 = 0 ∨ s.power.mode = .vault then s else (s.modVrm rail (fun v => { v with status := w })).vrmStatus rail w
      | none => s := by
  have hheld : (a % 128 == 0 || s.power.mode == .vault) = decide (a % 128 = 0 ∨ s.power.mode = .vault) := by simp [Bool.beq_eq_decide_eq]
  unfold State.pmbusAlert
  rw [hheld]
  cases (List.range 8).find? (fun r => s.vrmMap r == a % 128 + 128 * (m % 2)) with
  | none => rfl
  | some rail =>
    by_cases h : a % 128 = 0 ∨ s.power.mode = .vault
    · simp only [h, decide_true, if_true]
    · simp only [h, decide_false, if_false]

section
variable {s : State} {ok : Bool}

/-- R491: an instruction that is available acts, and one that is not acts as BYPASS. -/
theorem State.jtagWhen_of_available (h : ok = true) (f : State → State) : s.jtagWhen ok f = f s := if_pos h

theorem State.jtagWhen_of_unavailable (h : ok = false) (f : State → State) : s.jtagWhen ok f = s.jtagBypass :=
  if_neg (by simp [h])

end

/-- Settles O60: the regulators by their mapping, and the JTAG instructions by what makes them available. -/
theorem localIoRuns : Obligations.LocalIoRuns := by
  refine ⟨?poll, fun s rail w => rfl, fun s m a w => congrArg Host.Outcome.next (s.pmbusAlert_eq m a w), ?jtag, fun s i d => rfl,
    fun s h => ?available, fun s h => ?unavailable, fun s => congrArg Host.Outcome.next (if_congr (by simp) rfl rfl)⟩
  case poll =>
    rintro s a rail v i t st rfl
    exact congrArg Host.Outcome.next (if_congr Iff.rfl rfl (by cases st <;> rfl))
  case jtag =>
    rintro s d rfl
    exact ⟨rfl, rfl, rfl, rfl⟩
  case available =>
    have hacts := State.jtagWhen_of_available (s := s) h
    exact ⟨congrArg Host.Outcome.next (hacts _), congrArg Host.Outcome.next (hacts _), congrArg Host.Outcome.next (hacts _)⟩
  case unavailable =>
    have hpasses := State.jtagWhen_of_unavailable (s := s) h
    exact ⟨congrArg Host.Outcome.next (hpasses _), congrArg Host.Outcome.next (hpasses _), congrArg Host.Outcome.next (hpasses _)⟩

end Sys2Proof.Machine
end
